-- ==== Sys2Proof/Word.lean ====
section
/-! DEFINITION. Number types of the part (R5, R6, chapter 01 identifiers), and the
type of a field of the register map. Registers and packet fields are natural numbers below a power of two. -/

namespace Sys2Proof

/-- Port number, 0 to 127 (R32 and the identifier table of chapter 01). -/
abbrev Port := Fin 128
/-- Host, which is a hierarchy root, 0 to 47. -/
abbrev Host := Fin 48
/-- Lane, 0 to 255. -/
abbrev Lane := Fin 256
/-- DDR4 channel, 0 to 7. -/
abbrev Chan := Fin 8
/-- Ordering domain, 0 to 15. -/
abbrev Dom := Fin 16
/-- Slot of the slot channel controllers, 0 to 31. -/
abbrev Slot := Fin 32
/-- Engine, 0 to 95. -/
abbrev Eng := Fin 96
/-- Gondola, 0 to 1023. -/
abbrev Gond := Fin 1024
/-- Node of the fabric, 0 to 63. -/
abbrev Node := Fin 64
/-- Traffic class, 0 to 7. -/
abbrev Tc := Fin 8

namespace Machine

/-- A field of the register map: the bit address of its lowest bit, its width and its value at reset. -/
structure Fld where
  key : Nat
  width : Nat
  rst : Nat
  deriving DecidableEq, Repr

end Machine
end Sys2Proof
end

