-- ==== Sys2Proof/Syntax.lean ====
section
/-! DEFINITION. The commands and events of the part, one constructor per row of the opcode table, and the packets,
TLPs, units and samples that they carry. The hardware is a block: it takes these from outside, one at a time. -/

namespace Sys2Proof

/-- The path by which a YCP command reaches the control firmware (R692, R916). -/
inductive Path where
  | mgmt
  | host (h : Host)
  | gond (g : Gond)
  | spool (n : Fin 32768)
  | smbus
  | flash
  deriving DecidableEq, Repr

/-- A YCP command packet without its opcode, which the row gives: TAG, FLAGS and parameter bytes 0 to 55 (R687). -/
structure Cmd where
  path : Path
  tag : BitVec 16
  flags : BitVec 32
  params : BitVec 448
  deriving DecidableEq, Repr

/-- The three types of TLP, in the order of the queue numbers of R313. -/
inductive TlpKind where
  | posted | nonPosted | completion
  deriving DecidableEq, Repr

/-- A TLP as the switch core holds it (R307): its type, class, sizes in bytes, ports, identity, first header bytes, and in `rest` what follows
the header, OHC, payload and ECRC, which is forwarded unchanged.
`flitOnly` says that it carries OHC content that has no non-flit prefix (R341). `dest` is the node it goes to, and `src` the node it comes
from, where there is one: a TLP in transit has both (R412), and a proxy request `src` alone (R402). -/
structure Tlp where
  kind : TlpKind
  fmtType : Nat
  tc : Tc
  stored : Nat
  payload : Nat
  ingress : Port
  egress : Port
  host : Nat
  requester : Nat
  tag : Nat
  pasid : Option Nat
  addr : Nat
  relaxed : Bool
  idOrder : Bool
  ep : Bool
  ide : Bool
  flitOnly : Bool
  hdr : Nat
  dest : Option Node
  unitKind : Fin 8
  rest : List (BitVec 8)
  src : Option Node
  deriving DecidableEq, Repr

/-- What makes a TLP bad after its head was admitted (R334): an LCRC mismatch, framing error or EDB, the flit-mode nullify indication, a Length
that disagrees with the bytes received, a malformed TLP found at the tail, or an uncorrectable cell error. A stomp comes with its link unit. -/
inductive TailFault where
  | lcrc | nullified | length | malformed | cell
  deriving DecidableEq, Repr

/-- The AtomicOps the pool completes, with their operand sizes in bytes (R579). -/
inductive AtomicKind where
  | fetchAdd | swap | cas
  deriving DecidableEq, Repr

/-- What a memory request asks for: a read of so many bytes, a store of bytes under a byte mask, or an AtomicOp. -/
inductive MemOp where
  | read (len : Nat)
  | store (bytes : List (BitVec 8))
  | atomic (k : AtomicKind) (size : Nat) (op1 op2 : Nat)
  deriving DecidableEq, Repr

/-- A memory request of a host's hierarchy: requester ID, tag, PASID, class and address (chapters 07 and 08). -/
structure MemReq where
  requester : BitVec 16
  tag : BitVec 14
  pasid : Option (BitVec 20)
  tc : Tc
  addr : BitVec 64
  op : MemOp
  ide : Bool
  deriving DecidableEq, Repr

/-- What a read of a buffer cell, of a DDR4 line or of a unit finds: no error, one that is corrected, one that is not
(R312, R563, R564). -/
inductive Ecc where
  | clean | corrected | uncorrHeader | uncorrPayload
  deriving DecidableEq, Repr

/-- Who completes a request that the SF256 issued (R539): a host, a device at a downstream port, another node. -/
inductive ReqKind where
  | host | port | node
  deriving DecidableEq, Repr

/-- What a segment that arrives on a tether carries (R258, R399): a request, or a mirror's copy or marker, whose own step
follows; a completion to a request of this node, the last one or not; a report that the peer rejected a mirror copy (R626); or of fabric
control a JOIN_REQ that node `src` forwards for a device of serial number `serial`, or the manager's answer to one, a node ID or a reason (R299). -/
inductive SegBody where
  | request
  | completion (src : Node) (tag : BitVec 14) (status : Nat) (data : List (BitVec 8)) (poisoned last : Bool)
  | copyRejected (d : Dom)
  | joinReq (src : Node) (serial : BitVec 64)
  | joinAnswer (serial : BitVec 64) (answer : Node ⊕ BitVec 8)
  deriving DecidableEq, Repr

/-- What the content of an arriving segment says, by the PCI Express flit-mode format: the bytes of payload of the TLP that it ends, and what
is of the model's concern (R258). Log entry 63. -/
structure SegInfo where
  payload : Nat
  body : SegBody
  deriving DecidableEq, Repr

/-- A link unit as it arrives (R256): its bytes 0 to 251, its CRC-32, and what the contents of its segments say. -/
structure RxUnit where
  bytes : List (BitVec 8)
  crc : BitVec 32
  infos : List SegInfo
  deriving DecidableEq, Repr

/-- Unit intervals of one lane as its receiver samples them: levels 0 to 3 in PAM4, 0 and 3 in NRZ (R234, R236). -/
abbrev Levels := List (Fin 4)

/-- A chunk of a spill image as a restore reads it (R870, R873): its bytes, the rest of 1 MiB being zero, the poison bitmap and the CRC-64
of its trailer. -/
structure SpillChunk where
  data : List (BitVec 8)
  poison : BitVec 16384
  crc : BitVec 64
  deriving DecidableEq, Repr

/-- Where the device takes a command: mailbox 0 of the management host, 1 + h of host h or 49 + g of gondola g; or a command spool, with the
entry that host memory holds at its head (R695, R700). -/
inductive CmdRing where
  | mailbox (m : Fin 1073)
  | spool (n : Fin 32768) (entry : BitVec 512)
  deriving DecidableEq, Repr

/-- What the SPD of an installed DIMM says (R550, R557): LRDIMM or RDIMM, its size in GiB, its ranks, a rating for DDR4-3200, and its serial
and part numbers. -/
structure Dimm where
  lrdimm : Bool
  size : Nat
  ranks : Nat
  rated : Bool
  ident : BitVec 64
  deriving DecidableEq, Repr

/-- A configuration register of 32 bits, by the PCI Express standard's name, since the spec gives few offsets (R211, R212): those of the
header, of the capabilities that hold state of the part, and any other by its number. `bar`, `rom` and `vfBar` are Base Address Registers;
`vsec` is the firmware version, or the node ID. -/
inductive CfgReg where
  | ident | command | classRev | header | bar (i : Fin 6) | rom | vfBar (i : Fin 6) | subsystem | busNumbers | memWindow | prefWindow
  | prefBaseUpper | prefLimitUpper | bridgeControl | pmCsr | msixControl | devCtl | devCtl2 | devCtl3 | slotCap | slotCtl | linkSta
  | dpcCtl | dpcStatus | acsCtl | egress (i : Fin 4) | aerUncSta | aerUncMask | aerUncSev | aerCorSta | aerCorMask | aerHdr (i : Fin 4)
  | ptmCtl | serial (hi : Bool) | vsec (node : Bool) | capPtr | pmCap | msixTable | msixPba | pcieCap | devCap | devCap2 | linkCap | pasidCap
  | devCap3 | mcCap | mcReg (i : Fin 5) (hi : Bool) | aerCtl | ptmCap | capHead (k : Fin 14) | margin (lane : Fin 16) | other (n : Fin 1024)
  deriving DecidableEq, Repr

/-- The outcome of equalisation on a lane of a PCI Express port: the last preset that the far end asked for, or coefficients c(−2), c(−1) and
c(+1) by magnitude, and the number of requests (R155). -/
structure LaneEq where
  preset : Fin 11
  coef : Option (BitVec 4 × BitVec 6 × BitVec 6)
  requests : BitVec 12
  deriving DecidableEq, Repr

/-- A configuration request of a host: type 0 toward the device of its upstream port, or type 1 with a bus number; device, function and
register; a write with its value and byte enables (R360, R368). -/
structure CfgReq where
  requester : BitVec 16
  tag : BitVec 14
  bus : Option (BitVec 8)
  dev : Fin 32
  fn : Fin 8
  reg : CfgReg
  wr : Option (BitVec 32 × BitVec 4)
  deriving DecidableEq, Repr

/-- The commands and events of the part: one constructor per row of the opcode table (R1 and the chapters' steps). -/
inductive Instr where
  /-- DEVICE_INFO: Command that returns the firmware version, node ID, management host and serial number. R721 -/
  | deviceInfo (c : Cmd)
  /-- DEVICE_OP_QUERY: Command that reports the state, DONE and TOTAL of a long operation handle. R715 -/
  | deviceOpQuery (c : Cmd)
  /-- DEVICE_OP_CANCEL: Command that registers a cancel of a long operation, or reports that it came too late. R717 -/
  | deviceOpCancel (c : Cmd)
  /-- DEVICE_MGMT_SET: Command that names a new management host and moves the full BAR0 decode and the management power vote to it. R897 -/
  | deviceMgmtSet (c : Cmd)
  /-- DEVICE_SPOOL_CREATE: Command that creates a command spool or a status spool and returns its number and doorbell slot. R721 -/
  | deviceSpoolCreate (c : Cmd)
  /-- DEVICE_SPOOL_DELETE: Command that removes a spool, and is refused with BUSY while the spool is in use. R721 -/
  | deviceSpoolDelete (c : Cmd)
  /-- DEVICE_INPUT_REARM: Command that requalifies an input masked as CHATTER. R140 -/
  | deviceInputRearm (c : Cmd)
  /-- DEVICE_ENGINE_ALLOC: Long command that reassigns engines among the service groups at step boundaries. R639 -/
  | deviceEngineAlloc (c : Cmd)
  /-- DEVICE_ENGINE_RESTART: Command that reloads a faulted service engine into the general group. R681 -/
  | deviceEngineRestart (c : Cmd)
  /-- PORT_CONFIG: Command that sets a port's lane group, offset, width, mode, rate limits and host. R722 -/
  | portConfig (c : Cmd)
  /-- PORT_FWD_SET: Command that sets STOMP_LIMIT, CT_ENABLE and AGE_LIMIT of a port. R722 -/
  | portFwdSet (c : Cmd)
  /-- PORT_TETHER_SET: Command that sets a tether's grace period, REPLAY_TIME, asymmetry constant and credit allotments. R722 -/
  | portTetherSet (c : Cmd)
  /-- PORT_LINK_RETRAIN: PORT_LINK action 0, which retrains a port's link. R722 -/
  | portLinkRetrain (c : Cmd)
  /-- PORT_LINK_WIDTH_REQUEST: PORT_LINK action 1, which asks for a width change on a tether. R294 -/
  | portLinkWidthRequest (c : Cmd)
  /-- PORT_LINK_DISABLE: PORT_LINK action 2, which disables a link, and is refused on the management host's port. R722 -/
  | portLinkDisable (c : Cmd)
  /-- PORT_LINK_ENABLE: PORT_LINK action 3, which enables a link. R722 -/
  | portLinkEnable (c : Cmd)
  /-- PORT_SLOT: Long command by which the management host drives slot power and indicators of a shared or unbound port. R205 -/
  | portSlot (c : Cmd)
  /-- ROUTE_HIER_SET: Command that sets VB_COUNT_NEXT and XLAT_QUOTA of a host hierarchy. R358 -/
  | routeHierSet (c : Cmd)
  /-- ROUTE_BIND: Command that binds a downstream port, exclusive or shared, at a virtual bridge position. R375 -/
  | routeBind (c : Cmd)
  /-- ROUTE_UNBIND: Long command that unbinds a port in ordered steps, or with SURPRISE. R378 -/
  | routeUnbind (c : Cmd)
  /-- ROUTE_XLAT_WRITE: Command that atomically writes a window translation entry. R389 -/
  | routeXlatWrite (c : Cmd)
  /-- ROUTE_XLAT_CLEAR: Command that clears a window translation entry. R946 -/
  | routeXlatClear (c : Cmd)
  /-- ROUTE_NODE_SET: Command that writes the tether list toward a destination node and spreads its buckets. R409 -/
  | routeNodeSet (c : Cmd)
  /-- ROUTE_MC_SET: Command that writes a multicast group's member vector and transit vector. R414 -/
  | routeMcSet (c : Cmd)
  /-- ROUTE_MC_MAP: Command that maps a port's Multicast capability group onto a device group. R723 -/
  | routeMcMap (c : Cmd)
  /-- BRIDLE_RULE_WRITE: Command that writes a rule in the staged Bridle table. R425 -/
  | bridleRuleWrite (c : Cmd)
  /-- BRIDLE_RULE_CLEAR: Command that clears a rule in the staged Bridle table. R432 -/
  | bridleRuleClear (c : Cmd)
  /-- BRIDLE_STAGE_RESET: Command that reloads the staged copy from the active table. R435 -/
  | bridleStageReset (c : Cmd)
  /-- BRIDLE_BEGIN: Command that opens a session, puts the checker in HOLD and starts the 100 µs timer. R435 -/
  | bridleBegin (c : Cmd)
  /-- BRIDLE_COMMIT: Command that stops the session timer and writes the staged copy to a save copy. R435 -/
  | bridleCommit (c : Cmd)
  /-- BRIDLE_ABORT: Command that releases HOLD without effect. R435 -/
  | bridleAbort (c : Cmd)
  /-- BRIDLE_POLICY_SET: Command that sets the staged policy bits. R430 -/
  | bridlePolicySet (c : Cmd)
  /-- BRIDLE_REBUILD: Long command that checks and rewrites the save copies from the active table. R449 -/
  | bridleRebuild (c : Cmd)
  /-- SCHED_GATE_WRITE: Command that stages gate-list entries of a port. R479 -/
  | schedGateWrite (c : Cmd)
  /-- SCHED_GATE_ARM: Long command that arms the staged gate list with a takeover time. R478 -/
  | schedGateArm (c : Cmd)
  /-- SCHED_GATE_CANCEL: Command that discards a pending gate list and ends its arm CANCELLED. R725 -/
  | schedGateCancel (c : Cmd)
  /-- SCHED_SHAPER_SET: Command that allots, changes or frees a Reel shaper. R492 -/
  | schedShaperSet (c : Cmd)
  /-- SCHED_TC_SET: Command that sets strict classes, GUARD, overheads and quanta of a port. R725 -/
  | schedTcSet (c : Cmd)
  /-- SCHED_ALPHA_SET: Command that sets the threshold exponent k of a port's queues. R321 -/
  | schedAlphaSet (c : Cmd)
  /-- POOL_MAP_SET: Command that sets the interleave ways and rewrites the Bridle save area under the new map. R948 -/
  | poolMapSet (c : Cmd)
  /-- POOL_WINDOW_SET: Command that creates or changes a pool window. R573 -/
  | poolWindowSet (c : Cmd)
  /-- POOL_WINDOW_CLEAR: Command that removes a pool window. R574 -/
  | poolWindowClear (c : Cmd)
  /-- POOL_APERTURE_SET: Command that sets a host's BAR2 size for its next hierarchy reset. R578 -/
  | poolApertureSet (c : Cmd)
  /-- POOL_SCRUB_SET: Command that sets the patrol period and UE_LIMIT. R566 -/
  | poolScrubSet (c : Cmd)
  /-- POOL_DOMAIN_SET: Command that sets a durable domain's validity, grants, policy and mirror role. R614 -/
  | poolDomainSet (c : Cmd)
  /-- POOL_MIRROR_RESYNC: Long command that copies every line of a domain's windows to the peer. R630 -/
  | poolMirrorResync (c : Cmd)
  /-- POOL_EPOCH_CLOSE: Command that closes a durable domain's epoch and returns the completion value. R634 -/
  | poolEpochClose (c : Cmd)
  /-- POOL_ZERO: Long command that writes zero to a pool range. R669 -/
  | poolZero (c : Cmd)
  /-- POOL_COPY: Long command that copies between pool ranges, or between the pool and host memory. R669 -/
  | poolCopy (c : Cmd)
  /-- POOL_CRC64: Long command that returns the CRC-64 of a pool range. R671 -/
  | poolCrc64 (c : Cmd)
  /-- POOL_LOG_CREATE: Command that creates a commit log, or reopens one with RECOVER. R651 -/
  | poolLogCreate (c : Cmd)
  /-- POOL_LOG_DELETE: Command that deletes a commit log and leaves its ring unchanged. R666 -/
  | poolLogDelete (c : Cmd)
  /-- POOL_LOG_APPEND: Command that submits a record to a commit log. R658 -/
  | poolLogAppend (c : Cmd)
  /-- POOL_LOG_TRIM: Command that advances HEAD_LSN of a commit log. R657 -/
  | poolLogTrim (c : Cmd)
  /-- GONDOLA_CREATE: Command that creates a gondola and draws its quotas. R734 -/
  | gondolaCreate (c : Cmd)
  /-- GONDOLA_DESTROY: Long command that resets a gondola, zeroes its locked ranges and removes it. R767 -/
  | gondolaDestroy (c : Cmd)
  /-- GONDOLA_RESET: Long command that drains or squashes a gondola's commands and resets it. R764 -/
  | gondolaReset (c : Cmd)
  /-- GONDOLA_FREEZE: Long command that quiesces the device side of a gondola. R751 -/
  | gondolaFreeze (c : Cmd)
  /-- GONDOLA_THAW: Command that resumes a frozen gondola and acts on its latched doorbells. R750 -/
  | gondolaThaw (c : Cmd)
  /-- GONDOLA_SAVE: Long command that writes a frozen gondola's migration image. R758 -/
  | gondolaSave (c : Cmd)
  /-- GONDOLA_RESTORE: Long command that checks a migration image and creates a frozen gondola from it. R759 -/
  | gondolaRestore (c : Cmd)
  /-- POWER_VOTE: Command that replaces the management host's power vote mask. R778 -/
  | powerVote (c : Cmd)
  /-- POWER_OFF: Command that drains and takes the device to PS-OFF. R789 -/
  | powerOff (c : Cmd)
  /-- POWER_SC_SET: Command that sets a slot channel's ENABLE, trip current, fault timer and retries. R825 -/
  | powerScSet (c : Cmd)
  /-- POWER_SC_REARM: Command that returns a latched slot channel to OFF. R823 -/
  | powerScRearm (c : Cmd)
  /-- MOORING_SPILL_SET: Command that names the spill drives, namespaces and LBAs. R864 -/
  | mooringSpillSet (c : Cmd)
  /-- MOORING_POLICY_SET: Command that sets the spill reserve and enables spill. R729 -/
  | mooringPolicySet (c : Cmd)
  /-- MOORING_LIFT_TEST: Long command that runs a Lift pack health test on demand. R845 -/
  | mooringLiftTest (c : Cmd)
  /-- MOORING_LOG_READ: Command that returns one record of the mooring log event ring. R891 -/
  | mooringLogRead (c : Cmd)
  /-- ERROR_CONTAIN: Command that contains a domain, or extends or escalates its containment. R950 -/
  | errorContain (c : Cmd)
  /-- ERROR_RELEASE: Long command that requests release of a contained domain. R531 -/
  | errorRelease (c : Cmd)
  /-- ERROR_CFG_SET: Command that sets HOLD, AUTO_RELEASE and FABRIC_TIMEOUT. R529 -/
  | errorCfgSet (c : Cmd)
  /-- ERROR_TIMEOUT_SET: Command that sets DS_TIMEOUT of a downstream port. R539 -/
  | errorTimeoutSet (c : Cmd)
  /-- ERROR_FIRST_CLEAR: Command that clears a domain's first-error record. R537 -/
  | errorFirstClear (c : Cmd)
  /-- ERROR_LOG_CLEAR: Command that empties the error log. R516 -/
  | errorLogClear (c : Cmd)
  /-- FABRIC_TIME_SET: Command that loads a multiple of 10^9 into fabric time at the next qualified FT_PPS edge. R91 -/
  | fabricTimeSet (c : Cmd)
  /-- FABRIC_LEAVE: Long command that takes this node out of the fabric. R304 -/
  | fabricLeave (c : Cmd)
  /-- FABRIC_NODE_READ: Command that returns a node's presence state and serial number. R731 -/
  | fabricNodeRead (c : Cmd)
  /-- DEBUG_INJECT: Command that arms a single injected fault for the next access of its kind. R731 -/
  | debugInject (c : Cmd)
  /-- FIRMWARE_WRITE: Long command that erases and programs flash sectors. R919 -/
  | firmwareWrite (c : Cmd)
  /-- FIRMWARE_VERIFY: Long command that checks a flash image as the boot ROM would. R732 -/
  | firmwareVerify (c : Cmd)
  /-- FIRMWARE_SELECT: Command that stores the image to try first at the next start-up. R920 -/
  | firmwareSelect (c : Cmd)
  /-- FIRMWARE_ACTIVATE: Long command that live-loads the service code of a verified image. R683 -/
  | firmwareActivate (c : Cmd)
  /-- MBX_REQ_TAIL_WRITE: Write of the request TAIL of a mailbox, ignored with OVERRUN when out of range. R697 -/
  | mbxReqTailWrite (m : Fin 1073) (v : BitVec 16)
  /-- MBX_RSP_HEAD_WRITE: Write of the response HEAD of a mailbox, ignored with BAD_HEAD when beyond TAIL. R697 -/
  | mbxRspHeadWrite (m : Fin 1073) (v : BitVec 16)
  /-- SPOOL_DOORBELL_WRITE: Write of a spool doorbell that gives a new tail or head, or stops the spool. R704 -/
  | spoolDoorbellWrite (h : Host) (g : Option Gond) (d : Fin 512) (v : BitVec 16)
  /-- COMMAND_FETCH: The device takes a command from a mailbox, spool or SMBus once the response ring has room. R710 -/
  | commandFetch (ring : CmdRing)
  /-- SPOOL_READ_FAILED: A command spool read that ends in a timeout or error completion stops the spool. R704 -/
  | spoolReadFailed (n : Fin 32768)
  /-- LONG_OP_STEP: One step of at most 25 µs of a long operation, ending in its final status when it is the last. R642 -/
  | longOpStep (h : Fin 65552) (e : Eng) (n : Nat) (ok : Bool)
  /-- HANDLE_EXPIRE: A handle becomes invalid 60 s after its final status. R643 -/
  | handleExpire (h : BitVec 16)
  /-- HANDLE_AREA_EXPIRE: Handles recorded at a mooring become invalid 60 s after READY. R718 -/
  | handleAreaExpire
  /-- SMB_IDENTIFY: SMBus block read that returns identity and serial number. R905 -/
  | smbIdentify
  /-- SMB_REG_ADDR: SMBus write that sets the BAR0 offset of the next REG_DATA access. R905 -/
  | smbRegAddr (a : BitVec 32)
  /-- SMB_REG_DATA_READ: SMBus register read at REG_ADDR, checked by Bridle. R907 -/
  | smbRegDataRead
  /-- SMB_REG_DATA_WRITE: SMBus register write at REG_ADDR, checked by Bridle and PEC. R907 -/
  | smbRegDataWrite (v : BitVec 32) (pecOk : Bool)
  /-- SMB_CMD: SMBus block write of one YCP command with authority M, NACKed when not admitted. R906 -/
  | smbCmd (w : BitVec 512) (pecOk : Bool)
  /-- SMB_STATUS: SMBus block read of the oldest status in the SMBus status queue. R905 -/
  | smbStatus
  /-- SMB_RECOVERY_DATA: SMBus block write appended to the recovery buffer. R905 -/
  | smbRecoveryData (l : List (BitVec 8)) (pecOk : Bool)
  /-- SMB_RECOVERY_RUN: SMBus write of 0x5A that checks and runs the recovery buffer. R905 -/
  | smbRecoveryRun (v : BitVec 8) (pecOk : Bool)
  /-- ARP_PREPARE_TO_ARP: SMBus ARP Prepare to ARP command. R135 -/
  | arpPrepareToArp
  /-- ARP_RESET_DEVICE: SMBus ARP Reset Device, which clears the Address Resolved flag. R903 -/
  | arpResetDevice
  /-- ARP_GET_UDID: SMBus ARP Get UDID, which returns the UDID. R135 -/
  | arpGetUdid (directed : Bool)
  /-- ARP_ASSIGN_ADDRESS: SMBus ARP Assign Address, which replaces SMB_ADDR. R903 -/
  | arpAssignAddress (mine : Bool) (a : BitVec 7)
  /-- ALERT_RESPONSE: Answer to the SMBus Alert Response Address with the device's own address. R908 -/
  | alertResponse
  /-- DAP_READ: Update-DR of DAP_CMD with op read, a debug access checked as an internal-class request. R923 -/
  | dapRead (at_ : Option (BitVec 66)) (wide : Bool)
  /-- DAP_WRITE: Update-DR of DAP_CMD with op write, including the ERR_LOG overwrite of R456. R923 -/
  | dapWrite (at_ : Option (BitVec 66)) (wide : Bool) (data : BitVec 64)
  /-- EXTEST: JTAG boundary-scan EXTEST instruction. R921 -/
  | extest (v : BitVec 1024)
  /-- SAMPLE_PRELOAD: JTAG SAMPLE/PRELOAD instruction. R921 -/
  | samplePreload (v : BitVec 1024)
  /-- IDCODE: JTAG IDCODE instruction. R921 -/
  | idcode
  /-- BYPASS: JTAG BYPASS instruction. R921 -/
  | bypass
  /-- DEBUG_OVERRIDE_WRITE: Write of DEBUG_OVERRIDE, honoured only from the debug access port. R924 -/
  | debugOverrideWrite (who : Fin 50) (v : Bool)
  /-- REGISTER_WRITE: Write to a register that has no row of its own, under the access codes. R7 -/
  | registerWrite (who : Fin 50) (a v : BitVec 32)
  /-- READ_CLEAR: Read of an RC field, which returns and clears it. R12 -/
  | readClear (a : BitVec 32)
  /-- MGT_FT_TIME_LO_READ: Read of MGT_FT_TIME_LO, which latches the upper half of the same sample. R107 -/
  | mgtFtTimeLoRead
  /-- ORD_DOM_EPOCH_LO_READ: Read of ORD_DOM_EPOCH_LO, which latches the upper half. R636 -/
  | ordDomEpochLoRead (d : Dom)
  /-- PEN_LOG_LO_READ: Read of a PEN_LOG LO register, which latches the upper half. R686 -/
  | penLogLoRead (n : Fin 64) (which : Fin 3)
  /-- PDI_MTR_LO_READ: Read of a PDI_MTR LO register, which latches the upper bits. R850 -/
  | pdiMtrLoRead (m : Fin 36) (second : Bool)
  /-- MOR_TIME_LO_READ: Read of MOR_DRAIN_TIME_LO or MOR_RETAIN_EST_LO, which latches the upper half. R895 -/
  | morTimeLoRead (est : Bool)
  /-- RTE_IND_GO: Write of GO in RTE_IND_SEL, which starts a routing table snapshot. R417 -/
  | rteIndGo (v : BitVec 31)
  /-- BRD_IND_GO: Write of GO in BRD_IND_SEL, which starts a rule snapshot. R457 -/
  | brdIndGo (v : BitVec 31)
  /-- SCH_IND_GO: Write of GO in SCH_IND_SEL, which starts a gate entry or shaper snapshot. R725 -/
  | schIndGo (v : BitVec 31)
  /-- ERR_DOM_GO: Write of GO in ERR_DOM_SEL, which starts a containment domain snapshot. R525 -/
  | errDomGo (v : BitVec 31)
  /-- BAL_WIN_GO: Write of GO in BAL_WIN_SEL, which starts a window snapshot. R572 -/
  | balWinGo (v : BitVec 31)
  /-- YCP_IND_GO: Write of GO in YCP_IND_SEL, which starts a spool snapshot. R701 -/
  | ycpIndGo (v : BitVec 31)
  /-- YCP_GND_GO: Write of GO in YCP_GND_SEL, which starts a gondola snapshot. R749 -/
  | ycpGndGo (v : BitVec 31)
  /-- SNAPSHOT_DONE: An indirect snapshot completes within 1 µs of GO and sets DONE. R417 -/
  | snapshotDone (k : Fin 7)
  /-- TEST_EN_WRITE: Write of lane test controls, which powers the needed PLL on an unowned lane. R180 -/
  | testEnWrite (l : Lane) (v : BitVec 32)
  /-- PRBS_INJECT: Write of INJECT, which inverts one transmitted bit on a lane in test. R179 -/
  | prbsInject (l : Lane)
  /-- FLAP_REARM: Write of 1 to FLAP, which clears it and re-arms the lane. R178 -/
  | flapRearm (l : Lane)
  /-- SF_FALLBACK_REARM: Write of 1 to SF_FALLBACK, which re-arms cut-through on a port. R339 -/
  | sfFallbackRearm (p : Port)
  /-- ORD_BAR_LOAD: Read of ORD_BAR_LOAD, which performs a load barrier for the host. R600 -/
  | ordBarLoad (h : Host) (requester : BitVec 16) (tag : BitVec 14)
  /-- ORD_BAR_STORE: Read of ORD_BAR_STORE, which performs a store barrier for the host. R600 -/
  | ordBarStore (h : Host) (requester : BitVec 16) (tag : BitVec 14)
  /-- ORD_BAR_FULL: Read of ORD_BAR_FULL, which performs a full barrier for the host. R600 -/
  | ordBarFull (h : Host) (requester : BitVec 16) (tag : BitVec 14)
  /-- BARRIER_COMPLETE: A barrier completes once its earlier accesses are performed or discarded, and returns its status word. R602 -/
  | barrierComplete (h : Host)
  /-- ORD_EPOCH_CLOSE: Host write of ORD_EPOCH_CLOSE, which starts or merges a close of a durable domain. R617 -/
  | ordEpochClose (h : Host) (d : Dom) (msix : Bool) (vec : BitVec 11)
  /-- EPOCH_DRAIN_DONE: A close's write buffer drain completes, and the close sends the marker or increments the counter. R617 -/
  | epochDrainDone (d : Dom)
  /-- CONFIG_REQUEST: Configuration request from a host, answered with CRS before READY and translated below a position. R368 -/
  | configRequest (h : Host) (r : CfgReq)
  /-- SLOT_POWER_ON_WRITE: Slot Control write that sets Power Controller Control to on. R207 -/
  | slotPowerOnWrite (h : Host) (p : Port)
  /-- SLOT_POWER_OFF_WRITE: Slot Control write that sets Power Controller Control to off. R209 -/
  | slotPowerOffWrite (h : Host) (p : Port)
  /-- SECONDARY_BUS_RESET: Secondary Bus Reset on a virtual bridge or on function 0. R363 -/
  | secondaryBusReset (h : Host) (v : Option (Fin 32)) (on : Bool)
  /-- BME_CLEAR: Configuration write that clears Bus Master Enable of function 1. R224 -/
  | bmeClear (h : Host)
  /-- BME_SET: Configuration write that sets Bus Master Enable again and delivers held statuses. R228 -/
  | bmeSet (h : Host)
  /-- D3HOT_ENTRY: Function 1 enters D3hot, and the host's buffered stores are performed. R218 -/
  | d3hotEntry (h : Host)
  /-- D0_RETURN: Function 1 returns from D3hot to D0 with its state kept. R219 -/
  | d0Return (h : Host)
  /-- HOST_VOTE_WITHDRAW: A host's power vote is withdrawn once its write buffer is empty. R777 -/
  | hostVoteWithdraw (h : Host)
  /-- FLR_WRITE: Write of Initiate Function Level Reset to function 1, which has no effect. R229 -/
  | flrWrite (h : Host)
  /-- DPC_TRIGGER: A DPC trigger on a downstream port, which starts port containment. R532 -/
  | dpcTrigger (p : Port) (reason : Fin 4) (fatal : Bool)
  /-- DPC_TRIGGER_STATUS_WRITE: Host write of 1 to DPC Trigger Status, which requests release on an exclusive port. R534 -/
  | dpcTriggerStatusWrite (h : Host) (p : Port)
  /-- WAKE_EVENT_HOST: A wake event for a host in D3, which sends PM_PME or drives WAKE_N. R220 -/
  | wakeEventHost (h : Host)
  /-- POOL_REQUEST: A host memory request or AtomicOp to BAR2, checked, translated and passed to the pool or a remote node. R387 -/
  | poolRequest (h : Host) (r : MemReq)
  /-- BAR0_BAR4_REQUEST: A host memory request to BAR0 or BAR4, decoded for that host. R216 -/
  | bar0Bar4Request (h : Host) (r : MemReq)
  /-- PEER_REQUEST: A memory request from a bound port, routed in the owning host's hierarchy. R393 -/
  | peerRequest (t : Tlp) (addrType : Fin 4) (op : MemOp)
  /-- TLP_INGRESS: A TLP received on a port and offered to an egress queue. R319 -/
  | tlpIngress (t : Tlp) (nullified : Bool)
  /-- TLP_ADMIT_WAITING: A TLP that waited at its ingress port is admitted once the threshold allows. R323 -/
  | tlpAdmitWaiting (p : Port)
  /-- MULTICAST_TLP: A multicast TLP stored once and copied to member queues. R348 -/
  | multicastTlp (t : Tlp) (n : Fin 256)
  /-- EGRESS_SELECT: The egress scheduler selects an eligible queue head and starts sending it. R461 -/
  | egressSelect (p : Port) (e : Ecc) (credit : BitVec 24)
  /-- TLP_SENT: The last byte of a TLP leaves its egress port and its cells are freed. R311 -/
  | tlpSent (p : Port) (id : Nat)
  /-- CUT_THROUGH_READY: A cut-through TLP has enough cells in the buffer to start. R331 -/
  | cutThroughReady (id cells : Nat) (whole : Bool)
  /-- BAD_TAIL: A TLP found bad after its head was admitted is discarded or nullified on egress. R335 -/
  | badTail (id : Nat) (c : TailFault)
  /-- UNDERRUN: A cut-through TLP's bytes are not in the buffer when needed, and it is nullified and resent. R336 -/
  | underrun (id : Nat)
  /-- STOMP_FALLBACK: An ingress port's stomps reach STOMP_LIMIT in 100 ms and it falls back to store-and-forward. R338 -/
  | stompFallback (p : Port)
  /-- AGE_LIMIT_EXPIRY: The head-wait timer of a queue reaches the age limit and the head ages. R344 -/
  | ageLimitExpiry (q : Fin 3072)
  /-- AGED_EXIT: A queue leaves AGED when its link is up with credit. R346 -/
  | agedExit (q : Fin 3072)
  /-- COMPLETION_ARRIVAL: A completion arrives for a request the device issued, delivered, discarded as late or unexpected. R542 -/
  | completionArrival (k : ReqKind) (target : Port) (tag : BitVec 14) (st : Fin 8) (data : List (BitVec 8)) (poison last : Bool)
  /-- COMPLETION_TIMEOUT: A request's completion timeout expires, a Completer Abort is synthesized and the tag quarantined. R540 -/
  | completionTimeout (k : ReqKind) (target : Port) (tag : BitVec 14)
  /-- TAG_QUARANTINE_EXPIRE: A quarantined tag is freed at twice its timeout. R541 -/
  | tagQuarantineExpire (k : ReqKind) (target : Port) (tag : BitVec 14)
  /-- POOL_STORE_PERFORM: A buffered store is performed to DDR4 and its entry freed. R589 -/
  | poolStorePerform (b : Fin 61) (k : Nat)
  /-- POOL_READ: A pool read is performed from DDR4 or from the source's write buffer. R593 -/
  | poolRead (id : Nat) (e : Ecc)
  /-- ATOMIC_OP: An AtomicOp performed at the channel's atomic unit. R579 -/
  | atomicOp (id : Nat)
  /-- LOAD_RESERVED: A read through the LR alias, which sets a reservation. R607 -/
  | loadReserved (id : Nat) (e : Ecc)
  /-- STORE_CONDITIONAL: A Swap through the SC alias, which stores only under an intact reservation. R610 -/
  | storeConditional (id : Nat)
  /-- RESERVATION_EXPIRE: A reservation is cleared 8 µs after it was set. R609 -/
  | reservationExpire
  /-- STRICT_STORE_DONE: A strict store is performed and the source's next pool access may proceed. R597 -/
  | strictStoreDone (src : Fin 129)
  /-- PATROL_STEP: A paced patrol scrub read of lines. R566 -/
  | patrolStep (a : BitVec 40) (e : Ecc)
  /-- CHANNEL_FAILED: A channel enters FAILED and its windows are contained. R568 -/
  | channelFailed (c : Chan) (crc : Bool)
  /-- POOL_INIT_DONE: Background initialisation of the pool completes and INIT_BUSY clears. R561 -/
  | poolInitDone
  /-- ZQ_CALIBRATION: ZQ short calibration every 128 ms on an active channel. R560 -/
  | zqCalibration (c : Chan)
  /-- DQS_ADJUST: Read DQS timing adjustment every 10 ms on an active channel. R560 -/
  | dqsAdjust (c : Chan)
  /-- DIMM_EVENT_HOT: EVENT_n reports a DIMM above 85 °C, and refresh doubles. R560 -/
  | dimmEventHot (c : Chan)
  /-- DIMM_EVENT_RELEASE: EVENT_n is released, and refresh returns to normal. R560 -/
  | dimmEventRelease (c : Chan)
  /-- MIRROR_COPY_SEND: The mirror service sends a queued line as a KIND 2 copy. R624 -/
  | mirrorCopySend (n : Node)
  /-- MIRROR_COPY_RECEIVED: The peer performs or rejects an arriving mirror copy. R626 -/
  | mirrorCopyReceived (n : Node) (d : Dom) (line : BitVec 40) (mask : BitVec 64) (data : BitVec 512) (poison : Bool)
  /-- CLOSE_MARKER_RECEIVED: The peer receives a close marker, performs earlier copies and sets the target counter. R628 -/
  | closeMarkerReceived (n : Node) (d : Dom) (epoch : BitVec 62)
  /-- MIRROR_ACK_RECEIVED: The origin receives the durability acknowledgement and increments its counter. R628 -/
  | mirrorAckReceived (d : Dom)
  /-- REMOTE_POOL_REQUEST: A KIND 1 request arriving from another node, checked and served under the local window. R400 -/
  | remotePoolRequest (p : Port) (n : Node) (r : MemReq)
  /-- FABRIC_PEER_REQUEST: A KIND 0 or KIND 4 request arriving from another node, translated and issued as a proxy request. R401 -/
  | fabricPeerRequest (p : Port) (n : Node) (t : Tlp)
  /-- TRANSIT_UNIT: A unit for another node is forwarded by route table and buckets. R412 -/
  | transitUnit (p : Port) (src dst : Node) (k : Fin 8) (t : Tlp)
  /-- BUCKET_MOVE: A bucket moves to another tether once nothing of it is queued or unacknowledged. R408 -/
  | bucketMove (n : Node) (b : BitVec 8)
  /-- LOG_BATCH_END: A commit-log batch ends by COMMIT_WINDOW or MAX_BATCH, the header is stored and a close requested. R660 -/
  | logBatchEnd (n : Fin 64)
  /-- LOG_PAYLOAD_FETCHED: An append's payload arrives and the record receives its LSN and is written. R659 -/
  | logPayloadFetched (id : Nat)
  /-- LOG_BATCH_STATUS: After the batch's close, one status per record is posted in LSN order. R662 -/
  | logBatchStatus (n : Fin 64)
  /-- ENGINE_WATCHDOG: An engine step exceeds 100 µs and the engine faults. R677 -/
  | engineWatchdog (e : Eng)
  /-- LMEM_ERROR: An engine local memory error is corrected or faults the engine. R678 -/
  | lmemError (e : Eng) (corrected : Bool)
  /-- GONDOLA_QUIESCED: FREEZING ends when a gondola's work has quiesced, and FREEZE posts OK. R752 -/
  | gondolaQuiesced (g : Gond)
  /-- GONDOLA_RESET_DONE: A gondola reset's requests have ended, spools are deleted and the final status posted. R764 -/
  | gondolaResetDone (g : Gond)
  /-- BRIDLE_SESSION_TIMEOUT: The 100 µs session timer expires in HOLD and the session aborts. R435 -/
  | bridleSessionTimeout
  /-- BRIDLE_SAVE_COPY_WRITTEN: The save copy is written, the active table is replaced and HOLD released. R435 -/
  | bridleSaveCopyWritten
  /-- BRIDLE_OLD_DRAINED: The previous generation's count reaches 0 and BRIDLE_COMMIT posts OK. R441 -/
  | bridleOldDrained
  /-- ERROR_RECORD_TAKE: The error firmware takes a record from a source queue, logs it and applies containment. R513 -/
  | errorRecordTake (n : Nat)
  /-- CONTAINMENT_HOLD_EXPIRE: A containment's hold timer expires. R525 -/
  | containmentHoldExpire (level : Fin 6) (i : Fin 4096)
  /-- CONTAINMENT_RELEASE: In RELEASING, once the hold has expired and OLD_COUNT is 0, CGEN increments and the domain returns to NORMAL. R525 -/
  | containmentRelease (level : Fin 6) (i : Fin 4096)
  /-- LINK_UNIT_RECEIVED: A link unit arrives on a tether and is released, stored, discarded or counted. R271 -/
  | linkUnitReceived (p : Port) (u : RxUnit)
  /-- CREDIT_BLOCK_RECEIVED: A CREDIT block arrives with acknowledgements, NAKs and credit limits. R266 -/
  | creditBlockReceived (p : Port) (parityOk : Bool) (gen : BitVec 8) (ack : BitVec 16) (naks : List (BitVec 16)) (cred : BitVec 256)
  /-- REPLAY_TIMEOUT: REPLAY_TIME expires without ACK_SEQ advancing and the oldest unit is resent. R275 -/
  | replayTimeout (p : Port)
  /-- RETX_FATAL: A unit is sent 16 times or REPLAY_TIME expires eight times, and the link is lost. R276 -/
  | retxFatal (p : Port)
  /-- NAK_REPEAT: A NAK is repeated every 2 µs while the gap remains. R273 -/
  | nakRepeat (p : Port)
  /-- CREDIT_BLOCK_SEND: A periodic CREDIT block is sent. R273 -/
  | creditBlockSend (p : Port)
  /-- ROW_SLOT: A tether row slot is filled in priority order, including due FILLER and LANE_MARKER rows. R277 -/
  | rowSlot (p : Port) (rows : List (List Levels))
  /-- LANE_MARKER: A LANE_MARKER row arrives and deskews or checks alignment. R249 -/
  | laneMarker (p : Port) (parityOk : Bool) (laneOk : Bool) (count : BitVec 32)
  /-- TIME_REQUEST_RECEIVED: A TIME request arrives and is answered within 2 µs. R254 -/
  | timeRequestReceived (p : Port) (parityOk : Bool) (exch : BitVec 8) (hops : BitVec 4)
  /-- TIME_RESPONSE_RECEIVED: A TIME response completes an exchange, and the follower slews or steps. R93 -/
  | timeResponseReceived (p : Port) (parityOk : Bool) (exch : BitVec 8) (hops : BitVec 4) (t2 t3 : BitVec 64)
  /-- TIME_EXCHANGE_TICK: A TIME request is sent every 1 ms on every UP tether. R254 -/
  | timeExchangeTick (p : Port)
  /-- PARENT_CHANGE: A follower changes parent after its parent advertises 15 or misses ten exchanges. R90 -/
  | parentChange
  /-- TAP_REQUEST: A training control block with a tap or preset request is applied and answered. R162 -/
  | tapRequest (l : Lane) (no : BitVec 8) (preset : Option (Fin 16)) (a0 a1 a2 a3 : Fin 3)
  /-- EQ_LIMIT: A receiver reaches 4,096 requests in a rate step and equalisation ends. R166 -/
  | eqLimit (l : Lane)
  /-- DETECT_EXIT: LOS deasserts on a lane in DETECT and the tether enters ALIGN. R278 -/
  | detectExit (p : Port)
  /-- BLOCK_LOCK_ACQUIRED: A lane acquires block lock. R240 -/
  | blockLockAcquired (l : Lane) (inverted : Bool)
  /-- BLOCK_LOCK_LOST: A lane loses block lock. R240 -/
  | blockLockLost (l : Lane)
  /-- ALIGN_TIMEOUT: ALIGN reaches 2 ms, and unlocked lanes are excluded. R278 -/
  | alignTimeout (p : Port) (reversed : Bool)
  /-- CONFIG_AGREED: Eight identical CONFIG blocks on every lane, and the tether enters EQ. R278 -/
  | configAgreed (p : Port) (node : Option Node) (serial : BitVec 64) (rates : BitVec 4) (farWidth : Fin 17) (farLocked : BitVec 16) (reversed : Bool)
  /-- CONFIG_TIMEOUT: CONFIG reaches 1 ms and the tether fails. R278 -/
  | configTimeout (p : Port)
  /-- EQ_DONE: Both ends finish equalising and the tether enters VERIFY. R278 -/
  | eqDone (p : Port)
  /-- EQ_TIMEOUT: EQ reaches 5 ms and the tether enters VERIFY. R278 -/
  | eqTimeout (p : Port)
  /-- VERIFY_END: VERIFY ends after 1 ms, into INIT or back to ALIGN at a lower rate. R278 -/
  | verifyEnd (p : Port) (bad : Bool)
  /-- INIT: LINK_MGMT INIT settles GEN and NEXT_EXPECTED and the tether reaches UP. R288 -/
  | init (p : Port) (node : Option Node) (gen : BitVec 8) (next : BitVec 16) (cred : BitVec 256)
  /-- INIT_TIMEOUT: INIT reaches 100 µs and the tether fails. R278 -/
  | initTimeout (p : Port)
  /-- RETRAIN_TIMEOUT: RETRAIN reaches 1 ms and the tether returns to DETECT. R278 -/
  | retrainTimeout (p : Port)
  /-- FAILED_TIMEOUT: FAILED reaches 100 ms and the tether returns to DETECT. R278 -/
  | failedTimeout (p : Port)
  /-- LINK_LOST: A tether loses the link in UP and starts its grace period and RETRAIN. R283 -/
  | linkLost (p : Port) (cause : Fin 6)
  /-- GRACE_EXPIRED: A tether's grace period expires, and held traffic is discarded or answered and GEN increments. R289 -/
  | graceExpired (p : Port)
  /-- RETRAIN_REQ: A LINK_MGMT RETRAIN_REQ arrives. R295 -/
  | retrainReq (p : Port)
  /-- WIDTH_REQ: A LINK_MGMT WIDTH_REQ arrives. R294 -/
  | widthReq (p : Port) (code : Fin 5)
  /-- WITHDRAW: A LINK_MGMT WITHDRAW arrives from the losing end of a collision. R296 -/
  | withdraw (p : Port)
  /-- JOIN_REQ: A JOIN_REQ arrives and is forwarded to the fabric manager. R299 -/
  | joinReq (p : Port) (serial : BitVec 64)
  /-- JOIN_REQ_REPEAT: A node without an ID repeats JOIN_REQ every 1 s. R298 -/
  | joinReqRepeat (p : Port)
  /-- JOIN_ACCEPT: JOIN_ACCEPT arrives and the node takes its node ID. R300 -/
  | joinAccept (p : Port) (n : Node)
  /-- JOIN_REFUSE: JOIN_REFUSE arrives and the node stays without a node ID. R301 -/
  | joinRefuse (p : Port) (reason : BitVec 8)
  /-- LEAVE: A LEAVE arrives and the peer answers LEAVE_ACK and stops routing to the node. R305 -/
  | leave (p : Port)
  /-- LEAVE_ACK: A LEAVE_ACK arrives at the leaving node. R305 -/
  | leaveAck (p : Port)
  /-- SHUTDOWN: A SHUTDOWN takes the tether to LEFT without a grace period. R305 -/
  | shutdown (p : Port)
  /-- SELF_NODE_ID: A unit without an ID and with a management host takes node ID 0 after a further 1 s. R303 -/
  | selfNodeId
  /-- CHAIN_TIMEOUT: No token within 5 s of READY, and the unit takes its identity by ARP and join. R132 -/
  | chainTimeout
  /-- CHAIN_TOKEN_EDGE: A qualified rising edge on CHAIN_IN starts reception and the unit's own token. R912 -/
  | chainTokenEdge
  /-- CHAIN_BIT_SAMPLE: Sampling of a data bit of a token 18 + 12k ms after the edge. R910 -/
  | chainBitSample (k : Fin 7)
  /-- CHAIN_STOP_SAMPLE: Stop sample of a token, after which the unit takes its identity or treats the token as invalid. R912 -/
  | chainStopSample
  /-- CHAIN_HEAD_START: The head starts its token at READY, not before 1 s after start-up. R911 -/
  | chainHeadStart
  /-- FT_PPS_EDGE: A rising edge on FT_PPS is qualified and disciplines the root or loads a set time. R86 -/
  | ftPpsEdge (low high gap : BitVec 32)
  /-- FT_REF_CHANGE: FT_REF appears or disappears and the node re-evaluates its role. R84 -/
  | ftRefChange (present : Bool)
  /-- FT_HOLDOVER_ENTRY: A root or follower enters FT_HOLDOVER when its reference or exchanges stop. R98 -/
  | ftHoldoverEntry
  /-- GATE_ENTRY_BOUNDARY: A gate list entry boundary changes the OPEN mask. R473 -/
  | gateEntryBoundary (p : Port)
  /-- GATE_CYCLE_BOUNDARY: A gate list cycle boundary, where a takeover or a fabric time step is taken. R480 -/
  | gateCycleBoundary (p : Port)
  /-- REEL_WHEEL_SLOT: A calendar wheel slot comes due and makes up to 48 shapers eligible. R500 -/
  | reelWheelSlot
  /-- SYS_REF_SWITCH: The system PLL reference is lost and the PLL switches to another pair or holds frequency. R82 -/
  | sysRefSwitch
  /-- SYS_REF_RECOVERED: A clock is detected while SYS_REF_LOST is 1 and the PLL takes it. R83 -/
  | sysRefRecovered
  /-- REF_LOST: A lane group's reference is lost and every link in the group is lost. R153 -/
  | refLost (g : Fin 16)
  /-- REF_RETURN: A lane group's reference returns and its PLLs relock. R154 -/
  | refReturn (g : Fin 16)
  /-- LOS_ASSERT: A lane's amplitude stays below threshold for 1 µs and LOS asserts. R172 -/
  | losAssert (l : Lane)
  /-- LOS_DEASSERT: A lane's amplitude stays above threshold for 10 µs and LOS deasserts. R172 -/
  | losDeassert (l : Lane)
  /-- LOL_ASSERT: A lane's recovered clock or lock fails and LOL asserts. R173 -/
  | lolAssert (l : Lane)
  /-- LOL_DEASSERT: Lock holds for 10 µs and LOL deasserts. R173 -/
  | lolDeassert (l : Lane)
  /-- L1_DEEP_ENTRY: A port in L1 with L1_DEEP moves to the L1.1 level after 100 µs and to L1.2 after 1 ms. R200 -/
  | l1DeepEntry (p : Port) (second : Bool)
  /-- LINK_DOWN_UPSTREAM: Link-down or Disabled on an upstream port, with the effect of a hot reset. R193 -/
  | linkDownUpstream (p : Port) (disabled : Bool)
  /-- SURPRISE_LINK_DOWN: Surprise link-down on a downstream port. R535 -/
  | surpriseLinkDown (p : Port)
  /-- HOT_RESET_RECEIVED: An in-band hot reset on a host's upstream port resets its hierarchy. R108 -/
  | hotResetReceived (h : Host)
  /-- PERST_N_FALL: PERST_N of a host falls and resets that host's hierarchy. R120 -/
  | perstNFall (h : Host)
  /-- PERST_N_RISE: PERST_N of a host rises and its upstream port leaves Detect. R121 -/
  | perstNRise (h : Host)
  /-- RESET_N_FALL: RESET_N has been low for 1 µs and the reset drain starts or the reset is recorded in PS-DEEP. R111 -/
  | resetNFall
  /-- RESET_DRAIN_DONE: The reset drain and self-refresh entry complete and the logic resets. R114 -/
  | resetDrainDone
  /-- STARTUP_BEGIN: RESET_N rises with rails in tolerance, straps are sampled and start-up begins. R122 -/
  | startupBegin (mgmtPort : BitVec 7) (bootSel : BitVec 2) (profile : BitVec 4) (head : Bool)
  /-- SYS_PLL_REF_DETECTED: A clock is detected on a CLKREF pair at start-up and the system PLL is chosen and locks. R81 -/
  | sysPllRefDetected (g : Fin 16)
  /-- IMAGE_CHECKED: A firmware image load and check completes, running it or trying the next or entering recovery. R127 -/
  | imageChecked
  /-- DDR_BRINGUP_DONE: DDR4 restore or full training completes. R558 -/
  | ddrBringupDone (dimms : List (Option Dimm)) (restored trained : BitVec 8)
  /-- CONFIG_APPLIED: The flash configuration commands are replayed. R918 -/
  | configApplied
  /-- READY: Start-up reaches READY, and configuration requests complete normally. R124 -/
  | ready
  /-- INPUT_QUALIFIED: A common-qualifier input accepts a new level and raises its event. R137 -/
  | inputQualified (i : Fin 80) (level : Bool) (id : BitVec 1024) (mv : BitVec 16) (t : BitVec 8)
  /-- SLOT_PRESENCE_CHANGE: A qualified presence change on a slot sets Slot Status or logs a record. R676 -/
  | slotPresenceChange (c : Slot) (present : Bool)
  /-- ATTENTION_BUTTON: A qualified attention button press on a slot. R676 -/
  | attentionButton (c : Slot)
  /-- WAKE_IN: WAKE_IN qualifies active in PS-OFF and a cold start follows. R779 -/
  | wakeIn
  /-- PWR_FAIL_IN: PWR_FAIL_IN qualifies active and fires the early warning. R808 -/
  | pwrFailIn
  /-- FEED_LOST: A feed qualifies below 11.0 V or above 14.0 V and is lost. R796 -/
  | feedLost (x : Fin 2) (high : Bool)
  /-- FEED_RETURN: A lost feed qualifies within 11.3–13.6 V and becomes OK. R796 -/
  | feedReturn (x : Fin 2)
  /-- FEED_REVERSE: VOUT exceeds VIN by 10 mV and the feed gate is pulled off. R795 -/
  | feedReverse (x : Fin 2) (bkp : Bool)
  /-- MOORING_DRAIN_DONE: The mooring drain ends with DDR4 in self-refresh, and the device enters RETAINING or SPILLING. R856 -/
  | mooringDrainDone
  /-- RETAIN_ESTIMATE: Each 1 s of retention RETAIN_EST is computed, and every 60 s a SAMPLE record is logged. R860 -/
  | retainEstimate
  /-- SPILL_START: AVAIL_J reaches the reserve while a spill is eligible and the spill starts. R862 -/
  | spillStart
  /-- SPILL_DRIVES_READY: Both spill drives are ready, queues are created and headers written WRITING. R867 -/
  | spillDrivesReady
  /-- SPILL_DONE: Every chunk is written, headers become COMPLETE and the drives are turned off. R867 -/
  | spillDone
  /-- SPILL_FAIL: A spill fails on an NVMe error, a 2 s command, a slot fault or a drive not ready. R868 -/
  | spillFail (cause : Fin 4) (n : BitVec 32)
  /-- FEED_QUALIFIED: A feed has been OK for 500 ms and unmooring starts. R874 -/
  | feedQualified
  /-- SLOT_GROUP_POWER_ON: After READY, eight slot channels that were ON are powered every 100 ms. R881 -/
  | slotGroupPowerOn
  /-- RESUME_COMPLETE: The warm resume completes and pool requests are released. R880 -/
  | resumeComplete
  /-- SUPERSEDED_WRITE: The spill drive headers are rewritten as SUPERSEDED. R880 -/
  | supersededWrite
  /-- IMAGE_STALE_RETRY: Every 1 s the headers are tried again while IMAGE_STALE is 1. R883 -/
  | imageStaleRetry (ok : Bool)
  /-- RESTORE_START: After a cold start the drive headers are checked and a restore begins. R885 -/
  | restoreStart (h0 h1 : Option (List (BitVec 8)))
  /-- RESTORE_COMPLETE: The restore completes, domains and tables are set and pool requests released. R887 -/
  | restoreComplete (dir : List (BitVec 8)) (chunks : List (Option SpillChunk))
  /-- BKP_BUS_COLLAPSE: BKP_VIN falls below 7.5 V and the power die resets. R928 -/
  | bkpBusCollapse
  /-- BKP_BUS_RESTORE: BKP_VIN exceeds 8.0 V and the power die starts. R929 -/
  | bkpBusRestore
  /-- BKP_RAIL_EN_RISE: After power-up a feed has been OK for 500 ms and BKP_RAIL_EN rises. R878 -/
  | bkpRailEnRise
  /-- PACK_EMPTY: The pack falls to 9.0 V in DISCHARGE or TEST and the converter stops. R806 -/
  | packEmpty
  /-- CHARGE_CC_DONE: The pack reaches 21.0 V and charging moves to CHARGE_BAL. R802 -/
  | chargeCcDone
  /-- CHARGE_BAL_DONE: The pack reaches 21.6 V and the converter enters OFF. R803 -/
  | chargeBalDone
  /-- CHARGE_RESTART: The pack falls to 21.2 V and CHARGE_CC starts again. R803 -/
  | chargeRestart
  /-- CHARGE_HOLD: The pack temperature leaves 0–55 °C and charging is held. R840 -/
  | chargeHold (t : BitVec 8)
  /-- HEALTH_TEST_START: A due health test starts once the pack is full and idle. R843 -/
  | healthTestStart (v : BitVec 16)
  /-- HEALTH_TEST_END: The pack has fallen 2.16 V, capacitance and ESR are recorded and charging resumes. R843 -/
  | healthTestEnd (v : BitVec 16) (t : BitVec 32)
  /-- HEALTH_TEST_DUE: A health test falls due 168 hours after the last. R845 -/
  | healthTestDue
  /-- LIFT_INSERTED: Pack presence qualifies active, the identity is read and charging starts. R848 -/
  | liftInserted (id : BitVec 1024) (mv : BitVec 16) (t : BitVec 8)
  /-- LIFT_REMOVED: Pack presence qualifies inactive and the pack FET opens. R847 -/
  | liftRemoved
  /-- LIFT_HOURLY_LOG: The hours-at-voltage log in the pack EEPROM is updated each hour. R833 -/
  | liftHourlyLog
  /-- METER_TICK: Each 1 ms every meter accumulates energy and AVAIL_J and RESERVE_OK are updated. R829 -/
  | meterTick (l : List (BitVec 16 × BitVec 16)) (bus bkp : BitVec 16) (t : BitVec 8)
  /-- SC_POWER_ON_REQUEST: A power-on request starts a slot channel's precharge once SC_VOUT is low. R822 -/
  | scPowerOnRequest (c : Slot)
  /-- SC_PRECHARGE_DONE: SC_GATE reaches SC_VOUT + 2.0 V and the ramp starts. R822 -/
  | scPrechargeDone (c : Slot)
  /-- GATE_STUCK: Precharge lasts 1 ms and the channel latches. R823 -/
  | gateStuck (c : Slot)
  /-- SC_PGOOD: Two consecutive good samples in RAMP assert PGOOD. R820 -/
  | scPgood (c : Slot)
  /-- SC_FAULT: Fault timer expiry, 3.3 V switch fault or ramp timeout turns a channel off. R818 -/
  | scFault (c : Slot) (cause : Fin 3)
  /-- FAST_TRIP: Current reaches twice the trip current and the gate is pulled low within 1 µs. R817 -/
  | fastTrip (c : Slot)
  /-- SC_COOLDOWN_END: Cooldown of 1 s ends and the channel retries. R822 -/
  | scCooldownEnd (c : Slot)
  /-- SC_PGOOD_HELD: PGOOD held 1 s restores the retry count. R822 -/
  | scPgoodHeld (c : Slot)
  /-- FET_SHORT: SC_VOUT stays at or above 1.2 V 5 s after the gate went low and the channel latches. R819 -/
  | fetShort (c : Slot)
  /-- SC_POWER_OFF_REQUEST: A power-off request drives SLOT_PERST_N low and opens the channel 1 ms later. R209 -/
  | scPowerOffRequest (c : Slot)
  /-- SLOT_PERST_RELEASE: 100 ms after PGOOD, SLOT_PERST_N is released and Command Completed set. R207 -/
  | slotPerstRelease (c : Slot)
  /-- INDICATOR_FRAME: Every 10 ms the 64-bit indicator frame is shifted out and loaded. R73 -/
  | indicatorFrame
  /-- IDLE_ENTRY: No traffic or work for 20 µs and the device enters PS-IDLE. R779 -/
  | idleEntry
  /-- IDLE_EXIT: Traffic or work arrives and the device returns to PS-RUN. R779 -/
  | idleExit
  /-- SLEEP_DELAY_END: No vote on the switch core for 1 ms and PS-SLEEP entry begins. R781 -/
  | sleepDelayEnd
  /-- SLEEP_ENTRY_DONE: DDR4 is in self-refresh and the core gated, and the device is in PS-SLEEP. R781 -/
  | sleepEntryDone
  /-- SLEEP_ABANDONED: A wake event before entry completes reverses the steps taken. R782 -/
  | sleepAbandoned (src : Fin 16) (idx : Fin 128)
  /-- WAKE: A wake event in PS-SLEEP resumes CCLK and DDR4 and records the cause. R786 -/
  | wake (src : Fin 16) (idx : Fin 128)
  /-- POWER_OFF_ENTRY: After the drain of POWER_OFF, slots, charger and BKP gates open and PS-OFF begins. R789 -/
  | powerOffEntry
  /-- PCIE_LINK_UP: DL_ACTIVE of a PCI Express port rises, setting LINK_UP, raising Data Link Layer Link Active of bound positions and Data Link Layer State Changed. R377 -/
  | pcieLinkUp (p : Port) (rate : Fin 6) (width : Fin 5) (flit reversed eqFail : Bool) (inverted : BitVec 16) (eq : List LaneEq)
  /-- SC_VOUT_DISCHARGED: SC_VOUT falls below 1.2 V and a channel waiting in OFF or COOLDOWN proceeds to PRECHARGE. R819 -/
  | scVoutDischarged (c : Slot)
  /-- SLOT_CHANNEL_OPEN: 1 ms after SLOT_PERST_N is driven low on a power-off, the channel opens and Command Completed follows once PGOOD is released. R209 -/
  | slotChannelOpen (c : Slot)
  /-- PRBS_CHECKER_LOCK: The PRBS checker locks after 64 consecutive error-free words and starts counting errors. R182 -/
  | prbsCheckerLock (l : Lane)
  /-- THERMAL_SAMPLE: Every 1 ms GLB_THERMAL takes the hottest on-die sensor and sets HOT at 105 °C and CRIT at 115 °C. R941 -/
  | thermalSample (t : BitVec 8)
  /-- CHARGE_HOLD_CLEAR: The pack temperature returns within 0–55 °C and the converter leaves its hold and charges again. R840 -/
  | chargeHoldClear (t : BitVec 8)
  /-- SPOOL_COALESCE_EXPIRY: A status spool's coalescing time runs out and one MSI-X is sent for the statuses posted within it. R721 -/
  | spoolCoalesceExpiry (q : Fin 32768)
  /-- PTM_REQUEST: A PTM Request arriving on a port with PTM enabled is answered with fabric time as PTM Master Time. R105 -/
  | ptmRequest (p : Port)
  /-- RAILS_SETTLED: 10 ms after BKP_RAIL_EN rises at unmooring the rails are within tolerance and the start-up of a warm resume or of R116 begins. R880 -/
  | railsSettled
  deriving DecidableEq, Repr

end Sys2Proof
end

