-- ==== Sys2Proof/Decode.lean ====
section
/-! DEFINITION. The opcode table gives no row a bit: a command of this block is no word of an instruction stream. -/

namespace Sys2Proof

/-- The command that a word spells by the table's bits: none, for the table gives none. -/
def decodeTableWord (_nbits _w : Nat) : Option Instr := none

end Sys2Proof
end

