-- ==== Sys2Proof/Config.lean ====
section
/-! DEFINITION. What the spec leaves open: free values, which nothing in Lean can evaluate, and the constants of one
part that the spec takes from outside (fuses). -/

namespace Sys2Proof.Config

/-- A value the spec does not give: the n-th one taken in a run, n being the counter `State.free`. Log entry 3. -/
opaque freeNat : Nat → Nat

/-- The 64-bit serial number from the fuses (R211, R721); the spec gives no value. Log entry 4. -/
opaque serial : BitVec 64

/-- The bytes of the UDID that the spec does not give (R135): version, interface and subsystem IDs. Log entry 4. -/
opaque udidOther : BitVec 56

/-- The low eight bits of the CRC-32C over source node, Requester ID, destination node and class of a flow (R406); the
spec does not give the order of the tuple's bytes. Log entry 8. -/
opaque flowBucket : Nat → Nat → Nat → Nat → BitVec 8

/-- Whether function `f` of the device at port `p` advertises FLR Capable (R363); a property of the device. Log entry 15. -/
opaque flrCapable : Nat → Nat → Bool

/-- The physical function to which function `f` of the device at port `p` belongs when it is a virtual one (R373); a property of the device.
Log entry 15. -/
opaque physFn : Nat → Nat → Nat

/-- Where the control firmware places BAR `b` of function `f` of the device at shared port `p` in the private fabric memory
space, and its size (R373); the spec gives neither. Log entry 15. -/
opaque fabricBar : Nat → Nat → Nat → Nat × Nat

/-- The magnitudes of c(−2), c(−1) and c(+1), in units of 1/63 of full swing, that the PCI Express standard gives preset `p` at the rate of code
`r` (R155). Log entry 62. -/
opaque pcieTaps : Nat → Nat → Nat × Nat × Nat

/-- The 16 header bytes, as a number, of a TLP with these fields in PCI Express flit-mode format (R258). Log entry 63. -/
opaque flitHeader : List Nat → Nat

/-- The LCRC or flit CRC with which a TLP, as these numbers, leaves in an egress mode (R340); the standard's, which the spec does not reprint. Log
entry 63. -/
opaque linkCrc : Nat → List Nat → BitVec 32

/-- What follows the header of a TLP that a node makes for another (R258). Log entry 63. -/
opaque flitContent : List Nat → Nat

end Sys2Proof.Config
end

