-- ==== Sys2Proof/Machine/RegMap.lean ====
section
/-! DEFINITION. The register map: one named field per field of every register table of the spec, at the
offset, bit position, width and reset value the table gives; the rows by which a 32-bit word of BAR0 is read and
written; the layouts of the indirect tables; and, from byte address 0x2000_0000 on, the internal state that the spec
gives the part outside its registers. A field is keyed by the bit address of its lowest bit. -/

namespace Sys2Proof.Machine

/-- Byte offset of a command mailbox: mailbox 0 is the management mailbox, mailbox 1 + h that of host h,
and mailbox 49 + g that of gondola g (R695). -/
def mbxBase (m : Nat) : Nat :=
  if m = 0 then 0x600000 else if m < 49 then 0x1001000 + 0x10000 * (m - 1) else 0x14000000 + 0x1000 * (m - 49)

/-- 02, RO, [6:0]. -/
def GLB_STRAPS_MGMT_PORT_SEL : Fld := ⟨8 * (0x40) + 0, 7, 0⟩
/-- 02, RO, [7]. -/
def GLB_STRAPS_CHAIN_HEAD : Fld := ⟨8 * (0x40) + 7, 1, 0⟩
/-- 02, RO, [9:8]. -/
def GLB_STRAPS_BOOT_SEL : Fld := ⟨8 * (0x40) + 8, 2, 0⟩
/-- 02, RO, [13:10]. -/
def GLB_STRAPS_LANE_PROFILE : Fld := ⟨8 * (0x40) + 10, 4, 0⟩
/-- 02, RO, [17:16]. -/
def GLB_STRAPS_STRAP_CAUSE : Fld := ⟨8 * (0x40) + 16, 2, 0⟩
/-- 03, RO, [15:0]. -/
def GLB_CLK_STATUS_CLKREF_DET : Fld := ⟨8 * (0x4C) + 0, 16, 0⟩
/-- 03, RO, [19:16]. -/
def GLB_CLK_STATUS_SYS_REF : Fld := ⟨8 * (0x4C) + 16, 4, 0⟩
/-- 03, RO, [20]. -/
def GLB_CLK_STATUS_SYS_PLL_LOCK : Fld := ⟨8 * (0x4C) + 20, 1, 0⟩
/-- 03, RO, [21]. -/
def GLB_CLK_STATUS_DDR_PLL_LOCK : Fld := ⟨8 * (0x4C) + 21, 1, 0⟩
/-- 03, W1C, [22]. -/
def GLB_CLK_STATUS_SYS_REF_SWITCHED : Fld := ⟨8 * (0x4C) + 22, 1, 0⟩
/-- 03, RO, [23]. -/
def GLB_CLK_STATUS_SYS_REF_LOST : Fld := ⟨8 * (0x4C) + 23, 1, 0⟩
/-- 03, RO, [31:0]. -/
def MGT_FT_TIME_LO_TIME_LO : Fld := ⟨8 * (0x780100) + 0, 32, 0⟩
/-- 03, RO, [31:0]. -/
def MGT_FT_TIME_HI_TIME_HI : Fld := ⟨8 * (0x780104) + 0, 32, 0⟩
/-- 03, RO, [1:0]. -/
def MGT_FT_STATUS_ROLE : Fld := ⟨8 * (0x780108) + 0, 2, 0⟩
/-- 03, RO, [2]. -/
def MGT_FT_STATUS_LOCKED : Fld := ⟨8 * (0x780108) + 2, 1, 0⟩
/-- 03, RO, [3]. -/
def MGT_FT_STATUS_FT_HOLDOVER : Fld := ⟨8 * (0x780108) + 3, 1, 0⟩
/-- 03, RO, [4]. -/
def MGT_FT_STATUS_REF_PRESENT : Fld := ⟨8 * (0x780108) + 4, 1, 0⟩
/-- 03, RO, [5]. -/
def MGT_FT_STATUS_PPS_PRESENT : Fld := ⟨8 * (0x780108) + 5, 1, 0⟩
/-- 03, RO, [6]. -/
def MGT_FT_STATUS_STEP_PENDING : Fld := ⟨8 * (0x780108) + 6, 1, 0⟩
/-- 03, W1C, [7]. -/
def MGT_FT_STATUS_STEP_DONE : Fld := ⟨8 * (0x780108) + 7, 1, 0⟩
/-- 03, RO, [14:8]. -/
def MGT_FT_STATUS_PARENT_PORT : Fld := ⟨8 * (0x780108) + 8, 7, 0⟩
/-- 03, RO, [15]. -/
def MGT_FT_STATUS_PARENT_VALID : Fld := ⟨8 * (0x780108) + 15, 1, 0⟩
/-- 03, RO, [19:16]. -/
def MGT_FT_STATUS_HOPS : Fld := ⟨8 * (0x780108) + 16, 4, 15⟩
/-- 03, RO, [31:0]. -/
def MGT_FT_OFFSET_LAST_OFFSET : Fld := ⟨8 * (0x78010C) + 0, 32, 0⟩
/-- 03, RO, [15:0]. -/
def MGT_FT_DELAY_PATH_DELAY : Fld := ⟨8 * (0x780110) + 0, 16, 0⟩
/-- 03, W1C, [0]. -/
def GLB_RESET_CAUSE_COLD : Fld := ⟨8 * (0x44) + 0, 1, 1⟩
/-- 03, W1C, [1]. -/
def GLB_RESET_CAUSE_RESET_N : Fld := ⟨8 * (0x44) + 1, 1, 0⟩
/-- 03, W1C, [2]. -/
def GLB_RESET_CAUSE_PS_OFF_EXIT : Fld := ⟨8 * (0x44) + 2, 1, 0⟩
/-- 03, W1C, [3]. -/
def GLB_RESET_CAUSE_MOOR_RESUME : Fld := ⟨8 * (0x44) + 3, 1, 0⟩
/-- 03, RO, [4]. -/
def GLB_RESET_CAUSE_POOL_PRESERVED : Fld := ⟨8 * (0x44) + 4, 1, 0⟩
/-- 03, W1C, [5]. -/
def GLB_RESET_CAUSE_RESET_IN_DEEP : Fld := ⟨8 * (0x44) + 5, 1, 0⟩
/-- 03, W1C, [6]. -/
def GLB_RESET_CAUSE_DRAIN_LOSS : Fld := ⟨8 * (0x44) + 6, 1, 0⟩
/-- 03, RO, [31:16]. -/
def GLB_RESET_CAUSE_DRAIN_DISCARDS : Fld := ⟨8 * (0x44) + 16, 16, 0⟩
/-- 03, RO, [3:0] R4. -/
def GLB_BOOT_STATUS_STAGE : Fld := ⟨8 * (0x48) + 0, 4, 0⟩
/-- 03, RO, [4]. -/
def GLB_BOOT_STATUS_IMAGE : Fld := ⟨8 * (0x48) + 4, 1, 0⟩
/-- 03, RO, [5]. -/
def GLB_BOOT_STATUS_A_TRIED : Fld := ⟨8 * (0x48) + 5, 1, 0⟩
/-- 03, RO, [6]. -/
def GLB_BOOT_STATUS_B_TRIED : Fld := ⟨8 * (0x48) + 6, 1, 0⟩
/-- 03, RO, [8:7]. -/
def GLB_BOOT_STATUS_A_FAIL : Fld := ⟨8 * (0x48) + 7, 2, 0⟩
/-- 03, RO, [10:9]. -/
def GLB_BOOT_STATUS_B_FAIL : Fld := ⟨8 * (0x48) + 9, 2, 0⟩
/-- 03, RO, [11] R4 R558. -/
def GLB_BOOT_STATUS_DDR_FULL_TRAIN : Fld := ⟨8 * (0x48) + 11, 1, 0⟩
/-- 03, RO, [12]. -/
def GLB_BOOT_STATUS_CONFIG_APPLIED : Fld := ⟨8 * (0x48) + 12, 1, 0⟩
/-- 03, RO, [6:0]. -/
def MGT_NODE_ID_SMB_ADDR : Fld := ⟨8 * (0x780000) + 0, 7, 0⟩
/-- 03, RO, [13:8]. -/
def MGT_NODE_ID_NODE_ID : Fld := ⟨8 * (0x780000) + 8, 6, 0⟩
/-- 03, RO, [14]. -/
def MGT_NODE_ID_NODE_VALID : Fld := ⟨8 * (0x780000) + 14, 1, 0⟩
/-- 03, RO, [16:15]. -/
def MGT_NODE_ID_SOURCE : Fld := ⟨8 * (0x780000) + 15, 2, 0⟩
/-- 03, RO, [3:0]. -/
def GLB_INPUT_STATUS_PWR_FAIL_IN : Fld := ⟨8 * (0x50) + 0, 4, 0⟩
/-- 03, RO, [7:4]. -/
def GLB_INPUT_STATUS_WAKE_IN : Fld := ⟨8 * (0x50) + 4, 4, 0⟩
/-- 03, RO, [11:8]. -/
def GLB_INPUT_STATUS_LIFT_PRES_N : Fld := ⟨8 * (0x50) + 8, 4, 0⟩
/-- 03, RO, [15:12]. -/
def GLB_INPUT_STATUS_CHAIN_IN : Fld := ⟨8 * (0x50) + 12, 4, 0⟩
/-- 03, RO, [16]. -/
def GLB_INPUT_STATUS_CHAIN_INITIAL : Fld := ⟨8 * (0x50) + 16, 1, 0⟩
/-- 04, RW, [0]. -/
def LAN_CFG_TEST_EN (i : Nat) : Fld := ⟨8 * (0x180000 + 0x400 * i) + 0, 1, 0⟩
/-- 04, RW, [4:1]. -/
def LAN_CFG_TEST_RATE (i : Nat) : Fld := ⟨8 * (0x180000 + 0x400 * i) + 1, 4, 0⟩
/-- 04, RW, [5]. -/
def LAN_CFG_TX_INVERT (i : Nat) : Fld := ⟨8 * (0x180000 + 0x400 * i) + 5, 1, 0⟩
/-- 04, RW, [6]. -/
def LAN_CFG_RX_INVERT_FORCE (i : Nat) : Fld := ⟨8 * (0x180000 + 0x400 * i) + 6, 1, 0⟩
/-- 04, RW, [9:8]. -/
def LAN_CFG_LOOPBACK (i : Nat) : Fld := ⟨8 * (0x180000 + 0x400 * i) + 8, 2, 0⟩
/-- 04, RO, [6:0]. -/
def LAN_STATUS_OWNER_PORT (i : Nat) : Fld := ⟨8 * (0x180004 + 0x400 * i) + 0, 7, 0⟩
/-- 04, RO, [7]. -/
def LAN_STATUS_OWNED (i : Nat) : Fld := ⟨8 * (0x180004 + 0x400 * i) + 7, 1, 0⟩
/-- 04, RO, [8]. -/
def LAN_STATUS_CYTRUM (i : Nat) : Fld := ⟨8 * (0x180004 + 0x400 * i) + 8, 1, 0⟩
/-- 04, RO, [12:9]. -/
def LAN_STATUS_RATE (i : Nat) : Fld := ⟨8 * (0x180004 + 0x400 * i) + 9, 4, 15⟩
/-- 04, RO, [13]. -/
def LAN_STATUS_RX_INVERTED (i : Nat) : Fld := ⟨8 * (0x180004 + 0x400 * i) + 13, 1, 0⟩
/-- 04, RO, [14]. -/
def LAN_STATUS_REVERSED (i : Nat) : Fld := ⟨8 * (0x180004 + 0x400 * i) + 14, 1, 0⟩
/-- 04, RO, [18:15]. -/
def LAN_STATUS_LOGICAL_LANE (i : Nat) : Fld := ⟨8 * (0x180004 + 0x400 * i) + 15, 4, 0⟩
/-- 04, RO, [19]. -/
def LAN_STATUS_LOS (i : Nat) : Fld := ⟨8 * (0x180004 + 0x400 * i) + 19, 1, 0⟩
/-- 04, RO, [20]. -/
def LAN_STATUS_LOL (i : Nat) : Fld := ⟨8 * (0x180004 + 0x400 * i) + 20, 1, 0⟩
/-- 04, RO, [21]. -/
def LAN_STATUS_WS_MASKED (i : Nat) : Fld := ⟨8 * (0x180004 + 0x400 * i) + 21, 1, 1⟩
/-- 04, RO, [23:22]. -/
def LAN_STATUS_PWR (i : Nat) : Fld := ⟨8 * (0x180004 + 0x400 * i) + 22, 2, 0⟩
/-- 04, RO, [24]. -/
def LAN_STATUS_CLK_INDEP (i : Nat) : Fld := ⟨8 * (0x180004 + 0x400 * i) + 24, 1, 0⟩
/-- 04, RO, [5:0]. -/
def LAN_TX_COEF_C_PRE2 (i : Nat) : Fld := ⟨8 * (0x180008 + 0x400 * i) + 0, 6, 0⟩
/-- 04, RO, [11:6]. -/
def LAN_TX_COEF_C_PRE1 (i : Nat) : Fld := ⟨8 * (0x180008 + 0x400 * i) + 6, 6, 0⟩
/-- 04, RO, [18:12]. -/
def LAN_TX_COEF_C_MAIN (i : Nat) : Fld := ⟨8 * (0x180008 + 0x400 * i) + 12, 7, 0⟩
/-- 04, RO, [24:19]. -/
def LAN_TX_COEF_C_POST1 (i : Nat) : Fld := ⟨8 * (0x180008 + 0x400 * i) + 19, 6, 0⟩
/-- 04, RO, [30:25]. -/
def LAN_TX_COEF_C_POST2 (i : Nat) : Fld := ⟨8 * (0x180008 + 0x400 * i) + 25, 6, 0⟩
/-- 04, RO, [3:0]. -/
def LAN_EQ_STATUS_LAST_PRESET (i : Nat) : Fld := ⟨8 * (0x18000C + 0x400 * i) + 0, 4, 0⟩
/-- 04, RO, [15:4]. -/
def LAN_EQ_STATUS_REQ_COUNT (i : Nat) : Fld := ⟨8 * (0x18000C + 0x400 * i) + 4, 12, 0⟩
/-- 04, RO, [16]. -/
def LAN_EQ_STATUS_EQ_DONE (i : Nat) : Fld := ⟨8 * (0x18000C + 0x400 * i) + 16, 1, 0⟩
/-- 04, W1C, [17]. -/
def LAN_EQ_STATUS_EQ_LIMIT (i : Nat) : Fld := ⟨8 * (0x18000C + 0x400 * i) + 17, 1, 0⟩
/-- 04, W1C, [18]. -/
def LAN_EQ_STATUS_AT_LIMIT (i : Nat) : Fld := ⟨8 * (0x18000C + 0x400 * i) + 18, 1, 0⟩
/-- 04, RW, [3:0]. -/
def LAN_WS_CFG_LOS_TH (i : Nat) : Fld := ⟨8 * (0x180010 + 0x400 * i) + 0, 4, 6⟩
/-- 04, RW, [11:4]. -/
def LAN_WS_CFG_FLAP_LIMIT (i : Nat) : Fld := ⟨8 * (0x180010 + 0x400 * i) + 4, 8, 32⟩
/-- 04, RW, [12]. -/
def LAN_WS_CFG_WS_REC_EN (i : Nat) : Fld := ⟨8 * (0x180010 + 0x400 * i) + 12, 1, 1⟩
/-- 04, W1C, [0]. -/
def LAN_WS_STATUS_LOS_EVENT (i : Nat) : Fld := ⟨8 * (0x180014 + 0x400 * i) + 0, 1, 0⟩
/-- 04, W1C, [1]. -/
def LAN_WS_STATUS_LOL_EVENT (i : Nat) : Fld := ⟨8 * (0x180014 + 0x400 * i) + 1, 1, 0⟩
/-- 04, W1C, [2]. -/
def LAN_WS_STATUS_FLAP (i : Nat) : Fld := ⟨8 * (0x180014 + 0x400 * i) + 2, 1, 0⟩
/-- 04, RC, [15:0]. -/
def LAN_WS_COUNT_LOS_COUNT (i : Nat) : Fld := ⟨8 * (0x180018 + 0x400 * i) + 0, 16, 0⟩
/-- 04, RC, [31:16]. -/
def LAN_WS_COUNT_LOL_COUNT (i : Nat) : Fld := ⟨8 * (0x180018 + 0x400 * i) + 16, 16, 0⟩
/-- 04, RC, [31:0]. -/
def LAN_WS_LOS_TIME_LOS_TIME (i : Nat) : Fld := ⟨8 * (0x18001C + 0x400 * i) + 0, 32, 0⟩
/-- 04, RW, [3:0]. -/
def LAN_PRBS_CFG_PATTERN (i : Nat) : Fld := ⟨8 * (0x180020 + 0x400 * i) + 0, 4, 0⟩
/-- 04, RW, [4]. -/
def LAN_PRBS_CFG_GEN_EN (i : Nat) : Fld := ⟨8 * (0x180020 + 0x400 * i) + 4, 1, 0⟩
/-- 04, RW, [5]. -/
def LAN_PRBS_CFG_CHK_EN (i : Nat) : Fld := ⟨8 * (0x180020 + 0x400 * i) + 5, 1, 0⟩
/-- 04, WO, [6]. -/
def LAN_PRBS_CFG_INJECT (i : Nat) : Fld := ⟨8 * (0x180020 + 0x400 * i) + 6, 1, 0⟩
/-- 04, RO, [0]. -/
def LAN_PRBS_STATUS_CHK_LOCK (i : Nat) : Fld := ⟨8 * (0x180024 + 0x400 * i) + 0, 1, 0⟩
/-- 04, RC, [31:0]. -/
def LAN_PRBS_ERR_ERR_COUNT (i : Nat) : Fld := ⟨8 * (0x180028 + 0x400 * i) + 0, 32, 0⟩
/-- 04, RO, [4:0]. -/
def LAN_RX_ADAPT_CTLE_BOOST (i : Nat) : Fld := ⟨8 * (0x18002C + 0x400 * i) + 0, 5, 0⟩
/-- 04, RO, [12:5]. -/
def LAN_RX_ADAPT_EYE_HEIGHT (i : Nat) : Fld := ⟨8 * (0x18002C + 0x400 * i) + 5, 8, 0⟩
/-- 04, RO, [20:13]. -/
def LAN_RX_ADAPT_EYE_WIDTH (i : Nat) : Fld := ⟨8 * (0x18002C + 0x400 * i) + 13, 8, 0⟩
/-- 04, RO, [0]. -/
def LAN_GRP_STATUS_PLL_P_ON (i : Nat) : Fld := ⟨8 * (0x180300 + 0x4000 * i) + 0, 1, 0⟩
/-- 04, RO, [1]. -/
def LAN_GRP_STATUS_PLL_P_LOCK (i : Nat) : Fld := ⟨8 * (0x180300 + 0x4000 * i) + 1, 1, 0⟩
/-- 04, RO, [2]. -/
def LAN_GRP_STATUS_PLL_C_ON (i : Nat) : Fld := ⟨8 * (0x180300 + 0x4000 * i) + 2, 1, 0⟩
/-- 04, RO, [3]. -/
def LAN_GRP_STATUS_PLL_C_LOCK (i : Nat) : Fld := ⟨8 * (0x180300 + 0x4000 * i) + 3, 1, 0⟩
/-- 04, RO, [4]. -/
def LAN_GRP_STATUS_GRP_POWERED (i : Nat) : Fld := ⟨8 * (0x180300 + 0x4000 * i) + 4, 1, 0⟩
/-- 04, W1C, [5]. -/
def LAN_GRP_STATUS_REF_LOST (i : Nat) : Fld := ⟨8 * (0x180300 + 0x4000 * i) + 5, 1, 0⟩
/-- 05, RO, [1:0]. -/
def PRT_CFG_MODE (i : Nat) : Fld := ⟨8 * (0x100000 + 0x1000 * i) + 0, 2, 0⟩
/-- 05, RO, [5:2]. -/
def PRT_CFG_FIRST_OFFSET (i : Nat) : Fld := ⟨8 * (0x100000 + 0x1000 * i) + 2, 4, 0⟩
/-- 05, RO, [8:6]. -/
def PRT_CFG_WIDTH (i : Nat) : Fld := ⟨8 * (0x100000 + 0x1000 * i) + 6, 3, 0⟩
/-- 05, RO, [12:9] R184. -/
def PRT_CFG_MAX_RATE (i : Nat) : Fld := ⟨8 * (0x100000 + 0x1000 * i) + 9, 4, 15⟩
/-- 05, RO, [13]. -/
def PRT_CFG_FLIT_ALLOWED (i : Nat) : Fld := ⟨8 * (0x100000 + 0x1000 * i) + 13, 1, 0⟩
/-- 05, RO, [14]. -/
def PRT_CFG_CLK_INDEP (i : Nat) : Fld := ⟨8 * (0x100000 + 0x1000 * i) + 14, 1, 0⟩
/-- 05, RO, [15]. -/
def PRT_CFG_L1_DEEP (i : Nat) : Fld := ⟨8 * (0x100000 + 0x1000 * i) + 15, 1, 0⟩
/-- 05, RO, [21:16]. -/
def PRT_CFG_HOST (i : Nat) : Fld := ⟨8 * (0x100000 + 0x1000 * i) + 16, 6, 0⟩
/-- 05, RO, [26:22]. -/
def PRT_CFG_SLOT_CH (i : Nat) : Fld := ⟨8 * (0x100000 + 0x1000 * i) + 22, 5, 0⟩
/-- 05, RO, [27]. -/
def PRT_CFG_SLOT_VALID (i : Nat) : Fld := ⟨8 * (0x100000 + 0x1000 * i) + 27, 1, 0⟩
/-- 05, RO, [3:0]. -/
def PRT_LINK_STATUS_LTSSM (i : Nat) : Fld := ⟨8 * (0x100004 + 0x1000 * i) + 0, 4, 0⟩
/-- 05, RO, [7:4] R184. -/
def PRT_LINK_STATUS_RATE (i : Nat) : Fld := ⟨8 * (0x100004 + 0x1000 * i) + 4, 4, 15⟩
/-- 05, RO, [12:8]. -/
def PRT_LINK_STATUS_WIDTH (i : Nat) : Fld := ⟨8 * (0x100004 + 0x1000 * i) + 8, 5, 0⟩
/-- 05, RO, [13]. -/
def PRT_LINK_STATUS_FLIT_ACTIVE (i : Nat) : Fld := ⟨8 * (0x100004 + 0x1000 * i) + 13, 1, 0⟩
/-- 05, RO, [14]. -/
def PRT_LINK_STATUS_DL_ACTIVE (i : Nat) : Fld := ⟨8 * (0x100004 + 0x1000 * i) + 14, 1, 0⟩
/-- 05, RO, [15]. -/
def PRT_LINK_STATUS_REVERSED (i : Nat) : Fld := ⟨8 * (0x100004 + 0x1000 * i) + 15, 1, 0⟩
/-- 05, RO, [16]. -/
def PRT_LINK_STATUS_SRIS_ACTIVE (i : Nat) : Fld := ⟨8 * (0x100004 + 0x1000 * i) + 16, 1, 0⟩
/-- 05, RO, [18:17]. -/
def PRT_LINK_STATUS_DEEP_LEVEL (i : Nat) : Fld := ⟨8 * (0x100004 + 0x1000 * i) + 17, 2, 0⟩
/-- 05, W1C, [0]. -/
def PRT_EVENT_LINK_UP (i : Nat) : Fld := ⟨8 * (0x100008 + 0x1000 * i) + 0, 1, 0⟩
/-- 05, W1C, [1]. -/
def PRT_EVENT_LINK_DOWN (i : Nat) : Fld := ⟨8 * (0x100008 + 0x1000 * i) + 1, 1, 0⟩
/-- 05, W1C, [2]. -/
def PRT_EVENT_RATE_CHANGE (i : Nat) : Fld := ⟨8 * (0x100008 + 0x1000 * i) + 2, 1, 0⟩
/-- 05, W1C, [3]. -/
def PRT_EVENT_WIDTH_CHANGE (i : Nat) : Fld := ⟨8 * (0x100008 + 0x1000 * i) + 3, 1, 0⟩
/-- 05, W1C, [4]. -/
def PRT_EVENT_HOT_RESET_RX (i : Nat) : Fld := ⟨8 * (0x100008 + 0x1000 * i) + 4, 1, 0⟩
/-- 05, W1C, [5]. -/
def PRT_EVENT_PERST (i : Nat) : Fld := ⟨8 * (0x100008 + 0x1000 * i) + 5, 1, 0⟩
/-- 05, W1C, [6]. -/
def PRT_EVENT_DPC_TRIGGERED (i : Nat) : Fld := ⟨8 * (0x100008 + 0x1000 * i) + 6, 1, 0⟩
/-- 05, W1C, [7]. -/
def PRT_EVENT_BME_CLEARED (i : Nat) : Fld := ⟨8 * (0x100008 + 0x1000 * i) + 7, 1, 0⟩
/-- 05, W1C, [8]. -/
def PRT_EVENT_D3_ENTRY (i : Nat) : Fld := ⟨8 * (0x100008 + 0x1000 * i) + 8, 1, 0⟩
/-- 05, W1C, [9]. -/
def PRT_EVENT_EQ_FAIL (i : Nat) : Fld := ⟨8 * (0x100008 + 0x1000 * i) + 9, 1, 0⟩
/-- 05, RC, [15:0]. -/
def PRT_DLL_COUNT_BAD_TLP (i : Nat) : Fld := ⟨8 * (0x10000C + 0x1000 * i) + 0, 16, 0⟩
/-- 05, RC, [31:16]. -/
def PRT_DLL_COUNT_BAD_DLLP (i : Nat) : Fld := ⟨8 * (0x10000C + 0x1000 * i) + 16, 16, 0⟩
/-- 05, RC, [15:0]. -/
def PRT_REPLAY_COUNT_REPLAY_TIMEOUT (i : Nat) : Fld := ⟨8 * (0x100010 + 0x1000 * i) + 0, 16, 0⟩
/-- 05, RC, [31:16]. -/
def PRT_REPLAY_COUNT_REPLAY_ROLLOVER (i : Nat) : Fld := ⟨8 * (0x100010 + 0x1000 * i) + 16, 16, 0⟩
/-- 05, RC, [15:0]. -/
def PRT_PHY_COUNT_RX_ERR (i : Nat) : Fld := ⟨8 * (0x100014 + 0x1000 * i) + 0, 16, 0⟩
/-- 05, RC, [31:16]. -/
def PRT_PHY_COUNT_RECOVERY_ENTRY (i : Nat) : Fld := ⟨8 * (0x100014 + 0x1000 * i) + 16, 16, 0⟩
/-- 05, RC, [15:0]. -/
def PRT_FEC_COUNT_FEC_CORRECTED (i : Nat) : Fld := ⟨8 * (0x100018 + 0x1000 * i) + 0, 16, 0⟩
/-- 05, RC, [31:16]. -/
def PRT_FEC_COUNT_FEC_UNCORR (i : Nat) : Fld := ⟨8 * (0x100018 + 0x1000 * i) + 16, 16, 0⟩
/-- 05, RO, [1:0]. -/
def PRT_HOST_STATUS_DSTATE (i : Nat) : Fld := ⟨8 * (0x10001C + 0x1000 * i) + 0, 2, 0⟩
/-- 05, RO, [2]. -/
def PRT_HOST_STATUS_PERST_ACTIVE (i : Nat) : Fld := ⟨8 * (0x10001C + 0x1000 * i) + 2, 1, 0⟩
/-- 05, RO, [3]. -/
def PRT_HOST_STATUS_F1_BME (i : Nat) : Fld := ⟨8 * (0x10001C + 0x1000 * i) + 3, 1, 0⟩
/-- 05, RO, [4]. -/
def PRT_HOST_STATUS_F1_MSE (i : Nat) : Fld := ⟨8 * (0x10001C + 0x1000 * i) + 4, 1, 0⟩
/-- 05, RO, [5]. -/
def PRT_HOST_STATUS_F0_BME (i : Nat) : Fld := ⟨8 * (0x10001C + 0x1000 * i) + 5, 1, 0⟩
/-- 05, RO, [6]. -/
def PRT_HOST_STATUS_PME_EN (i : Nat) : Fld := ⟨8 * (0x10001C + 0x1000 * i) + 6, 1, 0⟩
/-- 05, RO, [7]. -/
def PRT_HOST_STATUS_WAKE_DRIVEN (i : Nat) : Fld := ⟨8 * (0x10001C + 0x1000 * i) + 7, 1, 0⟩
/-- 05, RO, [25:16]. -/
def PRT_HOST_STATUS_OUTSTANDING (i : Nat) : Fld := ⟨8 * (0x10001C + 0x1000 * i) + 16, 10, 0⟩
/-- 05, RC, [15:0] R225. -/
def PRT_BME_DISCARD_CPL_DISCARD (i : Nat) : Fld := ⟨8 * (0x100020 + 0x1000 * i) + 0, 16, 0⟩
/-- 05, RC, [31:16] R227. -/
def PRT_BME_DISCARD_WRITE_DISCARD (i : Nat) : Fld := ⟨8 * (0x100020 + 0x1000 * i) + 16, 16, 0⟩
/-- 06, RO, [3:0] R184. -/
def PRT_CYT_CFG_MAX_RATE (i : Nat) : Fld := ⟨8 * (0x100800 + 0x1000 * i) + 0, 4, 11⟩
/-- 06, RO, [10:4]. -/
def PRT_CYT_CFG_GRACE_MS (i : Nat) : Fld := ⟨8 * (0x100800 + 0x1000 * i) + 4, 7, 2⟩
/-- 06, RO, [17:11]. -/
def PRT_CYT_CFG_REPLAY_US (i : Nat) : Fld := ⟨8 * (0x100800 + 0x1000 * i) + 11, 7, 5⟩
/-- 06, RO, [3:0]. -/
def PRT_CYT_STATUS_STATE (i : Nat) : Fld := ⟨8 * (0x100804 + 0x1000 * i) + 0, 4, 0⟩
/-- 06, RO, [7:4] R184. -/
def PRT_CYT_STATUS_RATE (i : Nat) : Fld := ⟨8 * (0x100804 + 0x1000 * i) + 4, 4, 15⟩
/-- 06, RO, [12:8]. -/
def PRT_CYT_STATUS_WIDTH (i : Nat) : Fld := ⟨8 * (0x100804 + 0x1000 * i) + 8, 5, 0⟩
/-- 06, RO, [20:13]. -/
def PRT_CYT_STATUS_GEN (i : Nat) : Fld := ⟨8 * (0x100804 + 0x1000 * i) + 13, 8, 0⟩
/-- 06, RO, [21]. -/
def PRT_CYT_STATUS_IN_GRACE (i : Nat) : Fld := ⟨8 * (0x100804 + 0x1000 * i) + 21, 1, 0⟩
/-- 06, RO, [27:22]. -/
def PRT_CYT_STATUS_PEER_NODE (i : Nat) : Fld := ⟨8 * (0x100804 + 0x1000 * i) + 22, 6, 0⟩
/-- 06, RO, [28]. -/
def PRT_CYT_STATUS_PEER_VALID (i : Nat) : Fld := ⟨8 * (0x100804 + 0x1000 * i) + 28, 1, 0⟩
/-- 06, W1C, [0]. -/
def PRT_CYT_EVENT_UP (i : Nat) : Fld := ⟨8 * (0x100808 + 0x1000 * i) + 0, 1, 0⟩
/-- 06, W1C, [1]. -/
def PRT_CYT_EVENT_LINK_LOST (i : Nat) : Fld := ⟨8 * (0x100808 + 0x1000 * i) + 1, 1, 0⟩
/-- 06, W1C, [2]. -/
def PRT_CYT_EVENT_GRACE_EXPIRED (i : Nat) : Fld := ⟨8 * (0x100808 + 0x1000 * i) + 2, 1, 0⟩
/-- 06, W1C, [3]. -/
def PRT_CYT_EVENT_PARITY_FATAL (i : Nat) : Fld := ⟨8 * (0x100808 + 0x1000 * i) + 3, 1, 0⟩
/-- 06, W1C, [4]. -/
def PRT_CYT_EVENT_MARKER_FATAL (i : Nat) : Fld := ⟨8 * (0x100808 + 0x1000 * i) + 4, 1, 0⟩
/-- 06, W1C, [5]. -/
def PRT_CYT_EVENT_RETX_FATAL (i : Nat) : Fld := ⟨8 * (0x100808 + 0x1000 * i) + 5, 1, 0⟩
/-- 06, W1C, [6]. -/
def PRT_CYT_EVENT_COLLISION (i : Nat) : Fld := ⟨8 * (0x100808 + 0x1000 * i) + 6, 1, 0⟩
/-- 06, W1C, [7]. -/
def PRT_CYT_EVENT_RATE_FALLBACK (i : Nat) : Fld := ⟨8 * (0x100808 + 0x1000 * i) + 7, 1, 0⟩
/-- 06, W1C, [8]. -/
def PRT_CYT_EVENT_WIDTH_REDUCED (i : Nat) : Fld := ⟨8 * (0x100808 + 0x1000 * i) + 8, 1, 0⟩
/-- 06, W1C, [9]. -/
def PRT_CYT_EVENT_NODE_CONFLICT (i : Nat) : Fld := ⟨8 * (0x100808 + 0x1000 * i) + 9, 1, 0⟩
/-- 06, W1C, [10]. -/
def PRT_CYT_EVENT_JOINED (i : Nat) : Fld := ⟨8 * (0x100808 + 0x1000 * i) + 10, 1, 0⟩
/-- 06, W1C, [11]. -/
def PRT_CYT_EVENT_JOIN_REFUSED (i : Nat) : Fld := ⟨8 * (0x100808 + 0x1000 * i) + 11, 1, 0⟩
/-- 06, W1C, [12]. -/
def PRT_CYT_EVENT_LEFT (i : Nat) : Fld := ⟨8 * (0x100808 + 0x1000 * i) + 12, 1, 0⟩
/-- 06, RO, [15:0]. -/
def PRT_CYT_TX_SEQ_NEXT_SEQ (i : Nat) : Fld := ⟨8 * (0x10080C + 0x1000 * i) + 0, 16, 0⟩
/-- 06, RO, [31:16]. -/
def PRT_CYT_TX_SEQ_OLDEST_UNACKED (i : Nat) : Fld := ⟨8 * (0x10080C + 0x1000 * i) + 16, 16, 0⟩
/-- 06, RO, [15:0]. -/
def PRT_CYT_RX_SEQ_NEXT_EXPECTED (i : Nat) : Fld := ⟨8 * (0x100810 + 0x1000 * i) + 0, 16, 0⟩
/-- 06, RO, [25:16]. -/
def PRT_CYT_RX_SEQ_REORDER_USED (i : Nat) : Fld := ⟨8 * (0x100810 + 0x1000 * i) + 16, 10, 0⟩
/-- 06, RC, [15:0]. -/
def PRT_CYT_ERR_COUNT_CRC_ERR (i : Nat) : Fld := ⟨8 * (0x100814 + 0x1000 * i) + 0, 16, 0⟩
/-- 06, RC, [31:16]. -/
def PRT_CYT_ERR_COUNT_HDR_ERR (i : Nat) : Fld := ⟨8 * (0x100814 + 0x1000 * i) + 16, 16, 0⟩
/-- 06, RC, [15:0]. -/
def PRT_CYT_RETX_COUNT_NAK_SENT (i : Nat) : Fld := ⟨8 * (0x100818 + 0x1000 * i) + 0, 16, 0⟩
/-- 06, RC, [31:16]. -/
def PRT_CYT_RETX_COUNT_RETX_UNITS (i : Nat) : Fld := ⟨8 * (0x100818 + 0x1000 * i) + 16, 16, 0⟩
/-- 06, RC, [15:0]. -/
def PRT_CYT_DROP_COUNT_STALE (i : Nat) : Fld := ⟨8 * (0x10081C + 0x1000 * i) + 0, 16, 0⟩
/-- 06, RC, [31:16]. -/
def PRT_CYT_DROP_COUNT_BEYOND_WINDOW (i : Nat) : Fld := ⟨8 * (0x10081C + 0x1000 * i) + 16, 16, 0⟩
/-- 06, RC, [15:0]. -/
def PRT_CYT_DUP_COUNT_DUP (i : Nat) : Fld := ⟨8 * (0x100820 + 0x1000 * i) + 0, 16, 0⟩
/-- 06, RC, [31:16]. -/
def PRT_CYT_DUP_COUNT_REPLAY_TIMEOUT (i : Nat) : Fld := ⟨8 * (0x100820 + 0x1000 * i) + 16, 16, 0⟩
/-- 06, RC, [15:0]. -/
def PRT_CYT_GRACE_COUNT_GRACE_START (i : Nat) : Fld := ⟨8 * (0x100824 + 0x1000 * i) + 0, 16, 0⟩
/-- 06, RC, [31:16]. -/
def PRT_CYT_GRACE_COUNT_GRACE_EXPIRE (i : Nat) : Fld := ⟨8 * (0x100824 + 0x1000 * i) + 16, 16, 0⟩
/-- 06, RO, [15:0] R93. -/
def PRT_CYT_ASYM_ASYM (i : Nat) : Fld := ⟨8 * (0x100828 + 0x1000 * i) + 0, 16, 0⟩
/-- 06, RO, [15:0]. -/
def PRT_CYT_CRED_TX_LIM_DATA (i : Nat) (j : Nat) : Fld := ⟨8 * (0x100840 + 0x1000 * i + 0x8 * j) + 0, 16, 0⟩
/-- 06, RO, [15:0]. -/
def PRT_CYT_CRED_TX_CONS_DATA (i : Nat) (j : Nat) : Fld := ⟨8 * (0x100844 + 0x1000 * i + 0x8 * j) + 0, 16, 0⟩
/-- 06, RO, [27:16]. -/
def PRT_CYT_CRED_TX_LIM_HDR (i : Nat) (j : Nat) : Fld := ⟨8 * (0x100840 + 0x1000 * i + 0x8 * j) + 16, 12, 0⟩
/-- 06, RO, [27:16]. -/
def PRT_CYT_CRED_TX_CONS_HDR (i : Nat) (j : Nat) : Fld := ⟨8 * (0x100844 + 0x1000 * i + 0x8 * j) + 16, 12, 0⟩
/-- 06, RO, [15:0]. -/
def PRT_CYT_CRED_RX_LIM_DATA (i : Nat) (j : Nat) : Fld := ⟨8 * (0x100880 + 0x1000 * i + 0x8 * j) + 0, 16, 0⟩
/-- 06, RO, [15:0]. -/
def PRT_CYT_CRED_RX_ALLOT_DATA (i : Nat) (j : Nat) : Fld := ⟨8 * (0x100884 + 0x1000 * i + 0x8 * j) + 0, 16, 0⟩
/-- 06, RO, [27:16]. -/
def PRT_CYT_CRED_RX_LIM_HDR (i : Nat) (j : Nat) : Fld := ⟨8 * (0x100880 + 0x1000 * i + 0x8 * j) + 16, 12, 0⟩
/-- 06, RO, [27:16]. -/
def PRT_CYT_CRED_RX_ALLOT_HDR (i : Nat) (j : Nat) : Fld := ⟨8 * (0x100884 + 0x1000 * i + 0x8 * j) + 16, 12, 0⟩
/-- 07, RO, [19:0]. -/
def SWC_CELL_STATUS_FREE_SHARED : Fld := ⟨8 * (0x1C0000) + 0, 20, 758784⟩
/-- 07, RC, [19:0]. -/
def SWC_CELL_PEAK_PEAK_SHARED : Fld := ⟨8 * (0x1C0004) + 0, 20, 0⟩
/-- 07, W1C, [0]. -/
def SWC_EVENT_MC_PARTIAL : Fld := ⟨8 * (0x1C0008) + 0, 1, 0⟩
/-- 07, W1C, [1]. -/
def SWC_EVENT_AGED : Fld := ⟨8 * (0x1C0008) + 1, 1, 0⟩
/-- 07, W1C, [2]. -/
def SWC_EVENT_FALLBACK : Fld := ⟨8 * (0x1C0008) + 2, 1, 0⟩
/-- 07, W1C, [3]. -/
def SWC_EVENT_UNDERRUN : Fld := ⟨8 * (0x1C0008) + 3, 1, 0⟩
/-- 07, W1C, [4]. -/
def SWC_EVENT_ECC_CORR : Fld := ⟨8 * (0x1C0008) + 4, 1, 0⟩
/-- 07, W1C, [5]. -/
def SWC_EVENT_ECC_UNCORR : Fld := ⟨8 * (0x1C0008) + 5, 1, 0⟩
/-- 07, W1C, [6]. -/
def SWC_EVENT_FMT_REJECT : Fld := ⟨8 * (0x1C0008) + 6, 1, 0⟩
/-- 07, RC, [15:0]. -/
def SWC_ECC_COUNT_CORRECTED : Fld := ⟨8 * (0x1C000C) + 0, 16, 0⟩
/-- 07, RC, [31:16]. -/
def SWC_ECC_COUNT_UNCORRECTED : Fld := ⟨8 * (0x1C000C) + 16, 16, 0⟩
/-- 07, RC, [31:0]. -/
def SWC_MC_PARTIAL_COUNT_PARTIAL : Fld := ⟨8 * (0x1C0010) + 0, 32, 0⟩
/-- 07, RO, [19:0]. -/
def SWC_PORT_CFG_AGE_LIMIT (i : Nat) : Fld := ⟨8 * (0x1C1000 + 0x20 * i) + 0, 20, 10000⟩
/-- 07, RO, [27:20]. -/
def SWC_PORT_CFG_STOMP_LIMIT (i : Nat) : Fld := ⟨8 * (0x1C1000 + 0x20 * i) + 20, 8, 16⟩
/-- 07, RO, [28]. -/
def SWC_PORT_CFG_CT_ENABLE (i : Nat) : Fld := ⟨8 * (0x1C1000 + 0x20 * i) + 28, 1, 1⟩
/-- 07, RO, [16:0]. -/
def SWC_PORT_STATUS_RATE_MBPS (i : Nat) : Fld := ⟨8 * (0x1C1004 + 0x20 * i) + 0, 17, 0⟩
/-- 07, W1C, [17]. -/
def SWC_PORT_STATUS_SF_FALLBACK (i : Nat) : Fld := ⟨8 * (0x1C1004 + 0x20 * i) + 17, 1, 0⟩
/-- 07, RO, [18] R350. -/
def SWC_PORT_STATUS_DEAD (i : Nat) : Fld := ⟨8 * (0x1C1004 + 0x20 * i) + 18, 1, 0⟩
/-- 07, RO, [23:0]. -/
def SWC_PORT_AGED_AGED (i : Nat) : Fld := ⟨8 * (0x1C1008 + 0x20 * i) + 0, 24, 0⟩
/-- 07, RC, [15:0]. -/
def SWC_PORT_STOMP_STOMP_TX (i : Nat) : Fld := ⟨8 * (0x1C100C + 0x20 * i) + 0, 16, 0⟩
/-- 07, RC, [31:16]. -/
def SWC_PORT_STOMP_STOMP_RX (i : Nat) : Fld := ⟨8 * (0x1C100C + 0x20 * i) + 16, 16, 0⟩
/-- 07, RC, [15:0]. -/
def SWC_PORT_FALLBACK_STOMP_IN (i : Nat) : Fld := ⟨8 * (0x1C1010 + 0x20 * i) + 0, 16, 0⟩
/-- 07, RC, [31:16]. -/
def SWC_PORT_FALLBACK_UNDERRUN (i : Nat) : Fld := ⟨8 * (0x1C1010 + 0x20 * i) + 16, 16, 0⟩
/-- 07, RC, [15:0]. -/
def SWC_PORT_AGE_COUNT_AGED_DISCARD (i : Nat) : Fld := ⟨8 * (0x1C1014 + 0x20 * i) + 0, 16, 0⟩
/-- 07, RC, [31:16]. -/
def SWC_PORT_AGE_COUNT_AGED_CA (i : Nat) : Fld := ⟨8 * (0x1C1014 + 0x20 * i) + 16, 16, 0⟩
/-- 07, RC, [15:0]. -/
def SWC_PORT_MISC_MC_DROP (i : Nat) : Fld := ⟨8 * (0x1C1018 + 0x20 * i) + 0, 16, 0⟩
/-- 07, RC, [31:16] R341. -/
def SWC_PORT_MISC_FMT_REJECT (i : Nat) : Fld := ⟨8 * (0x1C1018 + 0x20 * i) + 16, 16, 0⟩
/-- 07, RC, [31:0]. -/
def SWC_PORT_CT_COUNT_CT_FWD (i : Nat) : Fld := ⟨8 * (0x1C101C + 0x20 * i) + 0, 32, 0⟩
/-- 07, RO, [19:0]. -/
def SWC_QUEUE_DEPTH (i : Nat) : Fld := ⟨8 * (0x1C4000 + 0x4 * i) + 0, 20, 0⟩
/-- 07, RO, [22:20]. -/
def SWC_QUEUE_ALPHA (i : Nat) : Fld := ⟨8 * (0x1C4000 + 0x4 * i) + 20, 3, 4⟩
/-- 07, RO, [23]. -/
def SWC_QUEUE_AGED (i : Nat) : Fld := ⟨8 * (0x1C4000 + 0x4 * i) + 23, 1, 0⟩
/-- 07, RO, [31:0]. -/
def SWC_MC_PORTS_PORTS (i : Nat) (j : Nat) : Fld := ⟨8 * (0x1C8000 + 0x20 * i + 0x4 * j) + 0, 32, 0⟩
/-- 07, RO, [0]. -/
def SWC_MC_CFG_VALID (i : Nat) : Fld := ⟨8 * (0x1C8010 + 0x20 * i) + 0, 1, 0⟩
/-- 07, RO, [1]. -/
def SWC_MC_CFG_REMOTE (i : Nat) : Fld := ⟨8 * (0x1C8010 + 0x20 * i) + 1, 1, 0⟩
/-- 07, RC, [31:0]. -/
def SWC_MC_COPIES_COPIES (i : Nat) : Fld := ⟨8 * (0x1C8014 + 0x20 * i) + 0, 32, 0⟩
/-- 07, RC, [31:0] R350. -/
def SWC_MC_MISSES_MISSES (i : Nat) : Fld := ⟨8 * (0x1C8018 + 0x20 * i) + 0, 32, 0⟩
/-- 08, RW, [3:0]. -/
def RTE_IND_SEL_TABLE : Fld := ⟨8 * (0x200000) + 0, 4, 0⟩
/-- 08, RW, [19:4]. -/
def RTE_IND_SEL_INDEX : Fld := ⟨8 * (0x200000) + 4, 16, 0⟩
/-- 08, WO, [31]. -/
def RTE_IND_SEL_GO : Fld := ⟨8 * (0x200000) + 31, 1, 0⟩
/-- 08, RO, [0]. -/
def RTE_IND_STATUS_DONE : Fld := ⟨8 * (0x200004) + 0, 1, 0⟩
/-- 08, RO, [1]. -/
def RTE_IND_STATUS_BAD_INDEX : Fld := ⟨8 * (0x200004) + 1, 1, 0⟩
/-- 08, RO, [31:0]. -/
def RTE_IND_DATA_WORD (i : Nat) : Fld := ⟨8 * (0x200010 + 0x4 * i) + 0, 32, 0⟩
/-- 08, W1C, [0]. -/
def RTE_EVENT_XLAT_MISS : Fld := ⟨8 * (0x200040) + 0, 1, 0⟩
/-- 08, W1C, [1] R371. -/
def RTE_EVENT_SV_FAIL : Fld := ⟨8 * (0x200040) + 1, 1, 0⟩
/-- 08, W1C, [2] R411. -/
def RTE_EVENT_NO_ROUTE : Fld := ⟨8 * (0x200040) + 2, 1, 0⟩
/-- 08, W1C, [3] R412. -/
def RTE_EVENT_LOOP_DROP : Fld := ⟨8 * (0x200040) + 3, 1, 0⟩
/-- 08, W1C, [4]. -/
def RTE_EVENT_UNBIND_DONE : Fld := ⟨8 * (0x200040) + 4, 1, 0⟩
/-- 08, W1C, [5] R363. -/
def RTE_EVENT_FLR_SKIPPED : Fld := ⟨8 * (0x200040) + 5, 1, 0⟩
/-- 08, RC, [15:0]. -/
def RTE_COUNT_XLAT_XLAT_MISS : Fld := ⟨8 * (0x200044) + 0, 16, 0⟩
/-- 08, RC, [31:16] R371. -/
def RTE_COUNT_XLAT_SV_FAIL : Fld := ⟨8 * (0x200044) + 16, 16, 0⟩
/-- 08, RC, [15:0] R412. -/
def RTE_COUNT_FAB_LOOP_DROP : Fld := ⟨8 * (0x200048) + 0, 16, 0⟩
/-- 08, RC, [31:16] R411. -/
def RTE_COUNT_FAB_NO_ROUTE : Fld := ⟨8 * (0x200048) + 16, 16, 0⟩
/-- 08, RO, [16:0]. -/
def RTE_XLAT_USED_USED : Fld := ⟨8 * (0x20004C) + 0, 17, 0⟩
/-- 08, RO, [5:0]. -/
def RTE_HIER_CFG_VB_COUNT (i : Nat) : Fld := ⟨8 * (0x201000 + 0x20 * i) + 0, 6, 0⟩
/-- 08, RO, [11:6]. -/
def RTE_HIER_CFG_VB_COUNT_NEXT (i : Nat) : Fld := ⟨8 * (0x201000 + 0x20 * i) + 6, 6, 0⟩
/-- 08, RO, [7:0]. -/
def RTE_HIER_BUS_PRI_BUS (i : Nat) : Fld := ⟨8 * (0x201004 + 0x20 * i) + 0, 8, 0⟩
/-- 08, RO, [15:8]. -/
def RTE_HIER_BUS_SEC_BUS (i : Nat) : Fld := ⟨8 * (0x201004 + 0x20 * i) + 8, 8, 0⟩
/-- 08, RO, [23:16]. -/
def RTE_HIER_BUS_SUB_BUS (i : Nat) : Fld := ⟨8 * (0x201004 + 0x20 * i) + 16, 8, 0⟩
/-- 08, RO, [16:0]. -/
def RTE_HIER_QUOTA_XLAT_QUOTA (i : Nat) : Fld := ⟨8 * (0x201008 + 0x20 * i) + 0, 17, 65536⟩
/-- 08, RO, [16:0]. -/
def RTE_HIER_USED_XLAT_USED (i : Nat) : Fld := ⟨8 * (0x20100C + 0x20 * i) + 0, 17, 0⟩
/-- 09, RO, [31:0]. -/
def BRD_IND_DATA_WORD (i : Nat) : Fld := ⟨8 * (0x300050 + 0x4 * i) + 0, 32, 0⟩
/-- 09, RO, [1:0]. -/
def BRD_STATUS_STATE : Fld := ⟨8 * (0x300000) + 0, 2, 0⟩
/-- 09, RO, [2]. -/
def BRD_STATUS_STAGED_DIFFERS : Fld := ⟨8 * (0x300000) + 2, 1, 0⟩
/-- 09, RO, [3]. -/
def BRD_STATUS_SAVE_A_VALID : Fld := ⟨8 * (0x300000) + 3, 1, 0⟩
/-- 09, RO, [4]. -/
def BRD_STATUS_SAVE_B_VALID : Fld := ⟨8 * (0x300000) + 4, 1, 0⟩
/-- 09, RO, [5] R448. -/
def BRD_STATUS_LOCK_UNKNOWN : Fld := ⟨8 * (0x300000) + 5, 1, 0⟩
/-- 09, RO, [6]. -/
def BRD_STATUS_OVERRIDE : Fld := ⟨8 * (0x300000) + 6, 1, 0⟩
/-- 09, RO, [31:16]. -/
def BRD_STATUS_GEN : Fld := ⟨8 * (0x300000) + 16, 16, 0⟩
/-- 09, RO, [19:0]. -/
def BRD_OLD_INFLIGHT_OLD_COUNT : Fld := ⟨8 * (0x300004) + 0, 20, 0⟩
/-- 09, RO, [13:0]. -/
def BRD_RULES_USED_ACTIVE : Fld := ⟨8 * (0x300008) + 0, 14, 0⟩
/-- 09, RO, [29:16]. -/
def BRD_RULES_USED_STAGED : Fld := ⟨8 * (0x300008) + 16, 14, 0⟩
/-- 09, RO, [5:0]. -/
def BRD_POLICY_TENANT : Fld := ⟨8 * (0x30000C) + 0, 6, 52⟩
/-- 09, RO, [8]. -/
def BRD_POLICY_NODE_POOL : Fld := ⟨8 * (0x30000C) + 8, 1, 0⟩
/-- 09, RO, [9]. -/
def BRD_POLICY_NODE_PEER : Fld := ⟨8 * (0x30000C) + 9, 1, 0⟩
/-- 09, W1C, [0]. -/
def BRD_EVENT_DENY : Fld := ⟨8 * (0x300010) + 0, 1, 0⟩
/-- 09, W1C, [1]. -/
def BRD_EVENT_LOCK_DENY : Fld := ⟨8 * (0x300010) + 1, 1, 0⟩
/-- 09, W1C, [2]. -/
def BRD_EVENT_DEBUG_PASS : Fld := ⟨8 * (0x300010) + 2, 1, 0⟩
/-- 09, W1C, [3]. -/
def BRD_EVENT_SESSION_ABORT : Fld := ⟨8 * (0x300010) + 3, 1, 0⟩
/-- 09, W1C, [4]. -/
def BRD_EVENT_RULE_CONFLICT : Fld := ⟨8 * (0x300010) + 4, 1, 0⟩
/-- 09, W1C, [5]. -/
def BRD_EVENT_COMMIT_DONE : Fld := ⟨8 * (0x300010) + 5, 1, 0⟩
/-- 09, W1C, [6]. -/
def BRD_EVENT_SAVE_ERR : Fld := ⟨8 * (0x300010) + 6, 1, 0⟩
/-- 09, W1C, [7]. -/
def BRD_EVENT_INT_DENY : Fld := ⟨8 * (0x300010) + 7, 1, 0⟩
/-- 09, RC, [15:0]. -/
def BRD_DENY_COUNT_TENANT_DENY : Fld := ⟨8 * (0x300014) + 0, 16, 0⟩
/-- 09, RC, [31:16]. -/
def BRD_DENY_COUNT_NODE_DENY : Fld := ⟨8 * (0x300014) + 16, 16, 0⟩
/-- 09, RC, [15:0]. -/
def BRD_LOCK_COUNT_LOCK_DENY : Fld := ⟨8 * (0x300018) + 0, 16, 0⟩
/-- 09, RC, [31:16]. -/
def BRD_LOCK_COUNT_DEBUG_PASS : Fld := ⟨8 * (0x300018) + 16, 16, 0⟩
/-- 09, RO, [1:0]. -/
def BRD_LAST_DENY_CLASS : Fld := ⟨8 * (0x300020) + 0, 2, 0⟩
/-- 09, RO, [4:2]. -/
def BRD_LAST_DENY_SPACE : Fld := ⟨8 * (0x300020) + 2, 3, 0⟩
/-- 09, RO, [6:5]. -/
def BRD_LAST_DENY_ACCESS : Fld := ⟨8 * (0x300020) + 5, 2, 0⟩
/-- 09, RO, [10:7]. -/
def BRD_LAST_DENY_REASON : Fld := ⟨8 * (0x300020) + 7, 4, 0⟩
/-- 09, RO, [23:11]. -/
def BRD_LAST_DENY_RULE : Fld := ⟨8 * (0x300020) + 11, 13, 0⟩
/-- 09, RO, [5:0]. -/
def BRD_LAST_DENY_SRC : Fld := ⟨8 * (0x300024) + 0, 6, 0⟩
/-- 09, RO, [31:16]. -/
def BRD_LAST_DENY_RID : Fld := ⟨8 * (0x300024) + 16, 16, 0⟩
/-- 09, RO, [63:0]. -/
def BRD_LAST_DENY_ADDRESS : Fld := ⟨8 * (0x300028) + 0, 64, 0⟩
/-- 09, RW, [12:0]. -/
def BRD_IND_SEL_RULE : Fld := ⟨8 * (0x300040) + 0, 13, 0⟩
/-- 09, RW, [13]. -/
def BRD_IND_SEL_STAGED : Fld := ⟨8 * (0x300040) + 13, 1, 0⟩
/-- 09, WO, [31]. -/
def BRD_IND_SEL_GO : Fld := ⟨8 * (0x300040) + 31, 1, 0⟩
/-- 09, RO, [0]. -/
def BRD_IND_STATUS_DONE : Fld := ⟨8 * (0x300044) + 0, 1, 0⟩
/-- 10, RO, [12:0]. -/
def SCH_STATUS_SHAPERS_USED : Fld := ⟨8 * (0x340000) + 0, 13, 0⟩
/-- 10, W1C, [0]. -/
def SCH_EVENT_TAKEOVER : Fld := ⟨8 * (0x340004) + 0, 1, 0⟩
/-- 10, W1C, [1]. -/
def SCH_EVENT_REANCHOR : Fld := ⟨8 * (0x340004) + 1, 1, 0⟩
/-- 10, W1C, [2] R475. -/
def SCH_EVENT_OVERRUN : Fld := ⟨8 * (0x340004) + 2, 1, 0⟩
/-- 10, W1C, [3] R500. -/
def SCH_EVENT_LATE_ELIG : Fld := ⟨8 * (0x340004) + 3, 1, 0⟩
/-- 10, RC, [31:0]. -/
def SCH_LATE_COUNT_LATE_ELIG : Fld := ⟨8 * (0x340008) + 0, 32, 0⟩
/-- 10, RW, [1:0]. -/
def SCH_IND_SEL_TABLE : Fld := ⟨8 * (0x340010) + 0, 2, 0⟩
/-- 10, RW, [14:2]. -/
def SCH_IND_SEL_INDEX : Fld := ⟨8 * (0x340010) + 2, 13, 0⟩
/-- 10, WO, [31]. -/
def SCH_IND_SEL_GO : Fld := ⟨8 * (0x340010) + 31, 1, 0⟩
/-- 10, RO, [0]. -/
def SCH_IND_STATUS_DONE : Fld := ⟨8 * (0x340014) + 0, 1, 0⟩
/-- 10, RO, [1]. -/
def SCH_IND_STATUS_BAD_INDEX : Fld := ⟨8 * (0x340014) + 1, 1, 0⟩
/-- 10, RO, [31:0]. -/
def SCH_IND_DATA_WORD (i : Nat) : Fld := ⟨8 * (0x340020 + 0x4 * i) + 0, 32, 0⟩
/-- 10, RO, [6:0]. -/
def SCH_PORT_CFG_OVERHEAD_NF (i : Nat) : Fld := ⟨8 * (0x341000 + 0x40 * i) + 0, 7, 8⟩
/-- 10, RO, [13:7]. -/
def SCH_PORT_CFG_OVERHEAD_F (i : Nat) : Fld := ⟨8 * (0x341000 + 0x40 * i) + 7, 7, 10⟩
/-- 10, RO, [20:14]. -/
def SCH_PORT_CFG_OVERHEAD_CY (i : Nat) : Fld := ⟨8 * (0x341000 + 0x40 * i) + 14, 7, 12⟩
/-- 10, RO, [21] R474. -/
def SCH_PORT_CFG_GUARD (i : Nat) : Fld := ⟨8 * (0x341000 + 0x40 * i) + 21, 1, 1⟩
/-- 10, RO, [11:0]. -/
def SCH_PORT_SHAPER_SHAPER (i : Nat) : Fld := ⟨8 * (0x341004 + 0x40 * i) + 0, 12, 0⟩
/-- 10, RO, [12]. -/
def SCH_PORT_SHAPER_VALID (i : Nat) : Fld := ⟨8 * (0x341004 + 0x40 * i) + 12, 1, 0⟩
/-- 10, RO, [7:0]. -/
def SCH_TC_MODE_STRICT (i : Nat) : Fld := ⟨8 * (0x341008 + 0x40 * i) + 0, 8, 128⟩
/-- 10, RO, [15:8]. -/
def SCH_TC_MODE_ELIGIBLE (i : Nat) : Fld := ⟨8 * (0x341008 + 0x40 * i) + 8, 8, 0⟩
/-- 10, RO, [0]. -/
def SCH_GATE_STATUS_LIST_VALID (i : Nat) : Fld := ⟨8 * (0x34100C + 0x40 * i) + 0, 1, 0⟩
/-- 10, RO, [1]. -/
def SCH_GATE_STATUS_PENDING (i : Nat) : Fld := ⟨8 * (0x34100C + 0x40 * i) + 1, 1, 0⟩
/-- 10, RO, [7:2]. -/
def SCH_GATE_STATUS_ENTRY (i : Nat) : Fld := ⟨8 * (0x34100C + 0x40 * i) + 2, 6, 0⟩
/-- 10, RO, [15:8]. -/
def SCH_GATE_STATUS_OPEN (i : Nat) : Fld := ⟨8 * (0x34100C + 0x40 * i) + 8, 8, 255⟩
/-- 10, RO, [16]. -/
def SCH_GATE_STATUS_REANCHOR_PENDING (i : Nat) : Fld := ⟨8 * (0x34100C + 0x40 * i) + 16, 1, 0⟩
/-- 10, RO, [26:0]. -/
def SCH_GATE_CYCLE_CYCLE (i : Nat) : Fld := ⟨8 * (0x341010 + 0x40 * i) + 0, 27, 0⟩
/-- 10, RO, [31:0]. -/
def SCH_GATE_TAKEOVER_LO_T_LO (i : Nat) : Fld := ⟨8 * (0x341014 + 0x40 * i) + 0, 32, 0⟩
/-- 10, RO, [31:0]. -/
def SCH_GATE_TAKEOVER_HI_T_HI (i : Nat) : Fld := ⟨8 * (0x341018 + 0x40 * i) + 0, 32, 0⟩
/-- 10, RC, [15:0] R475. -/
def SCH_GATE_COUNT_OVERRUN (i : Nat) : Fld := ⟨8 * (0x34101C + 0x40 * i) + 0, 16, 0⟩
/-- 10, RC, [31:16]. -/
def SCH_GATE_COUNT_GUARD_HOLD (i : Nat) : Fld := ⟨8 * (0x34101C + 0x40 * i) + 16, 16, 0⟩
/-- 10, RO, [11:0]. -/
def SCH_TC_CFG_SHAPER (i : Nat) (j : Nat) : Fld := ⟨8 * (0x341020 + 0x40 * i + 0x4 * j) + 0, 12, 0⟩
/-- 10, RO, [12]. -/
def SCH_TC_CFG_VALID (i : Nat) (j : Nat) : Fld := ⟨8 * (0x341020 + 0x40 * i + 0x4 * j) + 12, 1, 0⟩
/-- 10, RO, [31:16]. -/
def SCH_TC_CFG_QUANTUM (i : Nat) (j : Nat) : Fld := ⟨8 * (0x341020 + 0x40 * i + 0x4 * j) + 16, 16, 2048⟩
/-- 11, RO, [9:0]. -/
def ERR_STATUS_LOG_WR : Fld := ⟨8 * (0x380000) + 0, 10, 0⟩
/-- 11, W1C, [10]. -/
def ERR_STATUS_LOG_WRAP : Fld := ⟨8 * (0x380000) + 10, 1, 0⟩
/-- 11, RO, [11]. -/
def ERR_STATUS_BACKLOG : Fld := ⟨8 * (0x380000) + 11, 1, 0⟩
/-- 11, RW, [9:0] R514. -/
def ERR_LOG_RD_LOG_RD : Fld := ⟨8 * (0x380004) + 0, 10, 0⟩
/-- 11, RO, [7:0]. -/
def ERR_ACTIVE0_PORT : Fld := ⟨8 * (0x380008) + 0, 8, 0⟩
/-- 11, RO, [14:8]. -/
def ERR_ACTIVE0_HIER : Fld := ⟨8 * (0x380008) + 8, 7, 0⟩
/-- 11, RO, [25:15]. -/
def ERR_ACTIVE0_GONDOLA : Fld := ⟨8 * (0x380008) + 15, 11, 0⟩
/-- 11, RO, [12:0]. -/
def ERR_ACTIVE1_WINDOW : Fld := ⟨8 * (0x38000C) + 0, 13, 0⟩
/-- 11, RO, [19:13]. -/
def ERR_ACTIVE1_NODE : Fld := ⟨8 * (0x38000C) + 13, 7, 0⟩
/-- 11, W1C, [0]. -/
def ERR_EVENT_CONTAIN_START : Fld := ⟨8 * (0x380010) + 0, 1, 0⟩
/-- 11, W1C, [1]. -/
def ERR_EVENT_CONTAIN_RELEASE : Fld := ⟨8 * (0x380010) + 1, 1, 0⟩
/-- 11, W1C, [2]. -/
def ERR_EVENT_ESCALATED : Fld := ⟨8 * (0x380010) + 2, 1, 0⟩
/-- 11, W1C, [3]. -/
def ERR_EVENT_OVERFLOW : Fld := ⟨8 * (0x380010) + 3, 1, 0⟩
/-- 11, W1C, [4]. -/
def ERR_EVENT_LATE_CPL : Fld := ⟨8 * (0x380010) + 4, 1, 0⟩
/-- 11, W1C, [5]. -/
def ERR_EVENT_CTO : Fld := ⟨8 * (0x380010) + 5, 1, 0⟩
/-- 11, W1C, [6]. -/
def ERR_EVENT_FIRST_CAPTURED : Fld := ⟨8 * (0x380010) + 6, 1, 0⟩
/-- 11, RC, [15:0]. -/
def ERR_CPL_COUNT_CTO : Fld := ⟨8 * (0x380014) + 0, 16, 0⟩
/-- 11, RC, [31:16]. -/
def ERR_CPL_COUNT_LATE_CPL : Fld := ⟨8 * (0x380014) + 16, 16, 0⟩
/-- 11, RO, [15:0]. -/
def ERR_QUAR_QUARANTINED : Fld := ⟨8 * (0x380018) + 0, 16, 0⟩
/-- 11, RC, [31:0]. -/
def ERR_LOG_LOST_LOG_LOST : Fld := ⟨8 * (0x38001C) + 0, 32, 0⟩
/-- 11, RO, [9:0]. -/
def ERR_CFG_HOLD_MS : Fld := ⟨8 * (0x380020) + 0, 10, 10⟩
/-- 11, RO, [14:10]. -/
def ERR_CFG_AUTO_RELEASE : Fld := ⟨8 * (0x380020) + 10, 5, 5⟩
/-- 11, RO, [24:15] R539. -/
def ERR_CFG_FABRIC_TIMEOUT_MS : Fld := ⟨8 * (0x380020) + 15, 10, 10⟩
/-- 11, RW, [2:0]. -/
def ERR_DOM_SEL_LEVEL : Fld := ⟨8 * (0x380100) + 0, 3, 0⟩
/-- 11, RW, [14:3]. -/
def ERR_DOM_SEL_INDEX : Fld := ⟨8 * (0x380100) + 3, 12, 0⟩
/-- 11, WO, [31]. -/
def ERR_DOM_SEL_GO : Fld := ⟨8 * (0x380100) + 31, 1, 0⟩
/-- 11, RO, [0]. -/
def ERR_DOM_STATUS_DONE : Fld := ⟨8 * (0x380104) + 0, 1, 0⟩
/-- 11, RO, [1]. -/
def ERR_DOM_STATUS_BAD_INDEX : Fld := ⟨8 * (0x380104) + 1, 1, 0⟩
/-- 11, RO, [31:0]. -/
def ERR_DOM_DATA_WORD (i : Nat) : Fld := ⟨8 * (0x380140 + 0x4 * i) + 0, 32, 0⟩
/-- 11, RO, [2:0]. -/
def ERR_SRC_DEPTH (i : Nat) : Fld := ⟨8 * (0x380400 + 0x4 * i) + 0, 3, 0⟩
/-- 11, RC, [31:16] R512. -/
def ERR_SRC_OVERFLOW (i : Nat) : Fld := ⟨8 * (0x380400 + 0x4 * i) + 16, 16, 0⟩
/-- 11, RO, [3:0] R539 R203. -/
def ERR_PORT_CTO_DS_TIMEOUT (i : Nat) : Fld := ⟨8 * (0x380800 + 0x4 * i) + 0, 4, 0⟩
/-- 11, RO, [511:0] R507 R456. -/
def ERR_LOG_RECORD (i : Nat) : Fld := ⟨8 * (0x390000 + 0x40 * i) + 0, 512, 0⟩
/-- 12, RO, [3:0]. -/
def BAL_STATUS_N : Fld := ⟨8 * (0x400000) + 0, 4, 0⟩
/-- 12, RO, [7:4]. -/
def BAL_STATUS_W : Fld := ⟨8 * (0x400000) + 4, 4, 0⟩
/-- 12, RO, [8] R552. -/
def BAL_STATUS_POP_ERR : Fld := ⟨8 * (0x400000) + 8, 1, 0⟩
/-- 12, RO, [9] R561. -/
def BAL_STATUS_INIT_BUSY : Fld := ⟨8 * (0x400000) + 9, 1, 0⟩
/-- 12, RO, [10]. -/
def BAL_STATUS_LRDIMM : Fld := ⟨8 * (0x400000) + 10, 1, 0⟩
/-- 12, RO, [12:11]. -/
def BAL_STATUS_DIMMS_PER_CH : Fld := ⟨8 * (0x400000) + 11, 2, 0⟩
/-- 12, RO, [14:13]. -/
def BAL_STATUS_DIMM_SIZE : Fld := ⟨8 * (0x400000) + 13, 2, 0⟩
/-- 12, RO, [17:15]. -/
def BAL_STATUS_RANKS : Fld := ⟨8 * (0x400000) + 15, 3, 0⟩
/-- 12, RO, [28:18]. -/
def BAL_STATUS_CAPACITY : Fld := ⟨8 * (0x400000) + 18, 11, 0⟩
/-- 12, W1C, [0]. -/
def BAL_EVENT_CE : Fld := ⟨8 * (0x400004) + 0, 1, 0⟩
/-- 12, W1C, [1]. -/
def BAL_EVENT_UE : Fld := ⟨8 * (0x400004) + 1, 1, 0⟩
/-- 12, W1C, [2]. -/
def BAL_EVENT_CH_FAILED : Fld := ⟨8 * (0x400004) + 2, 1, 0⟩
/-- 12, W1C, [3]. -/
def BAL_EVENT_INIT_DONE : Fld := ⟨8 * (0x400004) + 3, 1, 0⟩
/-- 12, W1C, [4]. -/
def BAL_EVENT_SCRUB_PASS : Fld := ⟨8 * (0x400004) + 4, 1, 0⟩
/-- 12, RO, [7:0]. -/
def BAL_SCRUB_PERIOD_H : Fld := ⟨8 * (0x400008) + 0, 8, 24⟩
/-- 12, RO, [15:8] R567. -/
def BAL_SCRUB_UE_LIMIT : Fld := ⟨8 * (0x400008) + 8, 8, 16⟩
/-- 12, RO, [25:16]. -/
def BAL_SCRUB_PROGRESS : Fld := ⟨8 * (0x400008) + 16, 10, 0⟩
/-- 12, RO, [16:0]. -/
def BAL_SPILL_SIZE_SPILL_MIB : Fld := ⟨8 * (0x40000C) + 0, 17, 0⟩
/-- 12, RO, [21:17]. -/
def BAL_SPILL_SIZE_STRICT : Fld := ⟨8 * (0x40000C) + 17, 5, 0⟩
/-- 12, RO, [2:0]. -/
def BAL_CH_STATUS_STATE (i : Nat) : Fld := ⟨8 * (0x400100 + 0x40 * i) + 0, 3, 0⟩
/-- 12, RO, [3]. -/
def BAL_CH_STATUS_RESTORED (i : Nat) : Fld := ⟨8 * (0x400100 + 0x40 * i) + 3, 1, 0⟩
/-- 12, RO, [4] R560. -/
def BAL_CH_STATUS_HOT (i : Nat) : Fld := ⟨8 * (0x400100 + 0x40 * i) + 4, 1, 0⟩
/-- 12, RO, [7:5]. -/
def BAL_CH_STATUS_FAIL_CAUSE (i : Nat) : Fld := ⟨8 * (0x400100 + 0x40 * i) + 5, 3, 0⟩
/-- 12, RC, [15:0]. -/
def BAL_CH_ECC_CE_COUNT (i : Nat) : Fld := ⟨8 * (0x400104 + 0x40 * i) + 0, 16, 0⟩
/-- 12, RC, [31:16]. -/
def BAL_CH_ECC_UE_COUNT (i : Nat) : Fld := ⟨8 * (0x400104 + 0x40 * i) + 16, 16, 0⟩
/-- 12, RC, [31:0] R569. -/
def BAL_CH_DISCARD_DISCARDS (i : Nat) : Fld := ⟨8 * (0x400108 + 0x40 * i) + 0, 32, 0⟩
/-- 12, RO, [9:0]. -/
def BAL_WB_STATUS_USED (i : Nat) : Fld := ⟨8 * (0x401000 + 0x4 * i) + 0, 10, 0⟩
/-- 12, RC, [25:16]. -/
def BAL_WB_STATUS_PEAK (i : Nat) : Fld := ⟨8 * (0x401000 + 0x4 * i) + 16, 10, 0⟩
/-- 12, RO, [5:0] R2. -/
def BAL_APERTURE_SIZE_LOG2 (i : Nat) : Fld := ⟨8 * (0x402000 + 0x4 * i) + 0, 6, 0⟩
/-- 12, RO, [13:8]. -/
def BAL_APERTURE_SIZE_LOG2_NEXT (i : Nat) : Fld := ⟨8 * (0x402000 + 0x4 * i) + 8, 6, 0⟩
/-- 12, RW, [11:0]. -/
def BAL_WIN_SEL_WINDOW : Fld := ⟨8 * (0x403000) + 0, 12, 0⟩
/-- 12, WO, [31]. -/
def BAL_WIN_SEL_GO : Fld := ⟨8 * (0x403000) + 31, 1, 0⟩
/-- 12, RO, [0]. -/
def BAL_WIN_STATUS_DONE : Fld := ⟨8 * (0x403004) + 0, 1, 0⟩
/-- 12, RO, [31:0]. -/
def BAL_WIN_DATA_WORD (i : Nat) : Fld := ⟨8 * (0x403010 + 0x4 * i) + 0, 32, 0⟩
/-- 13, RO, [0]. -/
def ORD_BAR_LOAD_COMPLETE (i : Nat) : Fld := ⟨8 * (0x1003000 + 0x10000 * i) + 0, 1, 1⟩
/-- 13, RO, [1]. -/
def ORD_BAR_LOAD_NODE_LOST (i : Nat) : Fld := ⟨8 * (0x1003000 + 0x10000 * i) + 1, 1, 0⟩
/-- 13, RO, [2]. -/
def ORD_BAR_LOAD_PORT_CONTAINED (i : Nat) : Fld := ⟨8 * (0x1003000 + 0x10000 * i) + 2, 1, 0⟩
/-- 13, RO, [3]. -/
def ORD_BAR_LOAD_CHANNEL_FAILED (i : Nat) : Fld := ⟨8 * (0x1003000 + 0x10000 * i) + 3, 1, 0⟩
/-- 13, RO, [31:16]. -/
def ORD_BAR_LOAD_DISCARDS (i : Nat) : Fld := ⟨8 * (0x1003000 + 0x10000 * i) + 16, 16, 0⟩
/-- 13, RO, [63:32]. -/
def ORD_BAR_LOAD_BAR_SEQ (i : Nat) : Fld := ⟨8 * (0x1003000 + 0x10000 * i) + 32, 32, 0⟩
/-- 13, RO, [0]. -/
def ORD_BAR_STORE_COMPLETE (i : Nat) : Fld := ⟨8 * (0x1003008 + 0x10000 * i) + 0, 1, 1⟩
/-- 13, RO, [1]. -/
def ORD_BAR_STORE_NODE_LOST (i : Nat) : Fld := ⟨8 * (0x1003008 + 0x10000 * i) + 1, 1, 0⟩
/-- 13, RO, [2]. -/
def ORD_BAR_STORE_PORT_CONTAINED (i : Nat) : Fld := ⟨8 * (0x1003008 + 0x10000 * i) + 2, 1, 0⟩
/-- 13, RO, [3]. -/
def ORD_BAR_STORE_CHANNEL_FAILED (i : Nat) : Fld := ⟨8 * (0x1003008 + 0x10000 * i) + 3, 1, 0⟩
/-- 13, RO, [31:16]. -/
def ORD_BAR_STORE_DISCARDS (i : Nat) : Fld := ⟨8 * (0x1003008 + 0x10000 * i) + 16, 16, 0⟩
/-- 13, RO, [63:32]. -/
def ORD_BAR_STORE_BAR_SEQ (i : Nat) : Fld := ⟨8 * (0x1003008 + 0x10000 * i) + 32, 32, 0⟩
/-- 13, RO, [0]. -/
def ORD_BAR_FULL_COMPLETE (i : Nat) : Fld := ⟨8 * (0x1003010 + 0x10000 * i) + 0, 1, 1⟩
/-- 13, RO, [1]. -/
def ORD_BAR_FULL_NODE_LOST (i : Nat) : Fld := ⟨8 * (0x1003010 + 0x10000 * i) + 1, 1, 0⟩
/-- 13, RO, [2]. -/
def ORD_BAR_FULL_PORT_CONTAINED (i : Nat) : Fld := ⟨8 * (0x1003010 + 0x10000 * i) + 2, 1, 0⟩
/-- 13, RO, [3]. -/
def ORD_BAR_FULL_CHANNEL_FAILED (i : Nat) : Fld := ⟨8 * (0x1003010 + 0x10000 * i) + 3, 1, 0⟩
/-- 13, RO, [31:16]. -/
def ORD_BAR_FULL_DISCARDS (i : Nat) : Fld := ⟨8 * (0x1003010 + 0x10000 * i) + 16, 16, 0⟩
/-- 13, RO, [63:32]. -/
def ORD_BAR_FULL_BAR_SEQ (i : Nat) : Fld := ⟨8 * (0x1003010 + 0x10000 * i) + 32, 32, 0⟩
/-- 13, WO, [3:0]. -/
def ORD_EPOCH_CLOSE_DOMAIN (i : Nat) : Fld := ⟨8 * (0x1003100 + 0x10000 * i) + 0, 4, 0⟩
/-- 13, WO, [4]. -/
def ORD_EPOCH_CLOSE_MSIX_EN (i : Nat) : Fld := ⟨8 * (0x1003100 + 0x10000 * i) + 4, 1, 0⟩
/-- 13, WO, [26:16]. -/
def ORD_EPOCH_CLOSE_VECTOR (i : Nat) : Fld := ⟨8 * (0x1003100 + 0x10000 * i) + 16, 11, 0⟩
/-- 13, RW, [63:7]. -/
def ORD_EPOCH_CPL_BASE_BASE (i : Nat) : Fld := ⟨8 * (0x1003108 + 0x10000 * i) + 7, 57, 0⟩
/-- 13, RO, [15:0]. -/
def ORD_EPOCH_STATUS_GRANTED (i : Nat) : Fld := ⟨8 * (0x1003110 + 0x10000 * i) + 0, 16, 0⟩
/-- 13, RO, [31:16]. -/
def ORD_EPOCH_STATUS_CLOSING (i : Nat) : Fld := ⟨8 * (0x1003110 + 0x10000 * i) + 16, 16, 0⟩
/-- 13, RO, [63:0]. -/
def ORD_EPOCH_VALUE_EPOCH (i : Nat) (j : Nat) : Fld := ⟨8 * (0x1003180 + 0x10000 * i + 0x8 * j) + 0, 64, 0⟩
/-- 13, RO, [12:0]. -/
def ORD_STATUS_RESV_USED : Fld := ⟨8 * (0x440000) + 0, 13, 0⟩
/-- 13, RO, [27:13]. -/
def ORD_STATUS_MIRROR_QUEUED : Fld := ⟨8 * (0x440000) + 13, 15, 0⟩
/-- 13, W1C, [0]. -/
def ORD_EVENT_CLOSE_DEGRADED : Fld := ⟨8 * (0x440004) + 0, 1, 0⟩
/-- 13, W1C, [1]. -/
def ORD_EVENT_CLOSE_REFUSED : Fld := ⟨8 * (0x440004) + 1, 1, 0⟩
/-- 13, W1C, [2]. -/
def ORD_EVENT_MIRROR_BROKEN : Fld := ⟨8 * (0x440004) + 2, 1, 0⟩
/-- 13, W1C, [3]. -/
def ORD_EVENT_RESYNC_DONE : Fld := ⟨8 * (0x440004) + 3, 1, 0⟩
/-- 13, W1C, [4]. -/
def ORD_EVENT_BARRIER_FAIL : Fld := ⟨8 * (0x440004) + 4, 1, 0⟩
/-- 13, W1C, [5]. -/
def ORD_EVENT_RESV_EVICT : Fld := ⟨8 * (0x440004) + 5, 1, 0⟩
/-- 13, W1C, [6] R616. -/
def ORD_EVENT_CLOSE_REJECTED : Fld := ⟨8 * (0x440004) + 6, 1, 0⟩
/-- 13, RC, [15:0]. -/
def ORD_COUNT_BAR_FAIL : Fld := ⟨8 * (0x440008) + 0, 16, 0⟩
/-- 13, RC, [31:16]. -/
def ORD_COUNT_RESV_EVICT : Fld := ⟨8 * (0x440008) + 16, 16, 0⟩
/-- 13, RO, [0]. -/
def ORD_DOM_CFG_VALID (i : Nat) : Fld := ⟨8 * (0x440100 + 0x40 * i) + 0, 1, 0⟩
/-- 13, RO, [1]. -/
def ORD_DOM_CFG_MIRRORED (i : Nat) : Fld := ⟨8 * (0x440100 + 0x40 * i) + 1, 1, 0⟩
/-- 13, RO, [2]. -/
def ORD_DOM_CFG_MIRROR_TARGET (i : Nat) : Fld := ⟨8 * (0x440100 + 0x40 * i) + 2, 1, 0⟩
/-- 13, RO, [8:3]. -/
def ORD_DOM_CFG_PEER_NODE (i : Nat) : Fld := ⟨8 * (0x440100 + 0x40 * i) + 3, 6, 0⟩
/-- 13, RO, [12:9]. -/
def ORD_DOM_CFG_PEER_DOMAIN (i : Nat) : Fld := ⟨8 * (0x440100 + 0x40 * i) + 9, 4, 0⟩
/-- 13, RO, [13]. -/
def ORD_DOM_CFG_POLICY (i : Nat) : Fld := ⟨8 * (0x440100 + 0x40 * i) + 13, 1, 0⟩
/-- 13, RO, [16:14]. -/
def ORD_DOM_CFG_MIRROR_TC (i : Nat) : Fld := ⟨8 * (0x440100 + 0x40 * i) + 14, 3, 7⟩
/-- 13, RO, [0]. -/
def ORD_DOM_STATUS_CLOSING (i : Nat) : Fld := ⟨8 * (0x440104 + 0x40 * i) + 0, 1, 0⟩
/-- 13, RO, [1]. -/
def ORD_DOM_STATUS_PENDING (i : Nat) : Fld := ⟨8 * (0x440104 + 0x40 * i) + 1, 1, 0⟩
/-- 13, RO, [3:2]. -/
def ORD_DOM_STATUS_MIRROR_STATE (i : Nat) : Fld := ⟨8 * (0x440104 + 0x40 * i) + 2, 2, 0⟩
/-- 13, RO, [4] R632. -/
def ORD_DOM_STATUS_DEGRADED (i : Nat) : Fld := ⟨8 * (0x440104 + 0x40 * i) + 4, 1, 0⟩
/-- 13, RO, [5]. -/
def ORD_DOM_STATUS_DEG_MIRROR (i : Nat) : Fld := ⟨8 * (0x440104 + 0x40 * i) + 5, 1, 0⟩
/-- 13, RO, [6]. -/
def ORD_DOM_STATUS_DEG_LIFT (i : Nat) : Fld := ⟨8 * (0x440104 + 0x40 * i) + 6, 1, 0⟩
/-- 13, RO, [7]. -/
def ORD_DOM_STATUS_DEG_CHANNEL (i : Nat) : Fld := ⟨8 * (0x440104 + 0x40 * i) + 7, 1, 0⟩
/-- 13, RO, [31:0]. -/
def ORD_DOM_EPOCH_LO_EPOCH (i : Nat) : Fld := ⟨8 * (0x440108 + 0x40 * i) + 0, 32, 0⟩
/-- 13, RO, [31:0]. -/
def ORD_DOM_EPOCH_HI_EPOCH (i : Nat) : Fld := ⟨8 * (0x44010C + 0x40 * i) + 0, 32, 0⟩
/-- 13, RO, [31:0]. -/
def ORD_DOM_OFFSET_LO_OFFSET (i : Nat) : Fld := ⟨8 * (0x440110 + 0x40 * i) + 0, 32, 0⟩
/-- 13, RO, [31:0]. -/
def ORD_DOM_OFFSET_HI_OFFSET (i : Nat) : Fld := ⟨8 * (0x440114 + 0x40 * i) + 0, 32, 0⟩
/-- 13, RO, [31:0]. -/
def ORD_DOM_HOSTS_LO_HOSTS (i : Nat) : Fld := ⟨8 * (0x440118 + 0x40 * i) + 0, 32, 0⟩
/-- 13, RO, [15:0]. -/
def ORD_DOM_HOSTS_HI_HOSTS (i : Nat) : Fld := ⟨8 * (0x44011C + 0x40 * i) + 0, 16, 0⟩
/-- 13, RC, [15:0]. -/
def ORD_DOM_CLOSES_CLOSES (i : Nat) : Fld := ⟨8 * (0x440120 + 0x40 * i) + 0, 16, 0⟩
/-- 13, RC, [31:16]. -/
def ORD_DOM_CLOSES_DEGRADED_CLOSES (i : Nat) : Fld := ⟨8 * (0x440120 + 0x40 * i) + 16, 16, 0⟩
/-- 13, RO, [15:0]. -/
def ORD_DOM_TIME_LAST_US (i : Nat) : Fld := ⟨8 * (0x440124 + 0x40 * i) + 0, 16, 0⟩
/-- 13, RC, [31:16]. -/
def ORD_DOM_TIME_MAX_US (i : Nat) : Fld := ⟨8 * (0x440124 + 0x40 * i) + 16, 16, 0⟩
/-- 13, RC, [15:0] R626 R627. -/
def ORD_DOM_REJECT_MIRROR_REJECT (i : Nat) : Fld := ⟨8 * (0x440128 + 0x40 * i) + 0, 16, 0⟩
/-- 13, RC, [31:16] R616. -/
def ORD_DOM_REJECT_CLOSE_REJECTED (i : Nat) : Fld := ⟨8 * (0x440128 + 0x40 * i) + 16, 16, 0⟩
/-- 14, RO, [6:0]. -/
def PEN_STATUS_ENG_ACTIVE : Fld := ⟨8 * (0x500000) + 0, 7, 0⟩
/-- 14, RO, [13:7]. -/
def PEN_STATUS_ENG_FAULTED : Fld := ⟨8 * (0x500000) + 7, 7, 0⟩
/-- 14, RO, [14]. -/
def PEN_STATUS_LIVE_UPDATE : Fld := ⟨8 * (0x500000) + 14, 1, 0⟩
/-- 14, RO, [15] R682. -/
def PEN_STATUS_CTRL_DEGRADED : Fld := ⟨8 * (0x500000) + 15, 1, 0⟩
/-- 14, RO, [26:16]. -/
def PEN_STATUS_OPS : Fld := ⟨8 * (0x500000) + 16, 11, 0⟩
/-- 14, RO, [7:0]. -/
def PEN_FW_VERSION_PATCH : Fld := ⟨8 * (0x500004) + 0, 8, 0⟩
/-- 14, RO, [15:8]. -/
def PEN_FW_VERSION_MINOR : Fld := ⟨8 * (0x500004) + 8, 8, 0⟩
/-- 14, RO, [23:16]. -/
def PEN_FW_VERSION_MAJOR : Fld := ⟨8 * (0x500004) + 16, 8, 0⟩
/-- 14, RO, [7:0]. -/
def PEN_SVC_VERSION_PATCH : Fld := ⟨8 * (0x500008) + 0, 8, 0⟩
/-- 14, RO, [15:8]. -/
def PEN_SVC_VERSION_MINOR : Fld := ⟨8 * (0x500008) + 8, 8, 0⟩
/-- 14, RO, [23:16]. -/
def PEN_SVC_VERSION_MAJOR : Fld := ⟨8 * (0x500008) + 16, 8, 0⟩
/-- 14, W1C, [0]. -/
def PEN_EVENT_ENG_FAULT : Fld := ⟨8 * (0x50000C) + 0, 1, 0⟩
/-- 14, W1C, [1] R677. -/
def PEN_EVENT_WATCHDOG : Fld := ⟨8 * (0x50000C) + 1, 1, 0⟩
/-- 14, W1C, [2]. -/
def PEN_EVENT_LMEM_CE : Fld := ⟨8 * (0x50000C) + 2, 1, 0⟩
/-- 14, W1C, [3] R668 R680. -/
def PEN_EVENT_REALLOC : Fld := ⟨8 * (0x50000C) + 3, 1, 0⟩
/-- 14, W1C, [4]. -/
def PEN_EVENT_LIVE_DONE : Fld := ⟨8 * (0x50000C) + 4, 1, 0⟩
/-- 14, W1C, [5] R657. -/
def PEN_EVENT_LOG_FULL : Fld := ⟨8 * (0x50000C) + 5, 1, 0⟩
/-- 14, RO, [4:0]. -/
def PEN_ALLOC_MIRROR : Fld := ⟨8 * (0x500010) + 0, 5, 4⟩
/-- 14, RO, [10:5]. -/
def PEN_ALLOC_LOG : Fld := ⟨8 * (0x500010) + 5, 6, 8⟩
/-- 14, RO, [17:11]. -/
def PEN_ALLOC_GENERAL : Fld := ⟨8 * (0x500010) + 11, 7, 74⟩
/-- 14, RC, [15:0]. -/
def PEN_LMEM_ECC_LMEM_CE : Fld := ⟨8 * (0x500014) + 0, 16, 0⟩
/-- 14, RC, [31:16]. -/
def PEN_LMEM_ECC_LMEM_UE : Fld := ⟨8 * (0x500014) + 16, 16, 0⟩
/-- 14, RO, [2:0]. -/
def PEN_ENG_STATUS_STATE (i : Nat) : Fld := ⟨8 * (0x501000 + 0x10 * i) + 0, 3, 0⟩
/-- 14, RO, [6:3]. -/
def PEN_ENG_STATUS_GROUP (i : Nat) : Fld := ⟨8 * (0x501000 + 0x10 * i) + 3, 4, 0⟩
/-- 14, RO, [16:7]. -/
def PEN_ENG_STATUS_GONDOLA (i : Nat) : Fld := ⟨8 * (0x501000 + 0x10 * i) + 7, 10, 0⟩
/-- 14, RO, [17]. -/
def PEN_ENG_STATUS_GONDOLA_VALID (i : Nat) : Fld := ⟨8 * (0x501000 + 0x10 * i) + 17, 1, 0⟩
/-- 14, RO, [20:18]. -/
def PEN_ENG_STATUS_FAULT_CAUSE (i : Nat) : Fld := ⟨8 * (0x501000 + 0x10 * i) + 18, 3, 0⟩
/-- 14, RC, [31:0]. -/
def PEN_ENG_STEPS_STEPS (i : Nat) : Fld := ⟨8 * (0x501004 + 0x10 * i) + 0, 32, 0⟩
/-- 14, RO, [0]. -/
def PEN_LOG_CFG_VALID (i : Nat) : Fld := ⟨8 * (0x504000 + 0x40 * i) + 0, 1, 0⟩
/-- 14, RO, [4:1]. -/
def PEN_LOG_CFG_DOMAIN (i : Nat) : Fld := ⟨8 * (0x504000 + 0x40 * i) + 1, 4, 0⟩
/-- 14, RO, [10:5]. -/
def PEN_LOG_CFG_RING_LOG2 (i : Nat) : Fld := ⟨8 * (0x504000 + 0x40 * i) + 5, 6, 0⟩
/-- 14, RO, [17:11]. -/
def PEN_LOG_CFG_WINDOW_US (i : Nat) : Fld := ⟨8 * (0x504000 + 0x40 * i) + 11, 7, 0⟩
/-- 14, RO, [28:18]. -/
def PEN_LOG_CFG_MAX_BATCH (i : Nat) : Fld := ⟨8 * (0x504000 + 0x40 * i) + 18, 11, 0⟩
/-- 14, RO, [29]. -/
def PEN_LOG_CFG_LAST_DEGRADED (i : Nat) : Fld := ⟨8 * (0x504000 + 0x40 * i) + 29, 1, 0⟩
/-- 14, RO, [31:0]. -/
def PEN_LOG_TAIL_LO_LSN (i : Nat) : Fld := ⟨8 * (0x504008 + 0x40 * i) + 0, 32, 0⟩
/-- 14, RO, [31:0]. -/
def PEN_LOG_TAIL_HI_LSN (i : Nat) : Fld := ⟨8 * (0x50400C + 0x40 * i) + 0, 32, 0⟩
/-- 14, RO, [31:0]. -/
def PEN_LOG_COMMIT_LO_LSN (i : Nat) : Fld := ⟨8 * (0x504010 + 0x40 * i) + 0, 32, 0⟩
/-- 14, RO, [31:0]. -/
def PEN_LOG_COMMIT_HI_LSN (i : Nat) : Fld := ⟨8 * (0x504014 + 0x40 * i) + 0, 32, 0⟩
/-- 14, RO, [31:0]. -/
def PEN_LOG_HEAD_LO_LSN (i : Nat) : Fld := ⟨8 * (0x504018 + 0x40 * i) + 0, 32, 0⟩
/-- 14, RO, [31:0]. -/
def PEN_LOG_HEAD_HI_LSN (i : Nat) : Fld := ⟨8 * (0x50401C + 0x40 * i) + 0, 32, 0⟩
/-- 14, RC, [15:0]. -/
def PEN_LOG_COUNT_APPENDS (i : Nat) : Fld := ⟨8 * (0x504020 + 0x40 * i) + 0, 16, 0⟩
/-- 14, RC, [31:16] R657. -/
def PEN_LOG_COUNT_FULL (i : Nat) : Fld := ⟨8 * (0x504020 + 0x40 * i) + 16, 16, 0⟩
/-- 15, RW, [15:0]. -/
def YCP_MBX_REQ_TAIL (m : Nat) : Fld := ⟨8 * (0xC00 + mbxBase m) + 0, 16, 0⟩
/-- 15, RO, [31:16]. -/
def YCP_MBX_REQ_HEAD (m : Nat) : Fld := ⟨8 * (0xC00 + mbxBase m) + 16, 16, 0⟩
/-- 15, RO, [15:0]. -/
def YCP_MBX_RSP_TAIL (m : Nat) : Fld := ⟨8 * (0xC04 + mbxBase m) + 0, 16, 0⟩
/-- 15, RW, [31:16]. -/
def YCP_MBX_RSP_HEAD (m : Nat) : Fld := ⟨8 * (0xC04 + mbxBase m) + 16, 16, 0⟩
/-- 15, RW, [10:0] R698. -/
def YCP_MBX_CTRL_VECTOR (m : Nat) : Fld := ⟨8 * (0xC08 + mbxBase m) + 0, 11, 0⟩
/-- 15, RW, [11]. -/
def YCP_MBX_CTRL_INT_EN (m : Nat) : Fld := ⟨8 * (0xC08 + mbxBase m) + 11, 1, 0⟩
/-- 15, W1C, [0] R697. -/
def YCP_MBX_STATUS_OVERRUN (m : Nat) : Fld := ⟨8 * (0xC0C + mbxBase m) + 0, 1, 0⟩
/-- 15, W1C, [1] R697. -/
def YCP_MBX_STATUS_BAD_HEAD (m : Nat) : Fld := ⟨8 * (0xC0C + mbxBase m) + 1, 1, 0⟩
/-- 15, RO, [12:8]. -/
def YCP_MBX_STATUS_NOT_FINAL (m : Nat) : Fld := ⟨8 * (0xC0C + mbxBase m) + 8, 5, 0⟩
/-- 15, WO, [15:0]. -/
def YCP_SPOOL_DB_INDEX (i : Nat) (j : Nat) : Fld := ⟨8 * (0x1004000 + 0x10000 * i + 0x8 * j) + 0, 16, 0⟩
/-- 15, RO, [15:0]. -/
def YCP_STATUS_SPOOLS_USED : Fld := ⟨8 * (0x601000) + 0, 16, 0⟩
/-- 15, W1C, [0] R704. -/
def YCP_EVENT_SPOOL_ERR : Fld := ⟨8 * (0x601004) + 0, 1, 0⟩
/-- 15, W1C, [1]. -/
def YCP_EVENT_MBX_ERR : Fld := ⟨8 * (0x601004) + 1, 1, 0⟩
/-- 15, W1C, [2] R705. -/
def YCP_EVENT_STATUS_HELD : Fld := ⟨8 * (0x601004) + 2, 1, 0⟩
/-- 15, RW, [14:0]. -/
def YCP_IND_SEL_SPOOL : Fld := ⟨8 * (0x601010) + 0, 15, 0⟩
/-- 15, WO, [31]. -/
def YCP_IND_SEL_GO : Fld := ⟨8 * (0x601010) + 31, 1, 0⟩
/-- 15, RO, [0]. -/
def YCP_IND_STATUS_DONE : Fld := ⟨8 * (0x601014) + 0, 1, 0⟩
/-- 15, RO, [31:0]. -/
def YCP_IND_DATA_WORD (i : Nat) : Fld := ⟨8 * (0x601020 + 0x4 * i) + 0, 32, 0⟩
/-- 16, RO, [10:0]. -/
def YCP_GND_COUNT_USED : Fld := ⟨8 * (0x602000) + 0, 11, 0⟩
/-- 16, RO, [16] R770. -/
def YCP_GND_COUNT_TABLE_RESTORED : Fld := ⟨8 * (0x602000) + 16, 1, 0⟩
/-- 16, RW, [9:0]. -/
def YCP_GND_SEL_GONDOLA : Fld := ⟨8 * (0x602004) + 0, 10, 0⟩
/-- 16, WO, [31]. -/
def YCP_GND_SEL_GO : Fld := ⟨8 * (0x602004) + 31, 1, 0⟩
/-- 16, RO, [0]. -/
def YCP_GND_STATUS_DONE : Fld := ⟨8 * (0x602008) + 0, 1, 0⟩
/-- 16, RO, [31:0]. -/
def YCP_GND_DATA_WORD (i : Nat) : Fld := ⟨8 * (0x602010 + 0x4 * i) + 0, 32, 0⟩
/-- 17, RO, [2:0]. -/
def PWR_STATUS_STATE : Fld := ⟨8 * (0x700000) + 0, 3, 0⟩
/-- 17, RO, [3]. -/
def PWR_STATUS_ENTERING : Fld := ⟨8 * (0x700000) + 3, 1, 0⟩
/-- 17, RO, [4]. -/
def PWR_STATUS_DELAY : Fld := ⟨8 * (0x700000) + 4, 1, 0⟩
/-- 17, RO, [30:0]. -/
def PWR_DOM_ON_ON : Fld := ⟨8 * (0x700004) + 0, 31, 0⟩
/-- 17, RO, [30:0]. -/
def PWR_MGMT_VOTE_MASK : Fld := ⟨8 * (0x700008) + 0, 31, 2147483647⟩
/-- 17, RO, [31]. -/
def PWR_MGMT_VOTE_HELD : Fld := ⟨8 * (0x700008) + 31, 1, 1⟩
/-- 17, RO, [4:0]. -/
def PWR_LAST_WAKE_SOURCE : Fld := ⟨8 * (0x70000C) + 0, 5, 0⟩
/-- 17, RO, [7:5]. -/
def PWR_LAST_WAKE_FROM_STATE : Fld := ⟨8 * (0x70000C) + 5, 3, 0⟩
/-- 17, RO, [14:8]. -/
def PWR_LAST_WAKE_INDEX : Fld := ⟨8 * (0x70000C) + 8, 7, 0⟩
/-- 17, RO, [31:0]. -/
def PWR_LAST_WAKE_TIME_LO_TIME : Fld := ⟨8 * (0x700010) + 0, 32, 0⟩
/-- 17, RO, [31:0]. -/
def PWR_LAST_WAKE_TIME_HI_TIME : Fld := ⟨8 * (0x700014) + 0, 32, 0⟩
/-- 17, W1C, [0]. -/
def PWR_EVENT_SLEEP : Fld := ⟨8 * (0x700018) + 0, 1, 0⟩
/-- 17, W1C, [1]. -/
def PWR_EVENT_WAKE : Fld := ⟨8 * (0x700018) + 1, 1, 0⟩
/-- 17, W1C, [2] R782. -/
def PWR_EVENT_ABANDONED : Fld := ⟨8 * (0x700018) + 2, 1, 0⟩
/-- 17, W1C, [3]. -/
def PWR_EVENT_FORCED_DEEP : Fld := ⟨8 * (0x700018) + 3, 1, 0⟩
/-- 17, RC, [15:0]. -/
def PWR_COUNT_SLEEPS : Fld := ⟨8 * (0x70001C) + 0, 16, 0⟩
/-- 17, RC, [31:16]. -/
def PWR_COUNT_ABANDONS : Fld := ⟨8 * (0x70001C) + 16, 16, 0⟩
/-- 17, RO, [11:0] R774. -/
def PWR_DOM_VOTES_COUNT (i : Nat) : Fld := ⟨8 * (0x700100 + 0x4 * i) + 0, 12, 0⟩
/-- 17, RO, [12]. -/
def PWR_DOM_VOTES_HOST (i : Nat) : Fld := ⟨8 * (0x700100 + 0x4 * i) + 12, 1, 0⟩
/-- 17, RO, [13]. -/
def PWR_DOM_VOTES_MGMT (i : Nat) : Fld := ⟨8 * (0x700100 + 0x4 * i) + 13, 1, 1⟩
/-- 17, RO, [14]. -/
def PWR_DOM_VOTES_GONDOLA (i : Nat) : Fld := ⟨8 * (0x700100 + 0x4 * i) + 14, 1, 0⟩
/-- 17, RO, [15]. -/
def PWR_DOM_VOTES_TETHER (i : Nat) : Fld := ⟨8 * (0x700100 + 0x4 * i) + 15, 1, 0⟩
/-- 17, RO, [16]. -/
def PWR_DOM_VOTES_INTERNAL (i : Nat) : Fld := ⟨8 * (0x700100 + 0x4 * i) + 16, 1, 0⟩
/-- 18, RO, [0] R796. -/
def PDI_STATUS_FEED_A_OK : Fld := ⟨8 * (0x10000) + 0, 1, 0⟩
/-- 18, RO, [1] R796. -/
def PDI_STATUS_FEED_B_OK : Fld := ⟨8 * (0x10000) + 1, 1, 0⟩
/-- 18, RO, [2]. -/
def PDI_STATUS_FEED_A_OV : Fld := ⟨8 * (0x10000) + 2, 1, 0⟩
/-- 18, RO, [3]. -/
def PDI_STATUS_FEED_B_OV : Fld := ⟨8 * (0x10000) + 3, 1, 0⟩
/-- 18, RO, [4]. -/
def PDI_STATUS_EW : Fld := ⟨8 * (0x10000) + 4, 1, 0⟩
/-- 18, RO, [5]. -/
def PDI_STATUS_BKP_A : Fld := ⟨8 * (0x10000) + 5, 1, 0⟩
/-- 18, RO, [6]. -/
def PDI_STATUS_BKP_B : Fld := ⟨8 * (0x10000) + 6, 1, 0⟩
/-- 18, RO, [7]. -/
def PDI_STATUS_BKP_L : Fld := ⟨8 * (0x10000) + 7, 1, 0⟩
/-- 18, RO, [10:8]. -/
def PDI_STATUS_CONV_MODE : Fld := ⟨8 * (0x10000) + 8, 3, 0⟩
/-- 18, RO, [31:16]. -/
def PDI_STATUS_BKP_MV : Fld := ⟨8 * (0x10000) + 16, 16, 0⟩
/-- 18, W1C, [0]. -/
def PDI_EVENT_FEED_A_LOST : Fld := ⟨8 * (0x10004) + 0, 1, 0⟩
/-- 18, W1C, [1]. -/
def PDI_EVENT_FEED_B_LOST : Fld := ⟨8 * (0x10004) + 1, 1, 0⟩
/-- 18, W1C, [2]. -/
def PDI_EVENT_FEED_A_RETURN : Fld := ⟨8 * (0x10004) + 2, 1, 0⟩
/-- 18, W1C, [3]. -/
def PDI_EVENT_FEED_B_RETURN : Fld := ⟨8 * (0x10004) + 3, 1, 0⟩
/-- 18, W1C, [4]. -/
def PDI_EVENT_EW_FIRED : Fld := ⟨8 * (0x10004) + 4, 1, 0⟩
/-- 18, W1C, [5]. -/
def PDI_EVENT_LIFT_INSERTED : Fld := ⟨8 * (0x10004) + 5, 1, 0⟩
/-- 18, W1C, [6]. -/
def PDI_EVENT_LIFT_REMOVED : Fld := ⟨8 * (0x10004) + 6, 1, 0⟩
/-- 18, W1C, [7] R848. -/
def PDI_EVENT_LIFT_BAD_ID : Fld := ⟨8 * (0x10004) + 7, 1, 0⟩
/-- 18, W1C, [8] R836. -/
def PDI_EVENT_LIFT_EOL : Fld := ⟨8 * (0x10004) + 8, 1, 0⟩
/-- 18, W1C, [9]. -/
def PDI_EVENT_LIFT_TEST_DONE : Fld := ⟨8 * (0x10004) + 9, 1, 0⟩
/-- 18, W1C, [10] R840. -/
def PDI_EVENT_CHARGE_HOLD : Fld := ⟨8 * (0x10004) + 10, 1, 0⟩
/-- 18, W1C, [11]. -/
def PDI_EVENT_RESERVE_LOST : Fld := ⟨8 * (0x10004) + 11, 1, 0⟩
/-- 18, W1C, [12]. -/
def PDI_EVENT_RESERVE_REACHED : Fld := ⟨8 * (0x10004) + 12, 1, 0⟩
/-- 18, W1C, [13]. -/
def PDI_EVENT_SC_ANY : Fld := ⟨8 * (0x10004) + 13, 1, 0⟩
/-- 18, RO, [0]. -/
def PDI_LIFT_STATUS_PRESENT : Fld := ⟨8 * (0x10010) + 0, 1, 0⟩
/-- 18, RO, [1] R832. -/
def PDI_LIFT_STATUS_ID_VALID : Fld := ⟨8 * (0x10010) + 1, 1, 0⟩
/-- 18, RO, [2]. -/
def PDI_LIFT_STATUS_FET_CLOSED : Fld := ⟨8 * (0x10010) + 2, 1, 0⟩
/-- 18, RO, [3] R835. -/
def PDI_LIFT_STATUS_HEALTHY : Fld := ⟨8 * (0x10010) + 3, 1, 0⟩
/-- 18, RO, [4] R836. -/
def PDI_LIFT_STATUS_EOL : Fld := ⟨8 * (0x10010) + 4, 1, 0⟩
/-- 18, RO, [5] R839. -/
def PDI_LIFT_STATUS_RESERVE_OK : Fld := ⟨8 * (0x10010) + 5, 1, 0⟩
/-- 18, RO, [6]. -/
def PDI_LIFT_STATUS_CHARGE_HOLD : Fld := ⟨8 * (0x10010) + 6, 1, 0⟩
/-- 18, RO, [7]. -/
def PDI_LIFT_STATUS_TEST_RUNNING : Fld := ⟨8 * (0x10010) + 7, 1, 0⟩
/-- 18, RO, [15:8]. -/
def PDI_LIFT_STATUS_TEMP_C : Fld := ⟨8 * (0x10010) + 8, 8, 0⟩
/-- 18, RO, [31:16]. -/
def PDI_LIFT_STATUS_HOURS_SINCE_TEST : Fld := ⟨8 * (0x10010) + 16, 16, 0⟩
/-- 18, RO, [15:0] R837. -/
def PDI_LIFT_HEALTH_CAP_MF : Fld := ⟨8 * (0x10014) + 0, 16, 0⟩
/-- 18, RO, [31:16]. -/
def PDI_LIFT_HEALTH_ESR_10UOHM : Fld := ⟨8 * (0x10014) + 16, 16, 0⟩
/-- 18, RO, [15:0] R838. -/
def PDI_LIFT_ENERGY_AVAIL_J : Fld := ⟨8 * (0x10018) + 0, 16, 0⟩
/-- 18, RO, [31:16]. -/
def PDI_LIFT_ENERGY_RESERVE_J : Fld := ⟨8 * (0x10018) + 16, 16, 1200⟩
/-- 18, RO, [31:0]. -/
def PDI_LIFT_EEPROM_BYTES (i : Nat) : Fld := ⟨8 * (0x10080 + 0x4 * i) + 0, 32, 0⟩
/-- 18, RO, [0] R822. -/
def PDI_SC_CFG_ENABLE (i : Nat) : Fld := ⟨8 * (0x10200 + 0x10 * i) + 0, 1, 1⟩
/-- 18, RO, [13:1]. -/
def PDI_SC_CFG_TRIP_MA (i : Nat) : Fld := ⟨8 * (0x10200 + 0x10 * i) + 1, 13, 6250⟩
/-- 18, RO, [21:14]. -/
def PDI_SC_CFG_TIMER (i : Nat) : Fld := ⟨8 * (0x10200 + 0x10 * i) + 14, 8, 20⟩
/-- 18, RO, [24:22]. -/
def PDI_SC_CFG_RETRIES (i : Nat) : Fld := ⟨8 * (0x10200 + 0x10 * i) + 22, 3, 3⟩
/-- 18, RO, [31:25]. -/
def PDI_SC_CFG_SENSE (i : Nat) : Fld := ⟨8 * (0x10200 + 0x10 * i) + 25, 7, 25⟩
/-- 18, RO, [2:0]. -/
def PDI_SC_STATUS_STATE (i : Nat) : Fld := ⟨8 * (0x10204 + 0x10 * i) + 0, 3, 0⟩
/-- 18, RO, [3]. -/
def PDI_SC_STATUS_PGOOD (i : Nat) : Fld := ⟨8 * (0x10204 + 0x10 * i) + 3, 1, 0⟩
/-- 18, RO, [4]. -/
def PDI_SC_STATUS_TIMER_RUNNING (i : Nat) : Fld := ⟨8 * (0x10204 + 0x10 * i) + 4, 1, 0⟩
/-- 18, RO, [7:5]. -/
def PDI_SC_STATUS_RETRIES_LEFT (i : Nat) : Fld := ⟨8 * (0x10204 + 0x10 * i) + 5, 3, 0⟩
/-- 18, RO, [10:8]. -/
def PDI_SC_STATUS_LAST_CAUSE (i : Nat) : Fld := ⟨8 * (0x10204 + 0x10 * i) + 8, 3, 0⟩
/-- 18, RO, [11]. -/
def PDI_SC_STATUS_EN_3V3 (i : Nat) : Fld := ⟨8 * (0x10204 + 0x10 * i) + 11, 1, 0⟩
/-- 18, RO, [12]. -/
def PDI_SC_STATUS_PERST_LOW (i : Nat) : Fld := ⟨8 * (0x10204 + 0x10 * i) + 12, 1, 1⟩
/-- 18, RO, [19:16]. -/
def PDI_SC_STATUS_PRSNT (i : Nat) : Fld := ⟨8 * (0x10204 + 0x10 * i) + 16, 4, 0⟩
/-- 18, RO, [23:20]. -/
def PDI_SC_STATUS_BTN (i : Nat) : Fld := ⟨8 * (0x10204 + 0x10 * i) + 20, 4, 0⟩
/-- 18, W1C, [0] R816. -/
def PDI_SC_EVENT_FAULT (i : Nat) : Fld := ⟨8 * (0x10208 + 0x10 * i) + 0, 1, 0⟩
/-- 18, W1C, [1]. -/
def PDI_SC_EVENT_LATCHED (i : Nat) : Fld := ⟨8 * (0x10208 + 0x10 * i) + 1, 1, 0⟩
/-- 18, W1C, [2] R822. -/
def PDI_SC_EVENT_GATE_STUCK (i : Nat) : Fld := ⟨8 * (0x10208 + 0x10 * i) + 2, 1, 0⟩
/-- 18, W1C, [3] R819. -/
def PDI_SC_EVENT_FET_SHORT (i : Nat) : Fld := ⟨8 * (0x10208 + 0x10 * i) + 3, 1, 0⟩
/-- 18, W1C, [4]. -/
def PDI_SC_EVENT_PGOOD_UP (i : Nat) : Fld := ⟨8 * (0x10208 + 0x10 * i) + 4, 1, 0⟩
/-- 18, W1C, [5]. -/
def PDI_SC_EVENT_PGOOD_DOWN (i : Nat) : Fld := ⟨8 * (0x10208 + 0x10 * i) + 5, 1, 0⟩
/-- 18, RC, [15:0]. -/
def PDI_SC_COUNT_TRIPS (i : Nat) : Fld := ⟨8 * (0x1020C + 0x10 * i) + 0, 16, 0⟩
/-- 18, RC, [31:16]. -/
def PDI_SC_COUNT_FAST_TRIPS (i : Nat) : Fld := ⟨8 * (0x1020C + 0x10 * i) + 16, 16, 0⟩
/-- 18, RO, [15:0]. -/
def PDI_MTR_VI_VOLT_MV (i : Nat) : Fld := ⟨8 * (0x11000 + 0x20 * i) + 0, 16, 0⟩
/-- 18, RO, [31:16] R827. -/
def PDI_MTR_VI_CURR_MA (i : Nat) : Fld := ⟨8 * (0x11000 + 0x20 * i) + 16, 16, 0⟩
/-- 18, RO, [31:0]. -/
def PDI_MTR_POWER_POWER_MW (i : Nat) : Fld := ⟨8 * (0x11004 + 0x20 * i) + 0, 32, 0⟩
/-- 18, RO, [31:0]. -/
def PDI_MTR_ENERGY_LO_ENERGY (i : Nat) : Fld := ⟨8 * (0x11008 + 0x20 * i) + 0, 32, 0⟩
/-- 18, RO, [31:0]. -/
def PDI_MTR_ENERGY_HI_ENERGY (i : Nat) : Fld := ⟨8 * (0x1100C + 0x20 * i) + 0, 32, 0⟩
/-- 18, RO, [31:0]. -/
def PDI_MTR_ENERGY2_LO_ENERGY (i : Nat) : Fld := ⟨8 * (0x11014 + 0x20 * i) + 0, 32, 0⟩
/-- 18, RO, [31:0]. -/
def PDI_MTR_ENERGY2_HI_ENERGY (i : Nat) : Fld := ⟨8 * (0x11018 + 0x20 * i) + 0, 32, 0⟩
/-- 18, RC, [15:0]. -/
def PDI_MTR_PEAK_PEAK_MA (i : Nat) : Fld := ⟨8 * (0x11010 + 0x20 * i) + 0, 16, 0⟩
/-- 19, RO, [2:0]. -/
def MOR_STATUS_STATE : Fld := ⟨8 * (0x740000) + 0, 3, 0⟩
/-- 19, RO, [3] R861. -/
def MOR_STATUS_SPILL_ELIGIBLE : Fld := ⟨8 * (0x740000) + 3, 1, 0⟩
/-- 19, RO, [4]. -/
def MOR_STATUS_IMAGE_VALID : Fld := ⟨8 * (0x740000) + 4, 1, 0⟩
/-- 19, RO, [5] R883. -/
def MOR_STATUS_IMAGE_STALE : Fld := ⟨8 * (0x740000) + 5, 1, 0⟩
/-- 19, RO, [6] R889. -/
def MOR_STATUS_RESTORE_INCOMPLETE : Fld := ⟨8 * (0x740000) + 6, 1, 0⟩
/-- 19, RO, [9:7]. -/
def MOR_STATUS_LAST_RESUME : Fld := ⟨8 * (0x740000) + 7, 3, 0⟩
/-- 19, W1C, [0]. -/
def MOR_EVENT_MOORED : Fld := ⟨8 * (0x740004) + 0, 1, 0⟩
/-- 19, W1C, [1]. -/
def MOR_EVENT_SPILL_DONE : Fld := ⟨8 * (0x740004) + 1, 1, 0⟩
/-- 19, W1C, [2]. -/
def MOR_EVENT_SPILL_FAIL : Fld := ⟨8 * (0x740004) + 2, 1, 0⟩
/-- 19, W1C, [3]. -/
def MOR_EVENT_RESUMED : Fld := ⟨8 * (0x740004) + 3, 1, 0⟩
/-- 19, W1C, [4] R885. -/
def MOR_EVENT_IMAGE_BAD : Fld := ⟨8 * (0x740004) + 4, 1, 0⟩
/-- 19, W1C, [5]. -/
def MOR_EVENT_CHUNK_BAD : Fld := ⟨8 * (0x740004) + 5, 1, 0⟩
/-- 19, RO, [11:0]. -/
def MOR_CFG_RESERVE_J : Fld := ⟨8 * (0x740008) + 0, 12, 1200⟩
/-- 19, RO, [12]. -/
def MOR_CFG_SPILL_EN : Fld := ⟨8 * (0x740008) + 12, 1, 1⟩
/-- 19, RO, [13]. -/
def MOR_CFG_TARGET_EN : Fld := ⟨8 * (0x740008) + 13, 1, 0⟩
/-- 19, RO, [20:14]. -/
def MOR_CFG_PORT0 : Fld := ⟨8 * (0x740008) + 14, 7, 0⟩
/-- 19, RO, [27:21]. -/
def MOR_CFG_PORT1 : Fld := ⟨8 * (0x740008) + 21, 7, 0⟩
/-- 19, RO, [31:0]. -/
def MOR_SPILL_NS0_NSID : Fld := ⟨8 * (0x74000C) + 0, 32, 0⟩
/-- 19, RO, [31:0]. -/
def MOR_SPILL_NS1_NSID : Fld := ⟨8 * (0x740010) + 0, 32, 0⟩
/-- 19, RO, [31:0]. -/
def MOR_SPILL_LBA0_LO_LBA : Fld := ⟨8 * (0x740014) + 0, 32, 0⟩
/-- 19, RO, [31:0]. -/
def MOR_SPILL_LBA0_HI_LBA : Fld := ⟨8 * (0x740018) + 0, 32, 0⟩
/-- 19, RO, [31:0]. -/
def MOR_SPILL_LBA1_LO_LBA : Fld := ⟨8 * (0x74001C) + 0, 32, 0⟩
/-- 19, RO, [31:0]. -/
def MOR_SPILL_LBA1_HI_LBA : Fld := ⟨8 * (0x740020) + 0, 32, 0⟩
/-- 19, RO, [15:0]. -/
def MOR_COUNT_MOORINGS : Fld := ⟨8 * (0x740024) + 0, 16, 0⟩
/-- 19, RO, [31:16]. -/
def MOR_COUNT_SPILLS : Fld := ⟨8 * (0x740024) + 16, 16, 0⟩
/-- 19, RO, [15:0]. -/
def MOR_DRAIN_DRAIN_US : Fld := ⟨8 * (0x740028) + 0, 16, 0⟩
/-- 19, RO, [31:16] R29. -/
def MOR_DRAIN_DISCARDS : Fld := ⟨8 * (0x740028) + 16, 16, 0⟩
/-- 19, RO, [31:0]. -/
def MOR_DRAIN_TIME_LO_TIME : Fld := ⟨8 * (0x74002C) + 0, 32, 0⟩
/-- 19, RO, [31:0]. -/
def MOR_DRAIN_TIME_HI_TIME : Fld := ⟨8 * (0x740030) + 0, 32, 0⟩
/-- 19, RO, [31:0]. -/
def MOR_RETAIN_EST_LO_TIME : Fld := ⟨8 * (0x740040) + 0, 32, 0⟩
/-- 19, RO, [31:0]. -/
def MOR_RETAIN_EST_HI_TIME : Fld := ⟨8 * (0x740044) + 0, 32, 0⟩
/-- 19, RO, [15:0]. -/
def MOR_RESUME_RESUME_MS : Fld := ⟨8 * (0x740034) + 0, 16, 0⟩
/-- 19, RO, [31:16]. -/
def MOR_RESUME_RETAINED_S : Fld := ⟨8 * (0x740034) + 16, 16, 0⟩
/-- 19, RO, [16:0]. -/
def MOR_RESTORE_CHUNKS_LEFT : Fld := ⟨8 * (0x740038) + 0, 17, 0⟩
/-- 19, RO, [31:17] R886. -/
def MOR_RESTORE_BAD_CHUNKS : Fld := ⟨8 * (0x740038) + 17, 15, 0⟩
/-- 19, RO, [8:0]. -/
def MOR_LOG_COUNT_RECORDS : Fld := ⟨8 * (0x74003C) + 0, 9, 0⟩
/-- 20, RO, [5:0]. -/
def HV_ID_HOST (i : Nat) : Fld := ⟨8 * (0x1000000 + 0x10000 * i) + 0, 6, i⟩
/-- 20, RO, [11:6]. -/
def HV_ID_NODE_ID (i : Nat) : Fld := ⟨8 * (0x1000000 + 0x10000 * i) + 6, 6, 0⟩
/-- 20, RO, [12]. -/
def HV_ID_NODE_VALID (i : Nat) : Fld := ⟨8 * (0x1000000 + 0x10000 * i) + 12, 1, 0⟩
/-- 20, RO, [13]. -/
def HV_ID_IS_MGMT (i : Nat) : Fld := ⟨8 * (0x1000000 + 0x10000 * i) + 13, 1, 0⟩
/-- 20, RO, [21:14]. -/
def HV_ID_FW_MAJOR (i : Nat) : Fld := ⟨8 * (0x1000000 + 0x10000 * i) + 14, 8, 0⟩
/-- 20, RO, [15:0]. -/
def HV_ERR_INDEX_WR (i : Nat) : Fld := ⟨8 * (0x1002800 + 0x10000 * i) + 0, 16, 0⟩
/-- 20, RW, [31:16]. -/
def HV_ERR_INDEX_RD (i : Nat) : Fld := ⟨8 * (0x1002800 + 0x10000 * i) + 16, 16, 0⟩
/-- 20, RO, [5:0]. -/
def MGT_MGMT_HOST_HOST : Fld := ⟨8 * (0x780004) + 0, 6, 0⟩
/-- 20, RO, [6]. -/
def MGT_MGMT_HOST_VALID : Fld := ⟨8 * (0x780004) + 6, 1, 0⟩
/-- 20, RO, [7]. -/
def MGT_MGMT_HOST_BY_COMMAND : Fld := ⟨8 * (0x780004) + 7, 1, 0⟩
/-- 20, RO, [5:0]. -/
def MGT_SMB_STATUS_QUEUED : Fld := ⟨8 * (0x780008) + 0, 6, 0⟩
/-- 20, RO, [6]. -/
def MGT_SMB_STATUS_AR : Fld := ⟨8 * (0x780008) + 6, 1, 0⟩
/-- 20, RO, [7]. -/
def MGT_SMB_STATUS_ALERT : Fld := ⟨8 * (0x780008) + 7, 1, 0⟩
/-- 20, RC, [31:16] R904. -/
def MGT_SMB_STATUS_PEC_ERR : Fld := ⟨8 * (0x780008) + 16, 16, 0⟩
/-- 20, RO, [6:0]. -/
def MGT_CHAIN_STATUS_RX_VALUE : Fld := ⟨8 * (0x78000C) + 0, 7, 0⟩
/-- 20, RO, [7]. -/
def MGT_CHAIN_STATUS_RX_VALID : Fld := ⟨8 * (0x78000C) + 7, 1, 0⟩
/-- 20, RO, [14:8]. -/
def MGT_CHAIN_STATUS_TX_VALUE : Fld := ⟨8 * (0x78000C) + 8, 7, 0⟩
/-- 20, RO, [15]. -/
def MGT_CHAIN_STATUS_TX_DONE : Fld := ⟨8 * (0x78000C) + 15, 1, 0⟩
/-- 20, W1C, [16] R910. -/
def MGT_CHAIN_STATUS_INVALID : Fld := ⟨8 * (0x78000C) + 16, 1, 0⟩
/-- 20, W1C, [17] R133. -/
def MGT_CHAIN_STATUS_LATE : Fld := ⟨8 * (0x78000C) + 17, 1, 0⟩
/-- 20, RO, [1:0]. -/
def MGT_FLASH_STATUS_SELECT : Fld := ⟨8 * (0x780200) + 0, 2, 0⟩
/-- 20, RO, [2]. -/
def MGT_FLASH_STATUS_CONFIG_DEVICE : Fld := ⟨8 * (0x780200) + 2, 1, 0⟩
/-- 20, RO, [3] R917. -/
def MGT_FLASH_STATUS_CONFIG_ERR : Fld := ⟨8 * (0x780200) + 3, 1, 0⟩
/-- 20, RO, [4]. -/
def MGT_FLASH_STATUS_WRITE_BUSY : Fld := ⟨8 * (0x780200) + 4, 1, 0⟩
/-- 20, RO, [31:16]. -/
def MGT_FLASH_STATUS_CMD_FAILED : Fld := ⟨8 * (0x780200) + 16, 16, 0⟩
/-- 20, RW, [0] R924. -/
def DBG_CTRL_DEBUG_OVERRIDE : Fld := ⟨8 * (0x7C0000) + 0, 1, 0⟩
/-- 20, RO, [0]. -/
def DBG_STATUS_TAP_ACTIVE : Fld := ⟨8 * (0x7C0004) + 0, 1, 0⟩
/-- 20, RC, [31:16]. -/
def DBG_STATUS_DAP_ACCESSES : Fld := ⟨8 * (0x7C0004) + 16, 16, 0⟩
/-- 21, RO, [7:0]. -/
def GLB_THERMAL_TJ_NOW : Fld := ⟨8 * (0x54) + 0, 8, 0⟩
/-- 21, RC, [15:8]. -/
def GLB_THERMAL_TJ_PEAK : Fld := ⟨8 * (0x54) + 8, 8, 0⟩
/-- 21, W1C, [16]. -/
def GLB_THERMAL_HOT : Fld := ⟨8 * (0x54) + 16, 1, 0⟩
/-- 21, W1C, [17]. -/
def GLB_THERMAL_CRIT : Fld := ⟨8 * (0x54) + 17, 1, 0⟩
/-- 15, RW, [511:0] R695. -/
def YCP_MBX_REQ_SLOT (m : Nat) (j : Nat) : Fld := ⟨8 * (0x0 + mbxBase m + 0x40 * j) + 0, 512, 0⟩
/-- 15, RO, [255:0] R695. -/
def YCP_MBX_RSP_SLOT (m : Nat) (j : Nat) : Fld := ⟨8 * (0x800 + mbxBase m + 0x20 * j) + 0, 256, 0⟩
/-- 20, RO, [511:0] R518 R902. -/
def HV_ERR_RING (i : Nat) (j : Nat) : Fld := ⟨8 * (0x1002000 + 0x10000 * i + 0x40 * j) + 0, 512, 0⟩
/-- 20, RO, [31:0] R211 R901. -/
def HV_PBA (i : Nat) (j : Nat) : Fld := ⟨8 * (0x1005000 + 0x10000 * i + 0x4 * j) + 0, 32, 0⟩
/-- 20, RW, [127:0] R211 R901. -/
def HV_MSIX (i : Nat) (j : Nat) : Fld := ⟨8 * (0x1008000 + 0x10000 * i + 0x10 * j) + 0, 128, 79228162514264337593543950336⟩
/-- table XLAT, RO, [0]. -/
def XLAT_VALID (i : Nat) : Fld := ⟨8 * (0x10000000 + 0x20 * i) + 0, 1, 0⟩
/-- table XLAT, RO, [2:1] R381. -/
def XLAT_TYPE (i : Nat) : Fld := ⟨8 * (0x10000000 + 0x20 * i) + 1, 2, 0⟩
/-- table XLAT, RO, [8:3]. -/
def XLAT_HOST (i : Nat) : Fld := ⟨8 * (0x10000000 + 0x20 * i) + 3, 6, 0⟩
/-- table XLAT, RO, [10:9]. -/
def XLAT_ALIAS (i : Nat) : Fld := ⟨8 * (0x10000000 + 0x20 * i) + 9, 2, 0⟩
/-- table XLAT, RO, [11] R396. -/
def XLAT_HONOUR_ACS (i : Nat) : Fld := ⟨8 * (0x10000000 + 0x20 * i) + 11, 1, 0⟩
/-- table XLAT, RO, [17:12]. -/
def XLAT_SIZE_LOG2 (i : Nat) : Fld := ⟨8 * (0x10000000 + 0x20 * i) + 12, 6, 0⟩
/-- table XLAT, RO, [23:18]. -/
def XLAT_TARGET_NODE (i : Nat) : Fld := ⟨8 * (0x10000000 + 0x20 * i) + 18, 6, 0⟩
/-- table XLAT, RO, [24]. -/
def XLAT_REMOTE (i : Nat) : Fld := ⟨8 * (0x10000000 + 0x20 * i) + 24, 1, 0⟩
/-- table XLAT, RO, [31:25]. -/
def XLAT_TARGET_PORT (i : Nat) : Fld := ⟨8 * (0x10000000 + 0x20 * i) + 25, 7, 0⟩
/-- table XLAT, RO, [11:0]. -/
def XLAT_WINDOW (i : Nat) : Fld := ⟨8 * (0x10000004 + 0x20 * i) + 0, 12, 0⟩
/-- table XLAT, RO, [63:0]. -/
def XLAT_MATCH_BASE (i : Nat) : Fld := ⟨8 * (0x10000008 + 0x20 * i) + 0, 64, 0⟩
/-- table XLAT, RO, [63:0]. -/
def XLAT_TARGET_BASE (i : Nat) : Fld := ⟨8 * (0x10000010 + 0x20 * i) + 0, 64, 0⟩
/-- table XLAT, RO, [31:0]. -/
def XLAT_HITS (i : Nat) : Fld := ⟨8 * (0x10000018 + 0x20 * i) + 0, 32, 0⟩
/-- table POS, RO, [0]. -/
def POS_BOUND (i : Nat) : Fld := ⟨8 * (0x10200000 + 0x20 * i) + 0, 1, 0⟩
/-- table POS, RO, [1]. -/
def POS_SHARED (i : Nat) : Fld := ⟨8 * (0x10200000 + 0x20 * i) + 1, 1, 0⟩
/-- table POS, RO, [8:2]. -/
def POS_PORT (i : Nat) : Fld := ⟨8 * (0x10200000 + 0x20 * i) + 2, 7, 0⟩
/-- table POS, RO, [16:9] R365. -/
def POS_FABRIC_BUS_BASE (i : Nat) : Fld := ⟨8 * (0x10200000 + 0x20 * i) + 9, 8, 0⟩
/-- table POS, RO, [22:17]. -/
def POS_BUS_SPAN (i : Nat) : Fld := ⟨8 * (0x10200000 + 0x20 * i) + 17, 6, 0⟩
/-- table POS, RO, [23]. -/
def POS_LINK_ACTIVE (i : Nat) : Fld := ⟨8 * (0x10200000 + 0x20 * i) + 23, 1, 0⟩
/-- table POS, RO, [24]. -/
def POS_UNBINDING (i : Nat) : Fld := ⟨8 * (0x10200000 + 0x20 * i) + 24, 1, 0⟩
/-- table POS, RO, [7:0]. -/
def POS_SEC_BUS (i : Nat) : Fld := ⟨8 * (0x10200004 + 0x20 * i) + 0, 8, 0⟩
/-- table POS, RO, [15:8]. -/
def POS_SUB_BUS (i : Nat) : Fld := ⟨8 * (0x10200004 + 0x20 * i) + 8, 8, 0⟩
/-- table SHF, RO, [0]. -/
def SHF_BOUND (i : Nat) : Fld := ⟨8 * (0x10400000 + 0x20 * i) + 0, 1, 0⟩
/-- table SHF, RO, [6:1]. -/
def SHF_HOST (i : Nat) : Fld := ⟨8 * (0x10400000 + 0x20 * i) + 1, 6, 0⟩
/-- table SHF, RO, [11:7]. -/
def SHF_POSITION (i : Nat) : Fld := ⟨8 * (0x10400000 + 0x20 * i) + 7, 5, 0⟩
/-- table NRT, RO, [0]. -/
def NRT_VALID (i : Nat) : Fld := ⟨8 * (0x10600000 + 0x20 * i) + 0, 1, 0⟩
/-- table NRT, RO, [1]. -/
def NRT_LOCAL (i : Nat) : Fld := ⟨8 * (0x10600000 + 0x20 * i) + 1, 1, 0⟩
/-- table NRT, RO, [10:4]. -/
def NRT_TETHER0 (i : Nat) : Fld := ⟨8 * (0x10600000 + 0x20 * i) + 4, 7, 0⟩
/-- table NRT, RO, [17:11]. -/
def NRT_TETHER1 (i : Nat) : Fld := ⟨8 * (0x10600000 + 0x20 * i) + 11, 7, 0⟩
/-- table NRT, RO, [24:18]. -/
def NRT_TETHER2 (i : Nat) : Fld := ⟨8 * (0x10600000 + 0x20 * i) + 18, 7, 0⟩
/-- table NRT, RO, [31:25]. -/
def NRT_TETHER3 (i : Nat) : Fld := ⟨8 * (0x10600000 + 0x20 * i) + 25, 7, 0⟩
/-- table NRT, RO, [3:0]. -/
def NRT_LISTED (i : Nat) : Fld := ⟨8 * (0x10600004 + 0x20 * i) + 0, 4, 0⟩
/-- table NRT, RO, [7:4]. -/
def NRT_USABLE (i : Nat) : Fld := ⟨8 * (0x10600004 + 0x20 * i) + 4, 4, 0⟩
/-- table BKT, RO, [1:0]. -/
def BKT_SLOT (i : Nat) : Fld := ⟨8 * (0x10700000 + 0x20 * i) + 0, 2, 0⟩
/-- table BKT, RO, [2] R408. -/
def BKT_MOVE_PENDING (i : Nat) : Fld := ⟨8 * (0x10700000 + 0x20 * i) + 2, 1, 0⟩
/-- table BKT, RO, [4:3]. -/
def BKT_MOVE_TO (i : Nat) : Fld := ⟨8 * (0x10700000 + 0x20 * i) + 3, 2, 0⟩
/-- table BKT, RO, [31:16]. -/
def BKT_IN_FLIGHT (i : Nat) : Fld := ⟨8 * (0x10700000 + 0x20 * i) + 16, 16, 0⟩
/-- table MCT, RO, [127:0] R414. -/
def MCT_TRANSIT (i : Nat) : Fld := ⟨8 * (0x10800000 + 0x20 * i) + 0, 128, 0⟩
/-- table RULE, RO, [0]. -/
def RULE_VALID (i : Nat) : Fld := ⟨8 * (0x0 + 0x20 * i) + 0, 1, 0⟩
/-- table RULE, RO, [2:1]. -/
def RULE_CLASS (i : Nat) : Fld := ⟨8 * (0x0 + 0x20 * i) + 1, 2, 0⟩
/-- table RULE, RO, [5:3]. -/
def RULE_SPACE (i : Nat) : Fld := ⟨8 * (0x0 + 0x20 * i) + 3, 3, 0⟩
/-- table RULE, RO, [6]. -/
def RULE_READ (i : Nat) : Fld := ⟨8 * (0x0 + 0x20 * i) + 6, 1, 0⟩
/-- table RULE, RO, [7]. -/
def RULE_WRITE (i : Nat) : Fld := ⟨8 * (0x0 + 0x20 * i) + 7, 1, 0⟩
/-- table RULE, RO, [8]. -/
def RULE_ATOMIC (i : Nat) : Fld := ⟨8 * (0x0 + 0x20 * i) + 8, 1, 0⟩
/-- table RULE, RO, [9]. -/
def RULE_LOCK (i : Nat) : Fld := ⟨8 * (0x0 + 0x20 * i) + 9, 1, 0⟩
/-- table RULE, RO, [13:10]. -/
def RULE_PRIORITY (i : Nat) : Fld := ⟨8 * (0x0 + 0x20 * i) + 10, 4, 0⟩
/-- table RULE, RO, [19:14]. -/
def RULE_SRC_HOST (i : Nat) : Fld := ⟨8 * (0x0 + 0x20 * i) + 14, 6, 0⟩
/-- table RULE, RO, [20]. -/
def RULE_SRC_HOST_ANY (i : Nat) : Fld := ⟨8 * (0x0 + 0x20 * i) + 20, 1, 0⟩
/-- table RULE, RO, [26:21]. -/
def RULE_SRC_NODE (i : Nat) : Fld := ⟨8 * (0x0 + 0x20 * i) + 21, 6, 0⟩
/-- table RULE, RO, [27]. -/
def RULE_SRC_NODE_ANY (i : Nat) : Fld := ⟨8 * (0x0 + 0x20 * i) + 27, 1, 0⟩
/-- table RULE, RO, [29:28]. -/
def RULE_PASID_MODE (i : Nat) : Fld := ⟨8 * (0x0 + 0x20 * i) + 28, 2, 0⟩
/-- table RULE, RO, [30]. -/
def RULE_OWNER_VALID (i : Nat) : Fld := ⟨8 * (0x0 + 0x20 * i) + 30, 1, 0⟩
/-- table RULE, RO, [15:0]. -/
def RULE_RID (i : Nat) : Fld := ⟨8 * (0x4 + 0x20 * i) + 0, 16, 0⟩
/-- table RULE, RO, [31:16]. -/
def RULE_RID_MASK (i : Nat) : Fld := ⟨8 * (0x4 + 0x20 * i) + 16, 16, 0⟩
/-- table RULE, RO, [19:0]. -/
def RULE_PASID (i : Nat) : Fld := ⟨8 * (0x8 + 0x20 * i) + 0, 20, 0⟩
/-- table RULE, RO, [29:20]. -/
def RULE_OWNER_GONDOLA (i : Nat) : Fld := ⟨8 * (0x8 + 0x20 * i) + 20, 10, 0⟩
/-- table RULE, RO, [6:0]. -/
def RULE_TARGET_PORT (i : Nat) : Fld := ⟨8 * (0xC + 0x20 * i) + 0, 7, 0⟩
/-- table RULE, RO, [7]. -/
def RULE_TARGET_PORT_ANY (i : Nat) : Fld := ⟨8 * (0xC + 0x20 * i) + 7, 1, 0⟩
/-- table RULE, RO, [13:8]. -/
def RULE_TARGET_NODE (i : Nat) : Fld := ⟨8 * (0xC + 0x20 * i) + 8, 6, 0⟩
/-- table RULE, RO, [14]. -/
def RULE_TARGET_NODE_ANY (i : Nat) : Fld := ⟨8 * (0xC + 0x20 * i) + 14, 1, 0⟩
/-- table RULE, RO, [17:15]. -/
def RULE_INT_SRC (i : Nat) : Fld := ⟨8 * (0xC + 0x20 * i) + 15, 3, 0⟩
/-- table RULE, RO, [63:0]. -/
def RULE_BASE (i : Nat) : Fld := ⟨8 * (0x10 + 0x20 * i) + 0, 64, 0⟩
/-- table RULE, RO, [63:0]. -/
def RULE_LIMIT (i : Nat) : Fld := ⟨8 * (0x18 + 0x20 * i) + 0, 64, 0⟩
/-- table GATE, RO, [26:0]. -/
def GATE_DURATION (i : Nat) : Fld := ⟨8 * (0x10900000 + 0x10 * i) + 0, 27, 0⟩
/-- table GATE, RO, [27]. -/
def GATE_VALID (i : Nat) : Fld := ⟨8 * (0x10900000 + 0x10 * i) + 27, 1, 0⟩
/-- table GATE, RO, [7:0]. -/
def GATE_OPEN (i : Nat) : Fld := ⟨8 * (0x10900004 + 0x10 * i) + 0, 8, 0⟩
/-- table SHP, RO, [0]. -/
def SHP_VALID (i : Nat) : Fld := ⟨8 * (0x10C00000 + 0x20 * i) + 0, 1, 0⟩
/-- table SHP, RO, [2:1]. -/
def SHP_KIND (i : Nat) : Fld := ⟨8 * (0x10C00000 + 0x20 * i) + 1, 2, 0⟩
/-- table SHP, RO, [9:3]. -/
def SHP_PORT (i : Nat) : Fld := ⟨8 * (0x10C00000 + 0x20 * i) + 3, 7, 0⟩
/-- table SHP, RO, [12:10]. -/
def SHP_TC (i : Nat) : Fld := ⟨8 * (0x10C00000 + 0x20 * i) + 10, 3, 0⟩
/-- table SHP, RO, [22:13]. -/
def SHP_GONDOLA (i : Nat) : Fld := ⟨8 * (0x10C00000 + 0x20 * i) + 13, 10, 0⟩
/-- table SHP, RO, [23]. -/
def SHP_ELIGIBLE (i : Nat) : Fld := ⟨8 * (0x10C00000 + 0x20 * i) + 23, 1, 0⟩
/-- table SHP, RO, [24]. -/
def SHP_ACTIVE (i : Nat) : Fld := ⟨8 * (0x10C00000 + 0x20 * i) + 24, 1, 0⟩
/-- table SHP, RO, [31:0] R492. -/
def SHP_INTERVAL (i : Nat) : Fld := ⟨8 * (0x10C00004 + 0x20 * i) + 0, 32, 0⟩
/-- table SHP, RO, [15:0] R493. -/
def SHP_BURST (i : Nat) : Fld := ⟨8 * (0x10C00008 + 0x20 * i) + 0, 16, 0⟩
/-- table DOM, RO, [1:0]. -/
def DOM_STATE (i : Nat) : Fld := ⟨8 * (0x13000000 + 0x80 * i) + 0, 2, 0⟩
/-- table DOM, RO, [3:2]. -/
def DOM_SEV (i : Nat) : Fld := ⟨8 * (0x13000000 + 0x80 * i) + 2, 2, 0⟩
/-- table DOM, RO, [4] R528. -/
def DOM_ESCALATED (i : Nat) : Fld := ⟨8 * (0x13000000 + 0x80 * i) + 4, 1, 0⟩
/-- table DOM, RO, [5]. -/
def DOM_AUTO (i : Nat) : Fld := ⟨8 * (0x13000000 + 0x80 * i) + 5, 1, 0⟩
/-- table DOM, RO, [6]. -/
def DOM_FIRST_VALID (i : Nat) : Fld := ⟨8 * (0x13000000 + 0x80 * i) + 6, 1, 0⟩
/-- table DOM, RO, [7]. -/
def DOM_DPC (i : Nat) : Fld := ⟨8 * (0x13000000 + 0x80 * i) + 7, 1, 0⟩
/-- table DOM, RO, [15:8]. -/
def DOM_CGEN (i : Nat) : Fld := ⟨8 * (0x13000000 + 0x80 * i) + 8, 8, 0⟩
/-- table DOM, RO, [31:16]. -/
def DOM_EXTEND_COUNT (i : Nat) : Fld := ⟨8 * (0x13000000 + 0x80 * i) + 16, 16, 0⟩
/-- table DOM, RO, [19:0] R523. -/
def DOM_OLD_COUNT (i : Nat) : Fld := ⟨8 * (0x13000004 + 0x80 * i) + 0, 20, 0⟩
/-- table DOM, RO, [63:0]. -/
def DOM_TRIGGER_TIME (i : Nat) : Fld := ⟨8 * (0x13000008 + 0x80 * i) + 0, 64, 0⟩
/-- table DOM, RO, [511:0]. -/
def DOM_FIRST (i : Nat) : Fld := ⟨8 * (0x13000010 + 0x80 * i) + 0, 512, 0⟩
/-- table WIN, RO, [0]. -/
def WIN_VALID (i : Nat) : Fld := ⟨8 * (0x10E00000 + 0x20 * i) + 0, 1, 0⟩
/-- table WIN, RO, [1]. -/
def WIN_STRICT (i : Nat) : Fld := ⟨8 * (0x10E00000 + 0x20 * i) + 1, 1, 0⟩
/-- table WIN, RO, [2]. -/
def WIN_DOMAIN_VALID (i : Nat) : Fld := ⟨8 * (0x10E00000 + 0x20 * i) + 2, 1, 0⟩
/-- table WIN, RO, [6:3]. -/
def WIN_DOMAIN (i : Nat) : Fld := ⟨8 * (0x10E00000 + 0x20 * i) + 3, 4, 0⟩
/-- table WIN, RO, [7]. -/
def WIN_SPILL (i : Nat) : Fld := ⟨8 * (0x10E00000 + 0x20 * i) + 7, 1, 0⟩
/-- table WIN, RO, [8]. -/
def WIN_OWNER_VALID (i : Nat) : Fld := ⟨8 * (0x10E00000 + 0x20 * i) + 8, 1, 0⟩
/-- table WIN, RO, [18:9]. -/
def WIN_OWNER (i : Nat) : Fld := ⟨8 * (0x10E00000 + 0x20 * i) + 9, 10, 0⟩
/-- table WIN, RO, [26:19]. -/
def WIN_CHANNELS (i : Nat) : Fld := ⟨8 * (0x10E00000 + 0x20 * i) + 19, 8, 0⟩
/-- table WIN, RO, [63:0]. -/
def WIN_BASE (i : Nat) : Fld := ⟨8 * (0x10E00008 + 0x20 * i) + 0, 64, 0⟩
/-- table WIN, RO, [63:0]. -/
def WIN_LIMIT (i : Nat) : Fld := ⟨8 * (0x10E00010 + 0x20 * i) + 0, 64, 0⟩
/-- table SPL, RO, [0]. -/
def SPL_VALID (i : Nat) : Fld := ⟨8 * (0x11000000 + 0x20 * i) + 0, 1, 0⟩
/-- table SPL, RO, [1]. -/
def SPL_KIND (i : Nat) : Fld := ⟨8 * (0x11000000 + 0x20 * i) + 1, 1, 0⟩
/-- table SPL, RO, [2]. -/
def SPL_GONDOLA_OWNED (i : Nat) : Fld := ⟨8 * (0x11000000 + 0x20 * i) + 2, 1, 0⟩
/-- table SPL, RO, [3] R704. -/
def SPL_STOPPED (i : Nat) : Fld := ⟨8 * (0x11000000 + 0x20 * i) + 3, 1, 0⟩
/-- table SPL, RO, [9:4]. -/
def SPL_HOST (i : Nat) : Fld := ⟨8 * (0x11000000 + 0x20 * i) + 4, 6, 0⟩
/-- table SPL, RO, [19:10]. -/
def SPL_GONDOLA (i : Nat) : Fld := ⟨8 * (0x11000000 + 0x20 * i) + 10, 10, 0⟩
/-- table SPL, RO, [24:20]. -/
def SPL_SIZE_LOG2 (i : Nat) : Fld := ⟨8 * (0x11000000 + 0x20 * i) + 20, 5, 0⟩
/-- table SPL, RO, [15:0]. -/
def SPL_HEAD (i : Nat) : Fld := ⟨8 * (0x11000004 + 0x20 * i) + 0, 16, 0⟩
/-- table SPL, RO, [31:16]. -/
def SPL_TAIL (i : Nat) : Fld := ⟨8 * (0x11000004 + 0x20 * i) + 16, 16, 0⟩
/-- table SPL, RO, [14:0]. -/
def SPL_PAIRED (i : Nat) : Fld := ⟨8 * (0x11000008 + 0x20 * i) + 0, 15, 0⟩
/-- table SPL, RO, [26:16]. -/
def SPL_VECTOR (i : Nat) : Fld := ⟨8 * (0x11000008 + 0x20 * i) + 16, 11, 0⟩
/-- table SPL, RO, [9:0]. -/
def SPL_COALESCE_US (i : Nat) : Fld := ⟨8 * (0x1100000C + 0x20 * i) + 0, 10, 0⟩
/-- table SPL, RO, [22:16] R710. -/
def SPL_OUT_MAX (i : Nat) : Fld := ⟨8 * (0x1100000C + 0x20 * i) + 16, 7, 0⟩
/-- table SPL, RO, [31:23]. -/
def SPL_DB_SLOT (i : Nat) : Fld := ⟨8 * (0x1100000C + 0x20 * i) + 23, 9, 0⟩
/-- table SPL, RO, [63:0]. -/
def SPL_BASE (i : Nat) : Fld := ⟨8 * (0x11000010 + 0x20 * i) + 0, 64, 0⟩
/-- table SPL, RO, [6:0]. -/
def SPL_NOT_FINAL (i : Nat) : Fld := ⟨8 * (0x11000018 + 0x20 * i) + 0, 7, 0⟩
/-- table GND, RO, [0]. -/
def GND_VALID (i : Nat) : Fld := ⟨8 * (0x12000000 + 0x20 * i) + 0, 1, 0⟩
/-- table GND, RO, [3:1]. -/
def GND_STATE (i : Nat) : Fld := ⟨8 * (0x12000000 + 0x20 * i) + 1, 3, 0⟩
/-- table GND, RO, [9:4]. -/
def GND_HOST (i : Nat) : Fld := ⟨8 * (0x12000000 + 0x20 * i) + 4, 6, 0⟩
/-- table GND, RO, [18:10] R4 R737. -/
def GND_SLOT (i : Nat) : Fld := ⟨8 * (0x12000000 + 0x20 * i) + 10, 9, 0⟩
/-- table GND, RO, [19]. -/
def GND_SHAPER_VALID (i : Nat) : Fld := ⟨8 * (0x12000000 + 0x20 * i) + 19, 1, 0⟩
/-- table GND, RO, [31:20]. -/
def GND_SHAPER (i : Nat) : Fld := ⟨8 * (0x12000000 + 0x20 * i) + 20, 12, 0⟩
/-- table GND, RO, [19:0]. -/
def GND_PASID (i : Nat) : Fld := ⟨8 * (0x12000004 + 0x20 * i) + 0, 20, 0⟩
/-- table GND, RO, [26:20]. -/
def GND_OP_LIMIT (i : Nat) : Fld := ⟨8 * (0x12000004 + 0x20 * i) + 20, 7, 0⟩
/-- table GND, RO, [27]. -/
def GND_CONTAINED (i : Nat) : Fld := ⟨8 * (0x12000004 + 0x20 * i) + 27, 1, 0⟩
/-- table GND, RO, [9:0]. -/
def GND_SPOOL_QUOTA (i : Nat) : Fld := ⟨8 * (0x12000008 + 0x20 * i) + 0, 10, 0⟩
/-- table GND, RO, [25:16]. -/
def GND_SPOOLS_USED (i : Nat) : Fld := ⟨8 * (0x12000008 + 0x20 * i) + 16, 10, 0⟩
/-- table GND, RO, [13:0]. -/
def GND_RULE_QUOTA (i : Nat) : Fld := ⟨8 * (0x1200000C + 0x20 * i) + 0, 14, 0⟩
/-- table GND, RO, [29:16]. -/
def GND_RULES_USED (i : Nat) : Fld := ⟨8 * (0x1200000C + 0x20 * i) + 16, 14, 0⟩
/-- table GND, RO, [10:0]. -/
def GND_ENG_SHARE (i : Nat) : Fld := ⟨8 * (0x12000010 + 0x20 * i) + 0, 11, 0⟩
/-- table GND, RO, [22:16]. -/
def GND_OPS (i : Nat) : Fld := ⟨8 * (0x12000010 + 0x20 * i) + 16, 7, 0⟩
/-- table GND, RO, [28:0]. -/
def GND_POOL_QUOTA (i : Nat) : Fld := ⟨8 * (0x12000014 + 0x20 * i) + 0, 29, 0⟩
/-- table GND, RO, [28:0]. -/
def GND_POOL_USED (i : Nat) : Fld := ⟨8 * (0x12000018 + 0x20 * i) + 0, 29, 0⟩
/-- table GND, RO, [15:0]. -/
def GND_SQUASHED (i : Nat) : Fld := ⟨8 * (0x1200001C + 0x20 * i) + 0, 16, 0⟩

/-! Internal state: not readable as registers; byte addresses from 0x2000_0000 are the model's own. -/

/-- Device-wide number of the next error record (R507). -/
def SYS_SEQ : Fld := ⟨8 * (0x20000000) + 0, 32, 0⟩
/-- Number of the next TLP or pool access to be accepted (R315). -/
def SYS_ORDER : Fld := ⟨8 * (0x20000000) + 32, 64, 0⟩
/-- Next operation handle to be tried (R714). -/
def SYS_NEXT_HANDLE : Fld := ⟨8 * (0x20000000) + 96, 16, 1⟩
/-- The control firmware runs and takes commands (R122). -/
def SYS_FW_UP : Fld := ⟨8 * (0x20000000) + 112, 1, 0⟩
/-- The part is in recovery (R128). -/
def SYS_RECOVERY : Fld := ⟨8 * (0x20000000) + 113, 1, 0⟩
/-- Statuses the SMBus queue has taken since start-up, for PHASE (R702). -/
def SYS_SMB_COUNT : Fld := ⟨8 * (0x20000000) + 114, 16, 0⟩
/-- Status of the last command replayed from flash (R918). -/
def SYS_LAST_STATUS : Fld := ⟨8 * (0x20000000) + 130, 8, 0⟩
/-- REG_ADDR of the SMBus transport (R905). -/
def SYS_SMB_ADDR : Fld := ⟨8 * (0x20000000) + 138, 32, 0⟩
/-- A reset drain runs (R111). -/
def SYS_DRAINING : Fld := ⟨8 * (0x20000000) + 170, 1, 0⟩
/-- The part is in PS-OFF (R789). -/
def SYS_OFF : Fld := ⟨8 * (0x20000000) + 171, 1, 0⟩
/-- POWER_OFF has been accepted and its entry runs (R789). -/
def SYS_OFFING : Fld := ⟨8 * (0x20000000) + 172, 1, 0⟩
/-- 1 + the upstream port of the host; 0 when it has none (R188). -/
def HOSTF_PORT (i : Nat) : Fld := ⟨8 * (0x20000100 + 0x80 * i) + 0, 8, 0⟩
/-- Function 1 Memory Space Enable (R217). -/
def HOSTF_MSE (i : Nat) : Fld := ⟨8 * (0x20000100 + 0x80 * i) + 8, 1, 0⟩
/-- Function 1 Bus Master Enable (R224). -/
def HOSTF_BME (i : Nat) : Fld := ⟨8 * (0x20000100 + 0x80 * i) + 9, 1, 0⟩
/-- Function 0 Bus Master Enable (R230). -/
def HOSTF_F0BME (i : Nat) : Fld := ⟨8 * (0x20000100 + 0x80 * i) + 10, 1, 0⟩
/-- Function 1 power state, 0 D0 or 3 D3hot (R218). -/
def HOSTF_PM (i : Nat) : Fld := ⟨8 * (0x20000100 + 0x80 * i) + 11, 2, 0⟩
/-- Function 1 PME_En (R220). -/
def HOSTF_PMEEN (i : Nat) : Fld := ⟨8 * (0x20000100 + 0x80 * i) + 13, 1, 0⟩
/-- Function 1 PME_Status (R221). -/
def HOSTF_PMESTAT (i : Nat) : Fld := ⟨8 * (0x20000100 + 0x80 * i) + 14, 1, 0⟩
/-- Function 1 MSI-X Enable (R211). -/
def HOSTF_MSIXEN (i : Nat) : Fld := ⟨8 * (0x20000100 + 0x80 * i) + 15, 1, 0⟩
/-- Function 1 MSI-X Function Mask (R211). -/
def HOSTF_MSIXMASK (i : Nat) : Fld := ⟨8 * (0x20000100 + 0x80 * i) + 16, 1, 0⟩
/-- Function 1 Completion Timeout Value (R203). -/
def HOSTF_CTOV (i : Nat) : Fld := ⟨8 * (0x20000100 + 0x80 * i) + 17, 4, 0⟩
/-- Function 1 Max_Payload_Size encoding (R197). -/
def HOSTF_MPS (i : Nat) : Fld := ⟨8 * (0x20000100 + 0x80 * i) + 21, 3, 0⟩
/-- Function 1 Max_Read_Request_Size encoding (R199). -/
def HOSTF_MRRS (i : Nat) : Fld := ⟨8 * (0x20000100 + 0x80 * i) + 24, 3, 2⟩
/-- Function 1 10-Bit Tag Requester Enable (R202). -/
def HOSTF_TAG10 (i : Nat) : Fld := ⟨8 * (0x20000100 + 0x80 * i) + 27, 1, 0⟩
/-- Function 1 14-Bit Tag Requester Enable (R202). -/
def HOSTF_TAG14 (i : Nat) : Fld := ⟨8 * (0x20000100 + 0x80 * i) + 28, 1, 0⟩
/-- Base of BAR0 (R213). -/
def HOSTF_BAR0 (i : Nat) : Fld := ⟨8 * (0x20000100 + 0x80 * i) + 29, 64, 0⟩
/-- Base of BAR2 (R213). -/
def HOSTF_BAR2 (i : Nat) : Fld := ⟨8 * (0x20000100 + 0x80 * i) + 93, 64, 0⟩
/-- Base of BAR4 (R213). -/
def HOSTF_BAR4 (i : Nat) : Fld := ⟨8 * (0x20000100 + 0x80 * i) + 157, 64, 0⟩
/-- Function 1 AER correctable status (R505). -/
def HOSTF_AER_COR (i : Nat) : Fld := ⟨8 * (0x20000100 + 0x80 * i) + 221, 32, 0⟩
/-- Function 1 AER uncorrectable status (R505). -/
def HOSTF_AER_UNC (i : Nat) : Fld := ⟨8 * (0x20000100 + 0x80 * i) + 253, 32, 0⟩
/-- Function 1 Uncorrectable Error Severity (R503). -/
def HOSTF_AER_UNCSEV (i : Nat) : Fld := ⟨8 * (0x20000100 + 0x80 * i) + 285, 32, 4595760⟩
/-- Function 1 Header Log (R506). -/
def HOSTF_AER_HDR (i : Nat) : Fld := ⟨8 * (0x20000100 + 0x80 * i) + 381, 128, 0⟩
/-- Function 1 Uncorrectable Error Mask (R505). -/
def HOSTF_AER_UNCMASK (i : Nat) : Fld := ⟨8 * (0x20000100 + 0x80 * i) + 509, 32, 4194304⟩
/-- Function 1 Correctable Error Mask (R505). -/
def HOSTF_AER_CORMASK (i : Nat) : Fld := ⟨8 * (0x20000100 + 0x80 * i) + 541, 32, 24576⟩
/-- Function 1 error reporting enables: bit 0 correctable, 1 non-fatal, 2 fatal, 3 Unsupported Request (R505). -/
def HOSTF_DEVCTL (i : Nat) : Fld := ⟨8 * (0x20000100 + 0x80 * i) + 573, 4, 0⟩
/-- The hierarchy is held in reset (R214). -/
def HOSTF_IN_RESET (i : Nat) : Fld := ⟨8 * (0x20000100 + 0x80 * i) + 577, 1, 1⟩
/-- PERST_N of the host is low (R119). -/
def HOSTF_PERST (i : Nat) : Fld := ⟨8 * (0x20000100 + 0x80 * i) + 578, 1, 0⟩
/-- The vote of the host waits for its write buffer to empty (R218). -/
def HOSTF_D3EMPTY (i : Nat) : Fld := ⟨8 * (0x20000100 + 0x80 * i) + 579, 1, 0⟩
/-- Barriers performed by this host (R599). -/
def HOSTF_BARSEQ (i : Nat) : Fld := ⟨8 * (0x20000100 + 0x80 * i) + 580, 32, 0⟩
/-- Earlier stores discarded at a lost node since the last barrier (R603). -/
def HOSTF_DISC_NODE (i : Nat) : Fld := ⟨8 * (0x20000100 + 0x80 * i) + 612, 16, 0⟩
/-- Earlier stores discarded at a contained or aged port since the last barrier (R603). -/
def HOSTF_DISC_PORT (i : Nat) : Fld := ⟨8 * (0x20000100 + 0x80 * i) + 628, 16, 0⟩
/-- Earlier stores discarded at a FAILED channel since the last barrier (R603). -/
def HOSTF_DISC_CH (i : Nat) : Fld := ⟨8 * (0x20000100 + 0x80 * i) + 644, 16, 0⟩
/-- Command spools that name this status spool (R721). -/
def SPLX_CMDS (i : Nat) : Fld := ⟨8 * (0x20001900 + 0x10 * i) + 0, 7, 0⟩
/-- Parity of the pass through a status spool (R702). -/
def SPLX_PASS (i : Nat) : Fld := ⟨8 * (0x20001900 + 0x10 * i) + 7, 1, 0⟩
/-- Time at which the coalesced MSI-X is due, plus 1; 0 when none waits (R721). -/
def SPLX_COAL_DUE (i : Nat) : Fld := ⟨8 * (0x20001900 + 0x10 * i) + 8, 64, 0⟩
/-- The next record of this source carries OVERFLOW (R512). -/
def ERRX_OVF (i : Nat) : Fld := ⟨8 * (0x20081900 + 0x4 * i) + 0, 1, 0⟩
/-- End of the hold timer (R525). -/
def DOMX_HOLD_END (i : Nat) : Fld := ⟨8 * (0x20081C00 + 0x20 * i) + 0, 64, 0⟩
/-- Posted TLPs discarded by this containment (R519). -/
def DOMX_POSTED (i : Nat) : Fld := ⟨8 * (0x20081C00 + 0x20 * i) + 64, 32, 0⟩
/-- Non-posted requests answered by this containment (R519). -/
def DOMX_NP (i : Nat) : Fld := ⟨8 * (0x20081C00 + 0x20 * i) + 96, 32, 0⟩
/-- Handle of the pending ERROR_RELEASE; 0 none (R531). -/
def DOMX_RELREQ (i : Nat) : Fld := ⟨8 * (0x20081C00 + 0x20 * i) + 128, 16, 0⟩
/-- Place in order at which the containment took effect (R523). -/
def DOMX_CUT (i : Nat) : Fld := ⟨8 * (0x20081C00 + 0x20 * i) + 144, 64, 0⟩
/-- Base time B of the active gate list (R472). -/
def SCHX_BASE (i : Nat) : Fld := ⟨8 * (0x20141C00 + 0x40 * i) + 0, 64, 0⟩
/-- Step not yet taken by the list's gate time, two's complement ns (R483). -/
def SCHX_OFFS (i : Nat) : Fld := ⟨8 * (0x20141C00 + 0x40 * i) + 64, 64, 0⟩
/-- Gate time at which the entry in force ends (R473). -/
def SCHX_ENT_END (i : Nat) : Fld := ⟨8 * (0x20141C00 + 0x40 * i) + 128, 64, 0⟩
/-- Gate time at which the cycle ends (R472). -/
def SCHX_CYC_END (i : Nat) : Fld := ⟨8 * (0x20141C00 + 0x40 * i) + 192, 64, 0⟩
/-- Entries of the active list (R470). -/
def SCHX_LEN (i : Nat) : Fld := ⟨8 * (0x20141C00 + 0x40 * i) + 256, 7, 0⟩
/-- Entries of the pending list (R470). -/
def SCHX_PLEN (i : Nat) : Fld := ⟨8 * (0x20141C00 + 0x40 * i) + 263, 7, 0⟩
/-- The pending list is the empty list of CLEAR (R482). -/
def SCHX_PCLEAR (i : Nat) : Fld := ⟨8 * (0x20141C00 + 0x40 * i) + 270, 1, 0⟩
/-- Length of the staged list (R470). -/
def SCHX_SLEN (i : Nat) : Fld := ⟨8 * (0x20141C00 + 0x40 * i) + 271, 7, 0⟩
/-- Staged entries written since the last arm or cancel (R725). -/
def SCHX_WRITTEN (i : Nat) : Fld := ⟨8 * (0x20141C00 + 0x40 * i) + 278, 64, 0⟩
/-- Handle of the pending SCHED_GATE_ARM (R480). -/
def SCHX_ARMOP (i : Nat) : Fld := ⟨8 * (0x20141C00 + 0x40 * i) + 342, 16, 0⟩
/-- Class at which the round stands (R462). -/
def SCHX_RR (i : Nat) : Fld := ⟨8 * (0x20141C00 + 0x40 * i) + 358, 3, 0⟩
/-- That class has had its QUANTUM in this visit (R462). -/
def SCHX_CREDITED (i : Nat) : Fld := ⟨8 * (0x20141C00 + 0x40 * i) + 361, 1, 0⟩
/-- Deficit of a class in bytes (R462). -/
def DRRX_DEF (i : Nat) (j : Nat) : Fld := ⟨8 * (0x20143C00 + 0x100 * i + 0x20 * j) + 0, 32, 0⟩
/-- Type last sent from a class (R465). -/
def DRRX_LAST (i : Nat) (j : Nat) : Fld := ⟨8 * (0x20143C00 + 0x100 * i + 0x20 * j) + 32, 2, 2⟩
/-- Time at which the class's open interval began (R475). -/
def DRRX_OPEN_AT (i : Nat) (j : Nat) : Fld := ⟨8 * (0x20143C00 + 0x100 * i + 0x20 * j) + 34, 64, 0⟩
/-- Time at which the class's gate last closed (R342). -/
def DRRX_SHUT_AT (i : Nat) (j : Nat) : Fld := ⟨8 * (0x20143C00 + 0x100 * i + 0x20 * j) + 98, 64, 0⟩
/-- Next-eligible time E in 2^-19 ns (R495). -/
def SHPX_E (i : Nat) : Fld := ⟨8 * (0x2014BC00 + 0x20 * i) + 0, 128, 0⟩
/-- Rate in Mb/s (R492). -/
def SHPX_RATE (i : Nat) : Fld := ⟨8 * (0x2014BC00 + 0x20 * i) + 128, 20, 0⟩
/-- Level of the Reel wheel in which the shaper is entered: 0 or 1 (R498) -/
def SHPX_LEVEL (i : Nat) : Fld := ⟨8 * (0x2014BC00 + 0x20 * i) + 148, 1, 0⟩
/-- Engine time that the owner has had in the general group, in steps times 2^24 over its weight (R647). -/
def OWNX_TURN (i : Nat) : Fld := ⟨8 * (0x2016BC00 + 0x8 * i) + 0, 64, 0⟩
/-- Max_Payload_Size encoding of the egress port (R198). -/
def PRTX_MPS (i : Nat) : Fld := ⟨8 * (0x2016FC00 + 0x10 * i) + 0, 3, 2⟩
/-- DPC enabled by a host to which the port is bound (R535). -/
def PRTX_DPC_EN (i : Nat) : Fld := ⟨8 * (0x2016FC00 + 0x10 * i) + 3, 1, 0⟩
/-- DPC Completion Control selects Unsupported Request (R520). -/
def PRTX_DPC_UR (i : Nat) : Fld := ⟨8 * (0x2016FC00 + 0x10 * i) + 4, 1, 0⟩
/-- DPC Trigger Status (R533). -/
def PRTX_DPC_STATUS (i : Nat) : Fld := ⟨8 * (0x2016FC00 + 0x10 * i) + 5, 1, 0⟩
/-- DPC Trigger Reason (R533). -/
def PRTX_DPC_REASON (i : Nat) : Fld := ⟨8 * (0x2016FC00 + 0x10 * i) + 6, 2, 0⟩
/-- PTM is enabled on the port (R105). -/
def PRTX_PTM (i : Nat) : Fld := ⟨8 * (0x2016FC00 + 0x10 * i) + 40, 1, 0⟩
/-- PORT_LINK has disabled the link (R722). -/
def PRTX_OFF (i : Nat) : Fld := ⟨8 * (0x2016FC00 + 0x10 * i) + 41, 1, 0⟩
/-- ASPM Control: bit 0 L0s, bit 1 L1 (R195). -/
def PRTX_ASPM (i : Nat) : Fld := ⟨8 * (0x2016FC00 + 0x10 * i) + 74, 2, 0⟩
/-- Bit 3t + y: the egress link has credit for class t, type y (R346). -/
def SWX_LNKCR (i : Nat) : Fld := ⟨8 * (0x20170400 + 0x4 * i) + 0, 24, 16777215⟩
/-- 1 + the spool of a doorbell slot of a host's page (R721). -/
def HDB_SPOOL (i : Nat) (j : Nat) : Fld := ⟨8 * (0x20170600 + 0x800 * i + 0x4 * j) + 0, 16, 0⟩
/-- 1 + the spool of a doorbell slot of a gondola's page (R739). -/
def GDB_SPOOL (i : Nat) (j : Nat) : Fld := ⟨8 * (0x20188600 + 0x1000 * i + 0x8 * j) + 0, 16, 0⟩
/-- Last value written while frozen (R751). -/
def GDB_LATCH (i : Nat) (j : Nat) : Fld := ⟨8 * (0x20188600 + 0x1000 * i + 0x8 * j) + 16, 16, 0⟩
/-- A value is latched (R751). -/
def GDB_LATCHED (i : Nat) (j : Nat) : Fld := ⟨8 * (0x20188600 + 0x1000 * i + 0x8 * j) + 32, 1, 0⟩
/-- 1 + the gondola in a BAR4 slot of a host (R737). -/
def HB4_GOND (i : Nat) (j : Nat) : Fld := ⟨8 * (0x20588600 + 0x800 * i + 0x4 * j) + 0, 11, 0⟩
/-- Sum of the gondolas' spool quotas (R733). -/
def QUOTA_SPOOLS : Fld := ⟨8 * (0x205A0600) + 0, 17, 0⟩
/-- Sum of the gondolas' rule quotas (R733). -/
def QUOTA_RULES : Fld := ⟨8 * (0x205A0600) + 17, 15, 0⟩
/-- Sum of the gondolas' pool quotas in 4 KiB units (R733). -/
def QUOTA_POOL : Fld := ⟨8 * (0x205A0600) + 32, 29, 0⟩
/-- Spools owned by hosts directly (R733). -/
def QUOTA_HOSTSPOOLS : Fld := ⟨8 * (0x205A0600) + 61, 17, 0⟩
/-- Strict windows in existence (R573). -/
def QUOTA_STRICT : Fld := ⟨8 * (0x205A0600) + 78, 6, 0⟩
/-- Total size of the SPILL windows in 4 KiB units (R573). -/
def QUOTA_SPILL : Fld := ⟨8 * (0x205A0600) + 84, 25, 0⟩
/-- Time of the last READY (R718). -/
def READYX_AT : Fld := ⟨8 * (0x205A0700) + 0, 64, 0⟩
/-- Time at which the start-up began (R911). -/
def READYX_START_AT : Fld := ⟨8 * (0x205A0700) + 64, 64, 0⟩
/-- Handles of the handle area are valid (R718). -/
def READYX_AREA : Fld := ⟨8 * (0x205A0700) + 128, 1, 0⟩
/-- Hosts to which the port is bound (R365). -/
def BINDX_COUNT (i : Nat) : Fld := ⟨8 * (0x205A0800 + 0x4 * i) + 0, 6, 0⟩
/-- The port is bound shared (R365). -/
def BINDX_SHARED (i : Nat) : Fld := ⟨8 * (0x205A0800 + 0x4 * i) + 6, 1, 0⟩
/-- The host of an exclusive binding (R365). -/
def BINDX_HOST (i : Nat) : Fld := ⟨8 * (0x205A0800 + 0x4 * i) + 7, 6, 0⟩
/-- Its position (R365). -/
def BINDX_POS (i : Nat) : Fld := ⟨8 * (0x205A0800 + 0x4 * i) + 13, 5, 0⟩
/-- Counter of the domain's open epoch (R615). -/
def DDX_EPOCH (i : Nat) : Fld := ⟨8 * (0x205A0A00 + 0x10 * i) + 0, 64, 0⟩
/-- A resync of the domain starts by itself once a route to its peer is valid (R884). -/
def DDX_AUTO (i : Nat) : Fld := ⟨8 * (0x205A0A00 + 0x10 * i) + 64, 1, 0⟩
/-- A resync of the domain in SYNCING has started (R645). -/
def DDX_STARTED (i : Nat) : Fld := ⟨8 * (0x205A0A00 + 0x10 * i) + 65, 1, 0⟩
/-- The channel lost its contents: its lines read poisoned until written whole (R949). -/
def CHX_LOST (i : Nat) : Fld := ⟨8 * (0x205A0B00 + 0x20 * i) + 0, 1, 0⟩
/-- The retention SRAM holds the channel's trained parameters (R556). -/
def CHX_SAVED (i : Nat) : Fld := ⟨8 * (0x205A0B00 + 0x20 * i) + 1, 1, 0⟩
/-- Saved SPD identity of the channel's DIMMs, slot 0 in the low half (R557). -/
def CHX_SPD (i : Nat) : Fld := ⟨8 * (0x205A0B00 + 0x20 * i) + 2, 128, 0⟩
/-- RING_BASE (R651). -/
def LOGX_RING_BASE (i : Nat) : Fld := ⟨8 * (0x205A0C00 + 0x80 * i) + 0, 64, 0⟩
/-- HEADER_ADDR (R651). -/
def LOGX_HEADER (i : Nat) : Fld := ⟨8 * (0x205A0C00 + 0x80 * i) + 64, 64, 0⟩
/-- LSN of the tail (R654). -/
def LOGX_TAIL (i : Nat) : Fld := ⟨8 * (0x205A0C00 + 0x80 * i) + 128, 64, 0⟩
/-- HEAD_LSN (R657). -/
def LOGX_HEAD (i : Nat) : Fld := ⟨8 * (0x205A0C00 + 0x80 * i) + 192, 64, 0⟩
/-- Tail of the last batch whose close was not refused (R663). -/
def LOGX_PREV (i : Nat) : Fld := ⟨8 * (0x205A0C00 + 0x80 * i) + 256, 64, 0⟩
/-- COMMITTED_LSN of the last header line stored (R661). -/
def LOGX_HDR (i : Nat) : Fld := ⟨8 * (0x205A0C00 + 0x80 * i) + 320, 64, 0⟩
/-- That value when the close of the log's domain started (R663). -/
def LOGX_CUT (i : Nat) : Fld := ⟨8 * (0x205A0C00 + 0x80 * i) + 384, 64, 0⟩
/-- Number of the open batch (R660). -/
def LOGX_BATCH (i : Nat) : Fld := ⟨8 * (0x205A0C00 + 0x80 * i) + 448, 32, 0⟩
/-- Time at which the open batch opened, plus 1; 0 when it holds no record (R660). -/
def LOGX_OPEN_AT (i : Nat) : Fld := ⟨8 * (0x205A0C00 + 0x80 * i) + 480, 64, 0⟩
/-- Records whose status a refused close posted, and that the next one commits (R663). -/
def LOGX_UNCOM (i : Nat) : Fld := ⟨8 * (0x205A0C00 + 0x80 * i) + 544, 32, 0⟩
/-- Time of the channel's last ZQ calibration (R560). -/
def CALX_ZQ (i : Nat) : Fld := ⟨8 * (0x205A2C00 + 0x10 * i) + 0, 64, 0⟩
/-- Time of its last DQS adjustment (R560). -/
def CALX_DQS (i : Nat) : Fld := ⟨8 * (0x205A2C00 + 0x10 * i) + 64, 64, 0⟩
/-- Translation entries with REMOTE 0 that name the window (R574). -/
def WINX_XLATS (i : Nat) : Fld := ⟨8 * (0x205A2D00 + 0x4 * i) + 0, 17, 0⟩
/-- Tags of a requester that have been taken at least once, in order; the requester is 128 × kind + target (R544). -/
def TAGX_NEXT (i : Nat) : Fld := ⟨8 * (0x205A6D00 + 0x4 * i) + 0, 10, 0⟩
/-- Time at which the grace period ends, plus 1; 0 when none runs (R285). -/
def CYTX_GRACE_END (i : Nat) : Fld := ⟨8 * (0x205A7300 + 0x100 * i) + 0, 64, 0⟩
/-- Time at which the training state was entered (R278). -/
def CYTX_STATE_AT (i : Nat) : Fld := ⟨8 * (0x205A7300 + 0x100 * i) + 64, 64, 0⟩
/-- Time at which the REPLAY_TIME timer last restarted (R275). -/
def CYTX_REPLAY_AT (i : Nat) : Fld := ⟨8 * (0x205A7300 + 0x100 * i) + 128, 64, 0⟩
/-- Expiries of REPLAY_TIME in a row without ACK_SEQ advancing (R276). -/
def CYTX_REPLAY_N (i : Nat) : Fld := ⟨8 * (0x205A7300 + 0x100 * i) + 192, 4, 0⟩
/-- Rows since the last FILLER row (R244). -/
def CYTX_FILL_ROWS (i : Nat) : Fld := ⟨8 * (0x205A7300 + 0x100 * i) + 196, 12, 0⟩
/-- Rows since the last LANE_MARKER row (R242). -/
def CYTX_MARK_ROWS (i : Nat) : Fld := ⟨8 * (0x205A7300 + 0x100 * i) + 208, 15, 0⟩
/-- Marker count of the next LANE_MARKER row sent (R249). -/
def CYTX_MARK_TX (i : Nat) : Fld := ⟨8 * (0x205A7300 + 0x100 * i) + 223, 32, 0⟩
/-- Marker count expected next, plus 1; 0 before the first marker after INIT (R249). -/
def CYTX_MARK_RX (i : Nat) : Fld := ⟨8 * (0x205A7300 + 0x100 * i) + 255, 33, 0⟩
/-- Rows since the last CREDIT block (R273). -/
def CYTX_CRED_ROWS (i : Nat) : Fld := ⟨8 * (0x205A7300 + 0x100 * i) + 288, 9, 0⟩
/-- Time of the last CREDIT block sent (R273). -/
def CYTX_CRED_AT (i : Nat) : Fld := ⟨8 * (0x205A7300 + 0x100 * i) + 297, 64, 0⟩
/-- 1 a credit limit has changed or units arrive; 2 a CREDIT block is due at once (R273). -/
def CYTX_CRED_DUE (i : Nat) : Fld := ⟨8 * (0x205A7300 + 0x100 * i) + 361, 2, 0⟩
/-- Phase of the training within RETRAIN, coded as STATE (R278). -/
def CYTX_SUB (i : Nat) : Fld := ⟨8 * (0x205A7300 + 0x100 * i) + 363, 4, 0⟩
/-- Credits and sequence numbers start again at the next INIT (R290). -/
def CYTX_FRESH (i : Nat) : Fld := ⟨8 * (0x205A7300 + 0x100 * i) + 367, 1, 1⟩
/-- The far end has sent LEAVE: nothing new is routed over the tether (R304). -/
def CYTX_LEAVING (i : Nat) : Fld := ⟨8 * (0x205A7300 + 0x100 * i) + 368, 1, 0⟩
/-- Request of the far end in progress: 1 RETRAIN_REQ, 2 WIDTH_REQ (R295). -/
def CYTX_FARREQ (i : Nat) : Fld := ⟨8 * (0x205A7300 + 0x100 * i) + 369, 2, 0⟩
/-- NAKs for sequence numbers not held, saturating (R274). -/
def CYTX_BAD_NAK (i : Nat) : Fld := ⟨8 * (0x205A7300 + 0x100 * i) + 371, 16, 0⟩
/-- Reason of the last JOIN_REFUSE (R301). -/
def CYTX_REFUSED (i : Nat) : Fld := ⟨8 * (0x205A7300 + 0x100 * i) + 387, 8, 0⟩
/-- Time of the last TIME request, plus 1; 0 before the first (R254). -/
def CYTX_TIME_AT (i : Nat) : Fld := ⟨8 * (0x205A7300 + 0x100 * i) + 395, 64, 0⟩
/-- The sequence number after the last one that has been NAKed (R271). -/
def CYTX_NAK_TO (i : Nat) : Fld := ⟨8 * (0x205A7300 + 0x100 * i) + 459, 16, 0⟩
/-- Logical lanes that hold block lock (R240). -/
def CYTX_LOCKED (i : Nat) : Fld := ⟨8 * (0x205A7300 + 0x100 * i) + 539, 16, 0⟩
/-- Rates still offered: bit 0 14.0625, bit 1 28.125, bit 2 56.25, bit 3 112.5 Gb/s (R281). -/
def CYTX_RATES (i : Nat) : Fld := ⟨8 * (0x205A7300 + 0x100 * i) + 555, 4, 15⟩
/-- Target rate, encoded as R184 (R280). -/
def CYTX_TARGET (i : Nat) : Fld := ⟨8 * (0x205A7300 + 0x100 * i) + 559, 4, 8⟩
/-- The training that runs is a RETRAIN (R278). -/
def CYTX_RETRAIN (i : Nat) : Fld := ⟨8 * (0x205A7300 + 0x100 * i) + 563, 1, 0⟩
/-- Serial number of the far end (R284). -/
def CYTX_SERIAL (i : Nat) : Fld := ⟨8 * (0x205A7300 + 0x100 * i) + 564, 64, 0⟩
/-- SERIAL is known (R284). -/
def CYTX_SERIAL_OK (i : Nat) : Fld := ⟨8 * (0x205A7300 + 0x100 * i) + 628, 1, 0⟩
/-- Serial number of the far end before the loss (R284). -/
def CYTX_PREV_SERIAL (i : Nat) : Fld := ⟨8 * (0x205A7300 + 0x100 * i) + 629, 64, 0⟩
/-- The far end has finished equalising (R278). -/
def CYTX_EQ_FAR (i : Nat) : Fld := ⟨8 * (0x205A7300 + 0x100 * i) + 693, 1, 0⟩
/-- Width asked for by a width change (R294). -/
def CYTX_WIDTH_LIMIT (i : Nat) : Fld := ⟨8 * (0x205A7300 + 0x100 * i) + 694, 5, 16⟩
/-- Own request outstanding: 1 RETRAIN_REQ, 2 WIDTH_REQ (R295). -/
def CYTX_REQ (i : Nat) : Fld := ⟨8 * (0x205A7300 + 0x100 * i) + 699, 2, 0⟩
/-- Its ARG (R255). -/
def CYTX_REQ_ARG (i : Nat) : Fld := ⟨8 * (0x205A7300 + 0x100 * i) + 701, 8, 0⟩
/-- Own request to be evaluated again: 1 retrain, 2 width (R296). -/
def CYTX_WANT (i : Nat) : Fld := ⟨8 * (0x205A7300 + 0x100 * i) + 709, 2, 0⟩
/-- Time at which JOIN_REQ was last sent, plus 1; 0 when none is outstanding (R298). -/
def CYTX_JOIN_AT (i : Nat) : Fld := ⟨8 * (0x205A7300 + 0x100 * i) + 711, 64, 0⟩
/-- JOIN_REFUSE was received; no further JOIN_REQ (R301). -/
def CYTX_JOIN_OFF (i : Nat) : Fld := ⟨8 * (0x205A7300 + 0x100 * i) + 775, 1, 0⟩
/-- Serial number plus 1 of a node whose JOIN_REQ, that came on this tether, has been forwarded and not answered; 0 without one (R299). -/
def CYTX_JOIN_FROM (i : Nat) : Fld := ⟨8 * (0x205A7300 + 0x100 * i) + 1600, 65, 0⟩
/-- The TLP of class j that arrives on this tether has passed its head on before its last segment has come (R267, R328). -/
def CYTX_EARLY (i : Nat) (j : Nat) : Fld := ⟨8 * (0x205A7300 + 0x100 * i + 1 * j) + 1680, 1, 0⟩
/-- Header credits of type j (0 posted, 1 non-posted, 2 completion) that PCI Express port i has returned to its link partner, one for each TLP that has left its ingress (R323). -/
def FCX_HDR (i : Nat) (j : Nat) : Fld := ⟨8 * (0x205A7300 + 0x100 * i + 4 * j) + 1744, 32, 0⟩
/-- Data credits of type j, of 16 bytes, that PCI Express port i has returned to its link partner (R323). -/
def FCX_DATA (i : Nat) (j : Nat) : Fld := ⟨8 * (0x205A7300 + 0x100 * i + 4 * j) + 1840, 32, 0⟩
/-- The far end has answered LEAVE_ACK (R305). -/
def CYTX_LEAVE_ACKED (i : Nat) : Fld := ⟨8 * (0x205A7300 + 0x100 * i) + 840, 1, 0⟩
/-- Hop count that the far end advertises (R89). -/
def CYTX_HOPS (i : Nat) : Fld := ⟨8 * (0x205A7300 + 0x100 * i) + 841, 4, 15⟩
/-- Number of the last exchange (R252). -/
def CYTX_EXCH (i : Nat) : Fld := ⟨8 * (0x205A7300 + 0x100 * i) + 845, 8, 0⟩
/-- t1 of that exchange (R93). -/
def CYTX_EXCH_T1 (i : Nat) : Fld := ⟨8 * (0x205A7300 + 0x100 * i) + 853, 64, 0⟩
/-- That exchange awaits its response (R93). -/
def CYTX_EXCH_OPEN (i : Nat) : Fld := ⟨8 * (0x205A7300 + 0x100 * i) + 917, 1, 0⟩
/-- Consecutive exchanges missed (R90). -/
def CYTX_MISSED (i : Nat) : Fld := ⟨8 * (0x205A7300 + 0x100 * i) + 918, 5, 0⟩
/-- Path delay last measured (R93). -/
def CYTX_PATH_DELAY (i : Nat) : Fld := ⟨8 * (0x205A7300 + 0x100 * i) + 923, 64, 0⟩
/-- Time at which the phase of the training began (R278). -/
def CYTX_SUB_AT (i : Nat) : Fld := ⟨8 * (0x205A7300 + 0x100 * i) + 987, 64, 0⟩
/-- An invalid header, stuffing error or parity error occurred in VERIFY (R278). -/
def CYTX_VBAD (i : Nat) : Fld := ⟨8 * (0x205A7300 + 0x100 * i) + 1051, 1, 0⟩
/-- Rows that wait in the elastic buffer (R245). -/
def CYTX_ELASTIC (i : Nat) : Fld := ⟨8 * (0x205A7300 + 0x100 * i) + 1052, 6, 0⟩
/-- The lanes are aligned (R242). -/
def CYTX_DESKEW (i : Nat) : Fld := ⟨8 * (0x205A7300 + 0x100 * i) + 1058, 1, 0⟩
/-- Header credits to allot at the next INIT (R264). -/
def CYTN_HDR (i : Nat) (j : Nat) : Fld := ⟨8 * (0x205AF300 + 0x20 * i + 0x4 * j) + 0, 12, 256⟩
/-- Data credits to allot at the next INIT (R264). -/
def CYTN_DATA (i : Nat) (j : Nat) : Fld := ⟨8 * (0x205AF300 + 0x20 * i + 0x4 * j) + 12, 16, 2048⟩
/-- Time up to which LAN_WS_LOS_TIME counts the LOS that stands, or at which it asserted. -/
def LANX_LOS_AT (i : Nat) : Fld := ⟨8 * (0x205B0300 + 0x40 * i) + 0, 64, 0⟩
/-- Time of the last Windsock assertion of the lane, plus 1; 0 before any (R176). -/
def LANX_REC_AT (i : Nat) : Fld := ⟨8 * (0x205B0300 + 0x40 * i) + 64, 64, 0⟩
/-- Time of the lane's last rate change, plus 1; 0 before any (R175). -/
def LANX_RATE_AT (i : Nat) : Fld := ⟨8 * (0x205B0300 + 0x40 * i) + 128, 64, 0⟩
/-- Level of the last unit interval sent (R236). -/
def LANX_TX_LAST (i : Nat) : Fld := ⟨8 * (0x205B0300 + 0x40 * i) + 192, 2, 0⟩
/-- Identical unit intervals sent in a row (R236). -/
def LANX_TX_RUN (i : Nat) : Fld := ⟨8 * (0x205B0300 + 0x40 * i) + 194, 7, 0⟩
/-- Level of the last unit interval received (R238). -/
def LANX_RX_LAST (i : Nat) : Fld := ⟨8 * (0x205B0300 + 0x40 * i) + 201, 2, 0⟩
/-- Identical unit intervals received in a row (R238). -/
def LANX_RX_RUN (i : Nat) : Fld := ⟨8 * (0x205B0300 + 0x40 * i) + 203, 7, 0⟩
/-- Validity of the last 64 block headers, bit 0 the latest; 1 is invalid (R240). -/
def LANX_HIST (i : Nat) : Fld := ⟨8 * (0x205B0300 + 0x40 * i) + 210, 64, 0⟩
/-- Headers seen at the present spacing, up to 64 (R240). -/
def LANX_HIST_N (i : Nat) : Fld := ⟨8 * (0x205B0300 + 0x40 * i) + 274, 7, 0⟩
/-- Bits that the receiver still slips by (R240). -/
def LANX_SLIP (i : Nat) : Fld := ⟨8 * (0x205B0300 + 0x40 * i) + 281, 10, 0⟩
/-- Answers to the last tap request, two bits each (R164). -/
def LANX_TAP_RSP (i : Nat) : Fld := ⟨8 * (0x205B0300 + 0x40 * i) + 291, 8, 0⟩
/-- Number of the tap request last answered (R250). -/
def LANX_TAP_NO (i : Nat) : Fld := ⟨8 * (0x205B0300 + 0x40 * i) + 299, 8, 0⟩
/-- A tap request has been answered in this training (R250). -/
def LANX_TAP_SEEN (i : Nat) : Fld := ⟨8 * (0x205B0300 + 0x40 * i) + 307, 1, 0⟩
/-- Windsock events are masked by the state of the lane's port, or for want of one, since LANX_LOS_AT (R175). -/
def LANX_QUIET (i : Nat) : Fld := ⟨8 * (0x205B0300 + 0x40 * i) + 308, 1, 1⟩
/-- Transmit inversion in effect (R171). -/
def LANX_TXINV (i : Nat) : Fld := ⟨8 * (0x205B0300 + 0x40 * i) + 309, 1, 0⟩
/-- RX_INVERT_FORCE as it was when the lane last started training (R171). -/
def LANX_RXFORCE (i : Nat) : Fld := ⟨8 * (0x205B0300 + 0x40 * i) + 310, 1, 0⟩
/-- The request that this receiver sends: bits 1:0 the kind, 5:2 the preset, and the actions, two bits each (R250). -/
def LANX_REQ (i : Nat) : Fld := ⟨8 * (0x205B0300 + 0x40 * i) + 311, 14, 0⟩
/-- Its request number (R250). -/
def LANX_REQ_NO (i : Nat) : Fld := ⟨8 * (0x205B0300 + 0x40 * i) + 325, 8, 0⟩
/-- Requests issued in the rate step (R166). -/
def LANX_REQ_N (i : Nat) : Fld := ⟨8 * (0x205B0300 + 0x40 * i) + 333, 13, 0⟩
/-- This receiver has finished equalising (R250). -/
def LANX_FIN (i : Nat) : Fld := ⟨8 * (0x205B0300 + 0x40 * i) + 346, 1, 0⟩
/-- A stuffing error stands before the next unit interval received (R238). -/
def LANX_RX_ERR (i : Nat) : Fld := ⟨8 * (0x205B0300 + 0x40 * i) + 347, 1, 0⟩
/-- Bits received beyond the last whole block (R240). -/
def LANX_REM_N (i : Nat) : Fld := ⟨8 * (0x205B0300 + 0x40 * i) + 348, 11, 0⟩
/-- Those bits, the earliest lowest. -/
def LANX_REM (i : Nat) : Fld := ⟨8 * (0x209EA000 + 0x100 * i) + 0, 1024, 0⟩
/-- Those of them before which a stuffing error stands. -/
def LANX_REM_ERR (i : Nat) : Fld := ⟨8 * (0x209EA000 + 0x100 * i) + 1024, 1024, 0⟩
/-- Margining Lane Control of the lane (R157). -/
def MRGX_CTL (i : Nat) : Fld := ⟨8 * (0x205B4300 + 0x4 * i) + 0, 16, 0⟩
/-- Margining Lane Status of the lane (R157). -/
def MRGX_STS (i : Nat) : Fld := ⟨8 * (0x205B4300 + 0x4 * i) + 16, 16, 0⟩
/-- 1 + the tether on which the bucket stays though it has left the node's list; 0 when the bucket's slot says it (R408). -/
def BKTX_OLD (i : Nat) : Fld := ⟨8 * (0x205B4700 + 0x4 * i) + 0, 8, 0⟩
/-- The node has sent LEAVE: nothing new is routed to or through it (R304). -/
def NRTX_LEAVING (i : Nat) : Fld := ⟨8 * (0x205C4700 + 0x4 * i) + 0, 1, 0⟩
/-- The last session aborted on its timer (R438). -/
def BRDX_TIMER_ABORT : Fld := ⟨8 * (0x205C4800) + 0, 1, 0⟩
/-- Time of the BRIDLE_BEGIN of the session (R435). -/
def BRDX_HOLD_AT : Fld := ⟨8 * (0x205C4800) + 1, 64, 0⟩
/-- Place in order at which the active table replaced the previous one (R434). -/
def BRDX_CUT : Fld := ⟨8 * (0x205C4800) + 65, 64, 0⟩
/-- Memory Base and Limit register of the bridge (R360). -/
def POSX_MEMW (i : Nat) : Fld := ⟨8 * (0x205C4900 + 0x40 * i) + 0, 32, 0⟩
/-- Prefetchable Memory Base and Limit register (R360). -/
def POSX_PREFW (i : Nat) : Fld := ⟨8 * (0x205C4900 + 0x40 * i) + 32, 32, 0⟩
/-- Prefetchable Base Upper 32 Bits (R360). -/
def POSX_PREFBU (i : Nat) : Fld := ⟨8 * (0x205C4900 + 0x40 * i) + 64, 32, 0⟩
/-- Prefetchable Limit Upper 32 Bits (R360). -/
def POSX_PREFLU (i : Nat) : Fld := ⟨8 * (0x205C4900 + 0x40 * i) + 96, 32, 0⟩
/-- Command register (R360). -/
def POSX_CMD (i : Nat) : Fld := ⟨8 * (0x205C4900 + 0x40 * i) + 128, 16, 0⟩
/-- Bridge Control register; bit 6 Secondary Bus Reset (R363). -/
def POSX_BCTL (i : Nat) : Fld := ⟨8 * (0x205C4900 + 0x40 * i) + 144, 16, 0⟩
/-- ACS Control register: bit 1 Translation Blocking, 2 P2P Request Redirect, 5 P2P Egress Control, 6 Direct Translated P2P (R394). -/
def POSX_ACS (i : Nat) : Fld := ⟨8 * (0x205C4900 + 0x40 * i) + 160, 16, 0⟩
/-- P2P Egress Control vector; 1 blocks the port (R394). -/
def POSX_EGR (i : Nat) : Fld := ⟨8 * (0x205C4900 + 0x40 * i) + 176, 128, 0⟩
/-- DPC Control: bits 1:0 Trigger Enable, bit 2 Completion Control (R535). -/
def POSX_DPCCTL (i : Nat) : Fld := ⟨8 * (0x205C4900 + 0x40 * i) + 304, 16, 0⟩
/-- Primary bus number of the bridge (R360). -/
def POSX_PRI (i : Nat) : Fld := ⟨8 * (0x205C4900 + 0x40 * i) + 320, 8, 0⟩
/-- Memory Base and Limit register of function 0 (R360). -/
def HF0_MEMW (i : Nat) : Fld := ⟨8 * (0x205DC900 + 0x20 * i) + 0, 32, 0⟩
/-- Prefetchable Memory Base and Limit register (R360). -/
def HF0_PREFW (i : Nat) : Fld := ⟨8 * (0x205DC900 + 0x20 * i) + 32, 32, 0⟩
/-- Prefetchable Base Upper 32 Bits (R360). -/
def HF0_PREFBU (i : Nat) : Fld := ⟨8 * (0x205DC900 + 0x20 * i) + 64, 32, 0⟩
/-- Prefetchable Limit Upper 32 Bits (R360). -/
def HF0_PREFLU (i : Nat) : Fld := ⟨8 * (0x205DC900 + 0x20 * i) + 96, 32, 0⟩
/-- Command register (R360). -/
def HF0_CMD (i : Nat) : Fld := ⟨8 * (0x205DC900 + 0x20 * i) + 128, 16, 0⟩
/-- Bridge Control register (R363). -/
def HF0_BCTL (i : Nat) : Fld := ⟨8 * (0x205DC900 + 0x20 * i) + 144, 16, 0⟩
/-- Power state of a configuration bank: 0 D0, 3 D3hot (R195). Banks 0 to 47 are function 0 of each host, 48 to 95 function 1, 96 on the virtual bridges -/
def BFX_PM (i : Nat) : Fld := ⟨8 * (0x20B00000 + 0x80 * i) + 0, 2, 0⟩
/-- PME enable (R195) -/
def BFX_PMEEN (i : Nat) : Fld := ⟨8 * (0x20B00000 + 0x80 * i) + 2, 1, 0⟩
/-- Device Control 3:0: the error reporting enables (R195, R504) -/
def BFX_DEVCTL (i : Nat) : Fld := ⟨8 * (0x20B00000 + 0x80 * i) + 3, 4, 0⟩
/-- ECRC generation and check enables of function 1 (R195) -/
def BFX_ECRC (i : Nat) : Fld := ⟨8 * (0x20B00000 + 0x80 * i) + 7, 2, 0⟩
/-- First Error Pointer (R195) -/
def BFX_FEP (i : Nat) : Fld := ⟨8 * (0x20B00000 + 0x80 * i) + 9, 5, 0⟩
/-- Device Control 2 of a bridge, with ARI Forwarding Enable and AtomicOp Egress Blocking (R195) -/
def BFX_CTL2 (i : Nat) : Fld := ⟨8 * (0x20B00000 + 0x80 * i) + 16, 16, 0⟩
/-- AER Uncorrectable Error Status (R504) -/
def BFX_UNC (i : Nat) : Fld := ⟨8 * (0x20B00000 + 0x80 * i) + 32, 32, 0⟩
/-- AER Uncorrectable Error Mask (R195) -/
def BFX_UNCMASK (i : Nat) : Fld := ⟨8 * (0x20B00000 + 0x80 * i) + 64, 32, 4194304⟩
/-- AER Uncorrectable Error Severity (R503) -/
def BFX_UNCSEV (i : Nat) : Fld := ⟨8 * (0x20B00000 + 0x80 * i) + 96, 32, 4595760⟩
/-- AER Correctable Error Status (R195) -/
def BFX_COR (i : Nat) : Fld := ⟨8 * (0x20B00000 + 0x80 * i) + 128, 32, 0⟩
/-- AER Correctable Error Mask (R195) -/
def BFX_CORMASK (i : Nat) : Fld := ⟨8 * (0x20B00000 + 0x80 * i) + 160, 32, 24576⟩
/-- AER Header Log (R195) -/
def BFX_HDR (i : Nat) : Fld := ⟨8 * (0x20B00000 + 0x80 * i) + 192, 128, 0⟩
/-- Multicast Control (R195) -/
def BFX_MCCTL (i : Nat) : Fld := ⟨8 * (0x20B00000 + 0x80 * i) + 320, 16, 0⟩
/-- ASPM Control of function 1 (R195) -/
def BFX_ASPM (i : Nat) : Fld := ⟨8 * (0x20B00000 + 0x80 * i) + 336, 2, 0⟩
/-- Multicast addresses and vectors: 0 base address, 1 receive, 2 block all, 3 block untranslated, 4 overlay BAR (R195) -/
def BFX_MC (i : Nat) (j : Nat) : Fld := ⟨8 * (0x20B00000 + 0x80 * i + 8 * j) + 384, 64, 0⟩
/-- Device group of a port's Multicast capability group (R353). -/
def MCMX_GROUP (i : Nat) (j : Nat) : Fld := ⟨8 * (0x205DCF00 + 0x100 * i + 0x4 * j) + 0, 8, 0⟩
/-- The map is valid (R353). -/
def MCMX_VALID (i : Nat) (j : Nat) : Fld := ⟨8 * (0x205DCF00 + 0x100 * i + 0x4 * j) + 8, 1, 0⟩
/-- Shadow of BAR b, 0 to 5, ROM 6, VF BARs 8 to 13, of function f of shared port p; the index is 4096 p + 16 f + b (R373). -/
def SHBX_BAR (i : Nat) : Fld := ⟨8 * (0x205E4F00 + 0x8 * i) + 0, 64, 0⟩
/-- Slot Control of the port: bits 7:6 attention and 9:8 power indicator, 10 power controller control (1 off) (R205). -/
def SLTX_CTL (i : Nat) : Fld := ⟨8 * (0x209E4F00 + 0x4 * i) + 0, 16, 1984⟩
/-- Slot Status: bit 0 attention button, 1 power fault, 3 presence change, 4 command completed, 6 presence, 8 data link state changed (R204). -/
def SLTX_STS (i : Nat) : Fld := ⟨8 * (0x209E4F00 + 0x4 * i) + 16, 16, 0⟩
/-- Unread records of the error log (R514). -/
def ERRL_UNREAD : Fld := ⟨8 * (0x209E5100) + 0, 11, 0⟩
/-- 1 waits for SC_VOUT from OFF, 2 from COOLDOWN (R819). -/
def SCX_WAIT (i : Nat) : Fld := ⟨8 * (0x209E5200 + 0x40 * i) + 0, 2, 0⟩
/-- SC_VOUT is at or above 1.2 V with the gate low (R819). -/
def SCX_VOUT_HI (i : Nat) : Fld := ⟨8 * (0x209E5200 + 0x40 * i) + 2, 1, 0⟩
/-- Time at which the gate was last pulled low (R819). -/
def SCX_LOW_AT (i : Nat) : Fld := ⟨8 * (0x209E5200 + 0x40 * i) + 3, 64, 0⟩
/-- Time at which the state was entered (R822). -/
def SCX_ST_AT (i : Nat) : Fld := ⟨8 * (0x209E5200 + 0x40 * i) + 67, 64, 0⟩
/-- Time at which PGOOD asserted (R820). -/
def SCX_PG_AT (i : Nat) : Fld := ⟨8 * (0x209E5200 + 0x40 * i) + 131, 64, 0⟩
/-- Time at which a power-off drove SLOT_PERST_N low, plus 1; 0 when none runs (R209). -/
def SCX_OFF_AT (i : Nat) : Fld := ⟨8 * (0x209E5200 + 0x40 * i) + 195, 64, 0⟩
/-- Slot command that runs: 1 power on, 2 power off (R675). -/
def SCX_BUSY (i : Nat) : Fld := ⟨8 * (0x209E5200 + 0x40 * i) + 259, 2, 0⟩
/-- Slot Control command that waits for it (R675). -/
def SCX_NEXT (i : Nat) : Fld := ⟨8 * (0x209E5200 + 0x40 * i) + 261, 2, 0⟩
/-- Handle of the PORT_SLOT that runs; 0 for another command (R722). -/
def SCX_OP (i : Nat) : Fld := ⟨8 * (0x209E5200 + 0x40 * i) + 263, 16, 0⟩
/-- A power-off request since the fault latch (R822). -/
def SCX_OFFSEEN (i : Nat) : Fld := ⟨8 * (0x209E5200 + 0x40 * i) + 279, 1, 0⟩
/-- A new retry count takes effect at the next fault (R825). -/
def SCX_NEWRETRY (i : Nat) : Fld := ⟨8 * (0x209E5200 + 0x40 * i) + 280, 1, 0⟩
/-- The fault timer's value in us when it last stopped (R815). -/
def SCX_TCNT (i : Nat) : Fld := ⟨8 * (0x209E5200 + 0x40 * i) + 281, 16, 0⟩
/-- Time from which it counts, plus 1; 0 while it stands (R815). -/
def SCX_TON (i : Nat) : Fld := ⟨8 * (0x209E5200 + 0x40 * i) + 297, 64, 0⟩
/-- The last sample lay below 90 % of the trip current (R815). -/
def SCX_TLOW (i : Nat) : Fld := ⟨8 * (0x209E5200 + 0x40 * i) + 361, 1, 0⟩
/-- The DDR4 contents are held: DDR4 is up or in self-refresh with its supply unbroken (R108). -/
def RETX_KEPT : Fld := ⟨8 * (0x209E5A00) + 0, 1, 0⟩
/-- Cause of the start-up to come or last begun: 0 cold start, 1 RESET_N, 2 exit from PS-OFF, 3 end of a mooring, 4 the start-up of R116 (R944). -/
def RETX_CAUSE : Fld := ⟨8 * (0x209E5A00) + 1, 3, 0⟩
/-- A reset drain preceded the start-up to come (R944). -/
def RETX_DRAINED : Fld := ⟨8 * (0x209E5A00) + 4, 1, 0⟩
/-- State left by the event that the start-up follows, coded as FROM_STATE (R792). -/
def RETX_FROM : Fld := ⟨8 * (0x209E5A00) + 5, 3, 4⟩
/-- Fabric time of that event (R792). -/
def RETX_EVENT_AT : Fld := ⟨8 * (0x209E5A00) + 8, 64, 0⟩
/-- Source of that event, coded as PWR_LAST_WAKE.SOURCE (R792). -/
def RETX_SOURCE : Fld := ⟨8 * (0x209E5A00) + 72, 5, 0⟩
/-- A cold start whose drive headers are not yet checked (R885). -/
def RETX_RESTORE_DUE : Fld := ⟨8 * (0x209E5A00) + 77, 1, 0⟩
/-- The mooring in progress wrote, or began to write, a spill image (R880). -/
def RETX_SPILLED : Fld := ⟨8 * (0x209E5A00) + 78, 1, 0⟩
/-- Fabric time of the last drain point (R871). -/
def RETX_DRAIN_FT : Fld := ⟨8 * (0x209E5A00) + 79, 64, 0⟩
/-- Time of the last drain point (R856). -/
def RETX_DRAIN_AT : Fld := ⟨8 * (0x209E5A00) + 143, 64, 0⟩
/-- Time at which retention began (R893). -/
def RETX_RETAIN_AT : Fld := ⟨8 * (0x209E5A00) + 207, 64, 0⟩
/-- Time at which unmooring or the restore began (R893). -/
def RETX_UNMOOR_AT : Fld := ⟨8 * (0x209E5A00) + 271, 64, 0⟩
/-- RETAIN_EST (R860). -/
def RETX_EST : Fld := ⟨8 * (0x209E5A00) + 335, 64, 0⟩
/-- Time at which the spill started, plus 1 (R867). -/
def RETX_SPILL_AT : Fld := ⟨8 * (0x209E5A00) + 399, 64, 0⟩
/-- Progress of a spill: 1 bring-up, 2 drives ready and headers WRITING (R867). -/
def RETX_SPILLING : Fld := ⟨8 * (0x209E5A00) + 463, 2, 0⟩
/-- Groups of slot channels powered after READY (R881). -/
def RETX_GROUPS : Fld := ⟨8 * (0x209E5A00) + 465, 3, 0⟩
/-- Length of the last image (R871). -/
def RETX_IMAGE_LEN : Fld := ⟨8 * (0x209E5A00) + 468, 64, 0⟩
/-- Seconds of retention since the last SAMPLE record (R860). -/
def RETX_SAMPLES : Fld := ⟨8 * (0x209E5A00) + 532, 6, 0⟩
/-- RESET_N rose while the reset drain ran: the start-up follows at its end (R114). -/
def RETX_ROSE : Fld := ⟨8 * (0x209E5A00) + 538, 1, 0⟩
/-- Increment of the fabric time count before retention; 0 when it is not on the retention clock (R104). -/
def RETX_FT_INC : Fld := ⟨8 * (0x209E5A00) + 539, 64, 0⟩
/-- The slot inputs are frozen, from a drain point until READY (R76). -/
def RETX_FROZEN : Fld := ⟨8 * (0x209E5A00) + 603, 1, 0⟩
/-- Time of the last estimate of RETAIN_EST (R860). -/
def RETX_EST_AT : Fld := ⟨8 * (0x209E5A00) + 604, 64, 0⟩
/-- BKP_BUS has collapsed and is not yet restored (R928). -/
def MORX_DEAD : Fld := ⟨8 * (0x209E5B00) + 0, 1, 0⟩
/-- BKP_RAIL_EN is high (R878). -/
def MORX_RAIL_EN : Fld := ⟨8 * (0x209E5B00) + 1, 1, 0⟩
/-- Time from which the feeds have been stable while moored, plus 1; 0 when they are not (R874). -/
def MORX_QUAL_AT : Fld := ⟨8 * (0x209E5B00) + 2, 64, 0⟩
/-- What fired the last mooring trigger: 0 feeds, 1 PWR_FAIL_IN (R894). -/
def MORX_TRIG : Fld := ⟨8 * (0x209E5B00) + 66, 1, 0⟩
/-- The pack discharged in this mooring (R833). -/
def MORX_DISCHARGED : Fld := ⟨8 * (0x209E5B00) + 67, 1, 0⟩
/-- FEED_MASK: bit 0 feed A, bit 1 feed B in use (R916). -/
def LIFTX_MASK : Fld := ⟨8 * (0x209E5C00) + 0, 2, 3⟩
/-- Sense resistor of feed A in 0.1 mOhm (R916). -/
def LIFTX_SENSE_A : Fld := ⟨8 * (0x209E5C00) + 2, 8, 10⟩
/-- Sense resistor of feed B (R916). -/
def LIFTX_SENSE_B : Fld := ⟨8 * (0x209E5C00) + 10, 8, 10⟩
/-- Bit x: feed x is lost below 11.0 V (R796). -/
def LIFTX_LOST : Fld := ⟨8 * (0x209E5C00) + 18, 2, 0⟩
/-- Time of the last meter tick (R829). -/
def LIFTX_TICK_AT : Fld := ⟨8 * (0x209E5C00) + 20, 64, 0⟩
/-- The pack reached 21.6 V in CHARGE_BAL and has not fallen to 21.2 V (R803). -/
def LIFTX_FULL : Fld := ⟨8 * (0x209E5C00) + 84, 1, 0⟩
/-- The pack has had no test since it was inserted (R845). -/
def LIFTX_FIRST : Fld := ⟨8 * (0x209E5C00) + 85, 1, 0⟩
/-- A health test has fallen due (R845). -/
def LIFTX_DUE : Fld := ⟨8 * (0x209E5C00) + 86, 1, 0⟩
/-- Time of the last completed health test (R845). -/
def LIFTX_TEST_AT : Fld := ⟨8 * (0x209E5C00) + 87, 64, 0⟩
/-- Time at which the running test began (R843). -/
def LIFTX_TEST_T0 : Fld := ⟨8 * (0x209E5C00) + 151, 64, 0⟩
/-- Pack voltage in mV before the 4 A step (R843). -/
def LIFTX_TEST_V0 : Fld := ⟨8 * (0x209E5C00) + 215, 16, 0⟩
/-- Time of the last update of the hours-at-voltage log (R833). -/
def LIFTX_HOUR_AT : Fld := ⟨8 * (0x209E5C00) + 231, 64, 0⟩
/-- Bit x: the comparator of feed x is declared CHATTER (R139). -/
def LIFTX_CHAT : Fld := ⟨8 * (0x209E5C00) + 295, 2, 0⟩
/-- Bit x: FEED_x_GATE is on (R794). -/
def LIFTX_GATE : Fld := ⟨8 * (0x209E5C00) + 297, 2, 0⟩
/-- The first qualified FT_PPS edge since the cold start has set the count (R91). -/
def FTX_STARTED : Fld := ⟨8 * (0x209E5D00) + 0, 1, 0⟩
/-- A FABRIC_TIME_SET waits for the next qualified edge (R91). -/
def FTX_SET_VALID : Fld := ⟨8 * (0x209E5D00) + 1, 1, 0⟩
/-- Its time (R91). -/
def FTX_SET_VAL : Fld := ⟨8 * (0x209E5D00) + 2, 64, 0⟩
/-- A qualified FT_PPS edge has been seen (R86). -/
def FTX_HAD_PPS : Fld := ⟨8 * (0x209E5D00) + 66, 1, 0⟩
/-- Time of the last qualified FT_PPS edge (R86, R98, R107). -/
def FTX_PPS_AT : Fld := ⟨8 * (0x209E5D00) + 67, 64, 0⟩
/-- Time of the last valid exchange, or of the change of role since (R98). -/
def FTX_EXCH_AT : Fld := ⟨8 * (0x209E5D00) + 131, 64, 0⟩
/-- Consecutive exchanges that measured more than 1 us (R95). -/
def FTX_BIG : Fld := ⟨8 * (0x209E5D00) + 195, 2, 0⟩
/-- FT_PPS edges that failed the phase test (R86). -/
def FTX_BAD_PPS : Fld := ⟨8 * (0x209E5D00) + 197, 16, 0⟩
/-- The time at which the node last became time root. -/
def FTX_ROOT_AT : Fld := ⟨8 * (0x209E5D00) + 213, 64, 0⟩
/-- ENERGY accumulator in mJ (R829). -/
def MTRX_E (i : Nat) : Fld := ⟨8 * (0x209E5E00 + 0x20 * i) + 0, 48, 0⟩
/-- Its fraction in nJ (R829). -/
def MTRX_FR (i : Nat) : Fld := ⟨8 * (0x209E5E00 + 0x20 * i) + 48, 20, 0⟩
/-- ENERGY2 accumulator in mJ (R829). -/
def MTRX_E2 (i : Nat) : Fld := ⟨8 * (0x209E5E00 + 0x20 * i) + 68, 48, 0⟩
/-- Its fraction in nJ (R829). -/
def MTRX_FR2 (i : Nat) : Fld := ⟨8 * (0x209E5E00 + 0x20 * i) + 116, 20, 0⟩
/-- Snapshots not yet complete: routing, Bridle, scheduler, domain, window, spool, gondola (R457). -/
def SNAPX_DUE : Fld := ⟨8 * (0x209E6300) + 0, 7, 0⟩
/-- Where the running firmware came from: 0 flash A, 1 flash B, 2 the recovery buffer (R919). -/
def BOOTX_FROM : Fld := ⟨8 * (0x209E6400) + 0, 2, 0⟩
/-- DAP_ADDR, its address (R921). -/
def DAPX_ADDR : Fld := ⟨8 * (0x209E6500) + 0, 64, 0⟩
/-- DAP_ADDR, its space (R921). -/
def DAPX_SPACE : Fld := ⟨8 * (0x209E6500) + 64, 2, 0⟩
/-- DAP_DATA: what the last read returned (R921). -/
def DAPX_DATA : Fld := ⟨8 * (0x209E6500) + 66, 64, 0⟩
/-- Access that waits: 1 read, 2 write (R923). -/
def DAPX_OP : Fld := ⟨8 * (0x209E6500) + 130, 2, 0⟩
/-- Its size: 0 32-bit, 1 64-bit (R923). -/
def DAPX_WIDE : Fld := ⟨8 * (0x209E6500) + 132, 1, 0⟩
/-- Its write data (R923). -/
def DAPX_WDATA : Fld := ⟨8 * (0x209E6500) + 133, 64, 0⟩
/-- Its address (R923). -/
def DAPX_AT : Fld := ⟨8 * (0x209E6500) + 197, 64, 0⟩
/-- Its space (R923). -/
def DAPX_ASP : Fld := ⟨8 * (0x209E6500) + 261, 2, 0⟩
/-- The last access was denied (R923). -/
def DAPX_ERROR : Fld := ⟨8 * (0x209E6500) + 263, 1, 0⟩
/-- The last access passed under DEBUG_OVERRIDE (R923). -/
def DAPX_OVER : Fld := ⟨8 * (0x209E6500) + 264, 1, 0⟩
/-- The REG_DATA access of the SMBus that waits: 0 none, 1 a read, 2 a write (R436, R905) -/
def SMBX_OP : Fld := ⟨8 * (0x20BF0000) + 0, 2, 0⟩
/-- Its BAR0 offset -/
def SMBX_AT : Fld := ⟨8 * (0x20BF0000) + 2, 32, 0⟩
/-- The value it writes -/
def SMBX_DATA : Fld := ⟨8 * (0x20BF0000) + 34, 32, 0⟩
/-- The line at which the patrol pass stands (R566). -/
def PATX_LINE : Fld := ⟨8 * (0x20BF0100) + 0, 35, 0⟩
/-- The instruction register (R921). -/
def JTGX_IR : Fld := ⟨8 * (0x209E6600) + 0, 8, 2⟩
/-- The boundary-scan register as last loaded (R921). -/
def JTGX_BSR : Fld := ⟨8 * (0x209E6600) + 8, 1024, 0⟩
/-- A sample since TJ_PEAK was last read (R941). -/
def THRMX_SEEN : Fld := ⟨8 * (0x209E6700) + 0, 1, 0⟩
/-- A token is being received (R910). -/
def CHNX_EDGE : Fld := ⟨8 * (0x209E6800) + 0, 1, 0⟩
/-- Time of the rising edge that began it (R910). -/
def CHNX_EDGE_AT : Fld := ⟨8 * (0x209E6800) + 1, 64, 0⟩
/-- Data bits sampled (R910). -/
def CHNX_NBIT : Fld := ⟨8 * (0x209E6800) + 65, 3, 0⟩
/-- Their value (R910). -/
def CHNX_VAL : Fld := ⟨8 * (0x209E6800) + 68, 7, 0⟩
/-- Carry of v + 1 computed so far (R912). -/
def CHNX_CARRY : Fld := ⟨8 * (0x209E6800) + 75, 1, 0⟩
/-- Time at which the own token started, plus 1 (R912). -/
def CHNX_TX_AT : Fld := ⟨8 * (0x209E6800) + 76, 64, 0⟩
/-- The own token was sent whole, with a high stop cell (R909). -/
def CHNX_TX_OK : Fld := ⟨8 * (0x209E6800) + 140, 1, 0⟩
/-- Time from which R132 applies, plus 1 (R132). -/
def CHNX_FB_AT : Fld := ⟨8 * (0x209E6800) + 141, 64, 0⟩
/-- Subsystem Vendor ID (R916). -/
def CFGX_SSVID : Fld := ⟨8 * (0x209E6900) + 0, 16, 7996⟩
/-- Subsystem ID (R916). -/
def CFGX_SSID : Fld := ⟨8 * (0x209E6900) + 16, 16, 1⟩

/-- The access kinds of a register field (R7, R11, R12). -/
inductive Acc where
  | ro | rw | w1c | rc | wo | w1s
  deriving DecidableEq, Repr

/-- One field, or one word's part of a field, of a BAR0 word: the word's offset (`base` and the strides and counts of
its indices), the place in the word (`lo`, `w`), and the place in the field store of the field it shows: `back`
bytes below the word's offset, at bit `flo`, from bit `vbit` of the field's value, which is `width` bits wide. -/
structure RegRow where
  base : Nat
  dims : List (Nat × Nat)
  lo : Nat
  w : Nat
  acc : Acc
  back : Nat
  flo : Nat
  vbit : Nat
  width : Nat
  rst : Nat
  deriving DecidableEq, Repr

/-- Words of BAR0, part 0. -/
def regRows0 : List RegRow :=
  [⟨0x40, [], 0, 7, .ro, 0, 0, 0, 7, 0⟩,
   ⟨0x40, [], 7, 1, .ro, 0, 7, 0, 1, 0⟩,
   ⟨0x40, [], 8, 2, .ro, 0, 8, 0, 2, 0⟩,
   ⟨0x40, [], 10, 4, .ro, 0, 10, 0, 4, 0⟩,
   ⟨0x40, [], 16, 2, .ro, 0, 16, 0, 2, 0⟩,
   ⟨0x4C, [], 0, 16, .ro, 0, 0, 0, 16, 0⟩,
   ⟨0x4C, [], 16, 4, .ro, 0, 16, 0, 4, 0⟩,
   ⟨0x4C, [], 20, 1, .ro, 0, 20, 0, 1, 0⟩,
   ⟨0x4C, [], 21, 1, .ro, 0, 21, 0, 1, 0⟩,
   ⟨0x4C, [], 22, 1, .w1c, 0, 22, 0, 1, 0⟩,
   ⟨0x4C, [], 23, 1, .ro, 0, 23, 0, 1, 0⟩,
   ⟨0x780100, [], 0, 32, .ro, 0, 0, 0, 32, 0⟩,
   ⟨0x780104, [], 0, 32, .ro, 0, 0, 0, 32, 0⟩,
   ⟨0x780108, [], 0, 2, .ro, 0, 0, 0, 2, 0⟩,
   ⟨0x780108, [], 2, 1, .ro, 0, 2, 0, 1, 0⟩,
   ⟨0x780108, [], 3, 1, .ro, 0, 3, 0, 1, 0⟩,
   ⟨0x780108, [], 4, 1, .ro, 0, 4, 0, 1, 0⟩,
   ⟨0x780108, [], 5, 1, .ro, 0, 5, 0, 1, 0⟩,
   ⟨0x780108, [], 6, 1, .ro, 0, 6, 0, 1, 0⟩,
   ⟨0x780108, [], 7, 1, .w1c, 0, 7, 0, 1, 0⟩,
   ⟨0x780108, [], 8, 7, .ro, 0, 8, 0, 7, 0⟩,
   ⟨0x780108, [], 15, 1, .ro, 0, 15, 0, 1, 0⟩,
   ⟨0x780108, [], 16, 4, .ro, 0, 16, 0, 4, 15⟩,
   ⟨0x78010C, [], 0, 32, .ro, 0, 0, 0, 32, 0⟩,
   ⟨0x780110, [], 0, 16, .ro, 0, 0, 0, 16, 0⟩,
   ⟨0x44, [], 0, 1, .w1c, 0, 0, 0, 1, 1⟩,
   ⟨0x44, [], 1, 1, .w1c, 0, 1, 0, 1, 0⟩,
   ⟨0x44, [], 2, 1, .w1c, 0, 2, 0, 1, 0⟩,
   ⟨0x44, [], 3, 1, .w1c, 0, 3, 0, 1, 0⟩,
   ⟨0x44, [], 4, 1, .ro, 0, 4, 0, 1, 0⟩,
   ⟨0x44, [], 5, 1, .w1c, 0, 5, 0, 1, 0⟩,
   ⟨0x44, [], 6, 1, .w1c, 0, 6, 0, 1, 0⟩,
   ⟨0x44, [], 16, 16, .ro, 0, 16, 0, 16, 0⟩,
   ⟨0x48, [], 0, 4, .ro, 0, 0, 0, 4, 0⟩,
   ⟨0x48, [], 4, 1, .ro, 0, 4, 0, 1, 0⟩,
   ⟨0x48, [], 5, 1, .ro, 0, 5, 0, 1, 0⟩,
   ⟨0x48, [], 6, 1, .ro, 0, 6, 0, 1, 0⟩,
   ⟨0x48, [], 7, 2, .ro, 0, 7, 0, 2, 0⟩,
   ⟨0x48, [], 9, 2, .ro, 0, 9, 0, 2, 0⟩,
   ⟨0x48, [], 11, 1, .ro, 0, 11, 0, 1, 0⟩]

/-- Words of BAR0, part 1. -/
def regRows1 : List RegRow :=
  [⟨0x48, [], 12, 1, .ro, 0, 12, 0, 1, 0⟩,
   ⟨0x780000, [], 0, 7, .ro, 0, 0, 0, 7, 0⟩,
   ⟨0x780000, [], 8, 6, .ro, 0, 8, 0, 6, 0⟩,
   ⟨0x780000, [], 14, 1, .ro, 0, 14, 0, 1, 0⟩,
   ⟨0x780000, [], 15, 2, .ro, 0, 15, 0, 2, 0⟩,
   ⟨0x50, [], 0, 4, .ro, 0, 0, 0, 4, 0⟩,
   ⟨0x50, [], 4, 4, .ro, 0, 4, 0, 4, 0⟩,
   ⟨0x50, [], 8, 4, .ro, 0, 8, 0, 4, 0⟩,
   ⟨0x50, [], 12, 4, .ro, 0, 12, 0, 4, 0⟩,
   ⟨0x50, [], 16, 1, .ro, 0, 16, 0, 1, 0⟩,
   ⟨0x180000, [(0x400, 256)], 0, 1, .rw, 0, 0, 0, 1, 0⟩,
   ⟨0x180000, [(0x400, 256)], 1, 4, .rw, 0, 1, 0, 4, 0⟩,
   ⟨0x180000, [(0x400, 256)], 5, 1, .rw, 0, 5, 0, 1, 0⟩,
   ⟨0x180000, [(0x400, 256)], 6, 1, .rw, 0, 6, 0, 1, 0⟩,
   ⟨0x180000, [(0x400, 256)], 8, 2, .rw, 0, 8, 0, 2, 0⟩,
   ⟨0x180004, [(0x400, 256)], 0, 7, .ro, 0, 0, 0, 7, 0⟩,
   ⟨0x180004, [(0x400, 256)], 7, 1, .ro, 0, 7, 0, 1, 0⟩,
   ⟨0x180004, [(0x400, 256)], 8, 1, .ro, 0, 8, 0, 1, 0⟩,
   ⟨0x180004, [(0x400, 256)], 9, 4, .ro, 0, 9, 0, 4, 15⟩,
   ⟨0x180004, [(0x400, 256)], 13, 1, .ro, 0, 13, 0, 1, 0⟩,
   ⟨0x180004, [(0x400, 256)], 14, 1, .ro, 0, 14, 0, 1, 0⟩,
   ⟨0x180004, [(0x400, 256)], 15, 4, .ro, 0, 15, 0, 4, 0⟩,
   ⟨0x180004, [(0x400, 256)], 19, 1, .ro, 0, 19, 0, 1, 0⟩,
   ⟨0x180004, [(0x400, 256)], 20, 1, .ro, 0, 20, 0, 1, 0⟩,
   ⟨0x180004, [(0x400, 256)], 21, 1, .ro, 0, 21, 0, 1, 1⟩,
   ⟨0x180004, [(0x400, 256)], 22, 2, .ro, 0, 22, 0, 2, 0⟩,
   ⟨0x180004, [(0x400, 256)], 24, 1, .ro, 0, 24, 0, 1, 0⟩,
   ⟨0x180008, [(0x400, 256)], 0, 6, .ro, 0, 0, 0, 6, 0⟩,
   ⟨0x180008, [(0x400, 256)], 6, 6, .ro, 0, 6, 0, 6, 0⟩,
   ⟨0x180008, [(0x400, 256)], 12, 7, .ro, 0, 12, 0, 7, 0⟩,
   ⟨0x180008, [(0x400, 256)], 19, 6, .ro, 0, 19, 0, 6, 0⟩,
   ⟨0x180008, [(0x400, 256)], 25, 6, .ro, 0, 25, 0, 6, 0⟩,
   ⟨0x18000C, [(0x400, 256)], 0, 4, .ro, 0, 0, 0, 4, 0⟩,
   ⟨0x18000C, [(0x400, 256)], 4, 12, .ro, 0, 4, 0, 12, 0⟩,
   ⟨0x18000C, [(0x400, 256)], 16, 1, .ro, 0, 16, 0, 1, 0⟩,
   ⟨0x18000C, [(0x400, 256)], 17, 1, .w1c, 0, 17, 0, 1, 0⟩,
   ⟨0x18000C, [(0x400, 256)], 18, 1, .w1c, 0, 18, 0, 1, 0⟩,
   ⟨0x180010, [(0x400, 256)], 0, 4, .rw, 0, 0, 0, 4, 6⟩,
   ⟨0x180010, [(0x400, 256)], 4, 8, .rw, 0, 4, 0, 8, 32⟩,
   ⟨0x180010, [(0x400, 256)], 12, 1, .rw, 0, 12, 0, 1, 1⟩]

/-- Words of BAR0, part 2. -/
def regRows2 : List RegRow :=
  [⟨0x180014, [(0x400, 256)], 0, 1, .w1c, 0, 0, 0, 1, 0⟩,
   ⟨0x180014, [(0x400, 256)], 1, 1, .w1c, 0, 1, 0, 1, 0⟩,
   ⟨0x180014, [(0x400, 256)], 2, 1, .w1c, 0, 2, 0, 1, 0⟩,
   ⟨0x180018, [(0x400, 256)], 0, 16, .rc, 0, 0, 0, 16, 0⟩,
   ⟨0x180018, [(0x400, 256)], 16, 16, .rc, 0, 16, 0, 16, 0⟩,
   ⟨0x18001C, [(0x400, 256)], 0, 32, .rc, 0, 0, 0, 32, 0⟩,
   ⟨0x180020, [(0x400, 256)], 0, 4, .rw, 0, 0, 0, 4, 0⟩,
   ⟨0x180020, [(0x400, 256)], 4, 1, .rw, 0, 4, 0, 1, 0⟩,
   ⟨0x180020, [(0x400, 256)], 5, 1, .rw, 0, 5, 0, 1, 0⟩,
   ⟨0x180020, [(0x400, 256)], 6, 1, .wo, 0, 6, 0, 1, 0⟩,
   ⟨0x180024, [(0x400, 256)], 0, 1, .ro, 0, 0, 0, 1, 0⟩,
   ⟨0x180028, [(0x400, 256)], 0, 32, .rc, 0, 0, 0, 32, 0⟩,
   ⟨0x18002C, [(0x400, 256)], 0, 5, .ro, 0, 0, 0, 5, 0⟩,
   ⟨0x18002C, [(0x400, 256)], 5, 8, .ro, 0, 5, 0, 8, 0⟩,
   ⟨0x18002C, [(0x400, 256)], 13, 8, .ro, 0, 13, 0, 8, 0⟩,
   ⟨0x180300, [(0x4000, 16)], 0, 1, .ro, 0, 0, 0, 1, 0⟩,
   ⟨0x180300, [(0x4000, 16)], 1, 1, .ro, 0, 1, 0, 1, 0⟩,
   ⟨0x180300, [(0x4000, 16)], 2, 1, .ro, 0, 2, 0, 1, 0⟩,
   ⟨0x180300, [(0x4000, 16)], 3, 1, .ro, 0, 3, 0, 1, 0⟩,
   ⟨0x180300, [(0x4000, 16)], 4, 1, .ro, 0, 4, 0, 1, 0⟩,
   ⟨0x180300, [(0x4000, 16)], 5, 1, .w1c, 0, 5, 0, 1, 0⟩,
   ⟨0x100000, [(0x1000, 128)], 0, 2, .ro, 0, 0, 0, 2, 0⟩,
   ⟨0x100000, [(0x1000, 128)], 2, 4, .ro, 0, 2, 0, 4, 0⟩,
   ⟨0x100000, [(0x1000, 128)], 6, 3, .ro, 0, 6, 0, 3, 0⟩,
   ⟨0x100000, [(0x1000, 128)], 9, 4, .ro, 0, 9, 0, 4, 15⟩,
   ⟨0x100000, [(0x1000, 128)], 13, 1, .ro, 0, 13, 0, 1, 0⟩,
   ⟨0x100000, [(0x1000, 128)], 14, 1, .ro, 0, 14, 0, 1, 0⟩,
   ⟨0x100000, [(0x1000, 128)], 15, 1, .ro, 0, 15, 0, 1, 0⟩,
   ⟨0x100000, [(0x1000, 128)], 16, 6, .ro, 0, 16, 0, 6, 0⟩,
   ⟨0x100000, [(0x1000, 128)], 22, 5, .ro, 0, 22, 0, 5, 0⟩,
   ⟨0x100000, [(0x1000, 128)], 27, 1, .ro, 0, 27, 0, 1, 0⟩,
   ⟨0x100004, [(0x1000, 128)], 0, 4, .ro, 0, 0, 0, 4, 0⟩,
   ⟨0x100004, [(0x1000, 128)], 4, 4, .ro, 0, 4, 0, 4, 15⟩,
   ⟨0x100004, [(0x1000, 128)], 8, 5, .ro, 0, 8, 0, 5, 0⟩,
   ⟨0x100004, [(0x1000, 128)], 13, 1, .ro, 0, 13, 0, 1, 0⟩,
   ⟨0x100004, [(0x1000, 128)], 14, 1, .ro, 0, 14, 0, 1, 0⟩,
   ⟨0x100004, [(0x1000, 128)], 15, 1, .ro, 0, 15, 0, 1, 0⟩,
   ⟨0x100004, [(0x1000, 128)], 16, 1, .ro, 0, 16, 0, 1, 0⟩,
   ⟨0x100004, [(0x1000, 128)], 17, 2, .ro, 0, 17, 0, 2, 0⟩,
   ⟨0x100008, [(0x1000, 128)], 0, 1, .w1c, 0, 0, 0, 1, 0⟩]

/-- Words of BAR0, part 3. -/
def regRows3 : List RegRow :=
  [⟨0x100008, [(0x1000, 128)], 1, 1, .w1c, 0, 1, 0, 1, 0⟩,
   ⟨0x100008, [(0x1000, 128)], 2, 1, .w1c, 0, 2, 0, 1, 0⟩,
   ⟨0x100008, [(0x1000, 128)], 3, 1, .w1c, 0, 3, 0, 1, 0⟩,
   ⟨0x100008, [(0x1000, 128)], 4, 1, .w1c, 0, 4, 0, 1, 0⟩,
   ⟨0x100008, [(0x1000, 128)], 5, 1, .w1c, 0, 5, 0, 1, 0⟩,
   ⟨0x100008, [(0x1000, 128)], 6, 1, .w1c, 0, 6, 0, 1, 0⟩,
   ⟨0x100008, [(0x1000, 128)], 7, 1, .w1c, 0, 7, 0, 1, 0⟩,
   ⟨0x100008, [(0x1000, 128)], 8, 1, .w1c, 0, 8, 0, 1, 0⟩,
   ⟨0x100008, [(0x1000, 128)], 9, 1, .w1c, 0, 9, 0, 1, 0⟩,
   ⟨0x10000C, [(0x1000, 128)], 0, 16, .rc, 0, 0, 0, 16, 0⟩,
   ⟨0x10000C, [(0x1000, 128)], 16, 16, .rc, 0, 16, 0, 16, 0⟩,
   ⟨0x100010, [(0x1000, 128)], 0, 16, .rc, 0, 0, 0, 16, 0⟩,
   ⟨0x100010, [(0x1000, 128)], 16, 16, .rc, 0, 16, 0, 16, 0⟩,
   ⟨0x100014, [(0x1000, 128)], 0, 16, .rc, 0, 0, 0, 16, 0⟩,
   ⟨0x100014, [(0x1000, 128)], 16, 16, .rc, 0, 16, 0, 16, 0⟩,
   ⟨0x100018, [(0x1000, 128)], 0, 16, .rc, 0, 0, 0, 16, 0⟩,
   ⟨0x100018, [(0x1000, 128)], 16, 16, .rc, 0, 16, 0, 16, 0⟩,
   ⟨0x10001C, [(0x1000, 128)], 0, 2, .ro, 0, 0, 0, 2, 0⟩,
   ⟨0x10001C, [(0x1000, 128)], 2, 1, .ro, 0, 2, 0, 1, 0⟩,
   ⟨0x10001C, [(0x1000, 128)], 3, 1, .ro, 0, 3, 0, 1, 0⟩,
   ⟨0x10001C, [(0x1000, 128)], 4, 1, .ro, 0, 4, 0, 1, 0⟩,
   ⟨0x10001C, [(0x1000, 128)], 5, 1, .ro, 0, 5, 0, 1, 0⟩,
   ⟨0x10001C, [(0x1000, 128)], 6, 1, .ro, 0, 6, 0, 1, 0⟩,
   ⟨0x10001C, [(0x1000, 128)], 7, 1, .ro, 0, 7, 0, 1, 0⟩,
   ⟨0x10001C, [(0x1000, 128)], 16, 10, .ro, 0, 16, 0, 10, 0⟩,
   ⟨0x100020, [(0x1000, 128)], 0, 16, .rc, 0, 0, 0, 16, 0⟩,
   ⟨0x100020, [(0x1000, 128)], 16, 16, .rc, 0, 16, 0, 16, 0⟩,
   ⟨0x100800, [(0x1000, 128)], 0, 4, .ro, 0, 0, 0, 4, 11⟩,
   ⟨0x100800, [(0x1000, 128)], 4, 7, .ro, 0, 4, 0, 7, 2⟩,
   ⟨0x100800, [(0x1000, 128)], 11, 7, .ro, 0, 11, 0, 7, 5⟩,
   ⟨0x100804, [(0x1000, 128)], 0, 4, .ro, 0, 0, 0, 4, 0⟩,
   ⟨0x100804, [(0x1000, 128)], 4, 4, .ro, 0, 4, 0, 4, 15⟩,
   ⟨0x100804, [(0x1000, 128)], 8, 5, .ro, 0, 8, 0, 5, 0⟩,
   ⟨0x100804, [(0x1000, 128)], 13, 8, .ro, 0, 13, 0, 8, 0⟩,
   ⟨0x100804, [(0x1000, 128)], 21, 1, .ro, 0, 21, 0, 1, 0⟩,
   ⟨0x100804, [(0x1000, 128)], 22, 6, .ro, 0, 22, 0, 6, 0⟩,
   ⟨0x100804, [(0x1000, 128)], 28, 1, .ro, 0, 28, 0, 1, 0⟩,
   ⟨0x100808, [(0x1000, 128)], 0, 1, .w1c, 0, 0, 0, 1, 0⟩,
   ⟨0x100808, [(0x1000, 128)], 1, 1, .w1c, 0, 1, 0, 1, 0⟩,
   ⟨0x100808, [(0x1000, 128)], 2, 1, .w1c, 0, 2, 0, 1, 0⟩]

/-- Words of BAR0, part 4. -/
def regRows4 : List RegRow :=
  [⟨0x100808, [(0x1000, 128)], 3, 1, .w1c, 0, 3, 0, 1, 0⟩,
   ⟨0x100808, [(0x1000, 128)], 4, 1, .w1c, 0, 4, 0, 1, 0⟩,
   ⟨0x100808, [(0x1000, 128)], 5, 1, .w1c, 0, 5, 0, 1, 0⟩,
   ⟨0x100808, [(0x1000, 128)], 6, 1, .w1c, 0, 6, 0, 1, 0⟩,
   ⟨0x100808, [(0x1000, 128)], 7, 1, .w1c, 0, 7, 0, 1, 0⟩,
   ⟨0x100808, [(0x1000, 128)], 8, 1, .w1c, 0, 8, 0, 1, 0⟩,
   ⟨0x100808, [(0x1000, 128)], 9, 1, .w1c, 0, 9, 0, 1, 0⟩,
   ⟨0x100808, [(0x1000, 128)], 10, 1, .w1c, 0, 10, 0, 1, 0⟩,
   ⟨0x100808, [(0x1000, 128)], 11, 1, .w1c, 0, 11, 0, 1, 0⟩,
   ⟨0x100808, [(0x1000, 128)], 12, 1, .w1c, 0, 12, 0, 1, 0⟩,
   ⟨0x10080C, [(0x1000, 128)], 0, 16, .ro, 0, 0, 0, 16, 0⟩,
   ⟨0x10080C, [(0x1000, 128)], 16, 16, .ro, 0, 16, 0, 16, 0⟩,
   ⟨0x100810, [(0x1000, 128)], 0, 16, .ro, 0, 0, 0, 16, 0⟩,
   ⟨0x100810, [(0x1000, 128)], 16, 10, .ro, 0, 16, 0, 10, 0⟩,
   ⟨0x100814, [(0x1000, 128)], 0, 16, .rc, 0, 0, 0, 16, 0⟩,
   ⟨0x100814, [(0x1000, 128)], 16, 16, .rc, 0, 16, 0, 16, 0⟩,
   ⟨0x100818, [(0x1000, 128)], 0, 16, .rc, 0, 0, 0, 16, 0⟩,
   ⟨0x100818, [(0x1000, 128)], 16, 16, .rc, 0, 16, 0, 16, 0⟩,
   ⟨0x10081C, [(0x1000, 128)], 0, 16, .rc, 0, 0, 0, 16, 0⟩,
   ⟨0x10081C, [(0x1000, 128)], 16, 16, .rc, 0, 16, 0, 16, 0⟩,
   ⟨0x100820, [(0x1000, 128)], 0, 16, .rc, 0, 0, 0, 16, 0⟩,
   ⟨0x100820, [(0x1000, 128)], 16, 16, .rc, 0, 16, 0, 16, 0⟩,
   ⟨0x100824, [(0x1000, 128)], 0, 16, .rc, 0, 0, 0, 16, 0⟩,
   ⟨0x100824, [(0x1000, 128)], 16, 16, .rc, 0, 16, 0, 16, 0⟩,
   ⟨0x100828, [(0x1000, 128)], 0, 16, .ro, 0, 0, 0, 16, 0⟩,
   ⟨0x100840, [(0x1000, 128), (0x8, 8)], 0, 16, .ro, 0, 0, 0, 16, 0⟩,
   ⟨0x100844, [(0x1000, 128), (0x8, 8)], 0, 16, .ro, 0, 0, 0, 16, 0⟩,
   ⟨0x100840, [(0x1000, 128), (0x8, 8)], 16, 12, .ro, 0, 16, 0, 12, 0⟩,
   ⟨0x100844, [(0x1000, 128), (0x8, 8)], 16, 12, .ro, 0, 16, 0, 12, 0⟩,
   ⟨0x100880, [(0x1000, 128), (0x8, 8)], 0, 16, .ro, 0, 0, 0, 16, 0⟩,
   ⟨0x100884, [(0x1000, 128), (0x8, 8)], 0, 16, .ro, 0, 0, 0, 16, 0⟩,
   ⟨0x100880, [(0x1000, 128), (0x8, 8)], 16, 12, .ro, 0, 16, 0, 12, 0⟩,
   ⟨0x100884, [(0x1000, 128), (0x8, 8)], 16, 12, .ro, 0, 16, 0, 12, 0⟩,
   ⟨0x1C0000, [], 0, 20, .ro, 0, 0, 0, 20, 758784⟩,
   ⟨0x1C0004, [], 0, 20, .rc, 0, 0, 0, 20, 0⟩,
   ⟨0x1C0008, [], 0, 1, .w1c, 0, 0, 0, 1, 0⟩,
   ⟨0x1C0008, [], 1, 1, .w1c, 0, 1, 0, 1, 0⟩,
   ⟨0x1C0008, [], 2, 1, .w1c, 0, 2, 0, 1, 0⟩,
   ⟨0x1C0008, [], 3, 1, .w1c, 0, 3, 0, 1, 0⟩,
   ⟨0x1C0008, [], 4, 1, .w1c, 0, 4, 0, 1, 0⟩]

/-- Words of BAR0, part 5. -/
def regRows5 : List RegRow :=
  [⟨0x1C0008, [], 5, 1, .w1c, 0, 5, 0, 1, 0⟩,
   ⟨0x1C0008, [], 6, 1, .w1c, 0, 6, 0, 1, 0⟩,
   ⟨0x1C000C, [], 0, 16, .rc, 0, 0, 0, 16, 0⟩,
   ⟨0x1C000C, [], 16, 16, .rc, 0, 16, 0, 16, 0⟩,
   ⟨0x1C0010, [], 0, 32, .rc, 0, 0, 0, 32, 0⟩,
   ⟨0x1C1000, [(0x20, 128)], 0, 20, .ro, 0, 0, 0, 20, 10000⟩,
   ⟨0x1C1000, [(0x20, 128)], 20, 8, .ro, 0, 20, 0, 8, 16⟩,
   ⟨0x1C1000, [(0x20, 128)], 28, 1, .ro, 0, 28, 0, 1, 1⟩,
   ⟨0x1C1004, [(0x20, 128)], 0, 17, .ro, 0, 0, 0, 17, 0⟩,
   ⟨0x1C1004, [(0x20, 128)], 17, 1, .w1c, 0, 17, 0, 1, 0⟩,
   ⟨0x1C1004, [(0x20, 128)], 18, 1, .ro, 0, 18, 0, 1, 0⟩,
   ⟨0x1C1008, [(0x20, 128)], 0, 24, .ro, 0, 0, 0, 24, 0⟩,
   ⟨0x1C100C, [(0x20, 128)], 0, 16, .rc, 0, 0, 0, 16, 0⟩,
   ⟨0x1C100C, [(0x20, 128)], 16, 16, .rc, 0, 16, 0, 16, 0⟩,
   ⟨0x1C1010, [(0x20, 128)], 0, 16, .rc, 0, 0, 0, 16, 0⟩,
   ⟨0x1C1010, [(0x20, 128)], 16, 16, .rc, 0, 16, 0, 16, 0⟩,
   ⟨0x1C1014, [(0x20, 128)], 0, 16, .rc, 0, 0, 0, 16, 0⟩,
   ⟨0x1C1014, [(0x20, 128)], 16, 16, .rc, 0, 16, 0, 16, 0⟩,
   ⟨0x1C1018, [(0x20, 128)], 0, 16, .rc, 0, 0, 0, 16, 0⟩,
   ⟨0x1C1018, [(0x20, 128)], 16, 16, .rc, 0, 16, 0, 16, 0⟩,
   ⟨0x1C101C, [(0x20, 128)], 0, 32, .rc, 0, 0, 0, 32, 0⟩,
   ⟨0x1C4000, [(0x4, 3072)], 0, 20, .ro, 0, 0, 0, 20, 0⟩,
   ⟨0x1C4000, [(0x4, 3072)], 20, 3, .ro, 0, 20, 0, 3, 4⟩,
   ⟨0x1C4000, [(0x4, 3072)], 23, 1, .ro, 0, 23, 0, 1, 0⟩,
   ⟨0x1C8000, [(0x20, 256), (0x4, 4)], 0, 32, .ro, 0, 0, 0, 32, 0⟩,
   ⟨0x1C8010, [(0x20, 256)], 0, 1, .ro, 0, 0, 0, 1, 0⟩,
   ⟨0x1C8010, [(0x20, 256)], 1, 1, .ro, 0, 1, 0, 1, 0⟩,
   ⟨0x1C8014, [(0x20, 256)], 0, 32, .rc, 0, 0, 0, 32, 0⟩,
   ⟨0x1C8018, [(0x20, 256)], 0, 32, .rc, 0, 0, 0, 32, 0⟩,
   ⟨0x200000, [], 0, 4, .rw, 0, 0, 0, 4, 0⟩,
   ⟨0x200000, [], 4, 16, .rw, 0, 4, 0, 16, 0⟩,
   ⟨0x200000, [], 31, 1, .wo, 0, 31, 0, 1, 0⟩,
   ⟨0x200004, [], 0, 1, .ro, 0, 0, 0, 1, 0⟩,
   ⟨0x200004, [], 1, 1, .ro, 0, 1, 0, 1, 0⟩,
   ⟨0x200010, [(0x4, 8)], 0, 32, .ro, 0, 0, 0, 32, 0⟩,
   ⟨0x200040, [], 0, 1, .w1c, 0, 0, 0, 1, 0⟩,
   ⟨0x200040, [], 1, 1, .w1c, 0, 1, 0, 1, 0⟩,
   ⟨0x200040, [], 2, 1, .w1c, 0, 2, 0, 1, 0⟩,
   ⟨0x200040, [], 3, 1, .w1c, 0, 3, 0, 1, 0⟩,
   ⟨0x200040, [], 4, 1, .w1c, 0, 4, 0, 1, 0⟩]

/-- Words of BAR0, part 6. -/
def regRows6 : List RegRow :=
  [⟨0x200040, [], 5, 1, .w1c, 0, 5, 0, 1, 0⟩,
   ⟨0x200044, [], 0, 16, .rc, 0, 0, 0, 16, 0⟩,
   ⟨0x200044, [], 16, 16, .rc, 0, 16, 0, 16, 0⟩,
   ⟨0x200048, [], 0, 16, .rc, 0, 0, 0, 16, 0⟩,
   ⟨0x200048, [], 16, 16, .rc, 0, 16, 0, 16, 0⟩,
   ⟨0x20004C, [], 0, 17, .ro, 0, 0, 0, 17, 0⟩,
   ⟨0x201000, [(0x20, 48)], 0, 6, .ro, 0, 0, 0, 6, 0⟩,
   ⟨0x201000, [(0x20, 48)], 6, 6, .ro, 0, 6, 0, 6, 0⟩,
   ⟨0x201004, [(0x20, 48)], 0, 8, .ro, 0, 0, 0, 8, 0⟩,
   ⟨0x201004, [(0x20, 48)], 8, 8, .ro, 0, 8, 0, 8, 0⟩,
   ⟨0x201004, [(0x20, 48)], 16, 8, .ro, 0, 16, 0, 8, 0⟩,
   ⟨0x201008, [(0x20, 48)], 0, 17, .ro, 0, 0, 0, 17, 65536⟩,
   ⟨0x20100C, [(0x20, 48)], 0, 17, .ro, 0, 0, 0, 17, 0⟩,
   ⟨0x300050, [(0x4, 8)], 0, 32, .ro, 0, 0, 0, 32, 0⟩,
   ⟨0x300000, [], 0, 2, .ro, 0, 0, 0, 2, 0⟩,
   ⟨0x300000, [], 2, 1, .ro, 0, 2, 0, 1, 0⟩,
   ⟨0x300000, [], 3, 1, .ro, 0, 3, 0, 1, 0⟩,
   ⟨0x300000, [], 4, 1, .ro, 0, 4, 0, 1, 0⟩,
   ⟨0x300000, [], 5, 1, .ro, 0, 5, 0, 1, 0⟩,
   ⟨0x300000, [], 6, 1, .ro, 0, 6, 0, 1, 0⟩,
   ⟨0x300000, [], 16, 16, .ro, 0, 16, 0, 16, 0⟩,
   ⟨0x300004, [], 0, 20, .ro, 0, 0, 0, 20, 0⟩,
   ⟨0x300008, [], 0, 14, .ro, 0, 0, 0, 14, 0⟩,
   ⟨0x300008, [], 16, 14, .ro, 0, 16, 0, 14, 0⟩,
   ⟨0x30000C, [], 0, 6, .ro, 0, 0, 0, 6, 52⟩,
   ⟨0x30000C, [], 8, 1, .ro, 0, 8, 0, 1, 0⟩,
   ⟨0x30000C, [], 9, 1, .ro, 0, 9, 0, 1, 0⟩,
   ⟨0x300010, [], 0, 1, .w1c, 0, 0, 0, 1, 0⟩,
   ⟨0x300010, [], 1, 1, .w1c, 0, 1, 0, 1, 0⟩,
   ⟨0x300010, [], 2, 1, .w1c, 0, 2, 0, 1, 0⟩,
   ⟨0x300010, [], 3, 1, .w1c, 0, 3, 0, 1, 0⟩,
   ⟨0x300010, [], 4, 1, .w1c, 0, 4, 0, 1, 0⟩,
   ⟨0x300010, [], 5, 1, .w1c, 0, 5, 0, 1, 0⟩,
   ⟨0x300010, [], 6, 1, .w1c, 0, 6, 0, 1, 0⟩,
   ⟨0x300010, [], 7, 1, .w1c, 0, 7, 0, 1, 0⟩,
   ⟨0x300014, [], 0, 16, .rc, 0, 0, 0, 16, 0⟩,
   ⟨0x300014, [], 16, 16, .rc, 0, 16, 0, 16, 0⟩,
   ⟨0x300018, [], 0, 16, .rc, 0, 0, 0, 16, 0⟩,
   ⟨0x300018, [], 16, 16, .rc, 0, 16, 0, 16, 0⟩,
   ⟨0x300020, [], 0, 2, .ro, 0, 0, 0, 2, 0⟩]

/-- Words of BAR0, part 7. -/
def regRows7 : List RegRow :=
  [⟨0x300020, [], 2, 3, .ro, 0, 2, 0, 3, 0⟩,
   ⟨0x300020, [], 5, 2, .ro, 0, 5, 0, 2, 0⟩,
   ⟨0x300020, [], 7, 4, .ro, 0, 7, 0, 4, 0⟩,
   ⟨0x300020, [], 11, 13, .ro, 0, 11, 0, 13, 0⟩,
   ⟨0x300024, [], 0, 6, .ro, 0, 0, 0, 6, 0⟩,
   ⟨0x300024, [], 16, 16, .ro, 0, 16, 0, 16, 0⟩,
   ⟨0x300028, [], 0, 32, .ro, 0, 0, 0, 64, 0⟩,
   ⟨0x30002C, [], 0, 32, .ro, 4, 0, 32, 64, 0⟩,
   ⟨0x300040, [], 0, 13, .rw, 0, 0, 0, 13, 0⟩,
   ⟨0x300040, [], 13, 1, .rw, 0, 13, 0, 1, 0⟩,
   ⟨0x300040, [], 31, 1, .wo, 0, 31, 0, 1, 0⟩,
   ⟨0x300044, [], 0, 1, .ro, 0, 0, 0, 1, 0⟩,
   ⟨0x340000, [], 0, 13, .ro, 0, 0, 0, 13, 0⟩,
   ⟨0x340004, [], 0, 1, .w1c, 0, 0, 0, 1, 0⟩,
   ⟨0x340004, [], 1, 1, .w1c, 0, 1, 0, 1, 0⟩,
   ⟨0x340004, [], 2, 1, .w1c, 0, 2, 0, 1, 0⟩,
   ⟨0x340004, [], 3, 1, .w1c, 0, 3, 0, 1, 0⟩,
   ⟨0x340008, [], 0, 32, .rc, 0, 0, 0, 32, 0⟩,
   ⟨0x340010, [], 0, 2, .rw, 0, 0, 0, 2, 0⟩,
   ⟨0x340010, [], 2, 13, .rw, 0, 2, 0, 13, 0⟩,
   ⟨0x340010, [], 31, 1, .wo, 0, 31, 0, 1, 0⟩,
   ⟨0x340014, [], 0, 1, .ro, 0, 0, 0, 1, 0⟩,
   ⟨0x340014, [], 1, 1, .ro, 0, 1, 0, 1, 0⟩,
   ⟨0x340020, [(0x4, 4)], 0, 32, .ro, 0, 0, 0, 32, 0⟩,
   ⟨0x341000, [(0x40, 128)], 0, 7, .ro, 0, 0, 0, 7, 8⟩,
   ⟨0x341000, [(0x40, 128)], 7, 7, .ro, 0, 7, 0, 7, 10⟩,
   ⟨0x341000, [(0x40, 128)], 14, 7, .ro, 0, 14, 0, 7, 12⟩,
   ⟨0x341000, [(0x40, 128)], 21, 1, .ro, 0, 21, 0, 1, 1⟩,
   ⟨0x341004, [(0x40, 128)], 0, 12, .ro, 0, 0, 0, 12, 0⟩,
   ⟨0x341004, [(0x40, 128)], 12, 1, .ro, 0, 12, 0, 1, 0⟩,
   ⟨0x341008, [(0x40, 128)], 0, 8, .ro, 0, 0, 0, 8, 128⟩,
   ⟨0x341008, [(0x40, 128)], 8, 8, .ro, 0, 8, 0, 8, 0⟩,
   ⟨0x34100C, [(0x40, 128)], 0, 1, .ro, 0, 0, 0, 1, 0⟩,
   ⟨0x34100C, [(0x40, 128)], 1, 1, .ro, 0, 1, 0, 1, 0⟩,
   ⟨0x34100C, [(0x40, 128)], 2, 6, .ro, 0, 2, 0, 6, 0⟩,
   ⟨0x34100C, [(0x40, 128)], 8, 8, .ro, 0, 8, 0, 8, 255⟩,
   ⟨0x34100C, [(0x40, 128)], 16, 1, .ro, 0, 16, 0, 1, 0⟩,
   ⟨0x341010, [(0x40, 128)], 0, 27, .ro, 0, 0, 0, 27, 0⟩,
   ⟨0x341014, [(0x40, 128)], 0, 32, .ro, 0, 0, 0, 32, 0⟩,
   ⟨0x341018, [(0x40, 128)], 0, 32, .ro, 0, 0, 0, 32, 0⟩]

/-- Words of BAR0, part 8. -/
def regRows8 : List RegRow :=
  [⟨0x34101C, [(0x40, 128)], 0, 16, .rc, 0, 0, 0, 16, 0⟩,
   ⟨0x34101C, [(0x40, 128)], 16, 16, .rc, 0, 16, 0, 16, 0⟩,
   ⟨0x341020, [(0x40, 128), (0x4, 8)], 0, 12, .ro, 0, 0, 0, 12, 0⟩,
   ⟨0x341020, [(0x40, 128), (0x4, 8)], 12, 1, .ro, 0, 12, 0, 1, 0⟩,
   ⟨0x341020, [(0x40, 128), (0x4, 8)], 16, 16, .ro, 0, 16, 0, 16, 2048⟩,
   ⟨0x380000, [], 0, 10, .ro, 0, 0, 0, 10, 0⟩,
   ⟨0x380000, [], 10, 1, .w1c, 0, 10, 0, 1, 0⟩,
   ⟨0x380000, [], 11, 1, .ro, 0, 11, 0, 1, 0⟩,
   ⟨0x380004, [], 0, 10, .rw, 0, 0, 0, 10, 0⟩,
   ⟨0x380008, [], 0, 8, .ro, 0, 0, 0, 8, 0⟩,
   ⟨0x380008, [], 8, 7, .ro, 0, 8, 0, 7, 0⟩,
   ⟨0x380008, [], 15, 11, .ro, 0, 15, 0, 11, 0⟩,
   ⟨0x38000C, [], 0, 13, .ro, 0, 0, 0, 13, 0⟩,
   ⟨0x38000C, [], 13, 7, .ro, 0, 13, 0, 7, 0⟩,
   ⟨0x380010, [], 0, 1, .w1c, 0, 0, 0, 1, 0⟩,
   ⟨0x380010, [], 1, 1, .w1c, 0, 1, 0, 1, 0⟩,
   ⟨0x380010, [], 2, 1, .w1c, 0, 2, 0, 1, 0⟩,
   ⟨0x380010, [], 3, 1, .w1c, 0, 3, 0, 1, 0⟩,
   ⟨0x380010, [], 4, 1, .w1c, 0, 4, 0, 1, 0⟩,
   ⟨0x380010, [], 5, 1, .w1c, 0, 5, 0, 1, 0⟩,
   ⟨0x380010, [], 6, 1, .w1c, 0, 6, 0, 1, 0⟩,
   ⟨0x380014, [], 0, 16, .rc, 0, 0, 0, 16, 0⟩,
   ⟨0x380014, [], 16, 16, .rc, 0, 16, 0, 16, 0⟩,
   ⟨0x380018, [], 0, 16, .ro, 0, 0, 0, 16, 0⟩,
   ⟨0x38001C, [], 0, 32, .rc, 0, 0, 0, 32, 0⟩,
   ⟨0x380020, [], 0, 10, .ro, 0, 0, 0, 10, 10⟩,
   ⟨0x380020, [], 10, 5, .ro, 0, 10, 0, 5, 5⟩,
   ⟨0x380020, [], 15, 10, .ro, 0, 15, 0, 10, 10⟩,
   ⟨0x380100, [], 0, 3, .rw, 0, 0, 0, 3, 0⟩,
   ⟨0x380100, [], 3, 12, .rw, 0, 3, 0, 12, 0⟩,
   ⟨0x380100, [], 31, 1, .wo, 0, 31, 0, 1, 0⟩,
   ⟨0x380104, [], 0, 1, .ro, 0, 0, 0, 1, 0⟩,
   ⟨0x380104, [], 1, 1, .ro, 0, 1, 0, 1, 0⟩,
   ⟨0x380140, [(0x4, 20)], 0, 32, .ro, 0, 0, 0, 32, 0⟩,
   ⟨0x380400, [(0x4, 174)], 0, 3, .ro, 0, 0, 0, 3, 0⟩,
   ⟨0x380400, [(0x4, 174)], 16, 16, .rc, 0, 16, 0, 16, 0⟩,
   ⟨0x380800, [(0x4, 128)], 0, 4, .ro, 0, 0, 0, 4, 0⟩,
   ⟨0x390000, [(0x40, 1024)], 0, 32, .ro, 0, 0, 0, 512, 0⟩,
   ⟨0x390004, [(0x40, 1024)], 0, 32, .ro, 4, 0, 32, 512, 0⟩,
   ⟨0x390008, [(0x40, 1024)], 0, 32, .ro, 8, 0, 64, 512, 0⟩]

/-- Words of BAR0, part 9. -/
def regRows9 : List RegRow :=
  [⟨0x39000C, [(0x40, 1024)], 0, 32, .ro, 12, 0, 96, 512, 0⟩,
   ⟨0x390010, [(0x40, 1024)], 0, 32, .ro, 16, 0, 128, 512, 0⟩,
   ⟨0x390014, [(0x40, 1024)], 0, 32, .ro, 20, 0, 160, 512, 0⟩,
   ⟨0x390018, [(0x40, 1024)], 0, 32, .ro, 24, 0, 192, 512, 0⟩,
   ⟨0x39001C, [(0x40, 1024)], 0, 32, .ro, 28, 0, 224, 512, 0⟩,
   ⟨0x390020, [(0x40, 1024)], 0, 32, .ro, 32, 0, 256, 512, 0⟩,
   ⟨0x390024, [(0x40, 1024)], 0, 32, .ro, 36, 0, 288, 512, 0⟩,
   ⟨0x390028, [(0x40, 1024)], 0, 32, .ro, 40, 0, 320, 512, 0⟩,
   ⟨0x39002C, [(0x40, 1024)], 0, 32, .ro, 44, 0, 352, 512, 0⟩,
   ⟨0x390030, [(0x40, 1024)], 0, 32, .ro, 48, 0, 384, 512, 0⟩,
   ⟨0x390034, [(0x40, 1024)], 0, 32, .ro, 52, 0, 416, 512, 0⟩,
   ⟨0x390038, [(0x40, 1024)], 0, 32, .ro, 56, 0, 448, 512, 0⟩,
   ⟨0x39003C, [(0x40, 1024)], 0, 32, .ro, 60, 0, 480, 512, 0⟩,
   ⟨0x400000, [], 0, 4, .ro, 0, 0, 0, 4, 0⟩,
   ⟨0x400000, [], 4, 4, .ro, 0, 4, 0, 4, 0⟩,
   ⟨0x400000, [], 8, 1, .ro, 0, 8, 0, 1, 0⟩,
   ⟨0x400000, [], 9, 1, .ro, 0, 9, 0, 1, 0⟩,
   ⟨0x400000, [], 10, 1, .ro, 0, 10, 0, 1, 0⟩,
   ⟨0x400000, [], 11, 2, .ro, 0, 11, 0, 2, 0⟩,
   ⟨0x400000, [], 13, 2, .ro, 0, 13, 0, 2, 0⟩,
   ⟨0x400000, [], 15, 3, .ro, 0, 15, 0, 3, 0⟩,
   ⟨0x400000, [], 18, 11, .ro, 0, 18, 0, 11, 0⟩,
   ⟨0x400004, [], 0, 1, .w1c, 0, 0, 0, 1, 0⟩,
   ⟨0x400004, [], 1, 1, .w1c, 0, 1, 0, 1, 0⟩,
   ⟨0x400004, [], 2, 1, .w1c, 0, 2, 0, 1, 0⟩,
   ⟨0x400004, [], 3, 1, .w1c, 0, 3, 0, 1, 0⟩,
   ⟨0x400004, [], 4, 1, .w1c, 0, 4, 0, 1, 0⟩,
   ⟨0x400008, [], 0, 8, .ro, 0, 0, 0, 8, 24⟩,
   ⟨0x400008, [], 8, 8, .ro, 0, 8, 0, 8, 16⟩,
   ⟨0x400008, [], 16, 10, .ro, 0, 16, 0, 10, 0⟩,
   ⟨0x40000C, [], 0, 17, .ro, 0, 0, 0, 17, 0⟩,
   ⟨0x40000C, [], 17, 5, .ro, 0, 17, 0, 5, 0⟩,
   ⟨0x400100, [(0x40, 8)], 0, 3, .ro, 0, 0, 0, 3, 0⟩,
   ⟨0x400100, [(0x40, 8)], 3, 1, .ro, 0, 3, 0, 1, 0⟩,
   ⟨0x400100, [(0x40, 8)], 4, 1, .ro, 0, 4, 0, 1, 0⟩,
   ⟨0x400100, [(0x40, 8)], 5, 3, .ro, 0, 5, 0, 3, 0⟩,
   ⟨0x400104, [(0x40, 8)], 0, 16, .rc, 0, 0, 0, 16, 0⟩,
   ⟨0x400104, [(0x40, 8)], 16, 16, .rc, 0, 16, 0, 16, 0⟩,
   ⟨0x400108, [(0x40, 8)], 0, 32, .rc, 0, 0, 0, 32, 0⟩,
   ⟨0x401000, [(0x4, 61)], 0, 10, .ro, 0, 0, 0, 10, 0⟩]

/-- Words of BAR0, part 10. -/
def regRows10 : List RegRow :=
  [⟨0x401000, [(0x4, 61)], 16, 10, .rc, 0, 16, 0, 10, 0⟩,
   ⟨0x402000, [(0x4, 48)], 0, 6, .ro, 0, 0, 0, 6, 0⟩,
   ⟨0x402000, [(0x4, 48)], 8, 6, .ro, 0, 8, 0, 6, 0⟩,
   ⟨0x403000, [], 0, 12, .rw, 0, 0, 0, 12, 0⟩,
   ⟨0x403000, [], 31, 1, .wo, 0, 31, 0, 1, 0⟩,
   ⟨0x403004, [], 0, 1, .ro, 0, 0, 0, 1, 0⟩,
   ⟨0x403010, [(0x4, 6)], 0, 32, .ro, 0, 0, 0, 32, 0⟩,
   ⟨0x1003000, [(0x10000, 48)], 0, 1, .ro, 0, 0, 0, 1, 1⟩,
   ⟨0x1003000, [(0x10000, 48)], 1, 1, .ro, 0, 1, 0, 1, 0⟩,
   ⟨0x1003000, [(0x10000, 48)], 2, 1, .ro, 0, 2, 0, 1, 0⟩,
   ⟨0x1003000, [(0x10000, 48)], 3, 1, .ro, 0, 3, 0, 1, 0⟩,
   ⟨0x1003000, [(0x10000, 48)], 16, 16, .ro, 0, 16, 0, 16, 0⟩,
   ⟨0x1003004, [(0x10000, 48)], 0, 32, .ro, 4, 32, 0, 32, 0⟩,
   ⟨0x1003008, [(0x10000, 48)], 0, 1, .ro, 0, 0, 0, 1, 1⟩,
   ⟨0x1003008, [(0x10000, 48)], 1, 1, .ro, 0, 1, 0, 1, 0⟩,
   ⟨0x1003008, [(0x10000, 48)], 2, 1, .ro, 0, 2, 0, 1, 0⟩,
   ⟨0x1003008, [(0x10000, 48)], 3, 1, .ro, 0, 3, 0, 1, 0⟩,
   ⟨0x1003008, [(0x10000, 48)], 16, 16, .ro, 0, 16, 0, 16, 0⟩,
   ⟨0x100300C, [(0x10000, 48)], 0, 32, .ro, 4, 32, 0, 32, 0⟩,
   ⟨0x1003010, [(0x10000, 48)], 0, 1, .ro, 0, 0, 0, 1, 1⟩,
   ⟨0x1003010, [(0x10000, 48)], 1, 1, .ro, 0, 1, 0, 1, 0⟩,
   ⟨0x1003010, [(0x10000, 48)], 2, 1, .ro, 0, 2, 0, 1, 0⟩,
   ⟨0x1003010, [(0x10000, 48)], 3, 1, .ro, 0, 3, 0, 1, 0⟩,
   ⟨0x1003010, [(0x10000, 48)], 16, 16, .ro, 0, 16, 0, 16, 0⟩,
   ⟨0x1003014, [(0x10000, 48)], 0, 32, .ro, 4, 32, 0, 32, 0⟩,
   ⟨0x1003100, [(0x10000, 48)], 0, 4, .wo, 0, 0, 0, 4, 0⟩,
   ⟨0x1003100, [(0x10000, 48)], 4, 1, .wo, 0, 4, 0, 1, 0⟩,
   ⟨0x1003100, [(0x10000, 48)], 16, 11, .wo, 0, 16, 0, 11, 0⟩,
   ⟨0x1003108, [(0x10000, 48)], 7, 25, .rw, 0, 7, 0, 57, 0⟩,
   ⟨0x100310C, [(0x10000, 48)], 0, 32, .rw, 4, 7, 25, 57, 0⟩,
   ⟨0x1003110, [(0x10000, 48)], 0, 16, .ro, 0, 0, 0, 16, 0⟩,
   ⟨0x1003110, [(0x10000, 48)], 16, 16, .ro, 0, 16, 0, 16, 0⟩,
   ⟨0x1003180, [(0x10000, 48), (0x8, 16)], 0, 32, .ro, 0, 0, 0, 64, 0⟩,
   ⟨0x1003184, [(0x10000, 48), (0x8, 16)], 0, 32, .ro, 4, 0, 32, 64, 0⟩,
   ⟨0x440000, [], 0, 13, .ro, 0, 0, 0, 13, 0⟩,
   ⟨0x440000, [], 13, 15, .ro, 0, 13, 0, 15, 0⟩,
   ⟨0x440004, [], 0, 1, .w1c, 0, 0, 0, 1, 0⟩,
   ⟨0x440004, [], 1, 1, .w1c, 0, 1, 0, 1, 0⟩,
   ⟨0x440004, [], 2, 1, .w1c, 0, 2, 0, 1, 0⟩,
   ⟨0x440004, [], 3, 1, .w1c, 0, 3, 0, 1, 0⟩]

/-- Words of BAR0, part 11. -/
def regRows11 : List RegRow :=
  [⟨0x440004, [], 4, 1, .w1c, 0, 4, 0, 1, 0⟩,
   ⟨0x440004, [], 5, 1, .w1c, 0, 5, 0, 1, 0⟩,
   ⟨0x440004, [], 6, 1, .w1c, 0, 6, 0, 1, 0⟩,
   ⟨0x440008, [], 0, 16, .rc, 0, 0, 0, 16, 0⟩,
   ⟨0x440008, [], 16, 16, .rc, 0, 16, 0, 16, 0⟩,
   ⟨0x440100, [(0x40, 16)], 0, 1, .ro, 0, 0, 0, 1, 0⟩,
   ⟨0x440100, [(0x40, 16)], 1, 1, .ro, 0, 1, 0, 1, 0⟩,
   ⟨0x440100, [(0x40, 16)], 2, 1, .ro, 0, 2, 0, 1, 0⟩,
   ⟨0x440100, [(0x40, 16)], 3, 6, .ro, 0, 3, 0, 6, 0⟩,
   ⟨0x440100, [(0x40, 16)], 9, 4, .ro, 0, 9, 0, 4, 0⟩,
   ⟨0x440100, [(0x40, 16)], 13, 1, .ro, 0, 13, 0, 1, 0⟩,
   ⟨0x440100, [(0x40, 16)], 14, 3, .ro, 0, 14, 0, 3, 7⟩,
   ⟨0x440104, [(0x40, 16)], 0, 1, .ro, 0, 0, 0, 1, 0⟩,
   ⟨0x440104, [(0x40, 16)], 1, 1, .ro, 0, 1, 0, 1, 0⟩,
   ⟨0x440104, [(0x40, 16)], 2, 2, .ro, 0, 2, 0, 2, 0⟩,
   ⟨0x440104, [(0x40, 16)], 4, 1, .ro, 0, 4, 0, 1, 0⟩,
   ⟨0x440104, [(0x40, 16)], 5, 1, .ro, 0, 5, 0, 1, 0⟩,
   ⟨0x440104, [(0x40, 16)], 6, 1, .ro, 0, 6, 0, 1, 0⟩,
   ⟨0x440104, [(0x40, 16)], 7, 1, .ro, 0, 7, 0, 1, 0⟩,
   ⟨0x440108, [(0x40, 16)], 0, 32, .ro, 0, 0, 0, 32, 0⟩,
   ⟨0x44010C, [(0x40, 16)], 0, 32, .ro, 0, 0, 0, 32, 0⟩,
   ⟨0x440110, [(0x40, 16)], 0, 32, .ro, 0, 0, 0, 32, 0⟩,
   ⟨0x440114, [(0x40, 16)], 0, 32, .ro, 0, 0, 0, 32, 0⟩,
   ⟨0x440118, [(0x40, 16)], 0, 32, .ro, 0, 0, 0, 32, 0⟩,
   ⟨0x44011C, [(0x40, 16)], 0, 16, .ro, 0, 0, 0, 16, 0⟩,
   ⟨0x440120, [(0x40, 16)], 0, 16, .rc, 0, 0, 0, 16, 0⟩,
   ⟨0x440120, [(0x40, 16)], 16, 16, .rc, 0, 16, 0, 16, 0⟩,
   ⟨0x440124, [(0x40, 16)], 0, 16, .ro, 0, 0, 0, 16, 0⟩,
   ⟨0x440124, [(0x40, 16)], 16, 16, .rc, 0, 16, 0, 16, 0⟩,
   ⟨0x440128, [(0x40, 16)], 0, 16, .rc, 0, 0, 0, 16, 0⟩,
   ⟨0x440128, [(0x40, 16)], 16, 16, .rc, 0, 16, 0, 16, 0⟩,
   ⟨0x500000, [], 0, 7, .ro, 0, 0, 0, 7, 0⟩,
   ⟨0x500000, [], 7, 7, .ro, 0, 7, 0, 7, 0⟩,
   ⟨0x500000, [], 14, 1, .ro, 0, 14, 0, 1, 0⟩,
   ⟨0x500000, [], 15, 1, .ro, 0, 15, 0, 1, 0⟩,
   ⟨0x500000, [], 16, 11, .ro, 0, 16, 0, 11, 0⟩,
   ⟨0x500004, [], 0, 8, .ro, 0, 0, 0, 8, 0⟩,
   ⟨0x500004, [], 8, 8, .ro, 0, 8, 0, 8, 0⟩,
   ⟨0x500004, [], 16, 8, .ro, 0, 16, 0, 8, 0⟩,
   ⟨0x500008, [], 0, 8, .ro, 0, 0, 0, 8, 0⟩]

/-- Words of BAR0, part 12. -/
def regRows12 : List RegRow :=
  [⟨0x500008, [], 8, 8, .ro, 0, 8, 0, 8, 0⟩,
   ⟨0x500008, [], 16, 8, .ro, 0, 16, 0, 8, 0⟩,
   ⟨0x50000C, [], 0, 1, .w1c, 0, 0, 0, 1, 0⟩,
   ⟨0x50000C, [], 1, 1, .w1c, 0, 1, 0, 1, 0⟩,
   ⟨0x50000C, [], 2, 1, .w1c, 0, 2, 0, 1, 0⟩,
   ⟨0x50000C, [], 3, 1, .w1c, 0, 3, 0, 1, 0⟩,
   ⟨0x50000C, [], 4, 1, .w1c, 0, 4, 0, 1, 0⟩,
   ⟨0x50000C, [], 5, 1, .w1c, 0, 5, 0, 1, 0⟩,
   ⟨0x500010, [], 0, 5, .ro, 0, 0, 0, 5, 4⟩,
   ⟨0x500010, [], 5, 6, .ro, 0, 5, 0, 6, 8⟩,
   ⟨0x500010, [], 11, 7, .ro, 0, 11, 0, 7, 74⟩,
   ⟨0x500014, [], 0, 16, .rc, 0, 0, 0, 16, 0⟩,
   ⟨0x500014, [], 16, 16, .rc, 0, 16, 0, 16, 0⟩,
   ⟨0x501000, [(0x10, 96)], 0, 3, .ro, 0, 0, 0, 3, 0⟩,
   ⟨0x501000, [(0x10, 96)], 3, 4, .ro, 0, 3, 0, 4, 0⟩,
   ⟨0x501000, [(0x10, 96)], 7, 10, .ro, 0, 7, 0, 10, 0⟩,
   ⟨0x501000, [(0x10, 96)], 17, 1, .ro, 0, 17, 0, 1, 0⟩,
   ⟨0x501000, [(0x10, 96)], 18, 3, .ro, 0, 18, 0, 3, 0⟩,
   ⟨0x501004, [(0x10, 96)], 0, 32, .rc, 0, 0, 0, 32, 0⟩,
   ⟨0x504000, [(0x40, 64)], 0, 1, .ro, 0, 0, 0, 1, 0⟩,
   ⟨0x504000, [(0x40, 64)], 1, 4, .ro, 0, 1, 0, 4, 0⟩,
   ⟨0x504000, [(0x40, 64)], 5, 6, .ro, 0, 5, 0, 6, 0⟩,
   ⟨0x504000, [(0x40, 64)], 11, 7, .ro, 0, 11, 0, 7, 0⟩,
   ⟨0x504000, [(0x40, 64)], 18, 11, .ro, 0, 18, 0, 11, 0⟩,
   ⟨0x504000, [(0x40, 64)], 29, 1, .ro, 0, 29, 0, 1, 0⟩,
   ⟨0x504008, [(0x40, 64)], 0, 32, .ro, 0, 0, 0, 32, 0⟩,
   ⟨0x50400C, [(0x40, 64)], 0, 32, .ro, 0, 0, 0, 32, 0⟩,
   ⟨0x504010, [(0x40, 64)], 0, 32, .ro, 0, 0, 0, 32, 0⟩,
   ⟨0x504014, [(0x40, 64)], 0, 32, .ro, 0, 0, 0, 32, 0⟩,
   ⟨0x504018, [(0x40, 64)], 0, 32, .ro, 0, 0, 0, 32, 0⟩,
   ⟨0x50401C, [(0x40, 64)], 0, 32, .ro, 0, 0, 0, 32, 0⟩,
   ⟨0x504020, [(0x40, 64)], 0, 16, .rc, 0, 0, 0, 16, 0⟩,
   ⟨0x504020, [(0x40, 64)], 16, 16, .rc, 0, 16, 0, 16, 0⟩,
   ⟨0x600C00, [], 0, 16, .rw, 0, 0, 0, 16, 0⟩,
   ⟨0x1001C00, [(0x10000, 48)], 0, 16, .rw, 0, 0, 0, 16, 0⟩,
   ⟨0x600C00, [], 16, 16, .ro, 0, 16, 0, 16, 0⟩,
   ⟨0x1001C00, [(0x10000, 48)], 16, 16, .ro, 0, 16, 0, 16, 0⟩,
   ⟨0x600C04, [], 0, 16, .ro, 0, 0, 0, 16, 0⟩,
   ⟨0x1001C04, [(0x10000, 48)], 0, 16, .ro, 0, 0, 0, 16, 0⟩,
   ⟨0x600C04, [], 16, 16, .rw, 0, 16, 0, 16, 0⟩]

/-- Words of BAR0, part 13. -/
def regRows13 : List RegRow :=
  [⟨0x1001C04, [(0x10000, 48)], 16, 16, .rw, 0, 16, 0, 16, 0⟩,
   ⟨0x600C08, [], 0, 11, .rw, 0, 0, 0, 11, 0⟩,
   ⟨0x1001C08, [(0x10000, 48)], 0, 11, .rw, 0, 0, 0, 11, 0⟩,
   ⟨0x600C08, [], 11, 1, .rw, 0, 11, 0, 1, 0⟩,
   ⟨0x1001C08, [(0x10000, 48)], 11, 1, .rw, 0, 11, 0, 1, 0⟩,
   ⟨0x600C0C, [], 0, 1, .w1c, 0, 0, 0, 1, 0⟩,
   ⟨0x1001C0C, [(0x10000, 48)], 0, 1, .w1c, 0, 0, 0, 1, 0⟩,
   ⟨0x600C0C, [], 1, 1, .w1c, 0, 1, 0, 1, 0⟩,
   ⟨0x1001C0C, [(0x10000, 48)], 1, 1, .w1c, 0, 1, 0, 1, 0⟩,
   ⟨0x600C0C, [], 8, 5, .ro, 0, 8, 0, 5, 0⟩,
   ⟨0x1001C0C, [(0x10000, 48)], 8, 5, .ro, 0, 8, 0, 5, 0⟩,
   ⟨0x1004000, [(0x10000, 48), (0x8, 512)], 0, 16, .wo, 0, 0, 0, 16, 0⟩,
   ⟨0x601000, [], 0, 16, .ro, 0, 0, 0, 16, 0⟩,
   ⟨0x601004, [], 0, 1, .w1c, 0, 0, 0, 1, 0⟩,
   ⟨0x601004, [], 1, 1, .w1c, 0, 1, 0, 1, 0⟩,
   ⟨0x601004, [], 2, 1, .w1c, 0, 2, 0, 1, 0⟩,
   ⟨0x601010, [], 0, 15, .rw, 0, 0, 0, 15, 0⟩,
   ⟨0x601010, [], 31, 1, .wo, 0, 31, 0, 1, 0⟩,
   ⟨0x601014, [], 0, 1, .ro, 0, 0, 0, 1, 0⟩,
   ⟨0x601020, [(0x4, 7)], 0, 32, .ro, 0, 0, 0, 32, 0⟩,
   ⟨0x602000, [], 0, 11, .ro, 0, 0, 0, 11, 0⟩,
   ⟨0x602000, [], 16, 1, .ro, 0, 16, 0, 1, 0⟩,
   ⟨0x602004, [], 0, 10, .rw, 0, 0, 0, 10, 0⟩,
   ⟨0x602004, [], 31, 1, .wo, 0, 31, 0, 1, 0⟩,
   ⟨0x602008, [], 0, 1, .ro, 0, 0, 0, 1, 0⟩,
   ⟨0x602010, [(0x4, 8)], 0, 32, .ro, 0, 0, 0, 32, 0⟩,
   ⟨0x700000, [], 0, 3, .ro, 0, 0, 0, 3, 0⟩,
   ⟨0x700000, [], 3, 1, .ro, 0, 3, 0, 1, 0⟩,
   ⟨0x700000, [], 4, 1, .ro, 0, 4, 0, 1, 0⟩,
   ⟨0x700004, [], 0, 31, .ro, 0, 0, 0, 31, 0⟩,
   ⟨0x700008, [], 0, 31, .ro, 0, 0, 0, 31, 2147483647⟩,
   ⟨0x700008, [], 31, 1, .ro, 0, 31, 0, 1, 1⟩,
   ⟨0x70000C, [], 0, 5, .ro, 0, 0, 0, 5, 0⟩,
   ⟨0x70000C, [], 5, 3, .ro, 0, 5, 0, 3, 0⟩,
   ⟨0x70000C, [], 8, 7, .ro, 0, 8, 0, 7, 0⟩,
   ⟨0x700010, [], 0, 32, .ro, 0, 0, 0, 32, 0⟩,
   ⟨0x700014, [], 0, 32, .ro, 0, 0, 0, 32, 0⟩,
   ⟨0x700018, [], 0, 1, .w1c, 0, 0, 0, 1, 0⟩,
   ⟨0x700018, [], 1, 1, .w1c, 0, 1, 0, 1, 0⟩,
   ⟨0x700018, [], 2, 1, .w1c, 0, 2, 0, 1, 0⟩]

/-- Words of BAR0, part 14. -/
def regRows14 : List RegRow :=
  [⟨0x700018, [], 3, 1, .w1c, 0, 3, 0, 1, 0⟩,
   ⟨0x70001C, [], 0, 16, .rc, 0, 0, 0, 16, 0⟩,
   ⟨0x70001C, [], 16, 16, .rc, 0, 16, 0, 16, 0⟩,
   ⟨0x700100, [(0x4, 31)], 0, 12, .ro, 0, 0, 0, 12, 0⟩,
   ⟨0x700100, [(0x4, 31)], 12, 1, .ro, 0, 12, 0, 1, 0⟩,
   ⟨0x700100, [(0x4, 31)], 13, 1, .ro, 0, 13, 0, 1, 1⟩,
   ⟨0x700100, [(0x4, 31)], 14, 1, .ro, 0, 14, 0, 1, 0⟩,
   ⟨0x700100, [(0x4, 31)], 15, 1, .ro, 0, 15, 0, 1, 0⟩,
   ⟨0x700100, [(0x4, 31)], 16, 1, .ro, 0, 16, 0, 1, 0⟩,
   ⟨0x10000, [], 0, 1, .ro, 0, 0, 0, 1, 0⟩,
   ⟨0x10000, [], 1, 1, .ro, 0, 1, 0, 1, 0⟩,
   ⟨0x10000, [], 2, 1, .ro, 0, 2, 0, 1, 0⟩,
   ⟨0x10000, [], 3, 1, .ro, 0, 3, 0, 1, 0⟩,
   ⟨0x10000, [], 4, 1, .ro, 0, 4, 0, 1, 0⟩,
   ⟨0x10000, [], 5, 1, .ro, 0, 5, 0, 1, 0⟩,
   ⟨0x10000, [], 6, 1, .ro, 0, 6, 0, 1, 0⟩,
   ⟨0x10000, [], 7, 1, .ro, 0, 7, 0, 1, 0⟩,
   ⟨0x10000, [], 8, 3, .ro, 0, 8, 0, 3, 0⟩,
   ⟨0x10000, [], 16, 16, .ro, 0, 16, 0, 16, 0⟩,
   ⟨0x10004, [], 0, 1, .w1c, 0, 0, 0, 1, 0⟩,
   ⟨0x10004, [], 1, 1, .w1c, 0, 1, 0, 1, 0⟩,
   ⟨0x10004, [], 2, 1, .w1c, 0, 2, 0, 1, 0⟩,
   ⟨0x10004, [], 3, 1, .w1c, 0, 3, 0, 1, 0⟩,
   ⟨0x10004, [], 4, 1, .w1c, 0, 4, 0, 1, 0⟩,
   ⟨0x10004, [], 5, 1, .w1c, 0, 5, 0, 1, 0⟩,
   ⟨0x10004, [], 6, 1, .w1c, 0, 6, 0, 1, 0⟩,
   ⟨0x10004, [], 7, 1, .w1c, 0, 7, 0, 1, 0⟩,
   ⟨0x10004, [], 8, 1, .w1c, 0, 8, 0, 1, 0⟩,
   ⟨0x10004, [], 9, 1, .w1c, 0, 9, 0, 1, 0⟩,
   ⟨0x10004, [], 10, 1, .w1c, 0, 10, 0, 1, 0⟩,
   ⟨0x10004, [], 11, 1, .w1c, 0, 11, 0, 1, 0⟩,
   ⟨0x10004, [], 12, 1, .w1c, 0, 12, 0, 1, 0⟩,
   ⟨0x10004, [], 13, 1, .w1c, 0, 13, 0, 1, 0⟩,
   ⟨0x10010, [], 0, 1, .ro, 0, 0, 0, 1, 0⟩,
   ⟨0x10010, [], 1, 1, .ro, 0, 1, 0, 1, 0⟩,
   ⟨0x10010, [], 2, 1, .ro, 0, 2, 0, 1, 0⟩,
   ⟨0x10010, [], 3, 1, .ro, 0, 3, 0, 1, 0⟩,
   ⟨0x10010, [], 4, 1, .ro, 0, 4, 0, 1, 0⟩,
   ⟨0x10010, [], 5, 1, .ro, 0, 5, 0, 1, 0⟩,
   ⟨0x10010, [], 6, 1, .ro, 0, 6, 0, 1, 0⟩]

/-- Words of BAR0, part 15. -/
def regRows15 : List RegRow :=
  [⟨0x10010, [], 7, 1, .ro, 0, 7, 0, 1, 0⟩,
   ⟨0x10010, [], 8, 8, .ro, 0, 8, 0, 8, 0⟩,
   ⟨0x10010, [], 16, 16, .ro, 0, 16, 0, 16, 0⟩,
   ⟨0x10014, [], 0, 16, .ro, 0, 0, 0, 16, 0⟩,
   ⟨0x10014, [], 16, 16, .ro, 0, 16, 0, 16, 0⟩,
   ⟨0x10018, [], 0, 16, .ro, 0, 0, 0, 16, 0⟩,
   ⟨0x10018, [], 16, 16, .ro, 0, 16, 0, 16, 1200⟩,
   ⟨0x10080, [(0x4, 32)], 0, 32, .ro, 0, 0, 0, 32, 0⟩,
   ⟨0x10200, [(0x10, 32)], 0, 1, .ro, 0, 0, 0, 1, 1⟩,
   ⟨0x10200, [(0x10, 32)], 1, 13, .ro, 0, 1, 0, 13, 6250⟩,
   ⟨0x10200, [(0x10, 32)], 14, 8, .ro, 0, 14, 0, 8, 20⟩,
   ⟨0x10200, [(0x10, 32)], 22, 3, .ro, 0, 22, 0, 3, 3⟩,
   ⟨0x10200, [(0x10, 32)], 25, 7, .ro, 0, 25, 0, 7, 25⟩,
   ⟨0x10204, [(0x10, 32)], 0, 3, .ro, 0, 0, 0, 3, 0⟩,
   ⟨0x10204, [(0x10, 32)], 3, 1, .ro, 0, 3, 0, 1, 0⟩,
   ⟨0x10204, [(0x10, 32)], 4, 1, .ro, 0, 4, 0, 1, 0⟩,
   ⟨0x10204, [(0x10, 32)], 5, 3, .ro, 0, 5, 0, 3, 0⟩,
   ⟨0x10204, [(0x10, 32)], 8, 3, .ro, 0, 8, 0, 3, 0⟩,
   ⟨0x10204, [(0x10, 32)], 11, 1, .ro, 0, 11, 0, 1, 0⟩,
   ⟨0x10204, [(0x10, 32)], 12, 1, .ro, 0, 12, 0, 1, 1⟩,
   ⟨0x10204, [(0x10, 32)], 16, 4, .ro, 0, 16, 0, 4, 0⟩,
   ⟨0x10204, [(0x10, 32)], 20, 4, .ro, 0, 20, 0, 4, 0⟩,
   ⟨0x10208, [(0x10, 32)], 0, 1, .w1c, 0, 0, 0, 1, 0⟩,
   ⟨0x10208, [(0x10, 32)], 1, 1, .w1c, 0, 1, 0, 1, 0⟩,
   ⟨0x10208, [(0x10, 32)], 2, 1, .w1c, 0, 2, 0, 1, 0⟩,
   ⟨0x10208, [(0x10, 32)], 3, 1, .w1c, 0, 3, 0, 1, 0⟩,
   ⟨0x10208, [(0x10, 32)], 4, 1, .w1c, 0, 4, 0, 1, 0⟩,
   ⟨0x10208, [(0x10, 32)], 5, 1, .w1c, 0, 5, 0, 1, 0⟩,
   ⟨0x1020C, [(0x10, 32)], 0, 16, .rc, 0, 0, 0, 16, 0⟩,
   ⟨0x1020C, [(0x10, 32)], 16, 16, .rc, 0, 16, 0, 16, 0⟩,
   ⟨0x11000, [(0x20, 36)], 0, 16, .ro, 0, 0, 0, 16, 0⟩,
   ⟨0x11000, [(0x20, 36)], 16, 16, .ro, 0, 16, 0, 16, 0⟩,
   ⟨0x11004, [(0x20, 36)], 0, 32, .ro, 0, 0, 0, 32, 0⟩,
   ⟨0x11008, [(0x20, 36)], 0, 32, .ro, 0, 0, 0, 32, 0⟩,
   ⟨0x1100C, [(0x20, 36)], 0, 32, .ro, 0, 0, 0, 32, 0⟩,
   ⟨0x11014, [(0x20, 36)], 0, 32, .ro, 0, 0, 0, 32, 0⟩,
   ⟨0x11018, [(0x20, 36)], 0, 32, .ro, 0, 0, 0, 32, 0⟩,
   ⟨0x11010, [(0x20, 36)], 0, 16, .rc, 0, 0, 0, 16, 0⟩,
   ⟨0x740000, [], 0, 3, .ro, 0, 0, 0, 3, 0⟩,
   ⟨0x740000, [], 3, 1, .ro, 0, 3, 0, 1, 0⟩]

/-- Words of BAR0, part 16. -/
def regRows16 : List RegRow :=
  [⟨0x740000, [], 4, 1, .ro, 0, 4, 0, 1, 0⟩,
   ⟨0x740000, [], 5, 1, .ro, 0, 5, 0, 1, 0⟩,
   ⟨0x740000, [], 6, 1, .ro, 0, 6, 0, 1, 0⟩,
   ⟨0x740000, [], 7, 3, .ro, 0, 7, 0, 3, 0⟩,
   ⟨0x740004, [], 0, 1, .w1c, 0, 0, 0, 1, 0⟩,
   ⟨0x740004, [], 1, 1, .w1c, 0, 1, 0, 1, 0⟩,
   ⟨0x740004, [], 2, 1, .w1c, 0, 2, 0, 1, 0⟩,
   ⟨0x740004, [], 3, 1, .w1c, 0, 3, 0, 1, 0⟩,
   ⟨0x740004, [], 4, 1, .w1c, 0, 4, 0, 1, 0⟩,
   ⟨0x740004, [], 5, 1, .w1c, 0, 5, 0, 1, 0⟩,
   ⟨0x740008, [], 0, 12, .ro, 0, 0, 0, 12, 1200⟩,
   ⟨0x740008, [], 12, 1, .ro, 0, 12, 0, 1, 1⟩,
   ⟨0x740008, [], 13, 1, .ro, 0, 13, 0, 1, 0⟩,
   ⟨0x740008, [], 14, 7, .ro, 0, 14, 0, 7, 0⟩,
   ⟨0x740008, [], 21, 7, .ro, 0, 21, 0, 7, 0⟩,
   ⟨0x74000C, [], 0, 32, .ro, 0, 0, 0, 32, 0⟩,
   ⟨0x740010, [], 0, 32, .ro, 0, 0, 0, 32, 0⟩,
   ⟨0x740014, [], 0, 32, .ro, 0, 0, 0, 32, 0⟩,
   ⟨0x740018, [], 0, 32, .ro, 0, 0, 0, 32, 0⟩,
   ⟨0x74001C, [], 0, 32, .ro, 0, 0, 0, 32, 0⟩,
   ⟨0x740020, [], 0, 32, .ro, 0, 0, 0, 32, 0⟩,
   ⟨0x740024, [], 0, 16, .ro, 0, 0, 0, 16, 0⟩,
   ⟨0x740024, [], 16, 16, .ro, 0, 16, 0, 16, 0⟩,
   ⟨0x740028, [], 0, 16, .ro, 0, 0, 0, 16, 0⟩,
   ⟨0x740028, [], 16, 16, .ro, 0, 16, 0, 16, 0⟩,
   ⟨0x74002C, [], 0, 32, .ro, 0, 0, 0, 32, 0⟩,
   ⟨0x740030, [], 0, 32, .ro, 0, 0, 0, 32, 0⟩,
   ⟨0x740040, [], 0, 32, .ro, 0, 0, 0, 32, 0⟩,
   ⟨0x740044, [], 0, 32, .ro, 0, 0, 0, 32, 0⟩,
   ⟨0x740034, [], 0, 16, .ro, 0, 0, 0, 16, 0⟩,
   ⟨0x740034, [], 16, 16, .ro, 0, 16, 0, 16, 0⟩,
   ⟨0x740038, [], 0, 17, .ro, 0, 0, 0, 17, 0⟩,
   ⟨0x740038, [], 17, 15, .ro, 0, 17, 0, 15, 0⟩,
   ⟨0x74003C, [], 0, 9, .ro, 0, 0, 0, 9, 0⟩,
   ⟨0x1000000, [(0x10000, 48)], 0, 6, .ro, 0, 0, 0, 6, 0⟩,
   ⟨0x1000000, [(0x10000, 48)], 6, 6, .ro, 0, 6, 0, 6, 0⟩,
   ⟨0x1000000, [(0x10000, 48)], 12, 1, .ro, 0, 12, 0, 1, 0⟩,
   ⟨0x1000000, [(0x10000, 48)], 13, 1, .ro, 0, 13, 0, 1, 0⟩,
   ⟨0x1000000, [(0x10000, 48)], 14, 8, .ro, 0, 14, 0, 8, 0⟩,
   ⟨0x1002800, [(0x10000, 48)], 0, 16, .ro, 0, 0, 0, 16, 0⟩]

/-- Words of BAR0, part 17. -/
def regRows17 : List RegRow :=
  [⟨0x1002800, [(0x10000, 48)], 16, 16, .rw, 0, 16, 0, 16, 0⟩,
   ⟨0x780004, [], 0, 6, .ro, 0, 0, 0, 6, 0⟩,
   ⟨0x780004, [], 6, 1, .ro, 0, 6, 0, 1, 0⟩,
   ⟨0x780004, [], 7, 1, .ro, 0, 7, 0, 1, 0⟩,
   ⟨0x780008, [], 0, 6, .ro, 0, 0, 0, 6, 0⟩,
   ⟨0x780008, [], 6, 1, .ro, 0, 6, 0, 1, 0⟩,
   ⟨0x780008, [], 7, 1, .ro, 0, 7, 0, 1, 0⟩,
   ⟨0x780008, [], 16, 16, .rc, 0, 16, 0, 16, 0⟩,
   ⟨0x78000C, [], 0, 7, .ro, 0, 0, 0, 7, 0⟩,
   ⟨0x78000C, [], 7, 1, .ro, 0, 7, 0, 1, 0⟩,
   ⟨0x78000C, [], 8, 7, .ro, 0, 8, 0, 7, 0⟩,
   ⟨0x78000C, [], 15, 1, .ro, 0, 15, 0, 1, 0⟩,
   ⟨0x78000C, [], 16, 1, .w1c, 0, 16, 0, 1, 0⟩,
   ⟨0x78000C, [], 17, 1, .w1c, 0, 17, 0, 1, 0⟩,
   ⟨0x780200, [], 0, 2, .ro, 0, 0, 0, 2, 0⟩,
   ⟨0x780200, [], 2, 1, .ro, 0, 2, 0, 1, 0⟩,
   ⟨0x780200, [], 3, 1, .ro, 0, 3, 0, 1, 0⟩,
   ⟨0x780200, [], 4, 1, .ro, 0, 4, 0, 1, 0⟩,
   ⟨0x780200, [], 16, 16, .ro, 0, 16, 0, 16, 0⟩,
   ⟨0x7C0000, [], 0, 1, .rw, 0, 0, 0, 1, 0⟩,
   ⟨0x7C0004, [], 0, 1, .ro, 0, 0, 0, 1, 0⟩,
   ⟨0x7C0004, [], 16, 16, .rc, 0, 16, 0, 16, 0⟩,
   ⟨0x54, [], 0, 8, .ro, 0, 0, 0, 8, 0⟩,
   ⟨0x54, [], 8, 8, .rc, 0, 8, 0, 8, 0⟩,
   ⟨0x54, [], 16, 1, .w1c, 0, 16, 0, 1, 0⟩,
   ⟨0x54, [], 17, 1, .w1c, 0, 17, 0, 1, 0⟩,
   ⟨0x600000, [(0x40, 32)], 0, 32, .rw, 0, 0, 0, 512, 0⟩,
   ⟨0x600004, [(0x40, 32)], 0, 32, .rw, 4, 0, 32, 512, 0⟩,
   ⟨0x600008, [(0x40, 32)], 0, 32, .rw, 8, 0, 64, 512, 0⟩,
   ⟨0x60000C, [(0x40, 32)], 0, 32, .rw, 12, 0, 96, 512, 0⟩,
   ⟨0x600010, [(0x40, 32)], 0, 32, .rw, 16, 0, 128, 512, 0⟩,
   ⟨0x600014, [(0x40, 32)], 0, 32, .rw, 20, 0, 160, 512, 0⟩,
   ⟨0x600018, [(0x40, 32)], 0, 32, .rw, 24, 0, 192, 512, 0⟩,
   ⟨0x60001C, [(0x40, 32)], 0, 32, .rw, 28, 0, 224, 512, 0⟩,
   ⟨0x600020, [(0x40, 32)], 0, 32, .rw, 32, 0, 256, 512, 0⟩,
   ⟨0x600024, [(0x40, 32)], 0, 32, .rw, 36, 0, 288, 512, 0⟩,
   ⟨0x600028, [(0x40, 32)], 0, 32, .rw, 40, 0, 320, 512, 0⟩,
   ⟨0x60002C, [(0x40, 32)], 0, 32, .rw, 44, 0, 352, 512, 0⟩,
   ⟨0x600030, [(0x40, 32)], 0, 32, .rw, 48, 0, 384, 512, 0⟩,
   ⟨0x600034, [(0x40, 32)], 0, 32, .rw, 52, 0, 416, 512, 0⟩]

/-- Words of BAR0, part 18. -/
def regRows18 : List RegRow :=
  [⟨0x600038, [(0x40, 32)], 0, 32, .rw, 56, 0, 448, 512, 0⟩,
   ⟨0x60003C, [(0x40, 32)], 0, 32, .rw, 60, 0, 480, 512, 0⟩,
   ⟨0x600800, [(0x20, 32)], 0, 32, .ro, 0, 0, 0, 256, 0⟩,
   ⟨0x600804, [(0x20, 32)], 0, 32, .ro, 4, 0, 32, 256, 0⟩,
   ⟨0x600808, [(0x20, 32)], 0, 32, .ro, 8, 0, 64, 256, 0⟩,
   ⟨0x60080C, [(0x20, 32)], 0, 32, .ro, 12, 0, 96, 256, 0⟩,
   ⟨0x600810, [(0x20, 32)], 0, 32, .ro, 16, 0, 128, 256, 0⟩,
   ⟨0x600814, [(0x20, 32)], 0, 32, .ro, 20, 0, 160, 256, 0⟩,
   ⟨0x600818, [(0x20, 32)], 0, 32, .ro, 24, 0, 192, 256, 0⟩,
   ⟨0x60081C, [(0x20, 32)], 0, 32, .ro, 28, 0, 224, 256, 0⟩,
   ⟨0x1001000, [(0x10000, 48), (0x40, 32)], 0, 32, .rw, 0, 0, 0, 512, 0⟩,
   ⟨0x1001004, [(0x10000, 48), (0x40, 32)], 0, 32, .rw, 4, 0, 32, 512, 0⟩,
   ⟨0x1001008, [(0x10000, 48), (0x40, 32)], 0, 32, .rw, 8, 0, 64, 512, 0⟩,
   ⟨0x100100C, [(0x10000, 48), (0x40, 32)], 0, 32, .rw, 12, 0, 96, 512, 0⟩,
   ⟨0x1001010, [(0x10000, 48), (0x40, 32)], 0, 32, .rw, 16, 0, 128, 512, 0⟩,
   ⟨0x1001014, [(0x10000, 48), (0x40, 32)], 0, 32, .rw, 20, 0, 160, 512, 0⟩,
   ⟨0x1001018, [(0x10000, 48), (0x40, 32)], 0, 32, .rw, 24, 0, 192, 512, 0⟩,
   ⟨0x100101C, [(0x10000, 48), (0x40, 32)], 0, 32, .rw, 28, 0, 224, 512, 0⟩,
   ⟨0x1001020, [(0x10000, 48), (0x40, 32)], 0, 32, .rw, 32, 0, 256, 512, 0⟩,
   ⟨0x1001024, [(0x10000, 48), (0x40, 32)], 0, 32, .rw, 36, 0, 288, 512, 0⟩,
   ⟨0x1001028, [(0x10000, 48), (0x40, 32)], 0, 32, .rw, 40, 0, 320, 512, 0⟩,
   ⟨0x100102C, [(0x10000, 48), (0x40, 32)], 0, 32, .rw, 44, 0, 352, 512, 0⟩,
   ⟨0x1001030, [(0x10000, 48), (0x40, 32)], 0, 32, .rw, 48, 0, 384, 512, 0⟩,
   ⟨0x1001034, [(0x10000, 48), (0x40, 32)], 0, 32, .rw, 52, 0, 416, 512, 0⟩,
   ⟨0x1001038, [(0x10000, 48), (0x40, 32)], 0, 32, .rw, 56, 0, 448, 512, 0⟩,
   ⟨0x100103C, [(0x10000, 48), (0x40, 32)], 0, 32, .rw, 60, 0, 480, 512, 0⟩,
   ⟨0x1001800, [(0x10000, 48), (0x20, 32)], 0, 32, .ro, 0, 0, 0, 256, 0⟩,
   ⟨0x1001804, [(0x10000, 48), (0x20, 32)], 0, 32, .ro, 4, 0, 32, 256, 0⟩,
   ⟨0x1001808, [(0x10000, 48), (0x20, 32)], 0, 32, .ro, 8, 0, 64, 256, 0⟩,
   ⟨0x100180C, [(0x10000, 48), (0x20, 32)], 0, 32, .ro, 12, 0, 96, 256, 0⟩,
   ⟨0x1001810, [(0x10000, 48), (0x20, 32)], 0, 32, .ro, 16, 0, 128, 256, 0⟩,
   ⟨0x1001814, [(0x10000, 48), (0x20, 32)], 0, 32, .ro, 20, 0, 160, 256, 0⟩,
   ⟨0x1001818, [(0x10000, 48), (0x20, 32)], 0, 32, .ro, 24, 0, 192, 256, 0⟩,
   ⟨0x100181C, [(0x10000, 48), (0x20, 32)], 0, 32, .ro, 28, 0, 224, 256, 0⟩,
   ⟨0x1002000, [(0x10000, 48), (0x40, 32)], 0, 32, .ro, 0, 0, 0, 512, 0⟩,
   ⟨0x1002004, [(0x10000, 48), (0x40, 32)], 0, 32, .ro, 4, 0, 32, 512, 0⟩,
   ⟨0x1002008, [(0x10000, 48), (0x40, 32)], 0, 32, .ro, 8, 0, 64, 512, 0⟩,
   ⟨0x100200C, [(0x10000, 48), (0x40, 32)], 0, 32, .ro, 12, 0, 96, 512, 0⟩,
   ⟨0x1002010, [(0x10000, 48), (0x40, 32)], 0, 32, .ro, 16, 0, 128, 512, 0⟩,
   ⟨0x1002014, [(0x10000, 48), (0x40, 32)], 0, 32, .ro, 20, 0, 160, 512, 0⟩]

/-- Words of BAR0, part 19. -/
def regRows19 : List RegRow :=
  [⟨0x1002018, [(0x10000, 48), (0x40, 32)], 0, 32, .ro, 24, 0, 192, 512, 0⟩,
   ⟨0x100201C, [(0x10000, 48), (0x40, 32)], 0, 32, .ro, 28, 0, 224, 512, 0⟩,
   ⟨0x1002020, [(0x10000, 48), (0x40, 32)], 0, 32, .ro, 32, 0, 256, 512, 0⟩,
   ⟨0x1002024, [(0x10000, 48), (0x40, 32)], 0, 32, .ro, 36, 0, 288, 512, 0⟩,
   ⟨0x1002028, [(0x10000, 48), (0x40, 32)], 0, 32, .ro, 40, 0, 320, 512, 0⟩,
   ⟨0x100202C, [(0x10000, 48), (0x40, 32)], 0, 32, .ro, 44, 0, 352, 512, 0⟩,
   ⟨0x1002030, [(0x10000, 48), (0x40, 32)], 0, 32, .ro, 48, 0, 384, 512, 0⟩,
   ⟨0x1002034, [(0x10000, 48), (0x40, 32)], 0, 32, .ro, 52, 0, 416, 512, 0⟩,
   ⟨0x1002038, [(0x10000, 48), (0x40, 32)], 0, 32, .ro, 56, 0, 448, 512, 0⟩,
   ⟨0x100203C, [(0x10000, 48), (0x40, 32)], 0, 32, .ro, 60, 0, 480, 512, 0⟩,
   ⟨0x1005000, [(0x10000, 48), (0x4, 64)], 0, 32, .ro, 0, 0, 0, 32, 0⟩,
   ⟨0x1008000, [(0x10000, 48), (0x10, 2048)], 0, 32, .rw, 0, 0, 0, 128, 79228162514264337593543950336⟩,
   ⟨0x1008004, [(0x10000, 48), (0x10, 2048)], 0, 32, .rw, 4, 0, 32, 128, 79228162514264337593543950336⟩,
   ⟨0x1008008, [(0x10000, 48), (0x10, 2048)], 0, 32, .rw, 8, 0, 64, 128, 79228162514264337593543950336⟩,
   ⟨0x100800C, [(0x10000, 48), (0x10, 2048)], 0, 32, .rw, 12, 0, 96, 128, 79228162514264337593543950336⟩]

/-- Every documented word of BAR0. -/
def regRows : List RegRow :=
  regRows0 ++
  regRows1 ++
  regRows2 ++
  regRows3 ++
  regRows4 ++
  regRows5 ++
  regRows6 ++
  regRows7 ++
  regRows8 ++
  regRows9 ++
  regRows10 ++
  regRows11 ++
  regRows12 ++
  regRows13 ++
  regRows14 ++
  regRows15 ++
  regRows16 ++
  regRows17 ++
  regRows18 ++
  regRows19

/-- A field of an indirect table's entry, word by word: the word, the place in it, and the field's place in the
store: `flo` bits above the entry's first bit, from bit `vbit` of a value `width` bits wide. -/
structure TabRow where
  word : Nat
  lo : Nat
  w : Nat
  vbit : Nat
  flo : Nat
  width : Nat
  deriving DecidableEq, Repr

/-- The layout of an entry of table XLAT. -/
def xlatLayout : List TabRow :=
  [⟨0, 0, 1, 0, 0, 1⟩,
   ⟨0, 1, 2, 0, 1, 2⟩,
   ⟨0, 3, 6, 0, 3, 6⟩,
   ⟨0, 9, 2, 0, 9, 2⟩,
   ⟨0, 11, 1, 0, 11, 1⟩,
   ⟨0, 12, 6, 0, 12, 6⟩,
   ⟨0, 18, 6, 0, 18, 6⟩,
   ⟨0, 24, 1, 0, 24, 1⟩,
   ⟨0, 25, 7, 0, 25, 7⟩,
   ⟨1, 0, 12, 0, 32, 12⟩,
   ⟨2, 0, 32, 0, 64, 64⟩,
   ⟨3, 0, 32, 32, 64, 64⟩,
   ⟨4, 0, 32, 0, 128, 64⟩,
   ⟨5, 0, 32, 32, 128, 64⟩,
   ⟨6, 0, 32, 0, 192, 32⟩]

/-- Byte address of entry i of table XLAT in the field store. -/
def xlatAddr (i : Nat) : Nat := 0x10000000 + 0x20 * i

/-- The layout of an entry of table POS. -/
def posLayout : List TabRow :=
  [⟨0, 0, 1, 0, 0, 1⟩,
   ⟨0, 1, 1, 0, 1, 1⟩,
   ⟨0, 2, 7, 0, 2, 7⟩,
   ⟨0, 9, 8, 0, 9, 8⟩,
   ⟨0, 17, 6, 0, 17, 6⟩,
   ⟨0, 23, 1, 0, 23, 1⟩,
   ⟨0, 24, 1, 0, 24, 1⟩,
   ⟨1, 0, 8, 0, 32, 8⟩,
   ⟨1, 8, 8, 0, 40, 8⟩]

/-- Byte address of entry i of table POS in the field store. -/
def posAddr (i : Nat) : Nat := 0x10200000 + 0x20 * i

/-- The layout of an entry of table SHF. -/
def shfLayout : List TabRow :=
  [⟨0, 0, 1, 0, 0, 1⟩,
   ⟨0, 1, 6, 0, 1, 6⟩,
   ⟨0, 7, 5, 0, 7, 5⟩]

/-- Byte address of entry i of table SHF in the field store. -/
def shfAddr (i : Nat) : Nat := 0x10400000 + 0x20 * i

/-- The layout of an entry of table NRT. -/
def nrtLayout : List TabRow :=
  [⟨0, 0, 1, 0, 0, 1⟩,
   ⟨0, 1, 1, 0, 1, 1⟩,
   ⟨0, 4, 7, 0, 4, 7⟩,
   ⟨0, 11, 7, 0, 11, 7⟩,
   ⟨0, 18, 7, 0, 18, 7⟩,
   ⟨0, 25, 7, 0, 25, 7⟩,
   ⟨1, 0, 4, 0, 32, 4⟩,
   ⟨1, 4, 4, 0, 36, 4⟩]

/-- Byte address of entry i of table NRT in the field store. -/
def nrtAddr (i : Nat) : Nat := 0x10600000 + 0x20 * i

/-- The layout of an entry of table BKT. -/
def bktLayout : List TabRow :=
  [⟨0, 0, 2, 0, 0, 2⟩,
   ⟨0, 2, 1, 0, 2, 1⟩,
   ⟨0, 3, 2, 0, 3, 2⟩,
   ⟨0, 16, 16, 0, 16, 16⟩]

/-- Byte address of entry i of table BKT in the field store. -/
def bktAddr (i : Nat) : Nat := 0x10700000 + 0x20 * i

/-- The layout of an entry of table MCT. -/
def mctLayout : List TabRow :=
  [⟨0, 0, 32, 0, 0, 128⟩,
   ⟨1, 0, 32, 32, 0, 128⟩,
   ⟨2, 0, 32, 64, 0, 128⟩,
   ⟨3, 0, 32, 96, 0, 128⟩]

/-- Byte address of entry i of table MCT in the field store. -/
def mctAddr (i : Nat) : Nat := 0x10800000 + 0x20 * i

/-- The layout of an entry of table RULE. -/
def ruleLayout : List TabRow :=
  [⟨0, 0, 1, 0, 0, 1⟩,
   ⟨0, 1, 2, 0, 1, 2⟩,
   ⟨0, 3, 3, 0, 3, 3⟩,
   ⟨0, 6, 1, 0, 6, 1⟩,
   ⟨0, 7, 1, 0, 7, 1⟩,
   ⟨0, 8, 1, 0, 8, 1⟩,
   ⟨0, 9, 1, 0, 9, 1⟩,
   ⟨0, 10, 4, 0, 10, 4⟩,
   ⟨0, 14, 6, 0, 14, 6⟩,
   ⟨0, 20, 1, 0, 20, 1⟩,
   ⟨0, 21, 6, 0, 21, 6⟩,
   ⟨0, 27, 1, 0, 27, 1⟩,
   ⟨0, 28, 2, 0, 28, 2⟩,
   ⟨0, 30, 1, 0, 30, 1⟩,
   ⟨1, 0, 16, 0, 32, 16⟩,
   ⟨1, 16, 16, 0, 48, 16⟩,
   ⟨2, 0, 20, 0, 64, 20⟩,
   ⟨2, 20, 10, 0, 84, 10⟩,
   ⟨3, 0, 7, 0, 96, 7⟩,
   ⟨3, 7, 1, 0, 103, 1⟩,
   ⟨3, 8, 6, 0, 104, 6⟩,
   ⟨3, 14, 1, 0, 110, 1⟩,
   ⟨3, 15, 3, 0, 111, 3⟩,
   ⟨4, 0, 32, 0, 128, 64⟩,
   ⟨5, 0, 32, 32, 128, 64⟩,
   ⟨6, 0, 32, 0, 192, 64⟩,
   ⟨7, 0, 32, 32, 192, 64⟩]

/-- Byte address of entry i of table RULE in the field store. -/
def ruleAddr (i : Nat) : Nat := 0x0 + 0x20 * i

/-- The layout of an entry of table GATE. -/
def gateLayout : List TabRow :=
  [⟨0, 0, 27, 0, 0, 27⟩,
   ⟨0, 27, 1, 0, 27, 1⟩,
   ⟨1, 0, 8, 0, 32, 8⟩]

/-- Byte address of entry i of table GATE in the field store. -/
def gateAddr (i : Nat) : Nat := 0x10900000 + 0x10 * i

/-- The layout of an entry of table SHP. -/
def shpLayout : List TabRow :=
  [⟨0, 0, 1, 0, 0, 1⟩,
   ⟨0, 1, 2, 0, 1, 2⟩,
   ⟨0, 3, 7, 0, 3, 7⟩,
   ⟨0, 10, 3, 0, 10, 3⟩,
   ⟨0, 13, 10, 0, 13, 10⟩,
   ⟨0, 23, 1, 0, 23, 1⟩,
   ⟨0, 24, 1, 0, 24, 1⟩,
   ⟨1, 0, 32, 0, 32, 32⟩,
   ⟨2, 0, 16, 0, 64, 16⟩]

/-- Byte address of entry i of table SHP in the field store. -/
def shpAddr (i : Nat) : Nat := 0x10C00000 + 0x20 * i

/-- The layout of an entry of table DOM. -/
def domLayout : List TabRow :=
  [⟨0, 0, 2, 0, 0, 2⟩,
   ⟨0, 2, 2, 0, 2, 2⟩,
   ⟨0, 4, 1, 0, 4, 1⟩,
   ⟨0, 5, 1, 0, 5, 1⟩,
   ⟨0, 6, 1, 0, 6, 1⟩,
   ⟨0, 7, 1, 0, 7, 1⟩,
   ⟨0, 8, 8, 0, 8, 8⟩,
   ⟨0, 16, 16, 0, 16, 16⟩,
   ⟨1, 0, 20, 0, 32, 20⟩,
   ⟨2, 0, 32, 0, 64, 64⟩,
   ⟨3, 0, 32, 32, 64, 64⟩,
   ⟨4, 0, 32, 0, 128, 512⟩,
   ⟨5, 0, 32, 32, 128, 512⟩,
   ⟨6, 0, 32, 64, 128, 512⟩,
   ⟨7, 0, 32, 96, 128, 512⟩,
   ⟨8, 0, 32, 128, 128, 512⟩,
   ⟨9, 0, 32, 160, 128, 512⟩,
   ⟨10, 0, 32, 192, 128, 512⟩,
   ⟨11, 0, 32, 224, 128, 512⟩,
   ⟨12, 0, 32, 256, 128, 512⟩,
   ⟨13, 0, 32, 288, 128, 512⟩,
   ⟨14, 0, 32, 320, 128, 512⟩,
   ⟨15, 0, 32, 352, 128, 512⟩,
   ⟨16, 0, 32, 384, 128, 512⟩,
   ⟨17, 0, 32, 416, 128, 512⟩,
   ⟨18, 0, 32, 448, 128, 512⟩,
   ⟨19, 0, 32, 480, 128, 512⟩]

/-- Byte address of entry i of table DOM in the field store. -/
def domAddr (i : Nat) : Nat := 0x13000000 + 0x80 * i

/-- The layout of an entry of table WIN. -/
def winLayout : List TabRow :=
  [⟨0, 0, 1, 0, 0, 1⟩,
   ⟨0, 1, 1, 0, 1, 1⟩,
   ⟨0, 2, 1, 0, 2, 1⟩,
   ⟨0, 3, 4, 0, 3, 4⟩,
   ⟨0, 7, 1, 0, 7, 1⟩,
   ⟨0, 8, 1, 0, 8, 1⟩,
   ⟨0, 9, 10, 0, 9, 10⟩,
   ⟨0, 19, 8, 0, 19, 8⟩,
   ⟨2, 0, 32, 0, 64, 64⟩,
   ⟨3, 0, 32, 32, 64, 64⟩,
   ⟨4, 0, 32, 0, 128, 64⟩,
   ⟨5, 0, 32, 32, 128, 64⟩]

/-- Byte address of entry i of table WIN in the field store. -/
def winAddr (i : Nat) : Nat := 0x10E00000 + 0x20 * i

/-- The layout of an entry of table SPL. -/
def splLayout : List TabRow :=
  [⟨0, 0, 1, 0, 0, 1⟩,
   ⟨0, 1, 1, 0, 1, 1⟩,
   ⟨0, 2, 1, 0, 2, 1⟩,
   ⟨0, 3, 1, 0, 3, 1⟩,
   ⟨0, 4, 6, 0, 4, 6⟩,
   ⟨0, 10, 10, 0, 10, 10⟩,
   ⟨0, 20, 5, 0, 20, 5⟩,
   ⟨1, 0, 16, 0, 32, 16⟩,
   ⟨1, 16, 16, 0, 48, 16⟩,
   ⟨2, 0, 15, 0, 64, 15⟩,
   ⟨2, 16, 11, 0, 80, 11⟩,
   ⟨3, 0, 10, 0, 96, 10⟩,
   ⟨3, 16, 7, 0, 112, 7⟩,
   ⟨3, 23, 9, 0, 119, 9⟩,
   ⟨4, 0, 32, 0, 128, 64⟩,
   ⟨5, 0, 32, 32, 128, 64⟩,
   ⟨6, 0, 7, 0, 192, 7⟩]

/-- Byte address of entry i of table SPL in the field store. -/
def splAddr (i : Nat) : Nat := 0x11000000 + 0x20 * i

/-- The layout of an entry of table GND. -/
def gndLayout : List TabRow :=
  [⟨0, 0, 1, 0, 0, 1⟩,
   ⟨0, 1, 3, 0, 1, 3⟩,
   ⟨0, 4, 6, 0, 4, 6⟩,
   ⟨0, 10, 9, 0, 10, 9⟩,
   ⟨0, 19, 1, 0, 19, 1⟩,
   ⟨0, 20, 12, 0, 20, 12⟩,
   ⟨1, 0, 20, 0, 32, 20⟩,
   ⟨1, 20, 7, 0, 52, 7⟩,
   ⟨1, 27, 1, 0, 59, 1⟩,
   ⟨2, 0, 10, 0, 64, 10⟩,
   ⟨2, 16, 10, 0, 80, 10⟩,
   ⟨3, 0, 14, 0, 96, 14⟩,
   ⟨3, 16, 14, 0, 112, 14⟩,
   ⟨4, 0, 11, 0, 128, 11⟩,
   ⟨4, 16, 7, 0, 144, 7⟩,
   ⟨5, 0, 29, 0, 160, 29⟩,
   ⟨6, 0, 29, 0, 192, 29⟩,
   ⟨7, 0, 16, 0, 224, 16⟩]

/-- Byte address of entry i of table GND in the field store. -/
def gndAddr (i : Nat) : Nat := 0x12000000 + 0x20 * i

end Sys2Proof.Machine
end

