-- ==== Sys2Proof/Machine/State.lean ====
section
/-! DEFINITION. The state of the part as plain data: the field store that holds every register field and every scalar
the spec names (at the keys of the register map), the records of everything that comes in varying number, the clock,
the outputs and the queue of waiting commands. -/

namespace Sys2Proof.Machine

/-- The field store: bit address of a field and the difference (exclusive or) of its value from its reset value, by
rising bit address; a field at its reset value is not listed. -/
abbrev Regs := List (Nat × Nat)

/-- The device's clock: nanoseconds since the state `reset`, the fabric time counter (R84), its fraction in 2^-32 ns
and its increment per nanosecond in 2^-32 ns (R87). -/
structure Clock where
  now : Nat
  ft : BitVec 64
  ftFrac : BitVec 32
  ftInc : Nat
  deriving DecidableEq, Repr

/-- An error record (R507); `hosts` lists the hosts it concerns beyond those that LEVEL and DOMAIN name (R517). -/
structure Rec where
  time : Nat
  code : Nat
  sev : Nat
  escalated : Bool
  overflow : Bool
  first : Bool
  level : Nat
  source : Nat
  dom : Nat
  sub : Nat
  seq : Nat
  detail : Nat
  hosts : List Nat
  deriving DecidableEq, Repr

/-- Who a command is accepted for (R692). -/
inductive Issuer where
  | m
  | h (host : Nat)
  | g (gond : Nat)
  deriving DecidableEq, Repr

/-- A long operation and its handle (R642 to R645, R713). `final` is its final status once posted, at `finishedAt`;
`silent` tells that its status is discarded (R120, R884), `paused` that it
stands at a step boundary of a frozen gondola (R762), and `old` that Bridle admitted it before the last change of tables (R434, R441). -/
structure Op where
  handle : Nat
  opcode : Nat
  cmd : Cmd
  issuer : Issuer
  engine : Nat
  done : Nat
  total : Nat
  phase : Nat
  acc : Nat
  cancel : Bool
  final : Option Nat
  finishedAt : Nat
  recorded : Bool
  silent : Bool
  paused : Bool
  old : Bool
  deriving DecidableEq, Repr

/-- A status that waits for Bus Master Enable of the owner's host (R228, R705): its status spool and command spool. -/
structure Held where
  spool : Nat
  source : Nat
  status : Nat
  final : Bool
  deriving DecidableEq, Repr

/-- A command that is not long and posts its one status late (R712): BRIDLE_COMMIT, POOL_EPOCH_CLOSE, SCHED and append. -/
structure Late where
  opcode : Nat
  cmd : Cmd
  obj : Nat
  silent : Bool
  deriving DecidableEq, Repr

/-- An entry of a write buffer (R583): its buffer, source (R588), line, byte mask, data, window, place in
the order of acceptance, the tags of another node's stores in it, or the handles of the operations whose stores are in it, and whether it
poisons the line, as a mirror copy can. -/
structure WbEnt where
  buf : Nat
  src : Nat
  line : Nat
  mask : Nat
  data : Nat
  window : Nat
  seq : Nat
  strict : Bool
  tags : List Nat
  poison : Bool
  deriving DecidableEq, Repr

/-- The way a pool access was addressed: plain, load-reserved or store-conditional alias (R607, R610). -/
inductive Via where
  | plain | lr | sc
  deriving DecidableEq, Repr

/-- A pool access accepted and not yet performed, or held at the head of its source's ingress, with the requester, tag and class that its
completion goes to, and the PCI Express port it came on, 128 where it came on none. A mirror copy, of source 60, has its byte mask in `tag`, and a
`requester` of 1 when it is poisoned. -/
structure PAcc where
  id : Nat
  src : Nat
  via : Via
  addr : Nat
  op : MemOp
  requester : Nat
  pasid : Option Nat
  tag : Nat
  window : Nat
  seq : Nat
  tc : Nat
  port : Nat
  deriving DecidableEq, Repr

/-- A load reservation (R607), or the spurious failure of a store-conditional at `setAt` (R613). `alone` while its requester has sent no
other pool request since, but for a store-conditional to the line within 4 us. -/
structure Resv where
  src : Nat
  requester : Nat
  pasid : Option Nat
  line : Nat
  setAt : Nat
  alone : Bool
  deriving DecidableEq, Repr

/-- A barrier in progress (R599, R600): kind 0 load, 1 store, 2 full; `seq` bounds what is earlier; `dead` once its host was reset, so that its
completion goes nowhere (R605); `tc` and `bytes` are the class and size of the read. -/
structure Barrier where
  host : Nat
  kind : Nat
  seq : Nat
  requester : Nat
  tag : Nat
  dead : Bool
  tc : Nat
  bytes : Nat
  deriving DecidableEq, Repr

/-- Who asked for an epoch close: a host, with its MSI-X choice, a command, or batch `b` of log `n` (R619, R660). -/
inductive Closer where
  | host (h : Nat) (msix : Bool) (vector : Nat)
  | cmd (c : Cmd)
  | log (n b : Nat)
  deriving DecidableEq, Repr

/-- An epoch close of a domain, running (`pending` false) or pending (R617, R620). `stage`: 1 draining, 2 waiting for
the peer. `seq` is the place in the order of acceptance at which it started: a later store waits (R618). -/
structure Close where
  dom : Nat
  pending : Bool
  stage : Nat
  closers : List Closer
  startAt : Nat
  seq : Nat
  deriving DecidableEq, Repr

/-- A copy on a peer's mirror queue (R624, R625). -/
structure MirLine where
  peer : Nat
  dom : Nat
  addr : Nat
  mask : Nat
  data : Nat
  poison : Bool
  deriving DecidableEq, Repr

/-- A commit-log append in progress (R658 to R663): its payload as far as it has been fetched, its LSN and batch once
assigned, the tail at the end of its batch, and how the close of the batch ended: degraded, refused, and the counter. -/
structure Append where
  id : Nat
  log : Nat
  cmd : Cmd
  issuer : Issuer
  len : Nat
  payload : List (BitVec 8)
  lsn : Option Nat
  batch : Nat
  tail : Option Nat
  closed : Option (Bool × Bool × Nat)
  deriving DecidableEq, Repr

/-- The memory of the pool by physical byte, channel × 2^37 + channel address (R554), in canonical form, and what waits
on it. `poison` lists poisoned lines by physical line number. -/
structure Pool where
  cells : List Host.Cell
  poison : List Nat
  wb : List WbEnt
  waiting : List PAcc
  queue : List PAcc
  resv : List Resv
  lost : List Resv
  barriers : List Barrier
  closes : List Close
  mirror : List MirLine
  appends : List Append
  ueTimes : List (Nat × Nat)
  deriving DecidableEq, Repr

/-- A request that the SF256 issued and that awaits its completion, or a tag in quarantine (R540, R541). `waiter` is
the handle of the operation whose work depends on it, or 0; `src`, `requester` and `otag` name the source, Requester ID
and tag that its completion goes back to (R404); `seq` is the place in order of a store to another node that awaits its
performed report (R589, R601); `link` is the tether it was sent on (R289), and `pasid` the PASID of a host's request (R520). `data` and `poison` hold what partial completions have
brought, which counts only once the request is whole (R540). `tc` is its class, and `addr` the address of the next byte that its requester has not
been given (R199, R406). A `timeout` of 0 is none. -/
structure Outst where
  kind : ReqKind
  target : Nat
  tag : Nat
  issuedAt : Nat
  timeout : Nat
  waiter : Nat
  src : Nat
  requester : Nat
  otag : Nat
  seq : Nat
  store : Bool
  link : Option Nat
  pasid : Option Nat
  data : List (BitVec 8)
  poison : Bool
  quarantined : Bool
  tc : Nat
  addr : Nat
  deriving DecidableEq, Repr

/-- A segment that a tether sends as a unit (R256 to R260): class, TLP type, KIND, destination node, the payload bytes of
its TLP, SOP and EOP, the stomp END_CODE, its bucket, the number of its TLP in order of admission plus 1 or 0, whether its credits are
consumed, its TLP when it comes from the switch, and otherwise its content by number, and the place of the segment in the TLP. -/
structure CUnit where
  tc : Nat
  typ : Nat
  kind : Nat
  dst : Nat
  payload : Nat
  sop : Bool
  eop : Bool
  stomp : Bool
  bucket : Option Nat
  order : Nat
  charged : Bool
  tlp : Option Tlp
  body : Nat
  off : Nat
  len : Nat
  deriving DecidableEq, Repr

/-- A segment that waits on the transmit stage of a tether. -/
structure Staged where
  port : Nat
  unit : CUnit
  deriving DecidableEq, Repr

/-- A unit that a tether has sent and holds unacknowledged: its sequence number and generation, its segments in their packing order, the
times it was sent, and whether it is to be sent again (R256, R257, R270 to R276). -/
structure TUnit where
  port : Nat
  seq : Nat
  gen : Nat
  segs : List CUnit
  sends : Nat
  again : Bool
  deriving DecidableEq, Repr

/-- A TLP in the ingress buffer of tether `port` (R267): its KIND, class and payload; `taken` once the block that consumes it has it in hand. -/
structure RxTlp where
  port : Nat
  kind : Nat
  tc : Nat
  payload : Nat
  taken : Bool
  acc : Option Nat
  deriving DecidableEq, Repr

/-- The tethers' units: retransmission buffers in order of sequence, transmit stages, and reorder buffers with the port
of each unit (R270, R271, R277); the data blocks of units sent that wait for their row, NAKs that wait for a CREDIT block, each with its
port, and the TLPs in the ingress buffers (R239, R267, R271); the gaps that have been NAKed, each by its port and sequence number with the time of
its last NAK (R273); and the LINK_MGMT blocks that wait for a row slot, each with its port, OP and ARG (R277). -/
structure Tether where
  unacked : List TUnit
  sendq : List Staged
  reorder : List (Nat × RxUnit)
  stream : List (Nat × Nat)
  naks : List (Nat × Nat)
  rx : List RxTlp
  gaps : List (Nat × Nat × Nat)
  mgmt : List (Nat × Nat × Nat)
  deriving DecidableEq, Repr

/-- What the part gives to the outside, newest first: the model's own record of outputs. Log entry 5. -/
inductive Out where
  | completion (host requester tag status : Nat) (data : List (BitVec 8)) (poisoned : Bool)
  | readData (value : Nat)
  | hostWrite (host addr : Nat) (data : Nat) (bytes : Nat) (pasid : Option Nat)
  | hostRead (host addr bytes tag : Nat) (pasid : Option Nat)
  | msix (host vector : Nat)
  | message (host code : Nat)
  | tlpSent (port mode crc : Nat) (t : Tlp)
  | tlpNullified (port mode crc : Nat) (t : Tlp)
  | tlpAnswered (t : Tlp) (status : Nat)
  | unitSent (u : TUnit)
  | block (port kind value : Nat)
  | row (port kind : Nat) (blocks : List Nat) (levels : List (List Nat))
  | ptmResponse (port t2 t3 : Nat)
  | hotReset (port : Nat) (on : Bool)
  | flr (port fn : Nat)
  | pin (pin index : Nat) (high : Bool)
  | smbus (bytes : List Nat)
  | jtag (value bits : Nat)
  | spi (device offset bytes : Nat)
  | eeprom (offset value : Nat)
  | nvme (drive offset : Nat) (bytes : List (BitVec 8))
  deriving DecidableEq, Repr

/-- What stands behind a TLP that the part makes itself (R18): what it gives out at a PCI Express port, or the segment header of its units on a
tether. -/
inductive OwnTlp where
  | out (o : Out)
  | unit (u : CUnit)
  deriving DecidableEq, Repr

/-- A TLP in the switch core: its queues (more than one for a multicast TLP), cells, order of entry, the cells already
in the buffer, and its progress; `held` once the gate's guard has held it (R474), and `own` where the part made it. It is `ready` to start once
`start` of its cells are in the buffer (R331, R333). -/
structure QTlp where
  tlp : Tlp
  queue : Nat
  cells : Nat
  shared : Nat
  order : Nat
  cutThrough : Bool
  ready : Bool
  tailIn : Bool
  started : Bool
  headSince : Nat
  mc : Option Nat
  held : Bool
  own : Option OwnTlp
  start : Nat
  deriving DecidableEq, Repr

/-- The switch core: queued TLPs in order of admission, TLPs waiting at ingress, each with its place in
order of admission past its checks (R323), and the multicast ones among them by that place with their group (`mcast`, R324), non-posted
requests sent that await their completions (R434), with the time of sending as `headSince`, stomps by port and time
(R338), and freed tags by requester, oldest first (R544). `made` lists the TLPs that the part makes and that wait for cells of their egress
queue (R18, R319), and `failed` the requests of the part, by requester and tag, that the core discarded, with the completion status of their
answer, until they are answered (R341, R347). -/
structure Switch where
  txq : List QTlp
  wait : List (Nat × Tlp)
  asked : List QTlp
  stomps : List (Nat × Nat)
  tags : List (Nat × Nat)
  made : List (Nat × Tlp × OwnTlp)
  mcast : List (Nat × Nat)
  failed : List (Nat × Nat × Nat)
  deriving DecidableEq, Repr

/-- A set of Bridle tables: generation, policy fields and rules by bit address in the layout of BRD_IND_DATA (R423,
R438, R445); `ok` tells that its CRC-32C is good. -/
structure Tables where
  gen : Nat
  policy : Nat
  rules : Regs
  ok : Bool
  deriving DecidableEq, Repr

/-- A request that waits at the checker while a session holds it (R436), or for a tag (R403, R545): a host's request to
BAR2, one to BAR0 or BAR4, a request from a bound port with its AT field and content, a KIND 1 request and a KIND 0 or 4 request from node
`n` by port `p`, and one of the latter past its check that waits for a proxy tag toward port `q`. -/
inductive BHeld where
  | pool (h : Nat) (r : MemReq)
  | peer (t : Tlp) (addrType : Nat) (op : MemOp)
  | remote (p n : Nat) (r : MemReq)
  | fabric (p n : Nat) (t : Tlp)
  | proxy (p n q : Nat) (t : Tlp)
  | regs (h : Nat) (r : MemReq)
  | bar (h kind requester tag tc bytes : Nat)
  deriving DecidableEq, Repr

/-- Bridle: the staged tables, the tables of a commit that runs, the active tables, the two save copies and the two
gondola table copies (R435, R443 to R446, R769), and the requests that wait at the checker in order, each with its place in the order of arrival. -/
structure Bridle where
  staged : Tables
  commit : Tables
  active : Tables
  saveA : Tables
  saveB : Tables
  gondA : Tables
  gondB : Tables
  held : List (Nat × BHeld)
  deriving DecidableEq, Repr

/-- A handle in the handle area of the mooring log (R718, R892). -/
structure MorHandle where
  handle : Nat
  opcode : Nat
  issuer : Issuer
  deriving DecidableEq, Repr

/-- An entry of the spill list area: base, limit and domain of a SPILL window at the drain point (R855, R892). -/
structure SpillWin where
  base : Nat
  limit : Nat
  dom : Nat
  deriving DecidableEq, Repr

/-- The mooring log (R891 to R893): the event ring of records of 24 bytes as numbers, newest first, and the areas: handles,
first-error records of 64 bytes as numbers, the state of each channel and whether it was ON, and the spill list. `energy` is the pack's
ENERGY at the last 61 estimates, newest first (R860), and `header` the header of the image that is being restored (R887). -/
structure Mooring where
  log : List Nat
  handles : List MorHandle
  firstErr : List Nat
  slots : List (Nat × Nat)
  spill : List SpillWin
  energy : List Nat
  header : List (BitVec 8)
  deriving DecidableEq, Repr

/-- Management: flash cells by device × 2^26 + offset, the recovery buffer, the SMBus status queue, events of the last
second by input or lane, one-shot injected faults (R731), and the fabric manager's node table (R299). -/
structure Mgmt where
  flash : List Host.Cell
  recovery : List (BitVec 8)
  smbq : List Nat
  edges : List (Nat × Nat)
  inject : List (Nat × Nat × Nat)
  nodes : List (Nat × Nat × Nat)
  deriving DecidableEq, Repr

/-- The state of the part. `errq` holds the records of the source queues, and `trig` those that may start, extend or
escalate a containment, until the error unit has acted on them (R524). -/
structure State where
  regs : Regs
  clk : Clock
  errq : List Rec
  trig : List Rec
  ops : List Op
  held : List Held
  late : List Late
  pool : Pool
  switch : Switch
  outst : List Outst
  tether : Tether
  bridle : Bridle
  mooring : Mooring
  mgmt : Mgmt
  out : List Out
  free : Nat
  pending : List Instr
  deriving DecidableEq, Repr

/-- No meaning of this model stops the machine: the spec gives every command an effect. The one reason, an answer that
no step raises, is safe. -/
inductive Fault where
  | unreachable
  deriving DecidableEq, Repr

/-- Raised by the dispatch for a command without a meaning; safe, since the machine stops. -/
inductive Refusal where
  | notModelled (mnemonic : String)
  deriving DecidableEq, Repr

/-- Tables without a rule, with the reset values of the policy bits (R430). -/
def Tables.empty : Tables := ⟨0, 0x34, [], true⟩

/-- A copy that fails its CRC-64, as the save area holds before anything is written to it (R447). -/
def Tables.invalid : Tables := ⟨0, 0, [], false⟩

/-- The part at the moment power is first applied, with RESET_N low and the start-up not begun: every register field
at its reset value, nothing in any queue, memory with nothing listed. Log entries 1, 2 and 6. -/
def State.reset : State where
  regs := []
  clk := ⟨0, 0, 0, 4294967296⟩
  errq := []
  trig := []
  ops := []
  held := []
  late := []
  pool := ⟨[], [], [], [], [], [], [], [], [], [], [], []⟩
  switch := ⟨[], [], [], [], [], [], [], []⟩
  outst := []
  tether := ⟨[], [], [], [], [], [], [], []⟩
  bridle := ⟨Tables.empty, Tables.empty, Tables.empty, Tables.invalid, Tables.invalid, Tables.invalid, Tables.invalid, []⟩
  mooring := ⟨[], [], [], [], [], [], []⟩
  mgmt := ⟨[], [], [], [], [], []⟩
  out := []
  free := 0
  pending := []

end Sys2Proof.Machine
end

