-- ==== Sys2Proof/Machine/Ops.lean ====
section
/-! DEFINITION. The named operations that every meaning is built from: bit fields, the field store, the clock, the
outputs, free values, interrupts toward a host, and error records. -/

namespace Sys2Proof.Machine

/-! Bit fields of natural numbers. -/

/-- Bits `lo` to `lo + w - 1` of `v`, as a number. -/
def bits (v lo w : Nat) : Nat := v / 2 ^ lo % 2 ^ w

/-- Bit `k` of `v`, as a number. -/
def bit (v k : Nat) : Nat := v / 2 ^ k % 2

/-- Bit `k` of `v` is 1. -/
def bitSet (v k : Nat) : Bool := bit v k == 1

/-- `v` with bit `k` set. -/
def setBit (v k : Nat) : Nat := if bitSet v k then v else v + 2 ^ k

/-- `v` with bit `k` clear. -/
def clrBit (v k : Nat) : Nat := if bitSet v k then v - 2 ^ k else v

/-- `v` with the `w` bits from `lo` on replaced by those of `x`. -/
def putBits (v lo w x : Nat) : Nat :=
  v % 2 ^ lo + (x % 2 ^ w) * 2 ^ lo + v / 2 ^ (lo + w) * 2 ^ (lo + w)

/-- One more than `v`, saturating at the largest number of `w` bits. -/
def satInc (w v : Nat) : Nat := if v + 1 < 2 ^ w then v + 1 else v

/-- A truth value as a bit. -/
def b2n (b : Bool) : Nat := if b then 1 else 0

/-- How many of the lowest `n` bits of `v` are 1. -/
def popCount : Nat → Nat → Nat
  | 0, _ => 0
  | n + 1, v => v % 2 + popCount n (v / 2)

/-- The largest `k` with `2 ^ k ≤ v`, and 0 for 0. -/
def log2 (v : Nat) : Nat := Nat.log2 v

/-- `a` divided by `b`, rounded up. -/
def ceilDiv (a b : Nat) : Nat := (a + b - 1) / b

/-- The number that bytes spell, lowest first (R6). -/
def leNat : List (BitVec 8) → Nat
  | [] => 0
  | b :: t => b.toNat + 256 * leNat t

/-- The `n` bytes of a number, lowest first (R6). -/
def leBytes : Nat → Nat → List (BitVec 8)
  | 0, _ => []
  | n + 1, v => BitVec.ofNat 8 v :: leBytes n (v / 256)

/-! The field store. -/

/-- What the store lists at bit address `k`; 0, which is no difference from the reset value, when it lists nothing. -/
def regsGet : Regs → Nat → Nat
  | [], _ => 0
  | (a, v) :: t, k => if a = k then v else if k < a then 0 else regsGet t k

/-- The store with `v` at bit address `k`; a 0 is not listed. -/
def regsPut : Regs → Nat → Nat → Regs
  | [], k, v => if v = 0 then [] else [(k, v)]
  | (a, w) :: t, k, v =>
    if a = k then (if v = 0 then t else (k, v) :: t)
    else if k < a then (if v = 0 then (a, w) :: t else (k, v) :: (a, w) :: t)
    else (a, w) :: regsPut t k v

/-- The store's form: addresses strictly rising from above `b`, and no listed 0. -/
def regsWfFrom : Option Nat → Regs → Bool
  | _, [] => true
  | b, (a, v) :: t => (match b with | none => true | some k => decide (k < a)) && decide (v ≠ 0) && regsWfFrom (some a) t

/-- The store is in canonical form. -/
def Regs.wf (r : Regs) : Bool := regsWfFrom none r

/-- The value of a field, never wider than the field. -/
def State.rd (s : State) (f : Fld) : Nat := (regsGet s.regs f.key ^^^ f.rst) % 2 ^ f.width

/-- The state with a field written; what does not fit its width is dropped. -/
def State.wr (s : State) (f : Fld) (v : Nat) : State :=
  { s with regs := regsPut s.regs f.key (v % 2 ^ f.width ^^^ f.rst) }

/-- A one-bit field is 1. -/
def State.on (s : State) (f : Fld) : Bool := s.rd f == 1

/-- The state with several fields written, first to last. -/
def State.wrs (s : State) : List (Fld × Nat) → State
  | [] => s
  | (f, v) :: t => State.wrs (s.wr f v) t

/-- A saturating counter counts one more (R12). -/
def State.inc (s : State) (f : Fld) : State := s.wr f (satInc f.width (s.rd f))

/-- A saturating counter counts `n` more. -/
def State.incBy (s : State) (f : Fld) (n : Nat) : State := s.wr f (min (2 ^ f.width - 1) (s.rd f + n))

/-- A counter that wraps counts one more. -/
def State.bump (s : State) (f : Fld) : State := s.wr f (s.rd f + 1)

/-- A field falls by one, and not below zero. -/
def State.dec (s : State) (f : Fld) : State := s.wr f (s.rd f - 1)

/-- The fields of `n` indices set to their reset values. -/
def State.clearRange (s : State) (lo n : Nat) : State :=
  { s with regs := s.regs.filter fun p => decide (p.1 < 8 * lo) || decide (8 * (lo + n) ≤ p.1) }

/-- `f 0` to `f (n-1)` applied in turn to the state. -/
def State.forN (s : State) (f : Nat → State → State) : Nat → State
  | 0 => s
  | n + 1 => f n (State.forN s f n)

/-- The state changed by `f` when `b` holds. -/
def State.when (s : State) (b : Bool) (f : State → State) : State := if b then f s else s

/-- The indices below `n` at which `p` holds, in rising order. -/
def idxs (n : Nat) (p : Nat → Bool) : List Nat := (List.range n).filter p

/-- The first index from `i` on, among `n`, at which `p` holds. -/
def findFrom (p : Nat → Bool) (i : Nat) : Nat → Option Nat
  | 0 => none
  | n + 1 => if p i then some i else findFrom p (i + 1) n

/-- The indices, rising, of the entries of a table whose valid bit is listed at bit address `k0 + step × index`, below
`n`; every such bit is 0 at reset. -/
def State.listed (s : State) (k0 step n : Nat) : List Nat :=
  (s.regs.filter fun e => decide (k0 ≤ e.1) && decide (e.1 < k0 + step * n) && (e.1 - k0) % step == 0).map fun e => (e.1 - k0) / step

/-- How many indices below `n` satisfy `p`. -/
def countN (n : Nat) (p : Nat → Bool) : Nat := (idxs n p).length

/-! Time. -/

/-- The clock `d` nanoseconds later: fabric time advances by the clock's increment (R84, R87). -/
def Clock.after (c : Clock) (d : Nat) : Clock :=
  let x := c.ftFrac.toNat + d * c.ftInc
  { c with now := c.now + d
           ft := c.ft + BitVec.ofNat 64 (x / 4294967296)
           ftFrac := BitVec.ofNat 32 x }

/-- Nanoseconds since the state `reset`. -/
def State.now (s : State) : Nat := s.clk.now

/-- Fabric time. -/
def State.ft (s : State) : Nat := s.clk.ft.toNat

/-- The state at time `t`, or unchanged when `t` is past: an event that a deadline brings occurs at that deadline. -/
def State.advTo (s : State) (t : Nat) : State := { s with clk := s.clk.after (t - s.clk.now) }

/-- One microsecond, one millisecond and one second in nanoseconds. -/
def us : Nat := 1000
/-- One millisecond in nanoseconds. -/
def ms : Nat := 1000000
/-- One second in nanoseconds. -/
def sec : Nat := 1000000000

/-! Outputs and free values. -/

/-- The state after it gives `o` to the outside. -/
def State.emit (s : State) (o : Out) : State := { s with out := o :: s.out }

/-- The next free value. -/
def State.freeVal (s : State) : Nat := Config.freeNat s.free

/-- The state with that free value taken. -/
def State.takeFree (s : State) : State := { s with free := s.free + 1 }

/-! Records about hosts. -/

/-- The upstream port of host `h`, when it has one (R188). -/
def State.hostPort (s : State) (h : Nat) : Option Nat :=
  if s.rd (HOSTF_PORT h) = 0 then none else some (s.rd (HOSTF_PORT h) - 1)

/-- The host of port `p`, when it is an upstream port. -/
def State.portHost (s : State) (p : Nat) : Option Nat :=
  if s.rd (PRT_CFG_MODE p) = 1 then some (s.rd (PRT_CFG_HOST p)) else none

/-- The management host, when there is one (R896). -/
def State.mgmtHost (s : State) : Option Nat :=
  if s.on MGT_MGMT_HOST_VALID then some (s.rd MGT_MGMT_HOST_HOST) else none

/-- Index of a containment domain in the table of domains: levels 1 port, 2 hierarchy, 3 gondola, 4 window, 5 node. -/
def domIdx (level index : Nat) : Nat := 4096 * level + index

/-- The containment state of a domain: 0 NORMAL, 1 CONTAINED, 2 RELEASING (R525). -/
def State.domState (s : State) (level index : Nat) : Nat := s.rd (DOM_STATE (domIdx level index))

/-- A domain is contained, in CONTAINED or RELEASING. -/
def State.contained (s : State) (level index : Nat) : Bool := s.domState level index != 0

/-- Requests of the SF256 toward host `h` may be issued: BME is 1 and function 1 is in D0 (R218, R224). -/
def State.hostOpen (s : State) (h : Nat) : Bool :=
  s.on (HOSTF_BME h) && s.rd (HOSTF_PM h) == 0 && !s.on (HOSTF_IN_RESET h)

/-! TLPs that the part makes. -/

/-- A TLP that the part makes for port `p`, with a header of 16 bytes. It comes from no ingress port, and counts as entering at its egress port, so
that those of one port and class keep their order under R315: DESIGN CHOICE, log entry 33. -/
def ownTlp (kind : TlpKind) (p tc payload requester tag : Nat) (dest : Option Node) (unitKind : Nat) : Tlp :=
  ⟨kind, 0, Fin.ofNat 8 tc, 16 + payload, payload, Fin.ofNat 128 p, Fin.ofNat 128 p, 48, requester, tag, none, 0, false, false, false, false,
    false, 0, dest, Fin.ofNat 8 unitKind, [], none⟩

/-- A TLP that the part makes goes to the egress queue of its port (R18), and waits until the queue has room for it (R319). -/
def State.make (s : State) (t : Tlp) (o : OwnTlp) : State :=
  { s with switch := { s.switch with made := s.switch.made ++ [(s.rd SYS_ORDER, t, o)] } }.bump SYS_ORDER

/-- A TLP made for host `h` goes to its upstream port, a request with the Requester ID of its function 1, and a gondola's with its PASID, which
takes 4 stored bytes (R202, R307, R741); without a port nothing is sent. -/
def State.toHostPort (s : State) (h : Nat) (kind : TlpKind) (payload tag : Nat) (o : Out) (tc : Nat := 0) (pasid : Option Nat := none) : State :=
  match s.hostPort h with
  | none => s
  | some p =>
    let t := ownTlp kind p tc payload (if kind = .completion then 0 else 256 * s.rd (RTE_HIER_BUS_PRI_BUS h) + 1) tag none 0
    let n := t.stored + (if bitSet (s.rd (BFX_ECRC (48 + h))) 0 then 4 else 0) + (if pasid.isSome then 4 else 0)
    s.make { t with stored := n, pasid := pasid } (.out o)

/-- The Max_Payload_Size in bytes that code `v` of Device Control sets: the SF256 supports up to 512 (R197); a code above that acts as 512, DESIGN
CHOICE, log entry 22. -/
def mpsBytes (v : Nat) : Nat := 128 * 2 ^ min v 2

/-- The data of the completions of one read at `addr`: each carries at most `mps` bytes and all but the last end on the Read Completion
Boundary of 64 bytes (R199); the largest such pieces are the model's choice, log entry 22. -/
def cplSplit (addr mps : Nat) (data : List (BitVec 8)) : Nat → List (List (BitVec 8))
  | 0 => [data]
  | k + 1 =>
    let n := (addr + mps) / 64 * 64 - addr
    if data.length ≤ n then [data] else data.take n :: cplSplit (addr + n) mps (data.drop n) k

/-- The pieces, by offset and length, of a write of `n` bytes at `addr` in TLPs of at most `mps` bytes of payload, a power of two: each ends on a
multiple of it (R197). Log entry 22. -/
def wrSplit (mps addr : Nat) : Nat → Nat → Nat → List (Nat × Nat)
  | 0, off, n => [(off, n)]
  | k + 1, off, n =>
    let m := mps - (addr + off) % mps
    if n ≤ m then [(off, n)] else (off, m) :: wrSplit mps addr k (off + m) (n - m)

/-- A completion for host `h` (R18). -/
def State.complete (s : State) (h requester tag st : Nat) (data : List (BitVec 8)) (poison : Bool) (tc : Nat := 0) : State :=
  s.toHostPort h .completion data.length tag (.completion h requester tag st data poison) tc

/-- The completions of a read of host `h` at `addr` in class `tc`, split as R199 says. -/
def State.completeRead (s : State) (h tc addr requester tag st : Nat) (data : List (BitVec 8)) (poison : Bool) : State :=
  (cplSplit addr (mpsBytes (s.rd (HOSTF_MPS h))) data data.length).foldl
    (fun s d => s.toHostPort h .completion d.length tag (.completion h requester tag st d poison) tc) s

/-- A read of host `h`'s memory by the part, a gondola's with its PASID (R18, R741). -/
def State.readHost (s : State) (h addr bytes tag : Nat) (pasid : Option Nat := none) : State :=
  s.toHostPort h .nonPosted 0 tag (.hostRead h addr bytes tag pasid) 0 pasid

/-- A message to host `h` with a code of the standard (R18). -/
def State.tell (s : State) (h code : Nat) : State := s.toHostPort h .posted 0 0 (.message h code)

/-- PCI Express port `p` returns to its link partner the flow-control credit of a TLP of type number `y` that has left its ingress: one header
credit, and a data credit for each 16 bytes of payload (R323; the units are the standard's, PRESUMED, log entry 73). A tether has credits of its
own. -/
def State.fcReturn (s : State) (p y payload : Nat) : State :=
  if 128 ≤ p ∨ s.rd (PRT_CFG_MODE p) = 3 then s
  else s.wrs [(FCX_HDR p y, s.rd (FCX_HDR p y) + 1), (FCX_DATA p y, s.rd (FCX_DATA p y) + ceilDiv payload 16)]

/-! A wake event and an MSI-X toward a host. -/

/-- A wake event for host `h` (R220 to R223): PME_Status, and the PM_PME message or WAKE_N. Code 24 is PM_PME. -/
def State.wakeHost (s : State) (h : Nat) : State :=
  let cold := match s.hostPort h with
    | some p => s.on (PRT_HOST_STATUS_PERST_ACTIVE p)
    | none => false
  if s.on (HOSTF_PMEEN h) && (s.rd (HOSTF_PM h) == 3 || cold) then
    let s := s.wr (HOSTF_PMESTAT h) 1
    match s.hostPort h with
    | none => s
    | some p =>
      if decide (1 ≤ s.rd MOR_STATUS_STATE) && decide (s.rd MOR_STATUS_STATE ≤ 4) then s
      else if s.rd (PRT_LINK_STATUS_LTSSM p) == 7 || s.on (PRT_HOST_STATUS_PERST_ACTIVE p) then
        (s.wr (PRT_HOST_STATUS_WAKE_DRIVEN p) 1).emit (.pin 1 h false)
      else if s.rd (PRT_LINK_STATUS_LTSSM p) == 3 || s.rd (PRT_LINK_STATUS_LTSSM p) == 6 then s.tell h 24
      else s
  else s

/-- A posted write of `n` bytes to host `h`'s memory, in TLPs of at most its Max_Payload_Size (R197): discarded and counted under a hierarchy
containment (R520). -/
def State.writeHost (s : State) (h addr data n : Nat) (pasid : Option Nat := none) : State :=
  (wrSplit (mpsBytes (s.rd (HOSTF_MPS h))) addr n 0 n).foldl (fun s x =>
    if s.contained 2 h then s.wr (DOMX_POSTED (domIdx 2 h)) (s.rd (DOMX_POSTED (domIdx 2 h)) + 1)
    else s.toHostPort h .posted x.2 0 (.hostWrite h (addr + x.1) (data / 2 ^ (8 * x.1) % 2 ^ (8 * x.2)) x.2 pasid) 0 pasid) s

/-- Sets the pending bit of vector `v` of function 1 of host `h`, which is a wake event (R211, R220, R227). -/
def State.msixPend (s : State) (h v : Nat) : State :=
  State.wakeHost (s.wr (HV_PBA h (v / 32)) (setBit (s.rd (HV_PBA h (v / 32))) (v % 32))) h

/-- Sends MSI-X vector `v` of function 1 of host `h`: discarded under a hierarchy containment (R520); kept as the
pending bit while the vector or the function is masked, or the host takes no request (R211, R224, R227). -/
def State.msix (s : State) (h v : Nat) : State :=
  if s.contained 2 h then s.wr (DOMX_POSTED (domIdx 2 h)) (s.rd (DOMX_POSTED (domIdx 2 h)) + 1)
  else if s.on (HOSTF_MSIXEN h) then
    if s.hostOpen h && !s.on (HOSTF_MSIXMASK h) && bit (s.rd (HV_MSIX h v)) 96 == 0 then s.toHostPort h .posted 4 0 (.msix h v)
    else s.msixPend h v
  else s

/-! Positions and the functions of a bound port. -/

/-- The index of virtual bridge position `v` of host `h`. -/
def posIdx (h v : Nat) : Nat := 32 * h + v

/-- The index of function `f` of port `p` in the table of shared functions. -/
def fnIdx (p f : Nat) : Nat := 256 * p + f

/-- The function of port `p` in the table whose binding covers function `f`: itself, or the physical function to which a virtual function
belongs (R373). -/
def State.ownFn (s : State) (p f : Nat) : Nat := if s.on (SHF_BOUND (fnIdx p f)) then f else Config.physFn p f

/-- The position whose host owns a request from port `p` with Requester ID `rid`: the one of an exclusive port, and on a
shared port that of the function (R372, R373). An unbind in progress owns none (R378). -/
def State.owner (s : State) (p rid : Nat) : Option Nat :=
  let f := s.ownFn p (rid % 256)
  let k := if s.on (BINDX_SHARED p) then
      if s.on (SHF_BOUND (fnIdx p f)) then some (posIdx (s.rd (SHF_HOST (fnIdx p f))) (s.rd (SHF_POSITION (fnIdx p f)))) else none
    else if s.rd (BINDX_COUNT p) = 0 then none else some (posIdx (s.rd (BINDX_HOST p)) (s.rd (BINDX_POS p)))
  k.filter fun k => !s.on (POS_UNBINDING k)

/-! AER. -/

/-- The configuration banks: function 0 and function 1 of host `h`, and the virtual bridge at position `k` (R195). -/
def f0Bank (h : Nat) : Nat := h
/-- Bank of function 1 of host `h`. -/
def f1Bank (h : Nat) : Nat := 48 + h
/-- Bank of the virtual bridge at position `k`. -/
def vbBank (k : Nat) : Nat := 96 + k

/-- An uncorrectable error with bit `k` in the AER of function 0 or of a virtual bridge of host `h`, bank `b`: its status, the Header Log and the
First Error Pointer of the first that is not masked, and the message, code 49 ERR_NONFATAL or 51 ERR_FATAL, that Device Control enables
(R195, R504). -/
def State.bankUnc (s : State) (h b k hdr : Nat) : State :=
  let fatal := bitSet (s.rd (BFX_UNCSEV b)) k
  let masked := bitSet (s.rd (BFX_UNCMASK b)) k
  let old := s.rd (BFX_UNC b)
  let s := if old = 0 && !masked then s.wrs [(BFX_HDR b, hdr), (BFX_FEP b, k)] else s
  let s := s.wr (BFX_UNC b) (setBit old k)
  if masked || !bitSet (s.rd (BFX_DEVCTL b)) (if fatal then 2 else 1) then s else s.tell h (if fatal then 51 else 49)


/-- A correctable error with bit `k` in the AER of function 0 or of a virtual bridge of host `h`, bank `b`; code 48 is ERR_COR (R195, R504). -/
def State.bankCor (s : State) (h b k : Nat) : State :=
  let s := s.wr (BFX_COR b) (setBit (s.rd (BFX_COR b)) k)
  if bitSet (s.rd (BFX_CORMASK b)) k || !bitSet (s.rd (BFX_DEVCTL b)) 0 then s else s.tell h 48

/-- An uncorrectable error with bit `k` in the AER of function 1 of host `h`: its status, the Header Log of the first, and the
message that the mask and severity registers decide, code 49 ERR_NONFATAL or 51 ERR_FATAL (R505, R506). -/
def State.aerUnc (s : State) (h k hdr : Nat) : State :=
  let masked := bitSet (s.rd (HOSTF_AER_UNCMASK h)) k
  let fatal := bitSet (s.rd (HOSTF_AER_UNCSEV h)) k
  let old := s.rd (HOSTF_AER_UNC h)
  let s := if old = 0 then s.wrs [(HOSTF_AER_HDR h, hdr), (BFX_FEP (f1Bank h), k)] else s
  let s := s.wr (HOSTF_AER_UNC h) (setBit old k)
  if masked || !bitSet (s.rd (HOSTF_DEVCTL h)) (if fatal then 2 else 1) then s else s.tell h (if fatal then 51 else 49)

/-- A correctable error with bit `k` in the AER of function 1 of host `h`; code 48 is ERR_COR (R505). -/
def State.aerCor (s : State) (h k : Nat) : State :=
  let s := s.wr (HOSTF_AER_COR h) (setBit (s.rd (HOSTF_AER_COR h)) k)
  if bitSet (s.rd (HOSTF_AER_CORMASK h)) k || !bitSet (s.rd (HOSTF_DEVCTL h)) 0 then s else s.tell h 48

/-! Requests that wait at the checker. -/

/-- A request with place `n` in the order of arrival waits at the checker; one that has just come takes its place. -/
def State.holdAs (s : State) (n : Nat) (b : BHeld) : State :=
  { s.when (n == s.rd SYS_ORDER) (fun s => s.bump SYS_ORDER) with bridle := { s.bridle with held := s.bridle.held ++ [(n, b)] } }

/-- The TLP type of a memory request. -/
def opKind : MemOp → TlpKind
  | .store _ => .posted
  | _ => .nonPosted

/-- The type and class of a waiting request; the class of a barrier read is taken as 0. -/
def BHeld.typeOf : BHeld → TlpKind × Nat
  | .pool _ r | .remote _ _ r | .regs _ r => (opKind r.op, r.tc.val)
  | .peer t _ _ | .fabric _ _ t | .proxy _ _ _ t => (t.kind, t.tc.val)
  | .bar _ _ _ _ tc _ => (.nonPosted, tc)

/-- The port at which a waiting request came, or 128 and more for a host that has none. -/
def State.heldPort (s : State) : BHeld → Nat
  | .pool h _ | .regs h _ | .bar h _ _ _ _ _ => (s.hostPort h).getD (128 + h)
  | .peer t _ _ => t.ingress
  | .remote p _ _ | .fabric p _ _ | .proxy p _ _ _ => p

/-- Something of the type, and on a tether of the class, that came before place `n` waits at port `p`: at the checker, for a tag or for
admission (R316, R324, R403, R436). -/
def State.ahead (s : State) (n p : Nat) (k : TlpKind) (tc : Nat) : Bool :=
  let same := fun (m q : Nat) (x : TlpKind × Nat) => decide (m < n) && q == p && x.1 == k && (s.rd (PRT_CFG_MODE p) != 3 || x.2 == tc)
  (s.bridle.held.any fun x => same x.1 (s.heldPort x.2) x.2.typeOf) || s.switch.wait.any fun w => same w.1 w.2.ingress.val (w.2.kind, w.2.tc.val)

/-! Error records. -/

/-- The severity of an event code (R519): 0 INFO, 1 CORRECTED, 2 NONFATAL, 3 FATAL. -/
def codeSev (code : Nat) : Nat :=
  if code ∈ [0x0101, 0x0102, 0x0206, 0x0301, 0x0306, 0x0404, 0x0406, 0x0505, 0x0603, 0x0604, 0x0801, 0x0802, 0x0803,
      0x0804, 0x0A03, 0x0E04, 0x0E05] then 0
  else if code ∈ [0x0103, 0x0201, 0x0207, 0x0401, 0x0405, 0x0901, 0x0E01, 0x0E02, 0x0F04] then 1
  else if code ∈ [0x0203, 0x0204, 0x0304, 0x0903, 0x0B01, 0x0E03] then 3
  else 2

/-- The 64 bytes of a record as a number, byte 0 lowest (R507). -/
def Rec.enc (r : Rec) : Nat :=
  r.time % 2 ^ 64 + r.code % 65536 * 2 ^ 64
  + (r.sev + 4 * b2n r.escalated + 8 * b2n r.overflow + 16 * b2n r.first + 32 * r.level) % 256 * 2 ^ 80
  + r.source % 256 * 2 ^ 88 + r.dom % 65536 * 2 ^ 96 + r.sub % 256 * 2 ^ 112 + r.seq % 2 ^ 32 * 2 ^ 128
  + r.detail % 2 ^ 352 * 2 ^ 160

/-- Detail layout G: two values (R508). -/
def detG (v1 v2 : Nat) : Nat := v1 % 2 ^ 64 + v2 % 2 ^ 64 * 2 ^ 64

/-- Detail layout T: the TLP (R508), with a code-specific value. -/
def detT (t : Tlp) (v : Nat) : Nat :=
  t.requester % 65536 + t.tag % 16384 * 2 ^ 16 + 2 ^ 30 + t.fmtType % 256 * 2 ^ 32 + t.tc.val * 2 ^ 40
  + (t.ingress.val + 128) * 2 ^ 48 + (t.egress.val + 128) * 2 ^ 56
  + (match t.pasid with | some x => x % 2 ^ 20 + 2 ^ 31 | none => 0) * 2 ^ 64
  + t.addr % 2 ^ 64 * 2 ^ 96 + t.hdr % 2 ^ 128 * 2 ^ 160 + v % 2 ^ 64 * 2 ^ 288

/-- Type byte of a memory request's header in flit mode, and its length in bytes. The codes are the PCI Express standard's, PRESUMED (log entry
62). -/
def memType (a : Nat) : MemOp → Nat × Nat
  | .read n => (if a < 2 ^ 32 then 0x03 else 0x20, n)
  | .store l => (if a < 2 ^ 32 then 0x40 else 0x60, l.length)
  | .atomic k n _ _ =>
    (0x4C + (if a < 2 ^ 32 then 0 else 0x20) + (match k with | .fetchAdd => 0 | .swap => 1 | .cas => 2), match k with | .cas => 2 * n | _ => n)

/-- The first 16 bytes of a memory request's header in flit-mode format, byte 0 lowest: type, class and OHC, length in DW, Requester ID, tag and
address. The layout is the PCI Express standard's, PRESUMED; a length that is no whole number of DW is rounded up (log entry 62). -/
def memHdr (r : MemReq) : Nat :=
  let x := memType r.addr.toNat r.op
  let dw := ceilDiv x.2 4 % 1024
  let a := if r.addr.toNat < 2 ^ 32 then r.addr.toNat * 2 ^ 32 else r.addr.toNat
  leNat (([x.1, r.tc.val * 32 + b2n r.pasid.isSome, dw / 256, dw % 256, r.requester.toNat / 256, r.requester.toNat % 256, r.tag.toNat / 256,
    r.tag.toNat % 256].map fun n => BitVec.ofNat 8 n) ++ (leBytes 8 a).reverse)

/-- Detail layout T for a memory request of a host, arriving at port `p`. -/
def detMem (p : Nat) (r : MemReq) : Nat :=
  r.requester.toNat + r.tag.toNat * 2 ^ 16 + 2 ^ 30 + (memType r.addr.toNat r.op).1 * 2 ^ 32 + r.tc.val * 2 ^ 40 + (p % 128 + 128) * 2 ^ 48
  + (match r.pasid with | some x => x.toNat + 2 ^ 31 | none => 0) * 2 ^ 64 + r.addr.toNat * 2 ^ 96 + memHdr r * 2 ^ 160

/-- Detail layout T for a TLP between nodes, of which this node holds the Requester ID, tag, class and the tether that it came on. -/
def detUnit (requester tag tc port : Nat) : Nat :=
  requester % 65536 + tag % 16384 * 2 ^ 16 + 2 ^ 30 + tc % 8 * 2 ^ 40 + (port % 128 + 128) * 2 ^ 48

/-- Detail layout T for a TLP between nodes of which only the tag is known, and a code-specific value. -/
def detTag (tag v : Nat) : Nat := tag % 16384 * 2 ^ 16 + 2 ^ 30 + v % 2 ^ 64 * 2 ^ 288

/-- The Requester ID that the SF256 uses toward port `q`: function 1 of an upstream port's host, or on fabric bus 255 (R402). -/
def State.proxyId (s : State) (q : Nat) : Nat :=
  match s.portHost q with
  | some h => 256 * s.rd (RTE_HIER_BUS_PRI_BUS h) + 1
  | none => 65280 + q

/-- Detail layout T for a request the SF256 issued to port `q`, with its tag, class, address and a code-specific value. -/
def State.detAsk (s : State) (q : Option Nat) (requester tag tc addr v : Nat) : Nat :=
  (match q with | some q => s.proxyId q % 65536 + (q % 128 + 128) * 2 ^ 56 | none => requester % 65536) + tc % 8 * 2 ^ 40 + addr % 2 ^ 64 * 2 ^ 96
    + detTag tag v

/-- Detail layout W: a lane, its LOS and LOL, and the events of the last second (R508). -/
def detW (lane los lol count : Nat) : Nat := lane % 256 + (los + 2 * lol) * 2 ^ 8 + count % 2 ^ 32 * 2 ^ 32

/-- Detail layout A: channel, slot, rank, pool address and count (R508). -/
def detA (ch slot rank addr count : Nat) : Nat :=
  ch % 256 + slot % 256 * 2 ^ 8 + rank % 256 * 2 ^ 16 + addr % 2 ^ 64 * 2 ^ 32 + count % 2 ^ 32 * 2 ^ 96

/-- Detail layout B: a Bridle denial (R508). -/
def detB (cls space access reason rule source requester addr : Nat) : Nat :=
  (cls + 4 * space + 32 * access) % 256 + reason % 256 * 2 ^ 8 + rule % 65536 * 2 ^ 16 + source % 256 * 2 ^ 32
  + requester % 65536 * 2 ^ 48 + addr % 2 ^ 64 * 2 ^ 64

/-- Detail layout M: two bits a port, the group and the ingress port (R508, R352). -/
def detM (missed group ingress : Nat) : Nat := missed % 2 ^ 256 + group % 256 * 2 ^ 256 + ingress % 256 * 2 ^ 264

/-- Records that the queue of source `src` holds. -/
def State.srcDepth (s : State) (src : Nat) : Nat := (s.errq.filter fun r => r.source == src).length

/-- Captures a record as its domain's first-error record, when the record is NONFATAL or FATAL, names a domain and the
domain's slot is empty (R536). -/
def State.captureFirst (s : State) (r : Rec) : State :=
  let i := domIdx r.level r.dom
  if r.level ≠ 0 ∧ 2 ≤ r.sev ∧ s.rd (DOM_FIRST_VALID i) = 0 then
    ((s.wr (DOM_FIRST i) (Rec.enc { r with first := true })).wr (DOM_FIRST_VALID i) 1).wr ERR_EVENT_FIRST_CAPTURED 1
  else s

/-- Puts a record in its source's queue of four, where it takes its SEQ; a full queue discards it (R511, R512). -/
def State.enqueueRec (s : State) (r : Rec) : State :=
  if 4 ≤ s.srcDepth r.source then
    ((s.inc (ERR_SRC_OVERFLOW r.source)).wr (ERRX_OVF r.source) 1).wr ERR_EVENT_OVERFLOW 1
  else
    let r := { r with seq := s.rd SYS_SEQ, overflow := s.on (ERRX_OVF r.source) }
    let s := { s with errq := s.errq ++ [r] }
    (((s.bump SYS_SEQ).wr (ERRX_OVF r.source) 0).wr (ERR_SRC_DEPTH r.source) (s.srcDepth r.source)).wr ERR_STATUS_BACKLOG 1

/-- Creates a record with severity `sev`, from `source`, naming domain `dom` of `level` (R507, R536), concerning the
hosts `hosts` beside those of the domain (R517). -/
def State.recSev (s : State) (sev source code level dom sub detail : Nat) (hosts : List Nat) : State :=
  let r : Rec := ⟨s.ft, code, sev, decide (level ≠ 0) && s.on (DOM_ESCALATED (domIdx level dom)), false, false, level, source, dom, sub,
    s.rd SYS_SEQ, detail, hosts⟩
  let s := if 2 ≤ sev ∧ (level ≠ 0 ∨ code = 0x0903) then { s with trig := s.trig ++ [r] } else s
  (s.captureFirst r).enqueueRec r

/-- The contained domain that a record concerns, the first of `l`, or none (R509, R522). -/
def State.concern (s : State) (l : List (Nat × Nat)) : Nat × Nat := (l.find? fun x => s.contained x.1 x.2).getD (0, 0)

/-- Creates a record that names the first contained domain among those of `l`, and no domain when none of them is contained (R509). -/
def State.recNear (s : State) (sev source code : Nat) (l : List (Nat × Nat)) (sub detail : Nat) (hosts : List Nat) : State :=
  s.recSev sev source code (s.concern l).1 (s.concern l).2 sub detail hosts

/-- Creates a record of event `code` so, with the severity that R519 gives the code. -/
def State.recordNear (s : State) (source code : Nat) (l : List (Nat × Nat)) (sub detail : Nat) (hosts : List Nat) : State :=
  s.recNear (codeSev code) source code l sub detail hosts

/-- The gondola of host `h` whose PASID is `p`. -/
def State.gondOf (s : State) (h p : Nat) : Option Nat :=
  (s.listed (GND_VALID 0).key 256 1024).find? fun g => s.rd (GND_HOST g) == h && s.rd (GND_PASID g) == p

/-- The contained gondola to which a host's request belongs by its PASID (R520). -/
def State.gondFence (s : State) (h : Nat) (pasid : Option Nat) : Option Nat :=
  match pasid with
  | none => none
  | some p => (s.gondOf h p).filter fun g => s.contained 3 g

/-- The domains that a request of host `h` with a PASID lies in, in the order of R522. -/
def State.reqDoms (s : State) (h : Nat) (pasid : Option Nat) : List (Nat × Nat) :=
  (2, h) :: match s.gondFence h pasid with
    | some g => [(3, g)]
    | none => []

/-- The hierarchy that a port leads to, as a domain. -/
def State.portDoms (s : State) (p : Nat) : List (Nat × Nat) :=
  match s.portHost p with
  | some h => [(2, h)]
  | none => []

/-- The domains that a TLP concerns (R509): its node, hierarchies, gondola and ports. -/
def State.tlpDoms (s : State) (t : Tlp) : List (Nat × Nat) :=
  (match t.dest with | some n => [(5, n.val)] | none => []) ++ (if t.host < 48 then s.reqDoms t.host t.pasid else [])
    ++ s.portDoms t.egress ++ [(1, t.ingress.val), (1, t.egress.val)]

/-- The host into whose hierarchy a TLP's Requester ID maps (R517). -/
def tlpHosts (t : Tlp) : List Nat := if t.host < 48 then [t.host] else []

/-- Creates a record of event `code`, with the severity that R519 gives the code. -/
def State.record (s : State) (source code level dom sub detail : Nat) (hosts : List Nat) : State :=
  s.recSev (codeSev code) source code level dom sub detail hosts

/-- Creates a record that names no domain and no host (R509). -/
def State.log (s : State) (source code sub detail : Nat) : State := s.record source code 0 0 sub detail []

/-- The code and severity of a log entry that the spec asks for without naming its code: a free value, INFO. Log entry 19. -/
def State.logUncoded (s : State) (source v1 v2 : Nat) : State := (s.recSev 0 source (s.freeVal % 65536) 0 0 0 (detG v1 v2) []).takeFree

/-! Lists kept as finite maps and histories. -/

/-- Entries of a history of (name, time) pairs that name `k` and are younger than `d`. -/
def recent (l : List (Nat × Nat)) (k now d : Nat) : List (Nat × Nat) :=
  l.filter fun p => p.1 == k && decide (now < p.2 + d)

/-- The first element satisfying `p` removed. -/
def removeFirst {α : Type} (p : α → Bool) : List α → List α
  | [] => []
  | a :: t => if p a then t else a :: removeFirst p t

/-- Every element satisfying `p` changed by `f`. -/
def updateAll {α : Type} (p : α → Bool) (f : α → α) (l : List α) : List α := l.map fun a => if p a then f a else a

/-- Every part of the state that a command does not wait in changed by a guarded event: the event occurs only when
its condition holds, and otherwise nothing happens. Log entry 7. -/
def State.event (s : State) (guard : Bool) (f : State → State) : Host.Outcome State Fault Refusal :=
  if guard then .next (f s) else .next s

/-- A message TLP, by the standard's type codes. -/
def isMessage (t : Tlp) : Bool := t.fmtType / 8 == 6 || t.fmtType / 8 == 14

/-- TLP `t` comes from the source of host `h`: from the host, or from a device bound to it (R588). -/
def State.fromSource (s : State) (h : Nat) (t : Tlp) : Bool :=
  s.portHost t.ingress == some h || (s.rd (PRT_CFG_MODE t.ingress) == 2 && t.host == h)

/-- A posted write of the source of host `h` to a port or another node (R600). -/
def State.postedFrom (s : State) (h : Nat) (t : Tlp) : Bool := t.kind == .posted && !isMessage t && s.fromSource h t

end Sys2Proof.Machine
end

