-- ==== Sys2Proof/Machine/Operands.lean ====
section
/-! DEFINITION. Operands: the fields of a command packet and its checks (R687 to R694), and the map from pool
addresses to channels (R550 to R554). -/

namespace Sys2Proof.Machine

/-! Command packets. -/

/-- Parameter bytes `b` to `b + n - 1` of a command, little-endian (R690). -/
def parBytes (c : Cmd) (b n : Nat) : Nat := bits c.params.toNat (8 * b) (8 * n)

/-- Bits `lo` to `lo + w - 1` of the parameter bytes, counted from bit 0 of byte 0. -/
def parBits (c : Cmd) (lo w : Nat) : Nat := bits c.params.toNat lo w

/-- The opcode flag, FLAGS bit 16 (R688). -/
def opFlag (c : Cmd) : Bool := c.flags.getLsbD 16

/-- The INTR flag (R688). -/
def intrFlag (c : Cmd) : Bool := c.flags.getLsbD 0

/-- The FENCE flag (R688). -/
def fenceFlag (c : Cmd) : Bool := c.flags.getLsbD 1

/-- The bits that a list of (lowest bit, width) covers. -/
def bitMask : List (Nat × Nat) → Nat
  | [] => 0
  | (lo, w) :: t => (2 ^ w - 1) * 2 ^ lo ||| bitMask t

/-- Every parameter bit outside the fields `l` is zero, and so is every reserved flag; the opcode flag may be set only
where the opcode names one (R688, R690, R691 check 3). -/
def cleanCmd (c : Cmd) (l : List (Nat × Nat)) (flag : Bool) : Bool :=
  (c.params.toNat &&& bitMask l) == c.params.toNat
  && (c.flags.toNat &&& (if flag then 0x10003 else 3)) == c.flags.toNat

/-- The authority that a path carries (R692). -/
def State.issuer (s : State) : Path → Issuer
  | .mgmt => .m
  | .host h => if s.mgmtHost = some h.val then .m else .h h
  | .gond g => .g g
  | .spool n =>
    if s.on (SPL_GONDOLA_OWNED n) then .g (s.rd (SPL_GONDOLA n))
    else if s.mgmtHost = some (s.rd (SPL_HOST n)) then .m else .h (s.rd (SPL_HOST n))
  | .smbus => .m
  | .flash => .m

/-- The host whose memory an issuer's addresses mean: its own, its gondola's, or the management host's (R692, R726). -/
def State.issuerHost (s : State) : Issuer → Option Nat
  | .m => s.mgmtHost
  | .h h => some h
  | .g g => some (s.rd (GND_HOST g))

/-- Only the management host may issue the command. -/
def onlyM : Issuer → Bool
  | .m => true
  | _ => false

/-- Any issuer may issue the command. -/
def anyIssuer : Issuer → Bool := fun _ => true

/-- A domain is granted to an issuer, as every domain is to M (R694, R726). -/
def State.granted (s : State) (d : Nat) : Issuer → Bool
  | .m => true
  | .h h => bitSet (s.rd (ORD_EPOCH_STATUS_GRANTED h)) d
  | .g g => bitSet (s.rd (ORD_EPOCH_STATUS_GRANTED (s.rd (GND_HOST g)))) d

/-! The pool's address map. -/

/-- Installed capacity C in bytes (R551, R552). -/
def State.poolC (s : State) : Nat := s.rd BAL_STATUS_CAPACITY * 2 ^ 30

/-- Bytes of the usable pool: C less 1 MiB (R444, R551). -/
def State.poolUsable (s : State) : Nat := s.poolC - 2 ^ 20

/-- Capacity of one DIMM in bytes, from BAL_STATUS.DIMM_SIZE. -/
def State.dimmBytes (s : State) : Nat := 2 ^ (33 + s.rd BAL_STATUS_DIMM_SIZE)

/-- The k-th populated channel of a population of n channels (R550). -/
def popChannel (n k : Nat) : Nat := if n = 8 then k else if n = 4 then 2 * k else if n = 2 then 4 * k else 0

/-- The channel and channel address of pool address `a` (R554). -/
def State.mapAddr (s : State) (a : Nat) : Nat × Nat :=
  let n := s.rd BAL_STATUS_N
  let w := s.rd BAL_STATUS_W
  let size := s.poolC * w / n
  let o := a % size
  (popChannel n (a / size * w + o / 256 % w), o / (256 * w) * 256 + o % 256)

/-- Physical byte address of pool address `a`: channel × 2^37 + channel address. -/
def State.phys (s : State) (a : Nat) : Nat := (s.mapAddr a).1 * 2 ^ 37 + (s.mapAddr a).2

/-- The DIMM slot of pool address `a` (R554). -/
def State.dimmSlot (s : State) (a : Nat) : Nat := if (s.mapAddr a).2 < s.dimmBytes then 0 else 1

/-- The FAILED state of BAL_CH_STATUS (R567). -/
def chFailed : Nat := 4

/-- The channel that serves pool address `a` is FAILED (R569). -/
def State.chDown (s : State) (a : Nat) : Bool := s.rd (BAL_CH_STATUS_STATE (s.mapAddr a).1) == chFailed

/-- A window's range, when it is valid, contains the pool bytes from `a` on, `n` of them. -/
def State.inWindow (s : State) (w a n : Nat) : Bool :=
  s.on (WIN_VALID w) && decide (s.rd (WIN_BASE w) ≤ a) && decide (a + n ≤ s.rd (WIN_LIMIT w) + 1)

/-- The valid window that holds pool address `a`, when there is one (R576); windows do not overlap (R573). -/
def State.windowAt (s : State) (a : Nat) : Option Nat :=
  (s.listed (WIN_VALID 0).key 256 4096).find? fun w => s.inWindow w a 1

end Sys2Proof.Machine
end

