-- ==== Sys2Proof/Machine/Flags.lean ====
section
/-! DEFINITION. Registers as words: what a read of a 32-bit word of BAR0 gives, what a write to it changes by the access
kind of each field (R7, R10 to R12), snapshots of indirect tables, and the alert output. -/

namespace Sys2Proof.Machine

/-- The word's fields apply at offset `d` above the row's base: `d` is a sum of index times stride, each index below
its count. -/
def dimsMatch : List (Nat × Nat) → Nat → Bool
  | [], d => d == 0
  | (st, n) :: t, d => decide (d / st < n) && dimsMatch t (d % st)

/-- A gondola's mailbox page has the layout of the management mailbox (R738). -/
def rowAddr (a : Nat) : Nat := if 0x14000000 ≤ a then 0x600000 + a % 0x1000 else a

/-- The field rows of the word at byte offset `a`. -/
def rowsAt (a : Nat) : List RegRow :=
  regRows.filter fun r => decide (r.base ≤ rowAddr a) && dimsMatch r.dims (rowAddr a - r.base)

/-- The field that a row shows in the word at `a`. -/
def RegRow.field (r : RegRow) (a : Nat) : Fld := ⟨8 * (a - r.back) + r.flo, r.width, r.rst⟩

/-- A host-view page holds its own host number in HV_ID (R901). -/
def hvIdHost (a : Nat) : Nat :=
  if 0x1000000 ≤ a ∧ a < 0x1300000 ∧ a % 0x10000 = 0 then (a - 0x1000000) / 0x10000 else 0

/-- The port or group block that offset `a` lies in belongs to a port in use, or lies in no port block: a block of an
unused port number reads zero, and a tether's block holds no PCI Express register but PRT_CFG. -/
def State.blockLive (s : State) (a : Nat) : Bool :=
  if 0x100000 ≤ a ∧ a < 0x180000 then
    let p := (a - 0x100000) / 0x1000
    let m := s.rd (PRT_CFG_MODE p)
    let o := a % 0x1000
    if m = 0 then false
    else if m = 3 then o < 4 || 0x100 ≤ o
    else if o = 0x1C ∨ o = 0x20 then m == 1 else o < 0x100
  else if 0x1C1000 ≤ a ∧ a < 0x1C2000 then s.rd (PRT_CFG_MODE ((a - 0x1C1000) / 0x20)) != 0
  else if 0x341000 ≤ a ∧ a < 0x343000 then s.rd (PRT_CFG_MODE ((a - 0x341000) / 0x40)) != 0
  else true

/-- The 32-bit word of BAR0 at byte offset `a`; an offset that holds no register, and a write-only field, reads zero
(R7, R10). -/
def State.readWord (s : State) (a : Nat) : Nat :=
  if s.blockLive a then
    hvIdHost a + ((rowsAt a).filter fun r => r.acc != .wo).foldl
      (fun n r => n + bits (s.rd (r.field a)) r.vbit r.w * 2 ^ r.lo) 0
  else 0

/-- One field's part of a word, read-clear: the field falls to 0 (R12). -/
def State.clearRc (s : State) (a : Nat) (r : RegRow) : State :=
  if r.acc = .rc then s.wr (r.field a) 0 else s

/-- The read-clear fields of the word at `a` cleared by a read of the word (R12). -/
def State.readClear (s : State) (a : Nat) : State := (rowsAt a).foldl (fun s r => s.clearRc a r) s

/-- One field's part of a word written with `v` under the bit mask `m`, by its access kind: RW stores, W1C clears where 1 is
written, the others change nothing (R7, R11). -/
def State.writeField (s : State) (a v m : Nat) (r : RegRow) : State :=
  let f := r.field a
  let k := bits m r.lo r.w
  let x := bits v r.lo r.w &&& k
  match r.acc with
  | .rw => s.wr f (putBits (s.rd f) r.vbit r.w (bits (s.rd f) r.vbit r.w - (bits (s.rd f) r.vbit r.w &&& k) + x))
  | .w1c => if x = 0 then s else s.wr f (s.rd f - (s.rd f &&& (x * 2 ^ r.vbit)))
  | .w1s => s.wr f (s.rd f ||| x * 2 ^ r.vbit)
  | .ro => s
  | .rc => s
  | .wo => s

/-- The word at `a` written with `v` under the bit mask `m`, field by field. -/
def State.writeWord (s : State) (a v m : Nat) : State :=
  if s.blockLive a then (rowsAt a).foldl (fun s r => s.writeField a v m r) s else s

/-- Word `w` of the entry at byte address `base` of an indirect table with layout `l`. -/
def State.tabWord (s : State) (l : List TabRow) (base w : Nat) : Nat :=
  (l.filter fun r => r.word == w).foldl
    (fun n r => n + bits (s.rd ⟨8 * base + r.flo, r.width, 0⟩) r.vbit r.w * 2 ^ r.lo) 0

/-- A snapshot of `n` words of a table's entry in the data registers that `data` names. -/
def State.snapshot (s : State) (l : List TabRow) (base : Nat) (data : Nat → Fld) (n : Nat) : State :=
  s.forN (fun k t => t.wr (data k) (s.tabWord l base k)) n

/-- ALERT_N is asserted while the SMBus status queue holds a status, in recovery, and while CTRL_DEGRADED is 1 (R908). -/
def State.alertOn (s : State) : Bool :=
  decide (0 < s.mgmt.smbq.length) || s.on SYS_RECOVERY || s.on PEN_STATUS_CTRL_DEGRADED

/-- MGT_SMB_STATUS.ALERT and the ALERT_N pin follow `alertOn`; pin kind 2. -/
def State.alert (s : State) : State :=
  let b := s.alertOn
  let s := s.wr MGT_SMB_STATUS_QUEUED s.mgmt.smbq.length
  if s.on MGT_SMB_STATUS_ALERT = b then s else (s.wr MGT_SMB_STATUS_ALERT (b2n b)).emit (.pin 2 0 (!b))

end Sys2Proof.Machine
end

