-- ==== Sys2Proof/Machine/Command.lean ====
section
/-! DEFINITION. The life of a YCP command: the checks of R691, the posting of a status on each path (R695 to R707),
handles (R714, R643), and the three ways a command ends (R712, R713). -/

namespace Sys2Proof.Machine

/-- Status codes (R720). -/
def stOk : Nat := 0x00
/-- ACCEPTED (R720). -/
def stAccepted : Nat := 0x01
/-- BAD_OPCODE (R720). -/
def stBadOpcode : Nat := 0x10
/-- BAD_PARAM (R720). -/
def stBadParam : Nat := 0x11
/-- NO_RESOURCE (R720). -/
def stNoResource : Nat := 0x12
/-- OVERLAP (R720). -/
def stOverlap : Nat := 0x13
/-- NOT_PERMITTED (R720). -/
def stNotPermitted : Nat := 0x14
/-- BUSY (R720). -/
def stBusy : Nat := 0x15
/-- SQUASHED (R720). -/
def stSquashed : Nat := 0x16
/-- HW_ERROR (R720). -/
def stHwError : Nat := 0x20
/-- TIMEOUT (R720). -/
def stTimeout : Nat := 0x21
/-- CANCELLED (R720). -/
def stCancelled : Nat := 0x22
/-- HOST_DMA_DISABLED (R720). -/
def stHostDma : Nat := 0x23
/-- DURABILITY_DEGRADED (R720). -/
def stDegraded : Nat := 0x24

/-- The 32 bytes of a status as a number, byte 0 lowest, PHASE at 0 (R689). -/
def statusWord (c : Cmd) (opcode st handle result : Nat) (final : Bool) : Nat :=
  c.tag.toNat + st * 2 ^ 16 + b2n final * 2 ^ 24 + handle % 65536 * 2 ^ 32 + opcode * 2 ^ 48
    + result % 2 ^ 192 * 2 ^ 64

/-- The status `w` with PHASE `b` (R689). -/
def withPhase (w : Nat) (b : Bool) : Nat := w + b2n b * 2 ^ 25

/-- The mailbox of a path (R695): 0 management, 1 + h host, 49 + g gondola. -/
def mailbox : Path → Option Nat
  | .mgmt => some 0
  | .host h => some (1 + h)
  | .gond g => some (49 + g)
  | _ => none

/-- The host whose function 1 sends a mailbox's MSI-X (R698). -/
def State.mailboxHost (s : State) (m : Nat) : Option Nat :=
  if m = 0 then s.mgmtHost else if m < 49 then some (m - 1) else some (s.rd (GND_HOST (m - 49)))

/-- The MSI-X of a mailbox, sent for each status while INT_EN is 1 (R698); the status is a wake event (R220). -/
def State.mailboxSignal (s : State) (m : Nat) : State :=
  match s.mailboxHost m with
  | none => s
  | some h =>
    let s := s.wakeHost h
    if s.on (YCP_MBX_CTRL_INT_EN m) then s.msix h (s.rd (YCP_MBX_CTRL_VECTOR m)) else s

/-- A status written to slot TAIL mod 32 of a mailbox's response ring; PHASE is 1 on the even passes (R695, R702). -/
def State.postMailbox (s : State) (m w : Nat) : State :=
  let t := s.rd (YCP_MBX_RSP_TAIL m)
  let s := s.wr (YCP_MBX_RSP_SLOT m (t % 32)) (withPhase w (t / 32 % 2 == 0))
  (s.wr (YCP_MBX_RSP_TAIL m) (t + 1)).mailboxSignal m

/-- The MSI-X of a status written to status spool `q`: at once with INTR on a final status or without coalescing,
otherwise when the coalescing time ends (R688, R721). -/
def State.spoolSignal (s : State) (q : Nat) (now : Bool) : State :=
  if now || s.rd (SPL_COALESCE_US q) == 0 then s.msix (s.rd (SPL_HOST q)) (s.rd (SPL_VECTOR q))
  else if s.rd (SPLX_COAL_DUE q) = 0 then s.wr (SPLX_COAL_DUE q) (s.now + us * s.rd (SPL_COALESCE_US q) + 1)
  else s

/-- A status written to the tail of status spool `q` in host memory, 64 bytes with bytes 32 to 63 zero, a gondola's with its PASID; PHASE alternates
by pass (R699, R700, R702). -/
def State.writeSpool (s : State) (q w : Nat) (now : Bool) : State :=
  let t := s.rd (SPL_TAIL q)
  let n := 2 ^ s.rd (SPL_SIZE_LOG2 q)
  let pasid := if s.on (SPL_GONDOLA_OWNED q) then some (s.rd (GND_PASID (s.rd (SPL_GONDOLA q)))) else none
  let s := s.writeHost (s.rd (SPL_HOST q)) (s.rd (SPL_BASE q) + 64 * t) (withPhase w (s.rd (SPLX_PASS q) == 0)) 64 pasid
  let s := s.wr (SPL_TAIL q) ((t + 1) % n)
  let s := s.when (t + 1 == n) fun s => s.wr (SPLX_PASS q) (1 - s.rd (SPLX_PASS q))
  s.spoolSignal q now

/-- A status for command spool `n`: discarded when either spool is stopped or gone, held while Bus Master Enable of the
owner's host is 0, otherwise written (R228, R704, R705). -/
def State.postSpool (s : State) (n w : Nat) (now : Bool) : State :=
  let q := s.rd (SPL_PAIRED n)
  if !s.on (SPL_VALID n) || !s.on (SPL_VALID q) || s.on (SPL_STOPPED n) || s.on (SPL_STOPPED q) then s
  else if s.hostOpen (s.rd (SPL_HOST q)) then s.writeSpool q w now
  else
    let s := { s with held := s.held ++ [Held.mk q n w now] }
    (s.wr YCP_EVENT_STATUS_HELD 1).wakeHost (s.rd (SPL_HOST q))

/-- A status on the SMBus queue of 32 entries (R906), with its PHASE (R702). -/
def State.postSmb (s : State) (w : Nat) : State :=
  let k := s.rd SYS_SMB_COUNT
  let s := { s with mgmt := { s.mgmt with smbq := s.mgmt.smbq ++ [withPhase w (k / 32 % 2 == 0)] } }
  (s.wr SYS_SMB_COUNT (k + 1)).alert

/-- A status code for a command replayed from flash: counted when it is not OK (R918). -/
def State.postFlash (s : State) (st : Nat) : State :=
  let s := s.wr SYS_LAST_STATUS st
  if st = stOk then s else s.inc MGT_FLASH_STATUS_CMD_FAILED

/-- Posts a status for command `c` on its path (STATUS_POST, R712). A mooring posts none (R718). -/
def State.post (s : State) (c : Cmd) (opcode st handle result : Nat) (final : Bool) : State :=
  let w := statusWord c opcode st handle result final
  match c.path with
  | .spool n => s.postSpool n w (intrFlag c && final)
  | .smbus => s.postSmb w
  | .flash => s.postFlash st
  | p =>
    match mailbox p with
    | none => s
    | some m => s.postMailbox m w

/-- The count of a path's commands without a final status, NOT_FINAL. -/
def notFinal : Path → Option Fld
  | .spool n => some (SPL_NOT_FINAL n)
  | p => (mailbox p).map YCP_MBX_STATUS_NOT_FINAL

/-- A command of the path starts to run without its final status. -/
def State.openCmd (s : State) (p : Path) : State :=
  match notFinal p with
  | none => s
  | some f => s.bump f

/-- A command of the path has its final status. -/
def State.closeCmd (s : State) (p : Path) : State :=
  match notFinal p with
  | none => s
  | some f => s.dec f

/-- What a command does once it passes the checks of R691: it posts its one status at once, starts a long operation,
waits to post its status, or fails a rule of its chapter and changes nothing. -/
inductive CmdRes where
  | ok (result : Nat) (s : State)
  | ends (st result : Nat) (s : State)
  | long (engine total phase acc : Nat) (s : State)
  | later (obj : Nat) (s : State)
  | fail (st : Nat)

/-- The first handle from `h` on that is neither 0 nor valid, among `k` tries (R714). -/
def State.handleFrom (s : State) (h : Nat) : Nat → Nat
  | 0 => h
  | k + 1 => if h % 65536 = 0 ∨ s.ops.any (fun o => o.handle == h % 65536) then s.handleFrom (h + 1) k else h % 65536

/-- The next operation handle (R714): at most 1,024 are valid, so 1,026 tries find one. -/
def State.nextHandle (s : State) : Nat := s.handleFrom (s.rd SYS_NEXT_HANDLE) 1026

/-- Long operations of a gondola without their final status (R648). -/
def gondOps (l : List Op) (g : Nat) : Nat := (l.filter fun o => o.issuer == .g g && o.final.isNone).length

/-- The state with the list of operations replaced; PEN_STATUS.OPS counts it, and GND_OPS of each gondola its own. -/
def State.setOps (s : State) (l : List Op) : State :=
  let gs := (s.ops ++ l).filterMap fun o => match o.issuer with
    | .g g => some g
    | _ => none
  gs.foldl (fun s g => s.wr (GND_OPS g) (gondOps l g)) ({ s with ops := l }.wr PEN_STATUS_OPS l.length)

/-- No further long operation may start for an issuer: 1,024 handles are valid, or its gondola has OP_LIMIT of them (R643,
R648). -/
def State.opsFull (s : State) (i : Issuer) : Bool :=
  decide (1024 ≤ s.ops.length) || (match i with
    | .g g => decide (s.rd (GND_OP_LIMIT g) ≤ gondOps s.ops g)
    | _ => false)

/-- The owner of a long operation, as it shares the general group: the management host, a host or a gondola (R647). -/
def turnKey : Issuer → Nat
  | .m => 0
  | .h h => 1 + h
  | .g g => 64 + g

/-- An owner that had no operation takes its turn with those that have: its engine time counts from the least of theirs (R647). -/
def State.joinTurns (s : State) (i : Issuer) : State :=
  let live := s.ops.filter fun o => o.final.isNone
  let k := turnKey i
  if live.any fun o => o.issuer == i then s
  else match live.map fun o => s.rd (OWNX_TURN (turnKey o.issuer)) with
    | [] => s
    | v :: l => s.wr (OWNX_TURN k) (max (s.rd (OWNX_TURN k)) (l.foldl min v))

/-- A long operation started under handle `h`: ACCEPTED posted first, with the handle (R713). -/
def State.startOp (s : State) (c : Cmd) (opcode engine total phase acc : Nat) : State :=
  let h := s.nextHandle
  let s := (s.openCmd c.path).post c opcode stAccepted h 0 false
  let o : Op := ⟨h, opcode, c, s.issuer c.path, 128 + engine, 0, total, phase, acc, false, none, 0, false, false, false, false⟩
  ((s.joinTurns o.issuer).setOps (s.ops ++ [o])).wr SYS_NEXT_HANDLE (if h = 65535 then 1 else h + 1)

/-- A gondola for which no operation runs and no append waits for its LSN has no pending issue: its shaper is no longer active (R496). -/
def State.restShaper (s : State) (i : Issuer) : State :=
  match i with
  | .g g =>
    if s.on (GND_SHAPER_VALID g) && !(s.ops.any fun o => o.issuer == i && o.final.isNone)
        && !(s.pool.appends.any fun a => a.issuer == i && a.lsn.isNone) then s.wr (SHP_ACTIVE (s.rd (GND_SHAPER g))) 0 else s
  | _ => s

/-- An engine whose operation has ended or gone to another engine is idle. -/
def State.idleEngine (s : State) (e : Nat) : State :=
  if e < 96 ∧ s.rd (PEN_ENG_STATUS_STATE e) = 2 then
    s.wrs [(PEN_ENG_STATUS_STATE e, 1), (PEN_ENG_STATUS_GONDOLA e, 0), (PEN_ENG_STATUS_GONDOLA_VALID e, 0)]
  else s

/-- The final status of the long operation with handle `h`, posted now (R643, R713). -/
def State.finishOp (s : State) (h st result : Nat) : State :=
  match s.ops.find? fun o => o.handle == h && o.final.isNone with
  | none => s
  | some o =>
    let st := if o.cancel then stCancelled else st
    let result := if o.cancel then 0 else result
    let s := s.setOps (updateAll (fun x => x.handle == h) (fun x => { x with final := some st, finishedAt := s.now }) s.ops)
    let s := (s.restShaper o.issuer).idleEngine o.engine
    if o.silent then s else (s.closeCmd o.cmd.path).post o.cmd o.opcode st h result true

/-- A command that waits posts its status (R712). -/
def State.finishLate (s : State) (l : Late) (st result : Nat) : State :=
  let s := { s with late := removeFirst (fun x => x == l) s.late }
  if l.silent then s else (s.closeCmd l.cmd.path).post l.cmd l.opcode st 0 result true

/-- Every waiting command of `opcode` that names object `obj` posts its status. -/
def State.finishLates (s : State) (opcode obj st result : Nat) : State :=
  (s.late.filter fun l => l.opcode == opcode && l.obj == obj).foldl (fun s l => s.finishLate l st result) s

/-- The control firmware takes commands: it runs, its power state lets it, and with fewer than four control engines
left only the DEVICE and FIRMWARE classes (R682, R707, R708). -/
def State.takesCmd (s : State) (opcode : Nat) : Bool :=
  s.on SYS_FW_UP && (decide (countN 8 (fun e => s.rd (PEN_ENG_STATUS_STATE e) == 4) ≤ 4)
    || opcode / 256 == 1 || opcode / 256 == 13)

/-- The commands by paths that satisfy `p` which do not yet have a final status. -/
def State.unfinal (s : State) (p : Path → Bool) : Nat :=
  (s.ops.filter fun o => o.final.isNone && !o.silent && p o.cmd.path).length + (s.late.filter fun l => !l.silent && p l.cmd.path).length

/-- A path of a command spool whose statuses go to status spool `q`. -/
def State.pairedWith (s : State) (q : Nat) : Path → Bool
  | .spool n => s.rd (SPL_PAIRED n) == q
  | _ => false

/-- Free entries of status spool `q`, those that held statuses will take not among them (R228, R701). -/
def State.spoolFree (s : State) (q : Nat) : Nat :=
  let size := 2 ^ s.rd (SPL_SIZE_LOG2 q)
  size - 1 - (s.rd (SPL_TAIL q) + size - s.rd (SPL_HEAD q)) % size - (s.held.filter fun x => x.spool == q).length

/-- R710 lets a path give one more command: its response ring or status spool has twice as many free entries as it would then have commands without
a final status, and a spool has fewer than OUT_MAX. The status queue of SMBus has 32 entries (R906). -/
def State.pathRoom (s : State) (p : Path) : Bool :=
  match p with
  | .spool n => s.rd (SPL_NOT_FINAL n) != s.rd (SPL_OUT_MAX n)
      && decide (2 * (s.unfinal (s.pairedWith (s.rd (SPL_PAIRED n))) + 1) ≤ s.spoolFree (s.rd (SPL_PAIRED n)))
  | .smbus => decide (2 * (s.unfinal (fun p => p == .smbus) + 1) + s.mgmt.smbq.length ≤ 32)
  | .flash => true
  | p => match mailbox p with
    | some m => decide (2 * (s.rd (YCP_MBX_STATUS_NOT_FINAL m) + 1) + (s.rd (YCP_MBX_RSP_TAIL m) + 65536 - s.rd (YCP_MBX_RSP_HEAD m)) % 65536 ≤ 32)
    | none => true

/-- The FENCE of a command is met: no earlier command of its mailbox or spool lacks its final status (R688). -/
def State.fenceMet (s : State) (c : Cmd) : Bool := !fenceFlag c || (notFinal c.path).all fun f => s.rd f == 0

/-- Command `c` is taken from its path: of a gondola only while it is RUNNING, of a spool only from a command spool that is not stopped, of
the flash only at the start-up step that applies its configuration, and with room for its statuses and its FENCE met (R688, R704, R710, R751, R764,
R917). -/
def State.pathOpen (s : State) (c : Cmd) : Bool :=
  (match s.issuer c.path with
   | .g g => s.rd (GND_STATE g) == 1
   | _ => true)
  && (match c.path with
   | .spool n => s.on (SPL_VALID n) && s.rd (SPL_KIND n) == 0 && !s.on (SPL_STOPPED n)
   | .flash => s.rd GLB_BOOT_STATUS_STAGE == 5
   | _ => true)
  && s.pathRoom c.path && s.fenceMet c

/-- A command runs once it passes R691's checks: issuer, parameters, and the rules of its chapter in `body`. A command
that fails a check posts one status and changes nothing else. -/
def State.runCmd (s : State) (opcode : Nat) (perm : Issuer → Bool) (valid : Bool) (body : Issuer → CmdRes) (c : Cmd) :
    State :=
  if !perm (s.issuer c.path) then s.post c opcode stNotPermitted 0 0 true
  else if !valid then s.post c opcode stBadParam 0 0 true
  else
    match body (s.issuer c.path) with
    | .ok r t => t.post c opcode stOk 0 r true
    | .ends st r t => t.post c opcode st 0 r true
    | .long e n ph a t =>
      if s.opsFull (s.issuer c.path) then s.post c opcode stNoResource 0 0 true else t.startOp c opcode e n ph a
    | .later obj t => { t.openCmd c.path with late := t.late ++ [⟨opcode, c, obj, false⟩] }
    | .fail st => s.post c opcode st 0 0 true

/-- A YCP command: nothing happens while the control firmware does not take it from its path. A long opcode replayed from flash is
skipped and counted (R918). -/
def State.command (s : State) (opcode : Nat) (perm : Issuer → Bool) (valid : Bool) (body : Issuer → CmdRes) (c : Cmd) :
    State :=
  if s.takesCmd opcode && s.pathOpen c then s.runCmd opcode perm valid body c else s

/-- The rules of a chapter in the order it gives them: the first case that applies decides the status (R691). -/
def firstFail : List (Bool × Nat) → CmdRes → CmdRes
  | [], r => r
  | (b, st) :: t, r => if b then .fail st else firstFail t r

/-- A running long operation of one of the opcodes `l` satisfies `p` (R711). -/
def State.opBusy (s : State) (l : List Nat) (p : Op → Bool) : Bool :=
  s.ops.any fun o => o.final.isNone && l.contains o.opcode && p o

/-- An ERROR_RELEASE of domain `i` of level `l` runs: nothing else may change what it names (R711). -/
def State.releasing (s : State) (l i : Nat) : Bool := s.opBusy [0x0A02] fun o => parBytes o.cmd 0 1 == l && parBytes o.cmd 2 2 == i

/-- A running long operation names port `p` (R711): an unbind, a slot operation, an armed gate
list, or the release of its domain. -/
def State.portBusy (s : State) (p : Nat) : Bool :=
  s.opBusy [0x0205, 0x0303, 0x0502] (fun o => parBytes o.cmd 0 1 == p)
    || s.releasing 1 p

end Sys2Proof.Machine
end

