-- ==== Sys2Proof/Machine/Fabric.lean ====
section
/-! DEFINITION. Traffic between nodes (R399 to R411): the route table, flow buckets and the units that leave on a
tether. -/

namespace Sys2Proof.Machine

/-- Tether `i` of the list toward node `n` (R406). -/
def tetherFld (n i : Nat) : Fld :=
  if i = 0 then NRT_TETHER0 n else if i = 1 then NRT_TETHER1 n else if i = 2 then NRT_TETHER2 n else NRT_TETHER3 n

/-- The training states of a tether (R278), as PRT_CYT_STATUS.STATE encodes them. -/
def cyDisabled : Nat := 0
/-- DETECT (R278). -/
def cyDetect : Nat := 1
/-- ALIGN (R278). -/
def cyAlign : Nat := 2
/-- CONFIG (R278). -/
def cyConfig : Nat := 3
/-- EQ (R278). -/
def cyEq : Nat := 4
/-- VERIFY (R278). -/
def cyVerify : Nat := 5
/-- INIT (R278). -/
def cyInit : Nat := 6
/-- UP (R278). -/
def cyUp : Nat := 7
/-- RETRAIN (R278). -/
def cyRetrain : Nat := 8
/-- FAILED (R278). -/
def cyFailed : Nat := 9
/-- LEFT (R278). -/
def cyLeft : Nat := 10

/-- The training state of tether `p`. -/
def State.cyState (s : State) (p : Nat) : Nat := s.rd (PRT_CYT_STATUS_STATE p)

/-- The device is moored: from the trigger to the start of unmooring. -/
def State.moored (s : State) : Bool := decide (1 ≤ s.rd MOR_STATUS_STATE) && decide (s.rd MOR_STATUS_STATE ≤ 4)

/-- Port `p` is a tether in UP; from the mooring trigger on it carries no traffic (R854). -/
def State.tetherUp (s : State) (p : Nat) : Bool := s.rd (PRT_CFG_MODE p) == 3 && s.cyState p == cyUp && !s.moored

/-- Port `p` is no tether, or one in DISABLED, FAILED or LEFT, or one whose far end leaves the
fabric (R304, R411). -/
def State.tetherOut (s : State) (p : Nat) : Bool :=
  s.rd (PRT_CFG_MODE p) != 3 || s.on (CYTX_LEAVING p) || s.cyState p == cyDisabled || s.cyState p == cyFailed || s.cyState p == cyLeft

/-- The slots of node `n`'s list whose tether satisfies `f`. -/
def State.slotsWhere (s : State) (n : Nat) (f : Nat → Bool) : List Nat :=
  idxs 4 fun i => bitSet (s.rd (NRT_LISTED n)) i && f (s.rd (tetherFld n i))

/-- Node `n` has a valid route, has not sent LEAVE (R304), and a listed tether that is not DISABLED, FAILED or LEFT (R411). -/
def State.reachable (s : State) (n : Nat) : Bool :=
  s.on (NRT_VALID n) && !s.on (NRTX_LEAVING n) && !(s.slotsWhere n fun p => !s.tetherOut p).isEmpty

/-- The bucket of a flow toward node `n` (R406): 256 × node + the low eight bits of a CRC-32C over a tuple whose byte
order the spec does not give. Log entry 8. -/
def bucketFrom (src requester n tc : Nat) : Nat := 256 * n + (Config.flowBucket src requester n tc).toNat

/-- The bucket of a flow of this node. -/
def State.bucketOf (s : State) (requester n tc : Nat) : Nat := bucketFrom (s.rd MGT_NODE_ID_NODE_ID) requester n tc

/-- The bucket of a TLP toward a node; that of a TLP in transit is of its own source (R406). -/
def State.tlpBucket (s : State) (t : Tlp) : Option Nat :=
  t.dest.map fun n => bucketFrom ((t.src.map Fin.val).getD (s.rd MGT_NODE_ID_NODE_ID)) t.requester n t.tc

/-- The tether to which bucket `b` is mapped: that of its slot, or the one on which it stays until it may move (R406 to R408). -/
def State.bucketPort (s : State) (b : Nat) : Nat :=
  if s.rd (BKTX_OLD b) = 0 then s.rd (tetherFld (b / 256) (s.rd (BKT_SLOT b))) else s.rd (BKTX_OLD b) - 1

/-- R411 applied to a request: counted; the caller logs it and discards or answers the request. -/
def State.noRoute (s : State) : State := (s.inc RTE_COUNT_FAB_NO_ROUTE).wr RTE_EVENT_NO_ROUTE 1

/-- The segments of a TLP of `bytes` bytes, each of at most 244 (R257, R259). -/
def unitsOf (u : CUnit) (bytes : Nat) : List CUnit :=
  let k := max 1 (ceilDiv bytes 244)
  (List.range k).map fun i => { u with sop := i == 0, eop := i + 1 == k, off := 244 * i, len := max 1 (min 244 (bytes - 244 * i)) }

/-- Units put on the transmit stage of tether `p`. -/
def State.stage (s : State) (p : Nat) (l : List CUnit) : State :=
  { s with tether := { s.tether with sendq := s.tether.sendq ++ l.map fun u => ⟨p, u⟩ } }

/-- The bucket of a TLP that the part makes. -/
def OwnTlp.bucket : OwnTlp → Option Nat
  | .out _ => none
  | .unit u => u.bucket

/-- TLPs of bucket `b` queued toward its tether or held unacknowledged on it (R408): those in the switch core that have
not started, and those whose last unit waits or is unacknowledged. -/
def State.inFlight (s : State) (b : Nat) : Nat :=
  ((s.tether.sendq.map (fun u => u.unit) ++ s.tether.unacked.flatMap fun u => u.segs).filter fun u => u.eop && u.bucket == some b).length
    + (s.switch.txq.filter fun x => !x.started && match x.own, x.tlp.dest with
        | some o, _ => o.bucket == some b
        | none, _ => s.tlpBucket x.tlp == some b).length
    + (s.switch.made.filter fun m => m.2.2.bucket == some b).length

/-- The type of TLP of a type number. -/
def kindOfNo (typ : Nat) : TlpKind := if typ = 0 then .posted else if typ = 1 then .nonPosted else .completion

/-- A TLP that this node makes, of a class, type and KIND for node `n` in the flow of `requester`, with `payload` bytes of payload and content
`body`, goes to the egress queue of the tether of its bucket (R18, R399, R407). -/
def State.putNode (s : State) (n requester tc typ kind payload body : Nat) : State :=
  let b := s.bucketOf requester n tc
  s.make (ownTlp (kindOfNo typ) (s.bucketPort b) tc payload requester body (some (Fin.ofNat 64 n)) kind)
    (.unit ⟨tc, typ, kind, n, payload, false, false, false, some b, 0, true, none, body, 0, 0⟩)

/-- The same; without a route, or toward a contained node, a request is counted, and what is
posted or a completion is discarded (R411, R520). -/
def State.sendNode (s : State) (n requester tc typ kind payload body : Nat) : State :=
  if s.reachable n && !s.contained 5 n then s.putNode n requester tc typ kind payload body
  else if typ = 2 ∨ kind = 3 then s
  else s.noRoute.recordNear 145 0x0503 [(5, n)] 0 (detUnit 0 0 tc 0) []

/-- The content of a completion to another node as a number: tag, status, poison, whether it is the last one of its request, and data. -/
def cplBody (tag st : Nat) (poison last : Bool) (data : List (BitVec 8)) : Nat :=
  tag + 65536 * (st + 8 * b2n poison + 16 * b2n last + 32 * leNat data)

/-- Completions made one after another, the last piece of which is the last of its request where `last` says so. -/
def State.answerPieces (s : State) (n requester tc kind tag st : Nat) (poison last : Bool) : List (List (BitVec 8)) → State
  | [] => s
  | [d] => s.sendNode n requester tc 2 kind d.length (cplBody tag st poison last d)
  | d :: t => State.answerPieces (s.sendNode n requester tc 2 kind d.length (cplBody tag st poison false d)) n requester tc kind tag st poison last t

/-- Completions of KIND `kind` to node `n` in the flow of its request, of at most 512 bytes of data each (R309, R404). -/
def State.answerUnits (s : State) (n requester tc kind addr tag st : Nat) (data : List (BitVec 8)) (poison last : Bool) : State :=
  s.answerPieces n requester tc kind tag st poison last (cplSplit addr 512 data data.length)

/-! The ingress buffers of tethers (R267). -/

/-- The drain point has passed, of a mooring or of a reset (R29, R111). -/
def State.pastDrain (s : State) : Bool := s.moored || s.on SYS_DRAINING

/-- A TLP of class `t` with `payload` bytes leaves the ingress buffer: its credits are free, which the next CREDIT block
tells (R265 to R267). -/
def State.freeCredit (s : State) (p t payload : Nat) : State :=
  s.wrs [(PRT_CYT_CRED_RX_LIM_HDR p t, s.rd (PRT_CYT_CRED_RX_LIM_HDR p t) + 1),
    (PRT_CYT_CRED_RX_LIM_DATA p t, s.rd (PRT_CYT_CRED_RX_LIM_DATA p t) + ceilDiv payload 32),
    (CYTX_CRED_DUE p, max 1 (s.rd (CYTX_CRED_DUE p)))]

/-- The block that consumes it has in hand the first TLP in an ingress buffer that `f` selects; with `acc`, as the access that waits at the
pool under that number. -/
def State.takeRx (s : State) (f : RxTlp → Bool) (acc : Option Nat := none) : State :=
  let g := fun (x : RxTlp) => f x && !x.taken
  match s.tether.rx.find? g with
  | none => s
  | some x =>
    let a := s.tether.rx.takeWhile fun y => !g y
    { s with tether := { s.tether with rx := a ++ { x with taken := true, acc := acc } :: s.tether.rx.drop (a.length + 1) } }

/-- TLPs of tether `p` that their consumer has left in the ingress buffer: they wait for cells, at the checker or for a tag. -/
def State.waitingFrom (s : State) (p : Nat) : Nat :=
  (s.switch.wait.filter fun w => w.2.ingress.val == p).length
    + (s.bridle.held.filter fun b => match b.2 with
        | .remote q _ _ | .fabric q _ _ | .proxy q _ _ _ => q == p
        | _ => false).length

/-- A TLP in hand still waits at the pool's ingress, as the access it made (R583). -/
def State.atPool (s : State) (x : RxTlp) : Bool := s.pool.waiting.any fun a => some a.seq == x.acc

/-- The TLPs in hand of tether `p` that no longer wait leave the ingress buffer, oldest first, and their credits are free (R267); past a drain point
credits are withheld (R111, R852). -/
def State.settleRx (s : State) (p : Nat) : State :=
  if s.pastDrain then s else
  let l := s.tether.rx.filter fun x => x.port == p && x.taken && !s.atPool x
  let gone := l.take (l.length - s.waitingFrom p)
  let s := { s with tether := { s.tether with rx := gone.foldl (fun r x => removeFirst (fun y => y == x) r) s.tether.rx } }
  gone.foldl (fun s x => s.freeCredit p x.tc x.payload) s

/-- The same of every tether. -/
def State.settleAll (s : State) : State := (s.tether.rx.map fun x => x.port).foldl (fun s p => s.settleRx p) s

/-- The consumer of the KINDs `l` has taken the first TLP of them that stood in the ingress buffer of tether `p`. -/
def State.consumeRx (s : State) (p : Nat) (l : List Nat) : State := (s.takeRx fun x => x.port == p && l.contains x.kind).settleRx p

/-- The same of a pool request, which stays in the ingress buffer while the access that it made, numbered `n` or above, waits (R583). -/
def State.consumePool (s : State) (p n : Nat) : State :=
  (s.takeRx (fun x => x.port == p && x.kind == 1) ((s.pool.waiting.find? fun a => decide (n ≤ a.seq)).map fun a => a.seq)).settleRx p

/-- A TLP of class `tc` and KIND `k` has wholly arrived on tether `p` and stands in its ingress buffer. -/
def State.stands (s : State) (p tc k : Nat) : Bool := s.tether.rx.any fun x => x.port == p && x.kind == k && x.tc == tc && !x.taken

/-- A store of KIND `k` stays in its ingress buffer while the access that it made, numbered `n` or above, waits at the pool (R583). -/
def State.consumeAcc (s : State) (k n : Nat) : State :=
  (s.takeRx (fun x => x.kind == k) ((s.pool.waiting.find? fun a => decide (n ≤ a.seq)).map fun a => a.seq)).settleAll

/-- An internal consumer has taken the first TLP of KIND `k` that stood for it, whichever tether it came on. -/
def State.consumeKind (s : State) (k : Nat) : State := (s.takeRx fun x => x.kind == k).settleAll

end Sys2Proof.Machine
end

