-- ==== Sys2Proof/Machine/Bridle.lean ====
section
/-! DEFINITION. The Bridle checker (chapter 09): rules, the decision, denials. Tables keep their rules at the keys of the
RULE fields. -/

namespace Sys2Proof.Machine

/-- A field of rule `i`, in a table. -/
def Tables.get (t : Tables) (f : Fld) : Nat := regsGet t.rules f.key

/-- The table with a field of a rule written. -/
def Tables.put (t : Tables) (f : Fld) (v : Nat) : Tables := { t with rules := regsPut t.rules f.key (v % 2 ^ f.width) }

/-- The valid rules, by number. -/
def Tables.valid (t : Tables) : List Nat := (t.rules.filter fun e => e.1 % 256 == 0).map fun e => e.1 / 256

/-- The table without rule `i`. -/
def Tables.erase (t : Tables) (i : Nat) : Tables :=
  { t with rules := t.rules.filter fun e => decide (e.1 < 256 * i) || decide (256 * i + 256 ≤ e.1) }

/-- The entries of rule `i`, for comparison with another table's. -/
def Tables.entry (t : Tables) (i : Nat) : Regs :=
  t.rules.filter fun e => decide (256 * i ≤ e.1) && decide (e.1 < 256 * i + 256)

/-- Rule classes (R418): tenant, node and internal. -/
def clsTenant : Nat := 0
/-- Node class (R418). -/
def clsNode : Nat := 1
/-- Internal class (R418). -/
def clsInternal : Nat := 2

/-- Spaces (R418): APERTURE. -/
def spAperture : Nat := 0
/-- Space POOL (R418). -/
def spPool : Nat := 1
/-- Space PEER (R418). -/
def spPeer : Nat := 2
/-- Space FABRIC (R418). -/
def spFabric : Nat := 3
/-- Space MGMT (R418). -/
def spMgmt : Nat := 4
/-- Space DOORBELL (R418). -/
def spDoorbell : Nat := 5

/-- A request as the checker sees it (R418, R419): class, space, access (0 read, 1 write, 2 atomic), source, Requester ID,
PASID, first byte, bytes, and target port or node. -/
structure Check where
  cls : Nat
  space : Nat
  access : Nat
  src : Nat
  rid : Nat
  pasid : Option Nat
  addr : Nat
  len : Nat
  target : Nat
  deriving DecidableEq, Repr

/-- A rule's source fields cover the request's source (R423). -/
def Tables.admits (t : Tables) (i : Nat) (c : Check) : Bool :=
  let src := if c.cls = clsTenant then t.get (RULE_SRC_HOST_ANY i) == 1 || t.get (RULE_SRC_HOST i) == c.src
    else if c.cls = clsNode then t.get (RULE_SRC_NODE_ANY i) == 1 || t.get (RULE_SRC_NODE i) == c.src
    else t.get (RULE_INT_SRC i) == 0 || t.get (RULE_INT_SRC i) == c.src
  let rid := (t.get (RULE_RID i) ^^^ c.rid) &&& t.get (RULE_RID_MASK i)
  let pas := match t.get (RULE_PASID_MODE i) with
    | 0 => true
    | 1 => c.pasid.isNone
    | _ => c.pasid == some (t.get (RULE_PASID i))
  src && (c.cls == clsInternal || rid == 0 && pas)

/-- A rule's target selector admits the request, in the spaces that use one (R423). -/
def Tables.aims (t : Tables) (i : Nat) (c : Check) : Bool :=
  if c.space = spPeer then t.get (RULE_TARGET_PORT_ANY i) == 1 || t.get (RULE_TARGET_PORT i) == c.target
  else if c.space = spFabric then t.get (RULE_TARGET_NODE_ANY i) == 1 || t.get (RULE_TARGET_NODE i) == c.target
  else true

/-- A rule matches a request (R423, R424). -/
def Tables.matches (t : Tables) (i : Nat) (c : Check) : Bool :=
  t.get (RULE_CLASS i) == c.cls && t.get (RULE_SPACE i) == c.space && t.admits i c && t.aims i c
    && decide (t.get (RULE_BASE i) ≤ c.addr) && decide (c.addr + c.len ≤ t.get (RULE_LIMIT i) + 1)

/-- A rule permits the kind of access (R422). -/
def Tables.grants (t : Tables) (i : Nat) (access : Nat) : Bool :=
  t.get (if access = 0 then RULE_READ i else if access = 1 then RULE_WRITE i else RULE_ATOMIC i) == 1

/-- A LOCK rule covers a byte of the request in its space (R429, R431). -/
def Tables.locks (t : Tables) (i : Nat) (space addr len : Nat) : Bool :=
  t.get (RULE_LOCK i) == 1 && t.get (RULE_SPACE i) == space && decide (addr ≤ t.get (RULE_LIMIT i))
    && decide (t.get (RULE_BASE i) < addr + len)

/-- The policy bit for a class and space (R430). -/
def Tables.policyBit (t : Tables) (cls space : Nat) : Bool :=
  if cls = clsTenant then bitSet t.policy space
  else bitSet t.policy (if space = spPool then 8 else 9)

/-- The rule of a list with the highest PRIORITY, the lowest number on a tie (R429). -/
def Tables.best (t : Tables) : List Nat → Option Nat
  | [] => none
  | i :: l => match t.best l with
    | none => some i
    | some j => if t.get (RULE_PRIORITY i) < t.get (RULE_PRIORITY j) then some j else some i

/-- The decision on a request: none to permit, or a denial's reason and rule (R429, R448). -/
def State.verdict (s : State) (c : Check) : Option (Nat × Nat) :=
  let t := s.bridle.active
  let m := t.valid.filter fun i => t.matches i c
  if c.cls = clsInternal then
    match t.valid.find? fun i => t.locks i c.space c.addr c.len with
    | some i => some (3, i)
    | none =>
      if s.on BRD_STATUS_LOCK_UNKNOWN && c.space == spPool then some (5, 0)
      else match t.best m with
        | some i => if t.grants i c.access then none else some (2, i)
        | none => none
  else if s.on BRD_STATUS_LOCK_UNKNOWN && (c.space == spAperture || c.space == spPool) then some (5, 0)
  else match m with
    | [] => if t.policyBit c.cls c.space then none else some (1, 0)
    | [i] => if t.grants i c.access then none else some (2, i)
    | i :: _ => some (4, i)

/-- The record, counts and registers of a denial (R453). -/
def State.deny (s : State) (c : Check) (reason rule : Nat) : State :=
  let s := s.wrs [(BRD_LAST_DENY_CLASS, c.cls), (BRD_LAST_DENY_SPACE, c.space), (BRD_LAST_DENY_ACCESS, c.access),
    (BRD_LAST_DENY_REASON, reason), (BRD_LAST_DENY_RULE, rule), (BRD_LAST_DENY_SRC, c.src), (BRD_LAST_DENY_RID, c.rid),
    (BRD_LAST_DENY_ADDRESS, c.addr)]
  let det := detB c.cls c.space c.access reason rule c.src c.rid c.addr
  let hosts := if c.cls = clsTenant then [c.src] else []
  let doms := if c.cls = clsTenant then s.reqDoms c.src c.pasid else if c.cls = clsNode then [(5, c.src)] else []
  if c.cls = clsInternal then
    let lock := reason == 3 || reason == 5
    ((s.inc BRD_LOCK_COUNT_LOCK_DENY).wr (if lock then BRD_EVENT_LOCK_DENY else BRD_EVENT_INT_DENY) 1).recordNear 146
      (if lock then 0x0602 else 0x0607) doms 0 det hosts
  else
    let s := (s.inc (if c.cls = clsTenant then BRD_DENY_COUNT_TENANT_DENY else BRD_DENY_COUNT_NODE_DENY)).wr BRD_EVENT_DENY 1
    let s := if reason = 4 then (s.wr BRD_EVENT_RULE_CONFLICT 1).recordNear 146 0x0605 doms 0 det hosts else s
    s.recordNear 146 0x0601 doms 0 det hosts

/-- A request checked: the state with what the check records, and whether it is permitted. A debug access that would be
denied passes under DEBUG_OVERRIDE (R429, R455). A check takes no cell of the egress buffer: it changes no cell count (R422). -/
def State.check (s : State) (c : Check) : State × Bool :=
  match s.verdict c with
  | none => (s, true)
  | some (reason, rule) =>
    if c.cls = clsInternal ∧ c.src = 1 ∧ s.on DBG_CTRL_DEBUG_OVERRIDE = true then
      (((s.inc BRD_LOCK_COUNT_DEBUG_PASS).wr BRD_EVENT_DEBUG_PASS 1).record 146 0x0603 0 0 0
        (detB c.cls c.space c.access reason rule c.src c.rid c.addr) [], true)
    else (s.deny c reason rule, false)

/-- The checker holds requests: a session is in HOLD, or its save copy is being written (R435, R436). -/
def State.checkerHeld (s : State) : Bool := s.rd BRD_STATUS_STATE == 1 || s.rd BRD_STATUS_STATE == 2

/-- A range of pool addresses touches a range that a LOCK rule covers in space POOL (R433). -/
def State.touchesLock (s : State) (base len : Nat) : Bool :=
  s.bridle.active.valid.any fun i => s.bridle.active.locks i spPool base len

/-- The kind of access of a memory request. -/
def accessOf : MemOp → Nat
  | .read _ => 0
  | .store _ => 1
  | .atomic .. => 2

/-- A TLP in the switch core is a request that may be unfinished (R434), which completions are not; for the generations of Bridle only one that the
checker admitted is: from a device to another port or to a node, or sent on for a node (R397, R401, R418). -/
def State.isRequest (s : State) (chk : Bool) (t : Tlp) : Bool :=
  t.kind != .completion && (!chk || (!isMessage t && (t.dest.isSome != t.src.isSome
    || (s.rd (PRT_CFG_MODE t.ingress) == 2 && s.rd (PRT_CFG_MODE t.egress) == 2))))

/-- A segment of a posted request, which is finished once it is acknowledged (R434); a non-posted request is followed by its tag instead, link
traffic of KIND 3 and 5 is no request, and mirror stores do not pass the checker (R421). -/
def State.unitRequest (s : State) (chk : Bool) (u : CUnit) : Bool :=
  u.typ == 0 && u.kind != 3 && u.kind != 5 && (!chk || u.kind != 2) && u.tlp.all fun t => s.isRequest chk t

/-- A TLP that the part made for port `p` counts as an unfinished request, by port and node: one for a host does with the request it serves. -/
def State.ownRequest (s : State) (chk : Bool) (o : OwnTlp) (port node : Nat → Bool) (p : Nat) : Bool :=
  match o with
  | .out _ => false
  | .unit u => s.unitRequest chk u && (port p || node u.dst)

/-- Unfinished requests admitted before place `cut` in order (R434, R523), as far as `host`, `port` and `node` select them; with `chk`, those alone
that the Bridle checker admitted: pool requests not yet in a write buffer or answered, those of engines among them, TLPs waiting at ingress or not yet
sent, requests waiting for a proxy tag, units not yet acknowledged, requests whose completions are awaited (a store to another node is finished at
its acknowledgement), each within the longest completion timeout, and operations of the data services. A completion counts as delivered once it is
made: DESIGN CHOICE, log entry 74. -/
def State.unfinished (s : State) (chk : Bool) (cut : Nat) (host : Nat → Bool) (port : Nat → Bool) (node : Nat → Bool) : Nat :=
  let ends := fun (t : Tlp) => host t.host || port t.egress || port t.ingress || (t.dest.any fun n => node n) || t.src.any fun n => node n
  ((s.pool.queue ++ s.pool.waiting).filter fun a => decide (a.seq < cut)
      && (if a.src < 48 then host a.src else if a.src < 60 then chk else 64 ≤ a.src && a.src < 128 && node (a.src - 64))).length
    + (s.switch.txq.filter fun x => decide (x.order < cut) && (match x.own with
        | none => s.isRequest chk x.tlp && (ends x.tlp || port (x.queue / 24))
        | some o => !x.started && s.ownRequest chk o port node (x.queue / 24))).length
    + (s.switch.made.filter fun m => decide (m.1 < cut) && s.ownRequest chk m.2.2 port node m.2.1.egress).length
    + (s.switch.wait.filter fun w => decide (w.1 < cut) && s.isRequest chk w.2 && ends w.2).length
    + (s.bridle.held.filter fun b => match b.2 with
        | .proxy _ n q _ => decide (b.1 < cut) && (node n || port q)
        | _ => false).length
    + (s.switch.asked.filter fun x => !x.held && decide (x.order < cut) && decide (s.now < x.headSince + 2500 * ms) && s.isRequest chk x.tlp
        && (host x.tlp.host || port (x.queue / 24))).length
    + (s.tether.unacked.filter fun v => v.segs.any fun u => u.eop && u.order != 0 && decide (u.order ≤ cut) && s.unitRequest chk u
        && (port v.port || node u.dst)).length
    + (s.tether.sendq.filter fun v => v.unit.eop && v.unit.tlp.isNone && v.unit.order != 0 && decide (v.unit.order ≤ cut)
        && s.unitRequest chk v.unit && (port v.port || node v.unit.dst)).length
    + (s.outst.filter fun o => !o.quarantined && !o.store && decide (o.seq < cut) && (!chk || o.waiter == 0) && (host o.src
        || (match o.kind with | .host => host o.target | .port => port o.target | .node => node o.target))).length
    + (if chk then (s.ops.filter fun o => o.old && o.final.isNone).length else 0)

end Sys2Proof.Machine
end

