-- ==== Sys2Proof/Machine/Pool.lean ====
section
/-! DEFINITION. The Ballast pool (chapters 12 and 13): memory by line with poison, write buffers, reads, AtomicOps,
reservations, barriers, epoch closes and the mirror queue. Sources are numbered 0 to 47 for hosts, 48 to 59 for engine
clusters, 60 for the mirror service, 64 + n for node n and 128 for the debug master (R588). -/

namespace Sys2Proof.Machine

/-! Memory. -/

/-- The byte that the memory lists at physical address `a`; memory that nothing has written reads 0 (R561, R562). -/
def cellGet : List Host.Cell → Nat → BitVec 8
  | [], _ => 0
  | (k, v) :: t, a => if k = a then v else if a < k then 0 else cellGet t a

/-- The memory with byte `v` at physical address `a`; a 0 is not listed. -/
def cellPut : List Host.Cell → Nat → BitVec 8 → List Host.Cell
  | [], a, v => if v = 0 then [] else [(a, v)]
  | (k, w) :: t, a, v =>
    if k = a then (if v = 0 then t else (a, v) :: t)
    else if a < k then (if v = 0 then (k, w) :: t else (a, v) :: (k, w) :: t)
    else (k, w) :: cellPut t a v

/-- Canonical form of the memory: addresses strictly rising from above `b`, and no listed 0. -/
def cellsWfFrom : Option Nat → List Host.Cell → Bool
  | _, [] => true
  | b, (k, v) :: t => (match b with | none => true | some x => decide (x < k)) && decide (v ≠ 0) && cellsWfFrom (some k) t

/-- The memory is in canonical form. -/
def Memory.wf (l : List Host.Cell) : Bool := cellsWfFrom none l

/-- The byte at pool address `a`. -/
def State.loadByte (s : State) (a : Nat) : BitVec 8 := cellGet s.pool.cells (s.phys a)

/-- The state with byte `v` stored at pool address `a`. -/
def State.storeByte (s : State) (a : Nat) (v : BitVec 8) : State :=
  { s with pool := { s.pool with cells := cellPut s.pool.cells (s.phys a) v } }

/-- The `n` bytes from pool address `a` on. -/
def State.loadBytes (s : State) (a : Nat) : Nat → List (BitVec 8)
  | 0 => []
  | n + 1 => s.loadByte a :: s.loadBytes (a + 1) n

/-- The bytes `l` stored from pool address `a` on. -/
def State.storeBytes (s : State) (a : Nat) : List (BitVec 8) → State
  | [] => s
  | v :: t => (s.storeByte a v).storeBytes (a + 1) t

/-- Of the 64 bytes of `data`, those that `mask` names, stored in the line at pool address `line`, byte 0 first. -/
def State.storeMasked (s : State) (line mask data : Nat) : Nat → State
  | 0 => s
  | n + 1 =>
    let s := s.storeMasked line mask data n
    if bitSet mask n then s.storeByte (line + n) (BitVec.ofNat 8 (data / 2 ^ (8 * n))) else s

/-- The physical line of pool address `a`. -/
def State.physLine (s : State) (a : Nat) : Nat := s.phys a / 64

/-- The line at pool address `a` is poisoned: listed, or, on a channel that lost its contents, not listed (R564, R565,
R949). -/
def State.poisoned (s : State) (a : Nat) : Bool :=
  s.pool.poison.contains (s.physLine a) != s.on (CHX_LOST (s.mapAddr a).1)

/-- A number inserted in a strictly rising list. -/
def insertNat (x : Nat) : List Nat → List Nat
  | [] => [x]
  | y :: t => if x = y then y :: t else if x < y then x :: y :: t else y :: insertNat x t

/-- The line at pool address `a` becomes poisoned, or good again (R564, R565). -/
def State.setPoison (s : State) (a : Nat) (b : Bool) : State :=
  let l := s.physLine a
  let list := if b != s.on (CHX_LOST (s.mapAddr a).1) then insertNat l s.pool.poison
    else s.pool.poison.filter fun x => x != l
  { s with pool := { s.pool with poison := list } }

/-- The mask of a whole line. -/
def fullMask : Nat := 2 ^ 64 - 1

/-! Channels and errors. -/

/-- Domain `d`'s DEGRADED follows its reasons (R632). -/
def State.degView (s : State) (d : Nat) : State :=
  let mir := s.on (ORD_DOM_CFG_MIRRORED d) && s.rd (ORD_DOM_STATUS_MIRROR_STATE d) != 2
  let lift := s.on (ORD_DOM_CFG_VALID d) && !s.on PDI_LIFT_STATUS_RESERVE_OK
  let s := (s.wr (ORD_DOM_STATUS_DEG_MIRROR d) (b2n mir)).wr (ORD_DOM_STATUS_DEG_LIFT d) (b2n lift)
  s.wr (ORD_DOM_STATUS_DEGRADED d) (b2n (mir || lift || s.on (ORD_DOM_STATUS_DEG_CHANNEL d)))

/-- The channels in FAILED, as a mask. -/
def State.failedMask (s : State) : Nat :=
  (List.range 8).foldl (fun n c => if s.rd (BAL_CH_STATUS_STATE c) = chFailed then n + 2 ^ c else n) 0

/-- DEG_CHANNEL of every domain: one of its windows uses a FAILED channel (R632). -/
def State.channelView (s : State) : State :=
  let f := s.failedMask
  s.forN (fun d s =>
    (s.wr (ORD_DOM_STATUS_DEG_CHANNEL d) (b2n ((findFrom (fun w => s.on (WIN_VALID w) && s.on (WIN_DOMAIN_VALID w)
      && s.rd (WIN_DOMAIN w) == d && (s.rd (WIN_CHANNELS w) &&& f) != 0) 0 4096).isSome))).degView d) 16

/-- A channel enters FAILED for `cause`: logged as code 0x0903; its reservations are cleared (R567, R568, R609). The
error firmware contains its windows when it takes the record. -/
def State.failChannel (s : State) (c cause : Nat) : State :=
  let s := s.wrs [(BAL_CH_STATUS_STATE c, chFailed), (BAL_CH_STATUS_FAIL_CAUSE c, cause), (BAL_EVENT_CH_FAILED, 1)]
  let keep := s.pool.resv.filter fun r => (s.mapAddr r.line).1 != c
  let s := { s with pool := { s.pool with resv := keep } }.wr ORD_STATUS_RESV_USED keep.length
  (s.record (148 + c) 0x0903 0 0 0 (detA c 0 0 0 0) []).channelView

/-- The window of a pool address, as a domain (R509). -/
def State.lineDoms (s : State) (a : Nat) : List (Nat × Nat) := (s.windowAt a).toList.map fun w => (4, w)

/-- The node or hierarchy that a source is, as a domain (R509). -/
def State.srcDoms (_ : State) (src : Nat) : List (Nat × Nat) :=
  if src < 48 then [(2, src)] else if 64 ≤ src ∧ src < 128 then [(5, src - 64)] else []

/-- A correctable error on the line at pool address `a`: corrected and written back (R563). -/
def State.corrLine (s : State) (a : Nat) : State :=
  let c := (s.mapAddr a).1
  ((s.inc (BAL_CH_ECC_CE_COUNT c)).wr BAL_EVENT_CE 1).recordNear (148 + c) 0x0901 (s.lineDoms a) (s.dimmSlot a)
    (detA c (s.dimmSlot a) 0 a 1) []

/-- An uncorrectable error on the line at pool address `a`: the line is poisoned (R564); the channel fails when its
errors within 1 s reach UE_LIMIT (R567). -/
def State.uncorrLine (s : State) (a : Nat) : State :=
  let c := (s.mapAddr a).1
  let s := (((s.setPoison a true).inc (BAL_CH_ECC_UE_COUNT c)).wr BAL_EVENT_UE 1).recordNear (148 + c) 0x0902 (s.lineDoms a) (s.dimmSlot a)
    (detA c (s.dimmSlot a) 0 a 1) []
  let s := { s with pool := { s.pool with ueTimes := s.pool.ueTimes ++ [(c, s.now)] } }
  if 0 < s.rd BAL_SCRUB_UE_LIMIT ∧ s.rd BAL_SCRUB_UE_LIMIT ≤ (recent s.pool.ueTimes c s.now sec).length
      ∧ s.rd (BAL_CH_STATUS_STATE c) ≠ chFailed then s.failChannel c 2 else s

/-- What the read of the line at pool address `a` finds: an injected fault, used once (R731), or what the event says. -/
def State.lineEcc (s : State) (a : Nat) (e : Ecc) : State :=
  let c := (s.mapAddr a).1
  let hit := fun k => s.mgmt.inject.any fun x => x.1 == k && x.2.1 == c && x.2.2 / 64 == a / 64
  let used := fun k => { s with mgmt := { s.mgmt with
      inject := removeFirst (fun x => x.1 == k && x.2.1 == c && x.2.2 / 64 == a / 64) s.mgmt.inject } }
  if hit 4 then (used 4).uncorrLine a
  else if hit 3 then (used 3).corrLine a
  else match e with
    | .clean => s
    | .corrected => s.corrLine a
    | _ => s.uncorrLine a

/-! Windows, domains and fences. -/

/-- The durable domain of window `w`. -/
def State.winDom (s : State) (w : Nat) : Option Nat :=
  if s.on (WIN_DOMAIN_VALID w) then some (s.rd (WIN_DOMAIN w)) else none

/-- The running close of domain `d`. -/
def State.closeOf (s : State) (d : Nat) : Option Close := s.pool.closes.find? fun c => c.dom == d && !c.pending

/-- The host that a source is, when it is one. -/
def srcHost (src : Nat) : Option Nat := if src < 48 then some src else none

/-- The containment that refuses an access of `src` to window `w`, in the order node, hierarchy, window (R520, R522). -/
def State.poolFence (s : State) (src w : Nat) : Option (Nat × Nat) :=
  if 64 ≤ src ∧ src < 128 ∧ s.contained 5 (src - 64) then some (5, src - 64)
  else if src < 48 ∧ s.contained 2 src then some (2, src)
  else if s.contained 4 w then some (4, w)
  else none

/-! Replies. -/

/-- The completion of a pool access, to its host or node; a contained host's or gondola's, or one in reset, is discarded (R520,
R605). -/
def State.reply (s : State) (a : PAcc) (st : Nat) (data : List (BitVec 8)) (poison : Bool) : State :=
  if a.src < 48 then
    if s.contained 2 a.src || (s.gondFence a.src a.pasid).isSome || s.on (HOSTF_IN_RESET a.src) then s
    else s.completeRead a.src a.tc a.addr a.requester a.tag st data poison
  else if 64 ≤ a.src ∧ a.src < 128 then s.answerUnits (a.src - 64) a.requester a.tc 1 a.addr a.tag st data poison true
  else s

/-- A request refused: a posted store is discarded, and a node is told that its store has ended; another request is
answered with completion status `st`. -/
def State.refuseAcc (s : State) (a : PAcc) (st : Nat) : State :=
  match a.op with
  | .store _ => if 64 ≤ a.src ∧ a.src < 128 then s.reply a st [] false else s
  | _ => s.reply a st [] false

/-- A store of a source was discarded at target class 0 node, 1 port, 2 channel: counted for the host's next barrier
(R603). -/
def State.countDiscard (s : State) (src cls : Nat) : State :=
  match srcHost src with
  | none => s
  | some h => s.inc (if cls = 0 then HOSTF_DISC_NODE h else if cls = 1 then HOSTF_DISC_PORT h else HOSTF_DISC_CH h)

/-! Write buffers. -/

/-- The write buffer of a source (R583). -/
def bufOf (src : Nat) : Nat := if src < 60 then src else 60

/-- Entries of a write buffer (R583). -/
def bufSize (b : Nat) : Nat := if b < 48 then 256 else if b < 60 then 128 else 512

/-- Entries of buffer `b` in use. -/
def State.bufUsed (s : State) (b : Nat) : Nat := (s.pool.wb.filter fun e => e.buf == b).length

/-- BAL_WB_STATUS of buffer `b` follows the buffer. -/
def State.bufView (s : State) (b : Nat) : State :=
  let n := s.bufUsed b
  (s.wr (BAL_WB_STATUS_USED b) n).wr (BAL_WB_STATUS_PEAK b) (max (s.rd (BAL_WB_STATUS_PEAK b)) n)

/-- The lines that `n` bytes from pool address `a` on touch. -/
def linesOf (a n : Nat) : List Nat := (List.range ((a + n + 63) / 64 - a / 64)).map fun k => (a / 64 + k) * 64

/-- The byte mask that `n` bytes from pool address `a` on have in the line at `line`. -/
def maskIn (a n line : Nat) : Nat :=
  let lo := max a line
  let hi := min (a + n) (line + 64)
  (2 ^ (hi - lo) - 1) * 2 ^ (lo - line)

/-- The data that bytes `l` from pool address `a` on have in the line at `line`. -/
def dataIn (a : Nat) (l : List (BitVec 8)) (line : Nat) : Nat :=
  if line ≤ a then leNat (l.take (line + 64 - a)) * 2 ^ (8 * (a - line)) else leNat ((l.drop (line - a)).take 64)

/-- `old` with the bytes that `mask` names taken from `new`, over 64 bytes. -/
def mergeBytes (old new mask : Nat) : Nat → Nat
  | 0 => 0
  | n + 1 => mergeBytes old new mask n
      + bits (if bitSet mask n then new else old) (8 * n) 8 * 2 ^ (8 * n)

/-- A store's part `e` in one line may merge into the entry `x`: of the same source and line (R584), with no access of the source to the line accepted
between the two, which would otherwise see the later store (R592), and of mirror copies the last that arrived (R626). DEDUCED, log entry 75. -/
def State.mergesInto (s : State) (e x : WbEnt) : Bool :=
  x.buf == e.buf && x.src == e.src && x.line == e.line && x.strict == e.strict
    && (s.pool.queue.all fun a => a.src != e.src || decide (a.seq < x.seq) || !(linesOf a.addr 16).contains e.line && a.addr / 64 * 64 != e.line)
    && (e.src != 60 || s.pool.wb.all fun y => y.src != 60 || decide (y.seq ≤ x.seq))

/-- A store's part in one line enters a buffer: merged into the first entry that `f` admits, or as a new one (R584). -/
def putEntry (f : WbEnt → Bool) (e : WbEnt) : List WbEnt → List WbEnt
  | [] => [e]
  | x :: t =>
    if f x then
      { x with
        mask := x.mask ||| e.mask
        data := mergeBytes x.data e.data e.mask 64
        tags := x.tags ++ e.tags
        poison := e.poison || (x.poison && e.mask != fullMask) } :: t
    else x :: putEntry f e t

/-- The parts of a store in their write buffer (R583, R584). -/
def State.putEntries (s : State) (es : List WbEnt) : State :=
  { s with pool := { s.pool with wb := es.foldl (fun w e => putEntry (s.mergesInto e) e w) s.pool.wb } }

/-- The entries of a store by lines. -/
def State.storeEntries (s : State) (a : PAcc) (l : List (BitVec 8)) : List WbEnt :=
  (linesOf a.addr l.length).map fun line =>
    ⟨bufOf a.src, a.src, line, if a.src = 60 then a.tag else maskIn a.addr l.length line, dataIn a.addr l line, a.window, a.seq,
      s.on (WIN_STRICT a.window), if 64 ≤ a.src ∧ a.src < 128 then [a.tag] else [], a.src == 60 && a.requester == 1⟩

/-- The buffer has room for every entry that does not merge (R26, R583). -/
def State.bufRoom (s : State) (es : List WbEnt) (b : Nat) : Bool :=
  decide (s.bufUsed b + (es.filter fun e => s.pool.wb.all fun x => !s.mergesInto e x).length ≤ bufSize b)

/-! Acceptance. -/

/-- A barrier of the source's host holds a later access (R600). -/
def State.barred (s : State) (a : PAcc) : Bool :=
  s.pool.barriers.any fun b => b.host == a.src && !b.dead && decide (b.seq ≤ a.seq) && (match a.op with
    | .read _ => b.kind != 1
    | .store _ => b.kind != 0
    | .atomic .. => true)

/-- An earlier TLP of the access's type waits at the upstream port of its host (R324). -/
def State.behindTlp (s : State) (a : PAcc) : Bool :=
  decide (a.src < 48) && s.switch.wait.any fun w => decide (w.1 < a.seq) && s.portHost w.2.ingress == some a.src
    && w.2.kind == (match a.op with | .store _ => TlpKind.posted | _ => TlpKind.nonPosted)

/-- The bytes an access covers. -/
def accLen : MemOp → Nat
  | .read n => n
  | .store l => l.length
  | .atomic _ size _ _ => size

/-- An access waits at the head of its source's ingress, and later ones behind it: behind a TLP of its type (R324), behind a strict store of its
source (R597), behind a close of its domain (R618), or for buffer room (R26). -/
def State.stalls (s : State) (a : PAcc) : Bool :=
  s.behindTlp a || (s.on (WIN_STRICT a.window) && s.pool.wb.any fun e => e.src == a.src && e.strict)
    || (match a.op with | .read _ => false | _ => match s.winDom a.window with
        | some d => (s.closeOf d).any fun c => decide (c.seq ≤ a.seq)
        | none => false)
    || (match a.op with | .store l => !s.bufRoom (s.storeEntries a l) (bufOf a.src) | _ => false)

/-- An access waits: on its own account, behind a barrier (R600), behind an earlier access of its source that stalls, or behind one to its line,
which a barrier alone holds (R592). -/
def State.mustWait (s : State) (a : PAcc) : Bool :=
  s.stalls a || s.barred a
    || s.pool.waiting.any fun w => w.src == a.src && (s.stalls w || (linesOf w.addr (accLen w.op)).any (linesOf a.addr (accLen a.op)).contains)

/-- An access accepted: a store into its source's buffer, a read or AtomicOp into the queue of accesses. -/
def State.take (s : State) (a : PAcc) : State :=
  match a.op with
  | .store l => (s.putEntries (s.storeEntries a l)).bufView (bufOf a.src)
  | _ => { s with pool := { s.pool with queue := s.pool.queue ++ [a] } }

/-- A store that comes too late is discarded, counted and logged (R29, R111). -/
def State.lateStore (s : State) (src a : Nat) : State :=
  (s.inc (if s.on SYS_DRAINING then GLB_RESET_CAUSE_DRAIN_DISCARDS else MOR_DRAIN_DISCARDS)).recordNear 171 0x0904 (s.srcDoms src ++ s.lineDoms a) 0
    (detA (s.mapAddr a).1 (s.dimmSlot a) 0 a 1) (if src < 48 then [src] else [])

/-- A reservation is that of a source, a requester and a PASID. -/
def sameHolder (r : Resv) (a : PAcc) : Bool := r.src == a.src && r.requester == a.requester && r.pasid == a.pasid

/-- Another request than its store-conditional, or that one too late, ends what R613 asks of the loop of the holder of `a`. -/
def State.breakLoops (s : State) (a : PAcc) : State :=
  let keeps := fun (r : Resv) => a.via == .sc && r.line == a.addr / 64 * 64 && decide (s.now ≤ r.setAt + 4 * us)
  { s with pool := { s.pool with resv := updateAll (fun r => sameHolder r a && !keeps r) (fun r => { r with alone := false }) s.pool.resv } }

/-- A pool access of a source after its window is known: fenced (R520), refused on a mirror target (R627), discarded
after the drain point (R29), held at the head of its source's ingress, or accepted. -/
def State.submit (s : State) (a : PAcc) : State :=
  let a := { a with id := s.rd SYS_ORDER, seq := s.rd SYS_ORDER }
  let s := (s.bump SYS_ORDER).breakLoops a
  match s.poolFence a.src a.window with
  | some f => (s.bump (match a.op with | .store _ => DOMX_POSTED (domIdx f.1 f.2) | _ => DOMX_NP (domIdx f.1 f.2))).refuseAcc a 4
  | none =>
    let target := match s.winDom a.window with
      | some d => s.on (ORD_DOM_CFG_MIRROR_TARGET d) && a.src != 60
      | none => false
    let d := s.rd (WIN_DOMAIN a.window)
    match a.op with
    | .read _ => if s.mustWait a then { s with pool := { s.pool with waiting := s.pool.waiting ++ [a] } } else s.take a
    | .store _ =>
      if target then s.inc (ORD_DOM_REJECT_MIRROR_REJECT d)
      else if s.pastDrain then s.lateStore a.src a.addr
      else if s.mustWait a then { s with pool := { s.pool with waiting := s.pool.waiting ++ [a] } } else s.take a
    | .atomic .. =>
      if target then s.reply a 4 [] false
      else if s.mustWait a then { s with pool := { s.pool with waiting := s.pool.waiting ++ [a] } } else s.take a

/-- Number of the TLP type of a memory request. -/
def opType : MemOp → Nat
  | .store _ => 0
  | _ => 1

/-- Payload bytes of a memory request. -/
def payloadOf : MemOp → Nat
  | .read _ => 0
  | .store l => l.length
  | .atomic .cas n _ _ => 2 * n
  | .atomic _ n _ _ => n

/-- Waiting accesses accepted in order, each when nothing holds it any more, and its credit returned; `l` is what is still to be tried. -/
def State.releaseList (s : State) : List PAcc → State
  | [] => s
  | a :: t =>
    if s.mustWait a then State.releaseList { s with pool := { s.pool with waiting := s.pool.waiting ++ [a] } } t
    else State.releaseList ((s.take a).fcReturn a.port (opType a.op) (payloadOf a.op)) t

/-- Every waiting access tried again, in order of acceptance; what leaves a tether's ingress buffer frees its credits. -/
def State.release (s : State) : State :=
  if s.pool.waiting = [] then s
  else (State.releaseList { s with pool := { s.pool with waiting := [] } } s.pool.waiting).settleAll

/-! Performing. -/

/-- Reservations on the line at `line` cleared by a store (R609). -/
def State.clearResv (s : State) (line : Nat) : State :=
  let keep := s.pool.resv.filter fun r => r.line != line
  { s with pool := { s.pool with resv := keep, lost := s.pool.lost.filter fun r => r.line != line } }.wr ORD_STATUS_RESV_USED keep.length

/-- Lines queued toward node `n`, close markers not counted (R625). -/
def State.linesToward (s : State) (n : Nat) : Nat := (s.pool.mirror.filter fun m => m.peer == n && m.mask != 0).length

/-- Lines queued toward the peer of domain `d` (R625). -/
def State.mirrorDepth (s : State) (d : Nat) : Nat := s.linesToward (s.rd (ORD_DOM_CFG_PEER_NODE d))

/-- Domain `d` copies its stores to its peer now (R624, R629). -/
def State.mirrors (s : State) (d : Nat) : Bool :=
  s.on (ORD_DOM_CFG_MIRRORED d) && (s.rd (ORD_DOM_STATUS_MIRROR_STATE d) == 1 || s.rd (ORD_DOM_STATUS_MIRROR_STATE d) == 2)

/-- ORD_STATUS.MIRROR_QUEUED: the lines of the fullest queue (R625). -/
def State.mirrorView (s : State) : State :=
  s.wr ORD_STATUS_MIRROR_QUEUED ((List.range 64).foldl (fun n p => max n (s.linesToward p)) 0)

/-- MIRROR_OFFSET of domain `d` added to pool address `a` (R623). -/
def State.mirrorAddr (s : State) (d a : Nat) : Nat :=
  (a + s.rd (ORD_DOM_OFFSET_LO_OFFSET d) + s.rd (ORD_DOM_OFFSET_HI_OFFSET d) * 2 ^ 32) % 2 ^ 64

/-- A performed store of a mirrored domain queued toward the peer (R624). -/
def State.mirrorStore (s : State) (w line mask data : Nat) (poison : Bool) : State :=
  match s.winDom w with
  | none => s
  | some d =>
    if s.mirrors d then
      let m : MirLine := ⟨s.rd (ORD_DOM_CFG_PEER_NODE d), d, s.mirrorAddr d line, mask, data, poison⟩
      State.mirrorView { s with pool := { s.pool with mirror := s.pool.mirror ++ [m] } }
    else s

/-- A store performed to a line: a whole line replaces its content and clears poison, a part is merged and leaves poison
(R565, R585); the line's reservations are cleared (R609). -/
def State.performLine (s : State) (w line mask data : Nat) : State :=
  let s := s.storeMasked line mask data 64
  let s := if mask = fullMask then s.setPoison line false else s
  (s.clearResv line).mirrorStore w line mask data false

/-- A buffer entry performed, with the poison that a mirror copy brings (R565). -/
def State.performWb (s : State) (e : WbEnt) : State :=
  let s := s.performLine e.window e.line e.mask e.data
  if e.poison then s.setPoison e.line true else s

/-- A store to a FAILED channel discarded (R569). -/
def State.discardStore (s : State) (src a : Nat) : State :=
  let c := (s.mapAddr a).1
  ((s.inc (BAL_CH_DISCARD_DISCARDS c)).recordNear (148 + c) 0x0904 (s.srcDoms src ++ s.lineDoms a) 0 (detA c 0 0 a 1) (srcHost src).toList).countDiscard src 2

/-- A store to window `w` finds room in the mirror queue that its copy needs (R625). -/
def State.mirrorRoom (s : State) (w : Nat) : Bool :=
  match s.winDom w with
  | some d => !s.mirrors d || decide (s.mirrorDepth d < 16384)
  | none => true

/-- A buffered store may be performed now: no earlier access of its source to its line is outstanding (R592), nor an earlier strict one when
the store is strict (R595), nor an earlier mirror copy when it is one (R626), and its mirror queue is not full (R625). -/
def State.mayPerform (s : State) (e : WbEnt) : Bool :=
  (s.pool.wb.all fun x => x.src != e.src || (x.line != e.line && e.src != 60) || decide (e.seq ≤ x.seq))
    && (s.pool.queue.all fun a => a.src != e.src || decide (e.seq < a.seq) || !(linesOf a.addr 16).contains e.line
        && a.addr / 64 * 64 != e.line)
    && (!e.strict || s.pool.queue.all fun a => a.src != e.src || decide (e.seq < a.seq) || !s.on (WIN_STRICT a.window))
    && s.mirrorRoom e.window

/-- The performed report of each store of another node whose last entry was `e` (R589); its format is the model's, log
entry 9. -/
def State.reportStores (s : State) (e : WbEnt) : State :=
  if e.src < 64 then s
  else (e.tags.filter fun t => s.pool.wb.all fun x => x.src != e.src || !x.tags.contains t).foldl
    (fun s t => s.sendNode (e.src - 64) 0 0 2 1 0 t) s

/-- The source of engine `e`'s pool accesses, its cluster (R588). -/
def clusterSrc (e : Nat) : Nat := 48 + e / 8

/-- The entry holds a store of an engine cluster for the operation with handle `h`. -/
def WbEnt.serves (e : WbEnt) (h : Nat) : Bool := decide (48 ≤ e.src) && decide (e.src < 60) && e.tags.contains h

/-- A line of a POOL_ZERO was discarded: its count, which the operation keeps in `acc`, rises (R674). -/
def State.tallyZero (s : State) (e : WbEnt) : State :=
  s.setOps (updateAll (fun (o : Op) => o.opcode == 0x0609 && o.final.isNone && e.serves o.handle)
    (fun (o : Op) => { o with acc := o.acc + 1 }) s.ops)

/-- A buffer entry is performed, a part of a line over the line as it is read (R585), or discarded at a FAILED channel, and freed (R569, R586, R589); accesses that waited
for it go on. -/
def State.performEntry (s : State) (e : WbEnt) : State :=
  let s := { s with pool := { s.pool with wb := removeFirst (fun x => x == e) s.pool.wb } }
  let s := if e.mask = fullMask then s else s.lineEcc e.line .clean
  let s := if s.chDown e.line then (s.discardStore e.src e.line).tallyZero e else s.performWb e
  ((s.bufView e.buf).reportStores e).release

/-- POOL_STORE_PERFORM: the `i`-th entry of buffer `b` is performed (R589, R591, R592). -/
def execPoolStorePerform (b : Fin 61) (i : Nat) (s : State) : Host.Outcome State Fault Refusal :=
  match (s.pool.wb.filter fun e => e.buf == b.val)[i]? with
  | none => .next s
  | some e => s.event (s.mayPerform e) fun s => s.performEntry e

/-- An operation that ends before its work is done: its buffered stores are performed, and its final status is posted (R646). -/
def State.endOp (s : State) (h st result : Nat) : State :=
  ((s.pool.wb.filter fun e => e.serves h).foldl (fun (s : State) e => s.performEntry e) s).finishOp h st result

/-- An operation whose work is done ends once its stores have been performed (R646). -/
def State.settleOp (s : State) (h st result : Nat) : State :=
  if s.pool.wb.any fun e => e.serves h then s else s.finishOp h st result

/-- STRICT_STORE_DONE: the oldest strict store of source `src` is performed, and its next strict access proceeds
(R597). -/
def execStrictStoreDone (src : Fin 129) (s : State) : Host.Outcome State Fault Refusal :=
  match s.pool.wb.find? fun e => e.src == src.val && e.strict with
  | none => .next s
  | some e => s.event (s.mayPerform e) fun s => s.performEntry e

/-- The access with number `id`. -/
def State.accOf (s : State) (id : Nat) : Option PAcc := s.pool.queue.find? fun a => a.id == id

/-- An access leaves the queue; what waited behind it goes on. -/
def State.accDone (s : State) (a : PAcc) : State :=
  State.release { s with pool := { s.pool with queue := removeFirst (fun x => x.id == a.id) s.pool.queue } }

/-- No earlier access of the source to a line of the access is outstanding, nor an earlier strict one when it is strict, and no earlier store that
the access must see performed; an AtomicOp also needs room in its mirror queue (R580, R592, R595, R596, R607, R625). A plain weak read takes buffered
stores from the buffer. -/
def State.mayServe (s : State) (a : PAcc) : Bool :=
  let ls := linesOf a.addr (accLen a.op)
  let fwd := match a.op with | .read _ => a.via == .plain && !s.on (WIN_STRICT a.window) | _ => false
  (s.pool.queue.all fun x => x.src != a.src || decide (a.seq ≤ x.seq)
      || !((linesOf x.addr (accLen x.op)).any ls.contains || s.on (WIN_STRICT a.window) && s.on (WIN_STRICT x.window)))
    && (match a.op with | .atomic .. => s.mirrorRoom a.window | _ => true)
    && (fwd || s.pool.wb.all fun e => e.src != a.src || decide (a.seq < e.seq)
        || !(ls.contains e.line || s.on (WIN_STRICT a.window) && e.strict))

/-- The content of the line at `line` as source `src` reads it at place `seq`: its own earlier buffered stores merged
over the performed contents (R593). -/
def State.lineSeen (s : State) (src seq line : Nat) (strict : Bool) : Nat :=
  (s.pool.wb.filter fun e => e.src == src && e.line == line && decide (e.seq < seq) && !strict).foldl
    (fun v e => mergeBytes v e.data e.mask 64) (leNat (s.loadBytes line 64))

/-- The bytes that an access reads. -/
def State.bytesSeen (s : State) (a : PAcc) (n : Nat) : List (BitVec 8) :=
  (List.range n).map fun k =>
    let x := a.addr + k
    BitVec.ofNat 8 (s.lineSeen a.src a.seq (x / 64 * 64) (s.on (WIN_STRICT a.window)) / 2 ^ (8 * (x % 64)))

/-- POOL_READ: a read is performed from DDR4 or from its source's write buffer (R562, R565, R569, R593, R596); the read
of its first line finds `e`. -/
def execPoolRead (id : Nat) (e : Ecc) (s : State) : Host.Outcome State Fault Refusal :=
  match s.accOf id with
  | none => .next s
  | some a =>
    match a.op with
    | .read n => s.event (a.via == .plain && s.mayServe a) fun s =>
        if (linesOf a.addr n).any s.chDown then (s.reply a 4 [] false).accDone a
        else
          let s := s.lineEcc a.addr e
          (s.reply a 0 (s.bytesSeen a n) ((linesOf a.addr n).any s.poisoned)).accDone a
    | _ => .next s

/-- The new value that an AtomicOp stores over `old` (R579). -/
def atomicNew (k : AtomicKind) (size old op1 op2 : Nat) : Nat :=
  match k with
  | .fetchAdd => (old + op1) % 2 ^ (8 * size)
  | .swap => op1 % 2 ^ (8 * size)
  | .cas => if old = op1 % 2 ^ (8 * size) then op2 % 2 ^ (8 * size) else old

/-- A value of `size` bytes stored at pool address `a` by the atomic unit: performed, with its copy to a mirror and the
clearing of reservations (R579, R609, R624). -/
def State.atomicStore (s : State) (w a size v : Nat) : State :=
  let line := a / 64 * 64
  s.performLine w line (maskIn a size line) (v * 2 ^ (8 * (a - line)))

/-- ATOMIC_OP: read and write of a value in one step, answered with the old value; on a poisoned line or a FAILED channel
a Completer Abort, and the line is unchanged (R565, R569, R579, R580). -/
def execAtomicOp (id : Nat) (s : State) : Host.Outcome State Fault Refusal :=
  match s.accOf id with
  | none => .next s
  | some a =>
    match a.op with
    | .atomic k size op1 op2 => s.event (a.via == .plain && s.mayServe a) fun s =>
        let s := s.lineEcc a.addr .clean
        if s.chDown a.addr || s.poisoned a.addr then (s.reply a 4 [] false).accDone a
        else
          let old := leNat (s.loadBytes a.addr size)
          ((s.atomicStore a.window a.addr size (atomicNew k size old op1 op2)).reply a 0 (leBytes size old) false).accDone a
    | _ => .next s

/-! Reservations. -/

/-- No other request of the holder of `a`, accepted after it, waits in the pool (R613). -/
def State.aloneSince (s : State) (a : PAcc) : Bool :=
  ((s.pool.queue ++ s.pool.waiting).all fun x => x.src != a.src || x.requester != a.requester || x.pasid != a.pasid || x.via == .sc
      || decide (x.seq ≤ a.seq)) && s.pool.wb.all fun e => e.src != a.src || decide (e.seq < a.seq)

/-- A reservation set on the line of `a`: it replaces the pair's own, and evicts the oldest when 4,096 are held (R607,
R608). -/
def State.reserve (s : State) (a : PAcc) : State :=
  let l := s.pool.resv.filter fun r => !sameHolder r a
  let evict := decide (4096 ≤ l.length)
  let l := (if evict then l.drop 1 else l) ++ [⟨a.src, a.requester, a.pasid, a.addr / 64 * 64, s.now, s.aloneSince a⟩]
  let s := { s with pool := { s.pool with resv := l } }.wr ORD_STATUS_RESV_USED l.length
  if evict then (s.inc ORD_COUNT_RESV_EVICT).wr ORD_EVENT_RESV_EVICT 1 else s

/-- LOAD_RESERVED: a read through the LR alias, after every earlier store of its source to the line (R607). -/
def execLoadReserved (id : Nat) (e : Ecc) (s : State) : Host.Outcome State Fault Refusal :=
  match s.accOf id with
  | none => .next s
  | some a =>
    match a.op with
    | .read n => s.event (a.via == .lr && s.mayServe a) fun s =>
        if s.chDown a.addr then (s.reply a 4 [] false).accDone a
        else
          let s := s.lineEcc a.addr e
          ((s.reply a 0 (s.loadBytes a.addr n) (s.poisoned a.addr)).reserve a).accDone a
    | _ => .next s

/-- The reservation that a store-conditional needs is intact (R609, R610). -/
def State.reserved (s : State) (a : PAcc) : Bool :=
  s.pool.resv.any fun r => sameHolder r a && r.line == a.addr / 64 * 64 && decide (s.now < r.setAt + 8 * us)

/-- The store-conditional `a` ends an iteration of a loop that R613 lets progress. -/
def State.loops (s : State) (a : PAcc) : Bool :=
  s.pool.resv.any fun r => sameHolder r a && r.line == a.addr / 64 * 64 && decide (s.now < r.setAt + 8 * us) && r.alone

/-- Such a store-conditional must succeed: the loop's iteration before failed without a cause, or one of the loops on the line did so 4 us ago,
and no store to the line was performed since (R613, log entry 67). -/
def State.mustWin (s : State) (a : PAcc) : Bool :=
  s.loops a && s.pool.lost.any fun r => r.line == a.addr / 64 * 64
    && (sameHolder r a || (decide (r.setAt + 4 * us ≤ s.now) && decide (s.now ≤ r.setAt + 8 * us)))

/-- A failure without a cause is noted until the line is stored to (R613). -/
def State.noteLoss (s : State) (a : PAcc) : State :=
  let l := s.pool.lost.filter fun r => !sameHolder r a
  let l := if s.loops a then l ++ [⟨a.src, a.requester, a.pasid, a.addr / 64 * 64, s.now, true⟩] else l
  { s with pool := { s.pool with lost := l } }

/-- The holder's reservation cleared (R610). -/
def State.dropResv (s : State) (a : PAcc) : State :=
  let keep := s.pool.resv.filter fun r => !sameHolder r a
  { s with pool := { s.pool with resv := keep } }.wr ORD_STATUS_RESV_USED keep.length

/-- STORE_CONDITIONAL: stores the operand and returns 0 under an intact reservation, otherwise stores nothing and returns
1; a failure without a cause of R609 is allowed, by a free value, as often as R613 leaves it (R610, R612, R613, log entries 3 and 67). -/
def execStoreConditional (id : Nat) (s : State) : Host.Outcome State Fault Refusal :=
  match s.accOf id with
  | none => .next s
  | some a =>
    match a.op with
    | .atomic _ _ op1 _ => s.event (a.via == .sc && s.mayServe a) fun s =>
        let s := s.lineEcc a.addr .clean
        if s.chDown a.addr || s.poisoned a.addr then ((s.dropResv a).reply a 4 [] false).accDone a
        else
          let win := s.reserved a && (s.mustWin a || s.freeVal % 2 == 0)
          let s := ((s.noteLoss a).dropResv a).takeFree
          if win then ((s.atomicStore a.window a.addr 8 (op1 % 2 ^ 64)).reply a 0 (leBytes 8 0) false).accDone a
          else (s.reply a 0 (leBytes 8 1) false).accDone a
    | _ => .next s

/-- RESERVATION_EXPIRE: the oldest reservation reaches 8 µs (R609). -/
def execReservationExpire (s : State) : Host.Outcome State Fault Refusal :=
  match s.pool.resv with
  | [] => .next s
  | r :: t => .next (({ s.advTo (r.setAt + 8 * us) with pool := { s.pool with resv := t } }).wr ORD_STATUS_RESV_USED t.length)

/-! Barriers. -/

/-- A read of a barrier register by host `h` (R599, R600): kind 0 ORD_BAR_LOAD, 1 ORD_BAR_STORE, 2 ORD_BAR_FULL. It begins once the requests of
the host that wait at the checker have gone on; `n` is its place in the order of arrival. -/
def State.barrier (s : State) (n h kind requester tag tc bytes : Nat) : State :=
  if s.bridle.held.any fun b => match b.2 with
      | .pool k _ => k == h
      | .bar k _ _ _ _ _ => k == h
      | _ => false then
    s.holdAs n (.bar h kind requester tag tc bytes)
  else
    { s.bump SYS_ORDER with pool := { s.pool with barriers :=
        s.pool.barriers ++ [⟨h, kind, s.rd SYS_ORDER, requester, tag, false, tc, bytes⟩] } }

/-- ORD_BAR_LOAD (R600). -/
def execOrdBarLoad (h : Host) (requester : BitVec 16) (tag : BitVec 14) (s : State) : Host.Outcome State Fault Refusal :=
  .next (s.barrier (s.rd SYS_ORDER) h 0 requester.toNat tag.toNat 0 8)

/-- ORD_BAR_STORE (R600). -/
def execOrdBarStore (h : Host) (requester : BitVec 16) (tag : BitVec 14) (s : State) : Host.Outcome State Fault Refusal :=
  .next (s.barrier (s.rd SYS_ORDER) h 1 requester.toNat tag.toNat 0 8)

/-- ORD_BAR_FULL (R600). -/
def execOrdBarFull (h : Host) (requester : BitVec 16) (tag : BitVec 14) (s : State) : Host.Outcome State Fault Refusal :=
  .next (s.barrier (s.rd SYS_ORDER) h 2 requester.toNat tag.toNat 0 8)

/-- Every access that barrier `b` orders is performed or discarded (R600): earlier reads and AtomicOps, those to other nodes too, and earlier
stores, posted writes to ports and stores to other nodes. -/
def State.barrierMet (s : State) (b : Barrier) : Bool :=
  let mine := s.pool.queue.filter fun a => a.src == b.host && decide (a.seq < b.seq)
  let early := s.pool.waiting.filter fun a => a.src == b.host && decide (a.seq < b.seq)
  let loads := mine.isEmpty && (early.all fun a => match a.op with | .store _ => true | _ => false)
    && (s.outst.all fun o => o.store || o.kind != .node || o.src != b.host || o.quarantined || decide (b.seq ≤ o.seq))
  let stores := (mine.all fun a => match a.op with | .atomic .. => false | _ => true)
    && (early.all fun a => match a.op with | .read _ => true | _ => false)
    && (s.pool.wb.all fun e => e.src != b.host || decide (b.seq ≤ e.seq))
    && (s.switch.txq.all fun x => !s.postedFrom b.host x.tlp || decide (b.seq ≤ x.order))
    && (s.switch.wait.all fun w => !s.postedFrom b.host w.2 || decide (b.seq ≤ w.1))
    && (s.outst.all fun o => !o.store || o.src != b.host || decide (b.seq ≤ o.seq))
  if b.kind = 0 then loads else if b.kind = 1 then stores else loads && stores

/-- The barrier status word (R603): COMPLETE, the classes of discarded stores, DISCARDS and BAR_SEQ. -/
def State.barrierWord (s : State) (h : Nat) : Nat :=
  let n := s.rd (HOSTF_DISC_NODE h)
  let p := s.rd (HOSTF_DISC_PORT h)
  let c := s.rd (HOSTF_DISC_CH h)
  1 + 2 * b2n (decide (0 < n)) + 4 * b2n (decide (0 < p)) + 8 * b2n (decide (0 < c)) + min 65535 (n + p + c) * 2 ^ 16
    + s.rd (HOSTF_BARSEQ h) * 2 ^ 32

/-! Epoch closes. -/

/-- The counter of domain `d` set to `v`, in the retention SRAM and in the views of the granted hosts (R615). -/
def State.setEpoch (s : State) (d v : Nat) : State :=
  let s := (s.wr (DDX_EPOCH d) v).wr (ORD_DOM_EPOCH_LO_EPOCH d) v
  s.forN (fun h s => if bitSet (s.rd (ORD_EPOCH_STATUS_GRANTED h)) d then s.wr (ORD_EPOCH_VALUE_EPOCH h d) v
    else s.wr (ORD_EPOCH_VALUE_EPOCH h d) 0) 48

/-- The completion value (R619). -/
def closeValue (counter : Nat) (refused degraded : Bool) : Nat :=
  counter % 2 ^ 62 + b2n refused * 2 ^ 62 + b2n degraded * 2 ^ 63

/-- CLOSING of host `h` for domain `d` (R620). -/
def State.setClosing (s : State) (h d : Nat) (b : Bool) : State :=
  let v := s.rd (ORD_EPOCH_STATUS_CLOSING h)
  s.wr (ORD_EPOCH_STATUS_CLOSING h) (if b then setBit v d else clrBit v d)

/-- Host `h` waits for a close of domain `d` (R620). -/
def State.awaits (s : State) (h d : Nat) : Bool :=
  s.pool.closes.any fun c => c.dom == d && c.closers.any fun x => match x with
    | .host k _ _ => k == h
    | _ => false

/-- A further requester of a pending close; a host that asks again has one completion, with the MSI-X it asked for last (R620, log entry 68). -/
def addCloser (c : Closer) (l : List Closer) : List Closer :=
  match c with
  | .host h msix vec =>
    if l.any fun x => match x with | .host k _ _ => k == h | _ => false then
      l.map fun x => match x with
        | .host k m v => if k = h then (if msix then .host h true vec else .host h m v) else x
        | _ => x
    else l ++ [c]
  | _ => l ++ [c]

/-- A requester of a close receives its completion: a host its value, then its MSI-X (R619, R227); a command its status
(R634); a log the outcome of its batch (R662). -/
def State.tellCloser (s : State) (d v : Nat) (refused degraded : Bool) (c : Closer) : State :=
  match c with
  | .host h msix vec =>
    let s := (s.setClosing h d (s.awaits h d)).wakeHost h
    if s.hostOpen h || s.contained 2 h then
      let s := s.writeHost h (s.rd (ORD_EPOCH_CPL_BASE_BASE h) * 128 + 8 * d) v 8
      if msix then s.msix h vec else s
    else
      let s := match s.hostPort h with
        | some p => s.inc (PRT_BME_DISCARD_WRITE_DISCARD p)
        | none => s
      let s := s.recordNear 156 0x0A03 [(2, h)] 0 0 [h]
      if msix then s.msixPend h vec else s
  | .cmd c =>
    match s.late.find? fun l => l.opcode == 0x0608 && l.cmd == c && l.obj == d with
    | some l => s.finishLate l (if degraded then stDegraded else stOk) v
    | none => s
  | .log n b =>
    let l := updateAll (fun (a : Append) => a.log == n && a.batch == b && a.tail.isSome)
      (fun (a : Append) => { a with closed := some (degraded, refused, v % 2 ^ 62) }) s.pool.appends
    { s with pool := { s.pool with appends := l } }

/-- Records of logs whose batch a refused close did not commit: the next close that is not refused does (R663). -/
def State.uncommit (s : State) (l : List Closer) : State :=
  l.foldl (fun s c => match c with
    | .log n b => s.wr (LOGX_UNCOM n) (s.rd (LOGX_UNCOM n) + (s.pool.appends.filter fun a => a.log == n && a.batch == b && a.tail.isSome).length)
    | _ => s) s

/-- Every requester told. -/
def State.tellAll (s : State) (d v : Nat) (refused degraded : Bool) (l : List Closer) : State :=
  l.foldl (fun s c => s.tellCloser d v refused degraded c) s

/-- CLOSING and PENDING of domain `d` follow its closes. -/
def State.closeView (s : State) (d : Nat) : State :=
  (s.wr (ORD_DOM_STATUS_CLOSING d) (b2n (s.closeOf d).isSome)).wr (ORD_DOM_STATUS_PENDING d)
    (b2n (s.pool.closes.any fun c => c.dom == d && c.pending))

/-- A close of domain `d` is refused: the counter is unchanged, and DEGRADED and REFUSED are 1 (R633). -/
def State.refuseClose (s : State) (d : Nat) (l : List Closer) : State :=
  let s := (s.wrs [(ORD_EVENT_CLOSE_REFUSED, 1), (ORD_EVENT_CLOSE_DEGRADED, 1)]).log 156 0x0A01 0 (detG d (s.rd (DDX_EPOCH d)))
  (s.uncommit l).tellAll d (closeValue (s.rd (DDX_EPOCH d)) true true) true true l

/-- POLICY 1 refuses a close of domain `d` now (R633). -/
def State.refuses (s : State) (d : Nat) : Bool := s.on (ORD_DOM_STATUS_DEGRADED d) && s.rd (ORD_DOM_CFG_POLICY d) == 1

/-- `f` for every commit log of domain `d`. -/
def State.logsOf (s : State) (d : Nat) (f : State → Nat → State) : State :=
  (idxs 64 fun n => s.on (PEN_LOG_CFG_VALID n) && s.rd (PEN_LOG_CFG_DOMAIN n) == d).foldl f s

/-- A close of domain `d` starts for `l`, and commits what the headers stored so far name (R663, R664): refused at once under POLICY 1 while degraded, otherwise draining (R617,
R633). -/
def State.startClose (s : State) (d : Nat) (l : List Closer) : State :=
  if s.refuses d then s.refuseClose d l
  else
    let s := s.logsOf d fun s n => s.wr (LOGX_CUT n) (s.rd (LOGX_HDR n))
    State.closeView { s with pool := { s.pool with closes := s.pool.closes ++ [⟨d, false, 1, l, s.now, s.rd SYS_ORDER⟩] } } d

/-- The host among the requesters of a close marked as closing (R620). -/
def State.markCloser (s : State) (d : Nat) : Closer → State
  | .host h _ _ => s.setClosing h d true
  | _ => s

/-- A close of domain `d` requested: started, or merged into the pending close while another runs (R620, R664). -/
def State.requestClose (s : State) (d : Nat) (c : Closer) : State :=
  let s := s.markCloser d c
  if (s.closeOf d).isNone then s.startClose d [c]
  else if s.pool.closes.any fun x => x.dom == d && x.pending then
    let l := updateAll (fun x => x.dom == d && x.pending) (fun x => { x with closers := addCloser c x.closers }) s.pool.closes
    { s with pool := { s.pool with closes := l } }
  else State.closeView { s with pool := { s.pool with closes := s.pool.closes ++ [⟨d, true, 0, [c], s.now, 0⟩] } } d

/-- PENDING_CLOSE_START: the pending close of domain `d` starts when the running one ends (R620). -/
def State.startPending (s : State) (d : Nat) : State :=
  match s.pool.closes.find? fun c => c.dom == d && c.pending with
  | none => s.closeView d
  | some c =>
    let s := { s with pool := { s.pool with closes := removeFirst (fun x => x == c) s.pool.closes } }
    (s.startClose d c.closers).closeView d

/-- EPOCH_COUNTER_INCREMENT: the counter increments, the logs' batches are committed (R663, R664), held stores are released, and the completion values are written;
DEGRADED when the domain is degraded (R617 to R619, R633). -/
def State.finishClose (s : State) (c : Close) : State :=
  let d := c.dom
  let deg := s.on (ORD_DOM_STATUS_DEGRADED d)
  let took := min 65535 ((s.now - c.startAt) / us)
  let s := { s with pool := { s.pool with closes := removeFirst (fun x => x == c) s.pool.closes } }
  let s := (s.setEpoch d (s.rd (DDX_EPOCH d) + 1)).inc (ORD_DOM_CLOSES_CLOSES d)
  let s := s.logsOf d fun s n => (s.incBy (PEN_LOG_COUNT_APPENDS n) (s.rd (LOGX_UNCOM n))).wrs [(LOGX_PREV n, s.rd (LOGX_CUT n)), (LOGX_UNCOM n, 0)]
  let s := s.wrs [(ORD_DOM_TIME_LAST_US d, took), (ORD_DOM_TIME_MAX_US d, max took (s.rd (ORD_DOM_TIME_MAX_US d)))]
  let s := if deg then
      ((s.inc (ORD_DOM_CLOSES_DEGRADED_CLOSES d)).wr ORD_EVENT_CLOSE_DEGRADED 1).log 156 0x0A01 0 (detG d (s.rd (DDX_EPOCH d)))
    else s
  let s := s.release
  (s.tellAll d (closeValue (s.rd (DDX_EPOCH d)) false deg) false deg c.closers).startPending d

/-- ORD_EPOCH_CLOSE: a host's write, discarded and counted when the domain is not valid or not granted (R616, R617). -/
def execOrdEpochClose (h : Host) (d : Dom) (msix : Bool) (vec : BitVec 11) (s : State) : Host.Outcome State Fault Refusal :=
  .next (if s.on (ORD_DOM_CFG_VALID d) ∧ bitSet (s.rd (ORD_EPOCH_STATUS_GRANTED h)) d then
      s.requestClose d (.host h msix vec.toNat)
    else (s.inc (ORD_DOM_REJECT_CLOSE_REJECTED d)).wr ORD_EVENT_CLOSE_REJECTED 1)

/-- Nothing of the domain of close `c` is left in a write buffer, nor waits for one since before the close (R617 step 1, R618). -/
def State.drained (s : State) (c : Close) : Bool :=
  (s.pool.wb.all fun e => s.winDom e.window != some c.dom)
    && s.pool.waiting.all fun a => s.winDom a.window != some c.dom || !(match a.op with | .store _ => true | _ => false) || decide (c.seq ≤ a.seq)

/-- A running close ends refused: what it held is released, and the pending close starts (R620, R633). -/
def State.refuseRunning (s : State) (c : Close) : State :=
  let s := State.release { s with pool := { s.pool with closes := removeFirst (fun x => x == c) s.pool.closes } }
  (s.refuseClose c.dom c.closers).startPending c.dom

/-- EPOCH_DRAIN_DONE: the buffers hold nothing of the domain; a mirror IN_SYNC is sent the marker of the epoch, and
otherwise the counter increments; a domain that has become degraded under POLICY 1 refuses it (R617, R628, R633, log entry 68). A marker is a mirror queue entry with mask 0. -/
def execEpochDrainDone (d : Dom) (s : State) : Host.Outcome State Fault Refusal :=
  match s.closeOf d with
  | none => .next s
  | some c => s.event (c.stage == 1 && s.drained c) fun s =>
      if s.refuses d then s.refuseRunning c
      else if s.on (ORD_DOM_CFG_MIRRORED d) ∧ s.rd (ORD_DOM_STATUS_MIRROR_STATE d) = 2 then
        State.mirrorView { s with pool := { s.pool with
          closes := updateAll (fun x => x == c) (fun x => { x with stage := 2 }) s.pool.closes
          mirror := s.pool.mirror ++ [⟨s.rd (ORD_DOM_CFG_PEER_NODE d), d, 0, 0, s.rd (DDX_EPOCH d), false⟩] } }
      else s.finishClose c

/-- The mirror of domain `d` becomes BROKEN, also while or after a resync of it that has not completed (R629, R645, log entry 69): its queued copies are gone, and a close that waits for the peer goes
on degraded, or is refused under POLICY 1 (R30, R633). -/
def State.breakMirror (s : State) (d : Nat) : State :=
  if s.on (ORD_DOM_CFG_MIRRORED d) ∧ (s.rd (ORD_DOM_STATUS_MIRROR_STATE d) = 2
      ∨ s.rd (ORD_DOM_STATUS_MIRROR_STATE d) = 1 ∧ s.on (DDX_STARTED d)) then
    let s := ((s.wrs [(ORD_DOM_STATUS_MIRROR_STATE d, 3), (DDX_STARTED d, 0)]).wr ORD_EVENT_MIRROR_BROKEN 1).degView d
    let s := State.mirrorView { s with pool := { s.pool with mirror := s.pool.mirror.filter fun m => m.dom != d } }
    match s.closeOf d with
    | some c => if c.stage = 2 then (if s.refuses d then s.refuseRunning c else s.finishClose c) else s
    | none => s
  else s

/-- MIRROR_ACK_RECEIVED: the peer of domain `d` has acknowledged the marker (R628). -/
def execMirrorAckReceived (d : Dom) (s : State) : Host.Outcome State Fault Refusal :=
  .next (State.consumeKind (match s.closeOf d with
    | some c => if c.stage = 2 then s.finishClose c else s
    | none => s) 3)

/-- MIRROR_COPY_SEND: the mirror service sends the oldest entry toward peer `n`: a copy as KIND 2, or a close marker as
KIND 3, on MIRROR_TC (R624, R628, R667). -/
def execMirrorCopySend (n : Node) (s : State) : Host.Outcome State Fault Refusal :=
  match s.pool.mirror.find? fun m => m.peer == n.val with
  | none => .next s
  | some m =>
    let s := State.mirrorView { s with pool := { s.pool with mirror := removeFirst (fun x => x == m) s.pool.mirror } }
    let tc := s.rd (ORD_DOM_CFG_MIRROR_TC m.dom)
    .next ((if m.mask = 0 then s.sendNode n 0 tc 0 3 0 (s.rd (ORD_DOM_CFG_PEER_DOMAIN m.dom) + m.data * 16)
      else s.sendNode n 0 tc 0 2 64 (s.rd (ORD_DOM_CFG_PEER_DOMAIN m.dom) + b2n m.poison * 16
        + m.addr * 32 + m.mask * 2 ^ 69 + m.data * 2 ^ 133)).release)

/-- A copy for target domain `d` is rejected, counted and reported to node `n` (R626). -/
def State.rejectCopy (s : State) (n d : Nat) : State :=
  (s.inc (ORD_DOM_REJECT_MIRROR_REJECT d)).sendNode n 0 (s.rd (ORD_DOM_CFG_MIRROR_TC d)) 0 3 0 (d + 2 ^ 127)

/-- A copy that has arrived for the line at `a` of window `w`: it enters the node buffer, or waits for room in it, its credit withheld, or comes
after the drain point (R29, R583, R626). -/
def State.takeCopy (s : State) (w a mask data : Nat) (poison : Bool) : State :=
  if s.pastDrain then s.lateStore 60 a
  else s.submit ⟨0, 60, .plain, a, .store (leBytes 64 data), b2n poison, none, mask, w, 0, 0, 128⟩

/-- MIRROR_COPY_RECEIVED: an arriving copy of target domain `d` goes to the node buffer, or is discarded, counted and reported when its address
lies in no window of the domain (R583, R626). -/
def execMirrorCopyReceived (from_ : Node) (d : Dom) (line : BitVec 40) (mask : BitVec 64) (data : BitVec 512) (poison : Bool)
    (s : State) : Host.Outcome State Fault Refusal :=
  let a := line.toNat / 64 * 64
  .next (State.consumeAcc (match (s.windowAt a).filter fun w => s.winDom w == some d.val && s.on (ORD_DOM_CFG_MIRROR_TARGET d) with
    | some w => s.takeCopy w a mask.toNat data.toNat poison
    | none => s.rejectCopy from_ d) 2 (s.rd SYS_ORDER))

/-- The mirror copies that have arrived performed in their order, at most `n` (R626). -/
def State.performCopies (s : State) : Nat → State
  | 0 => s
  | n + 1 => match s.pool.wb.find? fun e => e.src == 60 with
    | some e => (s.performEntry e).performCopies n
    | none => s

/-- CLOSE_MARKER_RECEIVED: every earlier copy is performed; the counter of target domain `d` becomes N + 1, and the
acknowledgement goes back (R628). A marker for a domain that is no target is discarded: DESIGN CHOICE, log entry 75. -/
def execCloseMarkerReceived (from_ : Node) (d : Dom) (epoch : BitVec 62) (s : State) : Host.Outcome State Fault Refusal :=
  .next (State.consumeKind (if s.on (ORD_DOM_CFG_MIRROR_TARGET d) then
      ((s.performCopies (s.pool.wb.length + s.pool.waiting.length)).setEpoch d (epoch.toNat + 1)).sendNode from_ 0 (s.rd (ORD_DOM_CFG_MIRROR_TC d)) 0 3 0
        (s.rd (ORD_DOM_CFG_PEER_DOMAIN d) + 2 ^ 126 + epoch.toNat * 16)
    else s) 3)

/-! Channels and patrol. -/

/-- CHANNEL_FAILED: a command/address parity (cause 3) or write CRC (cause 4) error recurs after eight retries (R567,
R568). -/
def execChannelFailed (c : Chan) (crc : Bool) (s : State) : Host.Outcome State Fault Refusal :=
  s.event (s.rd (BAL_CH_STATUS_STATE c) == 2) fun s => s.failChannel c (if crc then 4 else 3)

/-- PATROL_STEP: a paced scrub read of the line at `a`, at which the pass stands, but for one of a FAILED channel; the pass goes on, and ends at the
last line (R563, R564, R566). Patrol runs in PS-RUN and PS-IDLE only. -/
def execPatrolStep (a : BitVec 40) (e : Ecc) (s : State) : Host.Outcome State Fault Refusal :=
  s.event (decide (a.toNat < s.poolC) && decide (s.rd PWR_STATUS_STATE ≤ 1) && !s.on PWR_STATUS_ENTERING && a.toNat / 64 == s.rd PATX_LINE) fun s =>
    let s := if s.chDown a.toNat then s else s.lineEcc (a.toNat / 64 * 64) e
    let n := a.toNat / 64 + 1
    if n = s.poolC / 64 then s.wrs [(PATX_LINE, 0), (BAL_SCRUB_PROGRESS, 0), (BAL_EVENT_SCRUB_PASS, 1)]
    else s.wrs [(PATX_LINE, n), (BAL_SCRUB_PROGRESS, n * 1024 / (s.poolC / 64))]

/-- POOL_INIT_DONE: the background initialisation completes (R561, R949). -/
def execPoolInitDone (s : State) : Host.Outcome State Fault Refusal :=
  s.event (s.on BAL_STATUS_INIT_BUSY) fun s => (s.wr BAL_STATUS_INIT_BUSY 0).wr BAL_EVENT_INIT_DONE 1

/-- ZQ_CALIBRATION: every 128 ms on an ACTIVE channel, without interrupting traffic (R560). -/
def execZqCalibration (c : Chan) (s : State) : Host.Outcome State Fault Refusal :=
  s.event (s.rd (BAL_CH_STATUS_STATE c) == 2) fun s => (s.advTo (s.rd (CALX_ZQ c) + 128 * ms)).wr (CALX_ZQ c) (max s.now (s.rd (CALX_ZQ c) + 128 * ms))

/-- DQS_ADJUST: every 10 ms on an ACTIVE channel (R560). -/
def execDqsAdjust (c : Chan) (s : State) : Host.Outcome State Fault Refusal :=
  s.event (s.rd (BAL_CH_STATUS_STATE c) == 2) fun s => (s.advTo (s.rd (CALX_DQS c) + 10 * ms)).wr (CALX_DQS c) (max s.now (s.rd (CALX_DQS c) + 10 * ms))

/-- DIMM_EVENT_HOT: EVENT_n reports a DIMM above 85 °C; the channel doubles its refresh rate and sets HOT (R560). -/
def execDimmEventHot (c : Chan) (s : State) : Host.Outcome State Fault Refusal :=
  s.event (s.rd (BAL_CH_STATUS_STATE c) == 2) fun s => s.wr (BAL_CH_STATUS_HOT c) 1

/-- DIMM_EVENT_RELEASE: EVENT_n is released, and refresh returns to normal (R560). -/
def execDimmEventRelease (c : Chan) (s : State) : Host.Outcome State Fault Refusal := .next (s.wr (BAL_CH_STATUS_HOT c) 0)

/-- A 64-bit value sampled into the fields of its LO and HI registers, and the LO half, which the read returns (R107, R636, R686, R850,
R895). -/
def State.latch (s : State) (lo hi : Fld) (v : Nat) : State × Nat := (s.wrs [(lo, v), (hi, v / 2 ^ 32)], v % 2 ^ 32)

/-- A read's value given to the reader. -/
def giveRead (x : State × Nat) : Host.Outcome State Fault Refusal := .next (x.1.emit (.readData x.2))

/-- A read of ORD_DOM_EPOCH_LO of domain `d` (R636). -/
def State.readEpochLo (s : State) (d : Nat) : State × Nat := s.latch (ORD_DOM_EPOCH_LO_EPOCH d) (ORD_DOM_EPOCH_HI_EPOCH d) (s.rd (DDX_EPOCH d))

/-- ORD_DOM_EPOCH_LO_READ: the read latches bits [63:32] of the same sample for HI (R636). -/
def execOrdDomEpochLoRead (d : Dom) (s : State) : Host.Outcome State Fault Refusal := giveRead (s.readEpochLo d)

/-- A write of GO to BAL_WIN_SEL takes a snapshot of the window it names (R572). -/
def execBalWinGo (v : BitVec 31) (s : State) : Host.Outcome State Fault Refusal :=
  let w := v.toNat % 4096
  .next (((s.wr BAL_WIN_SEL_WINDOW w).wrs [(BAL_WIN_STATUS_DONE, 0), (SNAPX_DUE, setBit (s.rd SNAPX_DUE) 4)]).snapshot winLayout (winAddr w) BAL_WIN_DATA_WORD 6)

end Sys2Proof.Machine
end

