-- ==== Sys2Proof/Machine/Sched.lean ====
section
/-! DEFINITION. Egress scheduling and shaping (chapter 10): shaping length, Reel shapers, gate lists with guard,
takeover and re-anchoring, and the SCHED commands. -/

namespace Sys2Proof.Machine

/-! Rates and lengths. -/

/-- Compare rate per lane in MB/s, by rate encoding and flit mode (R184, R327). -/
def laneRate (rate : Nat) (flit : Bool) : Nat :=
  if rate = 0 then (if flit then 230 else 250)
  else if rate = 1 then (if flit then 460 else 500)
  else if rate = 2 then (if flit then 907 else 984)
  else if rate = 3 then (if flit then 1815 else 1969)
  else if rate = 4 then (if flit then 3630 else 3938)
  else if rate = 5 then 7375
  else if rate = 9 then 3392
  else if rate = 10 then 6785
  else if rate = 11 then 13570
  else 0

/-- The compare rate of port `p` in MB/s: 0 unless it is in L0 or UP, at most 128,000 (R327, R328). -/
def State.compareRate (s : State) (p : Nat) : Nat :=
  if s.rd (PRT_CFG_MODE p) = 3 then
    if s.rd (PRT_CYT_STATUS_STATE p) = 7 then
      min 128000 (s.rd (PRT_CYT_STATUS_WIDTH p) * laneRate (s.rd (PRT_CYT_STATUS_RATE p)) false) else 0
  else if s.rd (PRT_LINK_STATUS_LTSSM p) = 3 then
    min 128000 (s.rd (PRT_LINK_STATUS_WIDTH p) * laneRate (s.rd (PRT_LINK_STATUS_RATE p)) (s.on (PRT_LINK_STATUS_FLIT_ACTIVE p)))
  else 0

/-- SWC_PORT_STATUS.RATE_MBPS and DEAD follow the link (R328, R350). -/
def State.linkView (s : State) (p : Nat) : State :=
  let dead := if s.rd (PRT_CFG_MODE p) = 3 then
      s.rd (PRT_CYT_STATUS_STATE p) != 7 && !s.on (PRT_CYT_STATUS_IN_GRACE p)
    else !s.on (PRT_LINK_STATUS_DL_ACTIVE p) || s.on (PRTX_DPC_STATUS p)
  (s.wr (SWC_PORT_STATUS_RATE_MBPS p) (s.compareRate p)).wr (SWC_PORT_STATUS_DEAD p) (b2n dead)

/-- The overhead of port `p` in the mode in which it runs (R467, R468). -/
def State.overhead (s : State) (p : Nat) : Nat :=
  if s.rd (PRT_CFG_MODE p) = 3 then s.rd (SCH_PORT_CFG_OVERHEAD_CY p)
  else if s.on (PRT_LINK_STATUS_FLIT_ACTIVE p) then s.rd (SCH_PORT_CFG_OVERHEAD_F p)
  else s.rd (SCH_PORT_CFG_OVERHEAD_NF p)

/-! Reel shapers. -/

/-- The start, in ns, of the first 8 ns slot at or after a time in 2^-19 ns (R494). -/
def slotStart (e : Nat) : Nat := ceilDiv e (8 * 524288) * 8

/-- A shaper is eligible when the time has reached its slot (R494). -/
def State.shaperDue (s : State) (i : Nat) : Bool := decide (slotStart (s.rd (SHPX_E i)) ≤ s.now)

/-- The shaper entered in the wheel: in level 0 when its slot lies within that level's 32.768 µs, else in level 1 (R498, R499). -/
def State.enterWheel (s : State) (i : Nat) : State :=
  (s.wr (SHPX_LEVEL i) (b2n (decide (s.now / 8 * 8 + 32768 ≤ slotStart (s.rd (SHPX_E i)))))).wr (SHP_ELIGIBLE i) (b2n (s.shaperDue i))

/-- Shapers whose level-1 slot has come due move to their level-0 slots (R498). -/
def State.turnWheel (s : State) : State :=
  (idxs 4096 fun i => s.on (SHPX_LEVEL i) && decide (slotStart (s.rd (SHPX_E i)) / 32768 * 32768 ≤ s.now)).foldl (fun s i => s.wr (SHPX_LEVEL i) 0) s

/-- A shaper charged `len` bytes now: E becomes the larger of E and the lag bound, plus len × INTERVAL (R495). -/
def State.charge (s : State) (i len : Nat) : State :=
  let t := s.now * 524288
  let e := max (s.rd (SHPX_E i)) (t - s.rd (SHP_BURST i) * 64 * s.rd (SHP_INTERVAL i)) + len * s.rd (SHP_INTERVAL i)
  (s.wr (SHPX_E i) e).enterWheel i

/-- The traffic a shaper meters becomes newly active: E becomes the larger of E and the present time (R496). -/
def State.newlyActive (s : State) (i : Nat) : State :=
  ((s.wr (SHPX_E i) (max (s.rd (SHPX_E i)) (s.now * 524288))).wr (SHP_ACTIVE i) 1).enterWheel i

/-- The shaper that meters what an engine issues for a gondola (R488). -/
def State.issuerShaper (s : State) : Issuer → Option Nat
  | .g g => if s.on (GND_SHAPER_VALID g) then some (s.rd (GND_SHAPER g)) else none
  | _ => none

/-- The next item of an issuer waits at the engine's issue point: the state in which its shaper is active, and whether it may issue the item
(R488, R496, R649). -/
def State.itemPasses (s : State) (i : Issuer) : State × Bool :=
  match s.issuerShaper i with
  | none => (s, true)
  | some k =>
    let s := if s.on (SHP_ACTIVE k) then s else s.newlyActive k
    (s, s.shaperDue k)

/-- An item of `n` stored bytes issued: charged to its gondola's shaper (R490). -/
def State.payItem (s : State) (i : Issuer) (n : Nat) : State :=
  match s.issuerShaper i with
  | none => s
  | some k => if n = 0 then s else s.charge k n

/-- The overhead of the port that leads to host `h` (R490). -/
def State.hostOverhead (s : State) (h : Nat) : Nat :=
  match s.hostPort h with
  | some p => s.overhead p
  | none => 0

/-- INTERVAL of a rate in Mb/s, in 2^-19 ns per byte, rounded (R492). -/
def shaperInterval (rate : Nat) : Nat := (2 * (8000 * 524288) + rate) / (2 * rate)

/-- A shaper allotted with E at the present time (R491 to R493). -/
def State.allotShaper (s : State) (i kind port tc gond rate burst : Nat) : State :=
  (s.wrs [(SHP_VALID i, 1), (SHP_KIND i, kind), (SHP_PORT i, port), (SHP_TC i, tc), (SHP_GONDOLA i, gond),
    (SHP_INTERVAL i, shaperInterval rate), (SHP_BURST i, burst), (SHPX_RATE i, rate), (SHPX_E i, s.now * 524288), (SHP_ELIGIBLE i, 1)]).bump
    SCH_STATUS_SHAPERS_USED

/-- A shaper freed. -/
def State.freeShaper (s : State) (i : Nat) : State :=
  ((s.clearRange (shpAddr i) 32).wrs [(SHPX_E i, 0), (SHPX_RATE i, 0), (SHPX_LEVEL i, 0)]).dec SCH_STATUS_SHAPERS_USED

/-- The lowest free shaper (R491). -/
def State.spareShaper (s : State) : Option Nat := findFrom (fun i => !s.on (SHP_VALID i)) 0 4096

/-- A wheel slot comes due, and where it starts a level-1 slot that slot's shapers move to level 0 (R498): up to 48 waiting shapers, lowest number first, become eligible; each one beyond that is
counted in LATE_ELIG and becomes eligible in the following slot (R500). -/
def execReelWheelSlot (s : State) : Host.Outcome State Fault Refusal :=
  let s := (s.advTo (s.now / 8 * 8 + 8)).turnWheel
  let due := idxs 4096 fun i => s.on (SHP_VALID i) && !s.on (SHP_ELIGIBLE i) && !s.on (SHPX_LEVEL i) && s.shaperDue i
  let s := (due.take 48).foldl (fun s i => s.wr (SHP_ELIGIBLE i) 1) s
  let late := (due.drop 48).length
  .next (if late = 0 then s else (s.incBy SCH_LATE_COUNT_LATE_ELIG late).wr SCH_EVENT_LATE_ELIG 1)

/-! Gate lists. -/

/-- Entry `e` of port `p` in a copy of the gate tables: copy 0 active, 1 pending, 2 staged. -/
def gateIdx (copy p e : Nat) : Nat := 8192 * copy + 64 * p + e

/-- Cycle time of the first `n` entries of a copy, in 8 ns units (R470). -/
def State.gateCycle (s : State) (copy p : Nat) : Nat → Nat
  | 0 => 0
  | n + 1 => s.gateCycle copy p n + s.rd (GATE_DURATION (gateIdx copy p n))

/-- The OR of the OPEN masks of the first `n` entries of a copy (R470). -/
def State.gateOpenAll (s : State) (copy p : Nat) : Nat → Nat
  | 0 => 0
  | n + 1 => s.gateOpenAll copy p n ||| s.rd (GATE_OPEN (gateIdx copy p n))

/-- A staged or pending list of `n` entries keeps R470. -/
def State.gateListOk (s : State) (copy p n : Nat) : Bool :=
  decide (1 ≤ n) && decide (n ≤ 64)
    && (idxs n fun e => decide (s.rd (GATE_DURATION (gateIdx copy p e)) < 8)).isEmpty
    && decide (s.gateCycle copy p n ≤ 125000000) && s.gateOpenAll copy p n == 255

/-- The gate time of port `p`: fabric time without a step that its list has not yet taken (R483). -/
def State.gateTime (s : State) (p : Nat) : Nat := (s.ft + 2 ^ 64 - s.rd (SCHX_OFFS p)) % 2 ^ 64

/-- The entry that contains position `pos` (ns) of the active list, and the position at which it ends. -/
def State.entryAt (s : State) (p pos : Nat) (e acc : Nat) : Nat → Nat × Nat
  | 0 => (e, acc)
  | n + 1 =>
    let fin := acc + 8 * s.rd (GATE_DURATION (gateIdx 0 p e))
    if pos < fin then (e, fin) else s.entryAt p pos (e + 1) fin n

/-- The wait timers of the heads of class `t` of port `p`, paused since the time noted, go on (R342). -/
def State.resumeHeads (s : State) (p t : Nat) : State :=
  let from_ := s.rd (DRRX_SHUT_AT p t)
  let l := updateAll (fun (x : QTlp) => x.queue / 3 == 8 * p + t) (fun x => { x with headSince := x.headSince + (s.now - max x.headSince from_) }) s.switch.txq
  { s with switch := { s.switch with txq := l } }

/-- The wait timers of the heads of tether `p` pause: its grace period starts (R342). -/
def State.pauseHeads (s : State) (p : Nat) : State :=
  s.forN (fun t s => s.when (bitSet (s.rd (SCH_GATE_STATUS_OPEN p)) t) fun s => s.wr (DRRX_SHUT_AT p t) s.now) 8

/-- The grace period of tether `p` ends, and the wait timers of the heads whose gates are open go on (R342). -/
def State.endGrace (s : State) (p : Nat) : State :=
  let s := s.when (s.on (PRT_CYT_STATUS_IN_GRACE p)) fun s =>
    s.forN (fun t s => s.when (bitSet (s.rd (SCH_GATE_STATUS_OPEN p)) t) fun s => s.resumeHeads p t) 8
  s.wrs [(CYTX_GRACE_END p, 0), (PRT_CYT_STATUS_IN_GRACE p, 0)]

/-- The gates of port `p` become `mask` (R473): a class whose gate opens starts an open interval, and the wait timers
of its heads resume; a class whose gate closes pauses them (R342). -/
def State.setGates (s : State) (p mask : Nat) : State :=
  let old := s.rd (SCH_GATE_STATUS_OPEN p)
  let grace := s.on (PRT_CYT_STATUS_IN_GRACE p)
  let s := s.forN (fun t s =>
    if bitSet mask t ∧ ¬ bitSet old t then ((s.wr (DRRX_OPEN_AT p t) s.now).resumeHeads p t).when grace fun s => s.wr (DRRX_SHUT_AT p t) s.now
    else if ¬ bitSet mask t ∧ bitSet old t ∧ ¬ grace then s.wr (DRRX_SHUT_AT p t) s.now
    else s) 8
  s.wr (SCH_GATE_STATUS_OPEN p) mask

/-- The active list of port `p` placed at gate time `tb` (R472). -/
def State.placeList (s : State) (p tb : Nat) : State :=
  let c := 8 * s.gateCycle 0 p (s.rd (SCHX_LEN p))
  let pos := (tb + 2 ^ 64 - s.rd (SCHX_BASE p)) % 2 ^ 64 % c
  let e := s.entryAt p pos 0 0 (s.rd (SCHX_LEN p))
  let s := s.wrs [(SCH_GATE_STATUS_ENTRY p, e.1), (SCHX_ENT_END p, tb + (e.2 - pos)), (SCHX_CYC_END p, tb + (c - pos)),
    (SCH_GATE_CYCLE_CYCLE p, c / 8), (SCH_GATE_STATUS_LIST_VALID p, 1)]
  s.setGates p (s.rd (GATE_OPEN (gateIdx 0 p e.1)))

/-- Copies the gate entries of port `p` from one copy of the tables to another; entries from `n` on are not valid. -/
def State.copyGates (s : State) (src dst p n : Nat) : State :=
  s.forN (fun e s => s.wrs [
    (GATE_DURATION (gateIdx dst p e), if e < n then s.rd (GATE_DURATION (gateIdx src p e)) else 0),
    (GATE_OPEN (gateIdx dst p e), if e < n then s.rd (GATE_OPEN (gateIdx src p e)) else 0),
    (GATE_VALID (gateIdx dst p e), if e < n then 1 else 0)]) 64

/-- Port `p` without an active list: every gate is open (R471). -/
def State.noList (s : State) (p : Nat) : State :=
  let s := (s.copyGates 0 0 p 0).wrs [(SCH_GATE_STATUS_LIST_VALID p, 0), (SCH_GATE_STATUS_ENTRY p, 0),
    (SCH_GATE_CYCLE_CYCLE p, 0), (SCHX_LEN p, 0), (SCHX_BASE p, 0)]
  s.setGates p 255

/-- The takeover time of the pending list of port `p`. -/
def State.takeoverTime (s : State) (p : Nat) : Nat :=
  s.rd (SCH_GATE_TAKEOVER_LO_T_LO p) + 2 ^ 32 * s.rd (SCH_GATE_TAKEOVER_HI_T_HI p)

/-- The pending list of port `p` is gone; its entries and times read zero. -/
def State.clearPending (s : State) (p : Nat) : State :=
  (s.copyGates 1 1 p 0).wrs [(SCH_GATE_STATUS_PENDING p, 0), (SCH_GATE_TAKEOVER_LO_T_LO p, 0),
    (SCH_GATE_TAKEOVER_HI_T_HI p, 0), (SCHX_PLEN p, 0), (SCHX_PCLEAR p, 0), (SCHX_ARMOP p, 0), (SCHX_WRITTEN p, 0)]

/-- TAKEOVER at gate time `tb`: the pending list becomes active with base T, or every gate opens for the empty list, and
SCHED_GATE_ARM posts OK (R480, R482). -/
def State.takeover (s : State) (p tb : Nat) : State :=
  let t := s.takeoverTime p
  let h := s.rd (SCHX_ARMOP p)
  let s := if s.on (SCHX_PCLEAR p) then s.noList p
    else
      let n := s.rd (SCHX_PLEN p)
      ((s.copyGates 1 0 p n).wrs [(SCHX_LEN p, n), (SCHX_BASE p, t)]).placeList p tb
  ((s.clearPending p).wr SCH_EVENT_TAKEOVER 1).finishOp h stOk 0

/-- The clock at the time when fabric time reaches `t`. -/
def State.advFt (s : State) (t : Nat) : State :=
  s.advTo (s.now + ceilDiv ((t - s.ft) * 4294967296 - s.clk.ftFrac.toNat) s.clk.ftInc)

/-- The clock when port `p`'s gate time reaches `t`. -/
def State.advGate (s : State) (p t : Nat) : State := s.advFt ((t + s.rd (SCHX_OFFS p)) % 2 ^ 64)

/-- STEP_PENDING clears when every active list has taken the step (R485). -/
def State.stepSettled (s : State) : State :=
  if (idxs 128 fun p => s.on (SCH_GATE_STATUS_REANCHOR_PENDING p)).isEmpty then s.wr MGT_FT_STATUS_STEP_PENDING 0 else s

/-- An entry boundary of port `p`'s active list: the next entry is in force (R473). -/
def execGateEntryBoundary (p : Port) (s : State) : Host.Outcome State Fault Refusal :=
  let e := s.rd (SCH_GATE_STATUS_ENTRY p) + 1
  s.event (s.on (SCH_GATE_STATUS_LIST_VALID p) && decide (e < s.rd (SCHX_LEN p))) fun s =>
    let fin := s.rd (SCHX_ENT_END p)
    let s := s.advGate p fin
    ((s.wr (SCH_GATE_STATUS_ENTRY p) e).wr (SCHX_ENT_END p) (fin + 8 * s.rd (GATE_DURATION (gateIdx 0 p e)))).setGates p
      (s.rd (GATE_OPEN (gateIdx 0 p e)))

/-- REANCHOR: at its cycle boundary the list's gate time takes the stepped count (R483), and the count that an edge of FT_PPS has aligned
(R100). -/
def State.reanchor (s : State) (p : Nat) : State :=
  if s.on (SCH_GATE_STATUS_REANCHOR_PENDING p) then
    ((s.wrs [(SCHX_OFFS p, 0), (SCH_GATE_STATUS_REANCHOR_PENDING p, 0), (SCH_EVENT_REANCHOR, 1)])).stepSettled
  else s.wr (SCHX_OFFS p) 0

/-- A cycle boundary of port `p`'s active list, or the takeover time of a pending list when none is active: a step is
taken, a due takeover happens, and otherwise the list goes on at the position of the gate time (R480, R483 to R486); after an alignment
to FT_PPS a full cycle begins, its first entry shorter or longer by it (R100). -/
def execGateCycleBoundary (p : Port) (s : State) : Host.Outcome State Fault Refusal :=
  if s.on (SCH_GATE_STATUS_LIST_VALID p) then
    let b := s.rd (SCHX_CYC_END p)
    let off := if s.on (SCH_GATE_STATUS_REANCHOR_PENDING p) then s.rd (SCHX_OFFS p) else 0
    let s := (s.advGate p b).reanchor p
    let tb := (b + off) % 2 ^ 64
    .next (if s.on (SCH_GATE_STATUS_PENDING p) ∧ s.takeoverTime p ≤ tb then s.takeover p tb else s.placeList p tb)
  else s.event (s.on (SCH_GATE_STATUS_PENDING p)) fun s =>
    let s := s.advFt (s.takeoverTime p)
    s.takeover p s.ft

/-- How long, in ns of gate time, the gate of class `t` stays open from gate time `g` in entry `e`, over at most `n`
further entries across the cycle boundary (R474). -/
def State.openFor (s : State) (p t e : Nat) : Nat → Nat
  | 0 => 0
  | n + 1 =>
    if bitSet (s.rd (GATE_OPEN (gateIdx 0 p e))) t then
      8 * s.rd (GATE_DURATION (gateIdx 0 p e)) + s.openFor p t (if e + 1 < s.rd (SCHX_LEN p) then e + 1 else 0) n
    else 0

/-- The time until the gate of class `t` of port `p` next closes, up to one cycle and up to a pending takeover
(R474). -/
def State.untilClose (s : State) (p t : Nat) : Nat :=
  let g := s.gateTime p
  let e := s.rd (SCH_GATE_STATUS_ENTRY p)
  let rest := min (8 * s.rd (SCH_GATE_CYCLE_CYCLE p))
    (s.rd (SCHX_ENT_END p) - g + s.openFor p t (if e + 1 < s.rd (SCHX_LEN p) then e + 1 else 0) (s.rd (SCHX_LEN p)))
  if s.on (SCH_GATE_STATUS_PENDING p) then min rest (s.takeoverTime p - g) else rest

/-- Time in ns to send `len` bytes at the port's compare rate, rounded up. -/
def State.sendTime (s : State) (p len : Nat) : Nat := ceilDiv (len * 1000) (s.compareRate p)

/-- The guard's answer for a head of shaping length `len` of class `t` (R474, R475): 0 may start, 1 held, 2 may start and
runs past the close, because it does not fit in the whole open interval that starts now. -/
def State.guardSays (s : State) (p t len : Nat) : Nat :=
  if !s.on (SCH_GATE_STATUS_LIST_VALID p) || !s.on (SCH_PORT_CFG_GUARD p) then 0
  else if s.sendTime p len ≤ s.untilClose p t then 0
  else if s.rd (DRRX_OPEN_AT p t) = s.now then 2
  else 1

/-! SCHED commands. -/

/-- The bits that SCHED_GATE_WRITE's `n` entries occupy. -/
def gateEntryBits : Nat → List (Nat × Nat)
  | 0 => []
  | n + 1 => (64 + 64 * n, 27) :: (96 + 64 * n, 8) :: gateEntryBits n

/-- Writes `n` entries of the staged list from the command, the first at index `first`. -/
def State.stageGates (s : State) (c : Cmd) (p first : Nat) : Nat → State
  | 0 => s
  | n + 1 =>
    (s.stageGates c p first n).wrs [
      (GATE_DURATION (gateIdx 2 p (first + n)), parBits c (64 + 64 * n) 27),
      (GATE_OPEN (gateIdx 2 p (first + n)), parBits c (96 + 64 * n) 8), (GATE_VALID (gateIdx 2 p (first + n)), 1)]

/-- SCHED_GATE_WRITE (R470, R479, R725): BUSY while the staged list is armed. -/
def execSchedGateWrite (c : Cmd) (s : State) : Host.Outcome State Fault Refusal :=
  let p := parBytes c 0 1
  let len := parBytes c 1 1
  let first := parBytes c 2 1
  let n := parBytes c 3 1
  .next (s.command 0x0501 onlyM
    (cleanCmd c ((0, 8) :: (8, 8) :: (16, 8) :: (24, 8) :: gateEntryBits (min n 5)) false && decide (p < 128)
      && decide (1 ≤ len) && decide (len ≤ 64) && decide (1 ≤ n) && decide (n ≤ 5) && decide (first + n ≤ len))
    (fun _ => firstFail
      [((idxs n fun k => decide (parBits c (64 + 64 * k) 27 < 8)).isEmpty == false, stBadParam),
       (s.on (SCH_GATE_STATUS_PENDING p), stBusy)]
      (.ok 0 (((s.stageGates c p first n).wr (SCHX_SLEN p) len).wr (SCHX_WRITTEN p)
        (s.rd (SCHX_WRITTEN p) ||| ((2 ^ n - 1) * 2 ^ first))))) c)

/-- Every staged entry below the staged length of port `p` has been written since the last arm or cancel (R725). -/
def State.stagedWhole (s : State) (p : Nat) : Bool :=
  s.rd (SCHX_WRITTEN p) &&& (2 ^ s.rd (SCHX_SLEN p) - 1) == 2 ^ s.rd (SCHX_SLEN p) - 1

/-- The state with a list pending on port `p` for time `t` (R479, R482). -/
def State.armList (s : State) (p t : Nat) (clear : Bool) : State :=
  let s := if clear then s else s.copyGates 2 1 p (s.rd (SCHX_SLEN p))
  s.wrs [(SCH_GATE_STATUS_PENDING p, 1), (SCH_GATE_TAKEOVER_LO_T_LO p, t), (SCH_GATE_TAKEOVER_HI_T_HI p, t / 2 ^ 32),
    (SCHX_PLEN p, if clear then 0 else s.rd (SCHX_SLEN p)), (SCHX_PCLEAR p, b2n clear), (SCHX_WRITTEN p, 0),
    (SCHX_ARMOP p, s.nextHandle)]

/-- A takeover that is due at once, when no list is active and T has come (R480). -/
def State.takeoverAtOnce (s : State) (p : Nat) : State :=
  if s.on (SCH_GATE_STATUS_PENDING p) ∧ ¬ s.on (SCH_GATE_STATUS_LIST_VALID p) ∧ s.takeoverTime p ≤ s.ft then
    s.takeover p s.ft else s

/-- SCHED_GATE_ARM, a long operation that ends at takeover (R15, R470, R478 to R482, R725). -/
def execSchedGateArm (c : Cmd) (s : State) : Host.Outcome State Fault Refusal :=
  let p := parBytes c 0 1
  let t := parBytes c 8 8
  let cyc := 8 * s.rd (SCH_GATE_CYCLE_CYCLE p)
  .next ((s.command 0x0502 onlyM (cleanCmd c [(0, 8), (64, 64)] true && decide (p < 128))
    (fun _ => firstFail
      [(decide (t < s.ft), stBadParam),
       (!opFlag c && !s.gateListOk 2 p (s.rd (SCHX_SLEN p)), stBadParam),
       (s.on (SCH_GATE_STATUS_LIST_VALID p) && (t + 2 ^ 64 - s.rd (SCHX_BASE p)) % 2 ^ 64 % cyc != 0, stBadParam),
       (s.on (SCH_GATE_STATUS_PENDING p), stBusy),
       (!opFlag c && !s.stagedWhole p, stBadParam)]
      (.long 0 1 0 p (s.armList p t (opFlag c)))) c).takeoverAtOnce p)

/-- A list that the flash configuration has staged on port `p` becomes active at once, with base 0 (R470, R481). -/
def State.startList (s : State) (p : Nat) : State :=
  let n := s.rd (SCHX_SLEN p)
  if s.rd (SCHX_WRITTEN p) ≠ 0 ∧ s.gateListOk 2 p n = true ∧ s.stagedWhole p = true then
    ((s.copyGates 2 0 p n).wrs [(SCHX_LEN p, n), (SCHX_BASE p, 0), (SCHX_WRITTEN p, 0)]).placeList p (s.gateTime p)
  else s

/-- The pending arm of port `p` ends with status `st`, and the pending list is discarded (R725). -/
def State.dropArm (s : State) (p st : Nat) : State :=
  let h := s.rd (SCHX_ARMOP p)
  (s.clearPending p).finishOp h st 0

/-- SCHED_GATE_CANCEL: the pending list is discarded and the pending arm ends CANCELLED (R725). -/
def execSchedGateCancel (c : Cmd) (s : State) : Host.Outcome State Fault Refusal :=
  let p := parBytes c 0 1
  .next (s.command 0x0503 onlyM (cleanCmd c [(0, 8)] false && decide (p < 128))
    (fun _ => if s.on (SCH_GATE_STATUS_PENDING p) then .ok 0 (s.dropArm p stCancelled) else .fail stBadParam) c)

/-- The shaper attached to port `p` (kind 2) or to its class `t` (kind 1) (R489). -/
def State.attached (s : State) (kind p t : Nat) : Option Nat :=
  if kind = 2 then (if s.on (SCH_PORT_SHAPER_VALID p) then some (s.rd (SCH_PORT_SHAPER_SHAPER p)) else none)
  else if s.on (SCH_TC_CFG_VALID p t) then some (s.rd (SCH_TC_CFG_SHAPER p t)) else none

/-- The attachment fields of a class or port follow the shaper (R488). -/
def State.attach (s : State) (kind p t i valid : Nat) : State :=
  if kind = 2 then (s.wr (SCH_PORT_SHAPER_SHAPER p) i).wr (SCH_PORT_SHAPER_VALID p) valid
  else (s.wr (SCH_TC_CFG_SHAPER p t) i).wr (SCH_TC_CFG_VALID p t) valid

/-- SCHED_SHAPER_SET (R488 to R493, R743): allots a shaper, changes the rate and burst of one, or frees one. -/
def execSchedShaperSet (c : Cmd) (s : State) : Host.Outcome State Fault Refusal :=
  let i := parBytes c 0 2
  let kind := parBytes c 2 1
  let p := parBytes c 3 1
  let t := parBytes c 4 1
  let rate := parBytes c 8 4
  let burst := parBytes c 12 2
  .next (s.command 0x0504 onlyM
    (cleanCmd c [(0, 16), (16, 8), (24, 8), (32, 8), (64, 32), (96, 16)] true
      && (decide (i < 4096) || (i == 0xFFFF && !opFlag c && kind != 3)) && decide (1 ≤ kind) && decide (kind ≤ 3)
      && decide (p < 128) && decide (t < 8) && (opFlag c || decide (1 ≤ rate) && decide (rate ≤ 512000)))
    (fun _ =>
      if opFlag c then
        firstFail
          [(!s.on (SHP_VALID i), stBadParam), (s.rd (SHP_KIND i) == 3, stNotPermitted)]
          (.ok i ((s.attach (s.rd (SHP_KIND i)) (s.rd (SHP_PORT i)) (s.rd (SHP_TC i)) 0 0).freeShaper i))
      else if i < 4096 ∧ s.on (SHP_VALID i) then
        if s.rd (SHP_KIND i) = kind ∧ (kind = 3 ∨ s.rd (SHP_PORT i) = p ∧ (kind = 2 ∨ s.rd (SHP_TC i) = t)) then
          .ok i ((s.wr (SHP_INTERVAL i) (shaperInterval rate)).wrs [(SHP_BURST i, burst), (SHPX_RATE i, rate)])
        else .fail stBadParam
      else if kind = 3 then .fail stBadParam
      else firstFail [((s.attached kind p t).isSome, stOverlap)]
        (match if i < 4096 then some i else s.spareShaper with
         | none => .fail stNoResource
         | some j => .ok j ((s.allotShaper j kind p (if kind = 1 then t else 0) 0 rate burst).attach kind p t j 1))) c)

/-- SCHED_TC_SET (R464, R468). -/
def execSchedTcSet (c : Cmd) (s : State) : Host.Outcome State Fault Refusal :=
  let p := parBytes c 0 1
  .next (s.command 0x0505 onlyM
    (cleanCmd c [(0, 8), (8, 8), (16, 1), (24, 7), (32, 7), (40, 7), (64, 128)] false && decide (p < 128)
      && (idxs 8 fun t => decide (parBytes c (8 + 2 * t) 2 < 64)).isEmpty)
    (fun _ =>
      let s := s.wrs [(SCH_TC_MODE_STRICT p, parBytes c 1 1), (SCH_PORT_CFG_GUARD p, parBits c 16 1),
        (SCH_PORT_CFG_OVERHEAD_NF p, parBytes c 3 1), (SCH_PORT_CFG_OVERHEAD_F p, parBytes c 4 1),
        (SCH_PORT_CFG_OVERHEAD_CY p, parBytes c 5 1)]
      .ok 0 (s.forN (fun t s => s.wr (SCH_TC_CFG_QUANTUM p t) (parBytes c (8 + 2 * t) 2)) 8)) c)

/-- The value of ALPHA, k + 4, that a signed byte k from −4 to +3 gives; 8 for a byte out of range (R320). -/
def alphaOf (b : Nat) : Nat := if b < 4 then b + 4 else if 252 ≤ b then b - 252 else 8

/-- SCHED_ALPHA_SET (R320, R321): no queued TLP is discarded. -/
def execSchedAlphaSet (c : Cmd) (s : State) : Host.Outcome State Fault Refusal :=
  let p := parBytes c 0 1
  .next (s.command 0x0506 onlyM
    (cleanCmd c [(0, 8), (64, 192)] false && decide (p < 128)
      && (idxs 24 fun q => alphaOf (parBytes c (8 + q) 1) == 8).isEmpty)
    (fun _ => .ok 0 (s.forN (fun q s => s.wr (SWC_QUEUE_ALPHA (24 * p + q)) (alphaOf (parBytes c (8 + q) 1))) 24)) c)

/-- A write of GO to SCH_IND_SEL takes a snapshot of a gate entry or a shaper; a reserved table reads zero and sets
BAD_INDEX (R725 and SCH_IND_SEL). -/
def execSchIndGo (v : BitVec 31) (s : State) : Host.Outcome State Fault Refusal :=
  let t := v.toNat % 4
  let i := v.toNat / 4 % 8192
  let s := s.wrs [(SCH_IND_SEL_TABLE, t), (SCH_IND_SEL_INDEX, i), (SCH_IND_STATUS_DONE, 0), (SNAPX_DUE, setBit (s.rd SNAPX_DUE) 2)]
  let bad := t = 3 ∨ (t = 2 ∧ 4096 ≤ i)
  .next (if bad then (s.forN (fun k s => s.wr (SCH_IND_DATA_WORD k) 0) 4).wr SCH_IND_STATUS_BAD_INDEX 1
    else
      let s := s.wr SCH_IND_STATUS_BAD_INDEX 0
      if t = 2 then s.snapshot shpLayout (shpAddr i) SCH_IND_DATA_WORD 4
      else s.snapshot gateLayout (gateAddr (8192 * t + i)) SCH_IND_DATA_WORD 4)

end Sys2Proof.Machine
end

