-- ==== Sys2Proof/Machine/Lanes.lean ====
section
/-! DEFINITION. Lanes (chapter 04): ownership, PLLs, tap requests, Windsock events and test access. -/

namespace Sys2Proof.Machine

/-- Lanes of port `p`, from its lowest (R144, R185). -/
def State.portLanes (s : State) (p : Nat) : List Nat :=
  (List.range (2 ^ s.rd (PRT_CFG_WIDTH p))).map fun i => 16 * (p / 8) + s.rd (PRT_CFG_FIRST_OFFSET p) + i

/-- The port that owns lane `l`. -/
def State.ownerOf (s : State) (l : Nat) : Option Nat :=
  if s.on (LAN_STATUS_OWNED l) then some (s.rd (LAN_STATUS_OWNER_PORT l)) else none

/-- The link of port `p` is in electrical idle or without signal, or a tether is down (R175). A tether counts as down in DISABLED, DETECT,
FAILED and LEFT, and not in ALIGN to RETRAIN: DESIGN CHOICE, log entry 61. -/
def State.quiet (s : State) (p : Nat) : Bool :=
  if s.rd (PRT_CFG_MODE p) = 3 then
    s.cyState p == cyDisabled || s.cyState p == cyDetect || s.cyState p == cyFailed || s.cyState p == cyLeft
  else (s.rd (PRT_LINK_STATUS_LTSSM p) == 0 || s.rd (PRT_LINK_STATUS_LTSSM p) == 5 || s.rd (PRT_LINK_STATUS_LTSSM p) == 6
    || s.rd (PRT_LINK_STATUS_LTSSM p) == 7 || s.rd (PRT_LINK_STATUS_LTSSM p) == 8)

/-- Windsock events of lane `l` are masked by the state of its port, or for want of one (R175). -/
def State.quietMask (s : State) (l : Nat) : Bool := match s.ownerOf l with
  | some p => s.quiet p
  | none => !s.on (LAN_CFG_TEST_EN l)

/-- Windsock events of lane `l` are masked (R175). -/
def State.wsMasked (s : State) (l : Nat) : Bool :=
  (s.rd (LANX_RATE_AT l) != 0 && decide (s.now < s.rd (LANX_RATE_AT l) - 1 + 10 * us)) || s.quietMask l

/-- LAN_WS_LOS_TIME of lane `l` comes up to now: the whole microseconds in LOS since it was last brought up, but for those that were masked; the
mask that holds from now on is noted (R175, R184). It runs before the mask of a lane changes. -/
def State.losTick (s : State) (l : Nat) : State :=
  let start := max (s.rd (LANX_LOS_AT l)) (if s.rd (LANX_RATE_AT l) = 0 then 0 else s.rd (LANX_RATE_AT l) - 1 + 10 * us)
  let runs := s.on (LAN_STATUS_LOS l) && !s.on (LANX_QUIET l)
  let k := if runs then (s.now - start) / us else 0
  (s.incBy (LAN_WS_LOS_TIME_LOS_TIME l) k).wrs [(LANX_LOS_AT l, if runs then start + k * us else s.now), (LANX_QUIET l, b2n (s.quietMask l))]

/-- Lane `l` uses a PLL of its group: PLL_C for the Cytrum rates, PLL_P for the others (R142, R147). The lanes of a PCI Express port use it in
every state of the link, and those of a tether in every state but DISABLED and LEFT: DESIGN CHOICE, log entry 61. -/
def State.usesPll (s : State) (l : Nat) (cyt : Bool) : Bool :=
  match s.ownerOf l with
  | some p => s.on (LAN_STATUS_CYTRUM l) == cyt && (!cyt || !(s.cyState p == cyDisabled || s.cyState p == cyLeft))
  | none => s.on (LAN_CFG_TEST_EN l) && decide (8 ≤ s.rd (LAN_CFG_TEST_RATE l)) == cyt

/-- The PLLs and the power of lane group `g` follow its lanes (R147, R180): with the group's domain off, those in test alone (R773). A PLL locks
while the group's reference is there (R153, R154). -/
def State.groupPlls (s : State) (g : Nat) (dom : Bool) : State :=
  let ls := ((List.range 16).map fun i => 16 * g + i).filter fun l => dom || !s.on (LAN_STATUS_OWNED l)
  let ref := bitSet (s.rd GLB_CLK_STATUS_CLKREF_DET) g
  let pOn := ls.any fun l => s.usesPll l false
  let cOn := ls.any fun l => s.usesPll l true
  s.wrs [(LAN_GRP_STATUS_PLL_P_ON g, b2n pOn), (LAN_GRP_STATUS_PLL_P_LOCK g, b2n (pOn && ref)),
    (LAN_GRP_STATUS_PLL_C_ON g, b2n cOn), (LAN_GRP_STATUS_PLL_C_LOCK g, b2n (cOn && ref)),
    (LAN_GRP_STATUS_GRP_POWERED g, b2n (ls.any fun l => s.on (LAN_STATUS_OWNED l) || s.on (LAN_CFG_TEST_EN l)))]

/-- The same with the group's domain on; a read of LAN_GRP_STATUS looks at the domain. -/
def State.groupView (s : State) (g : Nat) : State := s.groupPlls g true

/-- The rate of lane `l` becomes `r` (R184); a change masks its Windsock events for 10 µs (R175). -/
def State.setRate (s : State) (l r : Nat) : State :=
  if s.rd (LAN_STATUS_RATE l) = r then s else ((s.losTick l).wr (LAN_STATUS_RATE l) r).wr (LANX_RATE_AT l) (s.now + 1)

/-- Lane `l` lies beyond the trained width `w` of its port, and does not run. -/
def State.beyondWidth (s : State) (l w : Nat) : Bool := decide (w ≤ s.rd (LAN_STATUS_LOGICAL_LANE l))

/-- Rate and power of lane `l` of port `p`, from its link (LAN_STATUS.RATE and PWR). A lane of a PCI Express port in Recovery reads 0b10 and one of a
tether in RETRAIN 0b01; a lane without signal reads 0b01 but in DISABLED and LEFT, whose lanes are off: DESIGN CHOICE, log entry 61. -/
def State.lanePower (s : State) (p l : Nat) : Nat × Nat :=
  if s.rd (PRT_CFG_MODE p) = 3 then
    let st := s.cyState p
    if st = cyDisabled ∨ st = cyLeft then (15, 0)
    else if st = cyFailed then (15, 1)
    else if cyEq ≤ st ∧ st ≤ cyUp ∧ s.beyondWidth l (s.rd (PRT_CYT_STATUS_WIDTH p)) then (15, 1)
    else (s.rd (PRT_CYT_STATUS_RATE p), if st = cyUp then 2 else 1)
  else
    let st := s.rd (PRT_LINK_STATUS_LTSSM p)
    if st = 0 ∨ st = 7 ∨ st = 8 then (15, 1)
    else if 3 ≤ st ∧ st ≤ 6 ∧ s.beyondWidth l (s.rd (PRT_LINK_STATUS_WIDTH p)) then (15, 1)
    else (s.rd (PRT_LINK_STATUS_RATE p), if st = 3 ∨ st = 4 then 2 else if st = 5 ∨ st = 6 then 3 else 1)

/-- LAN_STATUS of the lanes of port `p` follows its link. -/
def State.laneView (s : State) (p : Nat) : State :=
  ((s.portLanes p).foldl (fun s l =>
    let x := s.lanePower p l
    let s := ((s.losTick l).setRate l x.1).wr (LAN_STATUS_PWR l) x.2
    s.wr (LAN_STATUS_WS_MASKED l) (b2n (s.wsMasked l))) s).groupView (p / 8)

/-- The polarity controls of lane `l` take effect: training starts, or no port owns the lane (R171). -/
def State.takePolarity (s : State) (l : Nat) : State :=
  s.wrs [(LANX_TXINV l, s.rd (LAN_CFG_TX_INVERT l)), (LANX_RXFORCE l, s.rd (LAN_CFG_RX_INVERT_FORCE l)),
    (LAN_STATUS_RX_INVERTED l, s.rd (LAN_CFG_RX_INVERT_FORCE l))]

/-- The errors that a locked PRBS checker has counted on data from outside, a free number, stand in LAN_PRBS_ERR (R182). Log entry 3. -/
def State.prbsCount (s : State) (l : Nat) : State :=
  if s.on (LAN_PRBS_STATUS_CHK_LOCK l) ∧ s.rd (LAN_CFG_LOOPBACK l) ≠ 1 then
    s.takeFree.wr (LAN_PRBS_ERR_ERR_COUNT l) (min (2 ^ 32 - 1) (s.rd (LAN_PRBS_ERR_ERR_COUNT l) + s.freeVal))
  else s

/-- Port `p` takes its lanes; a lane in test leaves it (R181). -/
def State.takeLanes (s : State) (p : Nat) : State :=
  let cyt := s.rd (PRT_CFG_MODE p) == 3
  ((s.portLanes p).foldl (fun s l => ((s.losTick l).prbsCount l).wrs [(LAN_STATUS_OWNED l, 1), (LAN_STATUS_OWNER_PORT l, p), (LAN_STATUS_CYTRUM l, b2n cyt),
    (LAN_STATUS_CLK_INDEP l, s.rd (PRT_CFG_CLK_INDEP p)), (LAN_STATUS_LOGICAL_LANE l, l - 16 * (p / 8) - s.rd (PRT_CFG_FIRST_OFFSET p)),
    (LAN_STATUS_REVERSED l, 0), (LAN_STATUS_RX_INVERTED l, 0), (LAN_CFG_TEST_EN l, 0), (LAN_CFG_TEST_RATE l, 0), (LAN_CFG_LOOPBACK l, 0),
    (LAN_PRBS_CFG_PATTERN l, 0), (LAN_PRBS_CFG_GEN_EN l, 0), (LAN_PRBS_CFG_CHK_EN l, 0), (LAN_PRBS_STATUS_CHK_LOCK l, 0)]) s).laneView p

/-- What equalisation has adapted on lane `l`, free values in the ranges of LAN_RX_ADAPT (R155 to R166). Log entry 3. -/
def State.adapted (s : State) (l : Nat) : State :=
  s.takeFree.wrs [(LAN_RX_ADAPT_CTLE_BOOST l, s.freeVal % 21), (LAN_RX_ADAPT_EYE_HEIGHT l, s.freeVal / 32), (LAN_RX_ADAPT_EYE_WIDTH l, s.freeVal / 8192)]

/-- Port `p` gives up its lanes. PWR of a lane that no port owns and that is not in test reads 0b00, in a powered group too: DESIGN CHOICE, log
entry 61. -/
def State.dropLanes (s : State) (p : Nat) : State :=
  ((s.portLanes p).foldl (fun s l => (((s.losTick l).setRate l 15).wrs [(LAN_STATUS_OWNED l, 0), (LAN_STATUS_OWNER_PORT l, 0),
    (LAN_STATUS_CYTRUM l, 0), (LAN_STATUS_CLK_INDEP l, 0), (LAN_STATUS_LOGICAL_LANE l, 0), (LAN_STATUS_REVERSED l, 0),
    (LAN_STATUS_PWR l, 0), (LAN_STATUS_WS_MASKED l, 1), (LANX_QUIET l, 1)]).takePolarity l) s).groupView (p / 8)

/-! Equalisation of PCI Express lanes (R155, R156). -/

/-- FS and LF of the transmitters (R155). -/
def eqFs : Nat := 63
/-- LF. -/
def eqLf : Nat := 20

/-- The taps that a request of the far end asks of lane `l` at rate code `r`: a preset, whose taps the PCI Express standard gives, or the
magnitudes of c(−2), c(−1) and c(+1). Log entry 62. -/
def askedTaps (e : LaneEq) (r : Nat) : Nat × Nat × Nat :=
  match e.coef with
  | some x => (x.1.toNat, x.2.1.toNat, x.2.2.toNat)
  | none => Config.pcieTaps r e.preset.val

/-- The rules of the standard for a set of taps, which FS and LF parameterise: c(−1) is at most a quarter of FS, and the main tap exceeds c(−1)
and c(+1) together by LF; c(−2) exists at 64 GT/s alone (R155). -/
def eqLegal (r : Nat) (x : Nat × Nat × Nat) : Bool :=
  decide (4 * x.2.1 ≤ eqFs) && decide (x.1 + x.2.1 + x.2.2 + eqLf + x.2.1 + x.2.2 ≤ eqFs) && (r == 5 || x.1 == 0)

/-- Lane `l` equalises at rate code `r` of 8 GT/s or more: the last legal request stands in LAN_TX_COEF, one that is not legal leaves the taps
as they are, and LAN_EQ_STATUS counts the requests. FS and LF are advertised (R155, R184). -/
def State.equalise (s : State) (l r : Nat) (e : LaneEq) : State :=
  let x := askedTaps e r
  let s := if eqLegal r x then
      s.wrs [(LAN_TX_COEF_C_PRE2 l, x.1), (LAN_TX_COEF_C_PRE1 l, (64 - x.2.1) % 64), (LAN_TX_COEF_C_MAIN l, eqFs - (x.1 + x.2.1 + x.2.2)),
        (LAN_TX_COEF_C_POST1 l, (64 - x.2.2) % 64), (LAN_TX_COEF_C_POST2 l, 0), (LAN_EQ_STATUS_LAST_PRESET l, e.preset.val)]
    else s
  (s.emit (.block l 0x101 (eqFs + 64 * eqLf))).wrs [(LAN_EQ_STATUS_REQ_COUNT l, e.requests.toNat), (LAN_EQ_STATUS_EQ_DONE l, 1)]

/-- Lane `l` runs at 2.5 or 5 GT/s: its taps are those of the de-emphasis that the standard selects, and nothing is equalised (R156). -/
def State.deEmphasis (s : State) (l r : Nat) : State :=
  let x := Config.pcieTaps r 0
  s.wrs [(LAN_TX_COEF_C_PRE2 l, x.1), (LAN_TX_COEF_C_PRE1 l, (64 - x.2.1) % 64), (LAN_TX_COEF_C_MAIN l, eqFs - (x.1 + x.2.1 + x.2.2)),
    (LAN_TX_COEF_C_POST1 l, (64 - x.2.2) % 64), (LAN_TX_COEF_C_POST2 l, 0), (LAN_EQ_STATUS_LAST_PRESET l, 0), (LAN_EQ_STATUS_REQ_COUNT l, 0),
    (LAN_EQ_STATUS_EQ_DONE l, 0)]

/-! Tap requests. -/

/-- Magnitudes of the taps c(−2), c(−1), c(+1) and c(+2) of a Cytrum transmitter (R158, R159). -/
structure Taps where
  m2 : Nat
  m1 : Nat
  p1 : Nat
  p2 : Nat
  deriving DecidableEq, Repr

/-- The main tap (R158). -/
def Taps.main (t : Taps) : Nat := 64 - (t.m2 + t.m1 + t.p1 + t.p2)

/-- The taps of the presets P0 to P7 and Q0 to Q4, numbered 0 to 12 as TRAIN byte 17 numbers them (R160, R250). -/
def presetTaps : Nat → Taps
  | 1 => ⟨0, 0, 8, 0⟩
  | 2 => ⟨0, 0, 16, 0⟩
  | 3 => ⟨0, 4, 8, 0⟩
  | 4 => ⟨0, 8, 8, 0⟩
  | 5 => ⟨0, 8, 16, 0⟩
  | 6 => ⟨0, 4, 0, 0⟩
  | 7 => ⟨0, 12, 8, 0⟩
  | 9 => ⟨0, 4, 8, 0⟩
  | 10 => ⟨2, 8, 8, 0⟩
  | 11 => ⟨2, 10, 8, 2⟩
  | 12 => ⟨4, 12, 10, 2⟩
  | _ => ⟨0, 0, 0, 0⟩

/-- The taps that LAN_TX_COEF holds; only c(−2) is positive beside c(0) (R159). -/
def State.taps (s : State) (l : Nat) : Taps :=
  ⟨s.rd (LAN_TX_COEF_C_PRE2 l), (64 - s.rd (LAN_TX_COEF_C_PRE1 l)) % 64, (64 - s.rd (LAN_TX_COEF_C_POST1 l)) % 64,
    (64 - s.rd (LAN_TX_COEF_C_POST2 l)) % 64⟩

/-- LAN_TX_COEF holds the taps `t`, in two's complement. -/
def State.setTaps (s : State) (l : Nat) (t : Taps) : State :=
  s.wrs [(LAN_TX_COEF_C_PRE2 l, t.m2), (LAN_TX_COEF_C_PRE1 l, (64 - t.m1) % 64), (LAN_TX_COEF_C_MAIN l, t.main),
    (LAN_TX_COEF_C_POST1 l, (64 - t.p1) % 64), (LAN_TX_COEF_C_POST2 l, (64 - t.p2) % 64)]

/-- Lane `l` starts a rate step at preset `n` (R161). -/
def State.startPreset (s : State) (l n : Nat) : State :=
  (s.setTaps l (presetTaps n)).wrs [(LAN_EQ_STATUS_LAST_PRESET l, n), (LAN_EQ_STATUS_REQ_COUNT l, 0), (LAN_EQ_STATUS_EQ_DONE l, 0),
    (LANX_REQ l, 0), (LANX_REQ_N l, 0), (LANX_FIN l, 0)]

/-- The receiver of lane `l` goes on equalising in a TRAIN block of EQ: it issues a new request under a new number, of which a rate step has at
most 4,096, or it has finished, or neither. What it asks is its own choice, a free value (R163, R166, R250). Log entry 3. -/
def State.askTaps (s : State) (l : Nat) : State :=
  let f := s.freeVal
  let pam4 := s.rd (LAN_STATUS_RATE l) == 11
  let s := s.takeFree
  let ask := fun (s : State) (v : Nat) =>
    s.wrs [(LANX_REQ l, v), (LANX_REQ_NO l, s.rd (LANX_REQ_NO l) + 1), (LANX_REQ_N l, s.rd (LANX_REQ_N l) + 1)]
  let far := if pam4 then f / 4 % 3 else 0
  let far2 := if pam4 then f / 108 % 3 else 0
  if s.on (LANX_FIN l) ∨ 4096 ≤ s.rd (LANX_REQ_N l) ∨ f % 4 = 0 then s
  else if f % 4 = 1 then ask s (1 + 4 * (if pam4 then 8 + f / 4 % 5 else f / 4 % 8))
  else if f % 4 = 2 then ask s (2 + 64 * (far + 4 * (f / 12 % 3) + 16 * (f / 36 % 3) + 64 * far2))
  else s.wr (LANX_FIN l) 1

/-- One action on a tap of magnitude `m` with largest magnitude `hi`, `room` saying that c(0) may fall (R158, R162): the
new magnitude and the answer 0 NOT_UPDATED, 1 UPDATED, 2 AT_MAX or 3 AT_MIN. Action 1 is INC, 2 DEC. An INC refused because c(0) would fall
below 32 is answered AT_MAX: DESIGN CHOICE, log entry 61. -/
def tapAct (m hi : Nat) (room : Bool) (a : Nat) : Nat × Nat :=
  if a = 1 then (if m < hi ∧ room = true then (m + 1, 1) else (m, 2))
  else if a = 2 then (if 0 < m then (m - 1, 1) else (m, 3))
  else (m, 0)

/-- The four actions of a request, from the lowest tap index (R162), with the answers. -/
def tapActs (t : Taps) (pam4 : Bool) (a0 a1 a2 a3 : Nat) : Taps × List Nat :=
  let h2 := if pam4 then 6 else 0
  let x := tapAct t.m2 h2 (decide (32 < t.main)) a0
  let t := { t with m2 := x.1 }
  let y := tapAct t.m1 16 (decide (32 < t.main)) a1
  let t := { t with m1 := y.1 }
  let z := tapAct t.p1 16 (decide (32 < t.main)) a2
  let t := { t with p1 := z.1 }
  let w := tapAct t.p2 h2 (decide (32 < t.main)) a3
  ({ t with p2 := w.1 }, [x.2, y.2, z.2, w.2])

/-- TAP_REQUEST: a tap or preset request on a lane of a tether is applied and answered in the next TRAIN block; outside
EQ it is ignored, as is one whose request number has been answered already (R162 to R165, R250). An accepted NRZ preset answers UPDATED for the absent taps c(−2) and c(+2) too: DESIGN CHOICE, log entry
61. -/
def execTapRequest (l : Lane) (no : BitVec 8) (preset : Option (Fin 16)) (a0 a1 a2 a3 : Fin 3) (s : State) : Host.Outcome State Fault Refusal :=
  let inEq := match s.ownerOf l with
    | some p => s.on (LAN_STATUS_CYTRUM l) && s.cyState p == cyEq && !(s.on (LANX_TAP_SEEN l) && s.rd (LANX_TAP_NO l) == no.toNat)
    | none => false
  s.event inEq fun s =>
    let pam4 := s.rd (LAN_STATUS_RATE l) == 11
    let s := s.inc (LAN_EQ_STATUS_REQ_COUNT l)
    let r := match preset with
      | some n =>
        if (if pam4 then decide (8 ≤ n.val) && decide (n.val ≤ 12) else decide (n.val < 8)) then
          (((s.setTaps l (presetTaps n)).wr (LAN_EQ_STATUS_LAST_PRESET l) n), [1, 1, 1, 1])
        else (s, [0, 0, 0, 0])
      | none =>
        let x : Taps × List Nat := tapActs (s.taps l) pam4 a0 a1 a2 a3
        (s.setTaps l x.1, x.2)
    let t := if r.2.any fun v => decide (2 ≤ v) then r.1.wr (LAN_EQ_STATUS_AT_LIMIT l) 1 else r.1
    t.wrs [(LANX_TAP_RSP l, r.2.foldr (fun v n => v + 4 * n) 0), (LANX_TAP_NO l, no.toNat), (LANX_TAP_SEEN l, 1)]

/-! Windsock. -/

/-- Unmasked events of lane `l` in the last second (R178). -/
def State.laneEvents (s : State) (l : Nat) : Nat := (recent s.mgmt.edges l s.now sec).length

/-- The port that owns a lane, as a domain (R509). -/
def State.laneDoms (s : State) (l : Nat) : List (Nat × Nat) :=
  (s.ownerOf l).toList.map fun p => (1, p)

/-- An unmasked LOS or LOL assertion of lane `l`: its bit, its counter and one record, unless the lane is in FLAP, the
records are off, or the other asserted within the same 1 µs (R176); FLAP at FLAP_LIMIT events in 1 s (R178). The one record of an LOS and
an LOL is that of the first, with the levels of its moment: DESIGN CHOICE, log entry 61. -/
def State.wsEvent (s : State) (l : Nat) (los : Bool) : State :=
  let s := if los then (s.wr (LAN_WS_STATUS_LOS_EVENT l) 1).inc (LAN_WS_COUNT_LOS_COUNT l)
    else (s.wr (LAN_WS_STATUS_LOL_EVENT l) 1).inc (LAN_WS_COUNT_LOL_COUNT l)
  let s := { s with mgmt := { s.mgmt with
    edges := (s.mgmt.edges.filter fun (x : Nat × Nat) => x.1 != l || decide (s.now < x.2 + sec)) ++ [(l, s.now)] } }
  let paired := s.rd (LANX_REC_AT l) != 0 && decide (s.now ≤ s.rd (LANX_REC_AT l) - 1 + us)
  let det := detW l (s.rd (LAN_STATUS_LOS l)) (s.rd (LAN_STATUS_LOL l)) (s.laneEvents l)
  let s := if !s.on (LAN_WS_STATUS_FLAP l) && s.on (LAN_WS_CFG_WS_REC_EN l) && !paired then
      s.recordNear (128 + l / 16) (if los then 0x0101 else 0x0102) (s.laneDoms l) (l % 16) det [] else s
  let s := s.wr (LANX_REC_AT l) (s.now + 1)
  let lim := s.rd (LAN_WS_CFG_FLAP_LIMIT l)
  if 0 < lim ∧ lim ≤ s.laneEvents l ∧ ¬ s.on (LAN_WS_STATUS_FLAP l) then
    (s.wr (LAN_WS_STATUS_FLAP l) 1).recordNear (128 + l / 16) 0x0103 (s.laneDoms l) (l % 16) det []
  else s

/-- LOS_DEASSERT: LOS deasserts; the time in unmasked LOS is added (R172, R174). -/
def execLosDeassert (l : Lane) (s : State) : Host.Outcome State Fault Refusal :=
  s.event (s.on (LAN_STATUS_LOS l)) fun s => (s.losTick l).wr (LAN_STATUS_LOS l) 0

/-- The place of lane `l` in the span of port `p`. -/
def State.laneIndex (s : State) (p l : Nat) : Nat := l - 16 * (p / 8) - s.rd (PRT_CFG_FIRST_OFFSET p)

/-- The receiver of lane `l` holds block lock, where its port is a tether (R240). -/
def State.holdsLock (s : State) (l : Nat) : Bool := match s.ownerOf l with
  | some p => !s.on (LAN_STATUS_CYTRUM l) || bitSet (s.rd (CYTX_LOCKED p)) (s.laneIndex p l)
  | none => true

/-- LOL asserts on lane `l` (R173); an unmasked assertion is an event (R176). -/
def State.lolAssert (s : State) (l : Nat) : State :=
  if s.on (LAN_STATUS_LOL l) then s
  else
    let s := s.wr (LAN_STATUS_LOL l) 1
    if s.wsMasked l then s else s.wsEvent l false

/-- LOL_DEASSERT: lock has held for 10 µs (R173). -/
def execLolDeassert (l : Lane) (s : State) : Host.Outcome State Fault Refusal :=
  s.event (s.holdsLock l) fun s => s.wr (LAN_STATUS_LOL l) 0

/-- FLAP_REARM: a write of 1 to FLAP clears it and re-arms the lane (R178). -/
def State.rearmFlap (s : State) (l : Nat) : State :=
  { s.wr (LAN_WS_STATUS_FLAP l) 0 with mgmt := { s.mgmt with edges := s.mgmt.edges.filter fun x => x.1 != l } }

/-- FLAP_REARM (R178). -/
def execFlapRearm (l : Lane) (s : State) : Host.Outcome State Fault Refusal := .next (s.rearmFlap l)

/-! Test access. -/

/-- The rates that TEST_RATE may name (R142, R184): a reserved value leaves TEST_EN at 0, and 112.5 Gb/s exists in groups
0 to 7 only. -/
def testRateOk (l r : Nat) : Bool := decide (r ≤ 5) || (decide (8 ≤ r) && decide (r ≤ 10)) || (r == 11 && decide (l < 128))

/-- TEST_EN_WRITE: a write of LAN_CFG. On an owned lane the test controls are ignored and read 0, and the polarity
controls wait for the next training; on an unowned lane they act at once and power the PLL (R171, R179, R180, R182). A lane in test reads
PWR 0b01: DESIGN CHOICE, log entry 61. -/
def State.writeLanCfg (s : State) (l v : Nat) : State :=
  let s := s.wrs [(LAN_CFG_TX_INVERT l, bit v 5), (LAN_CFG_RX_INVERT_FORCE l, bit v 6)]
  if s.on (LAN_STATUS_OWNED l) then s
  else
    let en := bitSet v 0 && testRateOk l (bits v 1 4)
    let s := (s.takePolarity l).prbsCount l
    let s := s.wrs [(LAN_CFG_TEST_EN l, b2n en), (LAN_CFG_TEST_RATE l, bits v 1 4), (LAN_CFG_LOOPBACK l, bits v 8 2), (LAN_STATUS_PWR l, b2n en)]
    let s := s.losTick l
    let s := (s.setRate l (if en then bits v 1 4 else 15)).when (!en) fun s => s.wr (LAN_PRBS_STATUS_CHK_LOCK l) 0
    let s := s.wr (LAN_STATUS_WS_MASKED l) (b2n (s.wsMasked l))
    s.groupView (l / 16)

/-- TEST_EN_WRITE (R180). -/
def execTestEnWrite (l : Lane) (v : BitVec 32) (s : State) : Host.Outcome State Fault Refusal := .next (s.writeLanCfg l v.toNat)

/-- A write of LAN_PRBS_CFG, but for INJECT: ignored on an owned lane (R179); clearing CHK_EN ends the checker's lock
(R182). -/
def State.writePrbsCfg (s : State) (l v : Nat) : State :=
  if s.on (LAN_STATUS_OWNED l) then s
  else
    let s := s.wrs [(LAN_PRBS_CFG_PATTERN l, bits v 0 4), (LAN_PRBS_CFG_GEN_EN l, bit v 4), (LAN_PRBS_CFG_CHK_EN l, bit v 5)]
    if bitSet v 5 then s else (s.prbsCount l).wr (LAN_PRBS_STATUS_CHK_LOCK l) 0

/-- A Q pattern runs at PAM4 rates only. -/
def State.patternRuns (s : State) (l : Nat) : Bool :=
  let p := s.rd (LAN_PRBS_CFG_PATTERN l)
  let pam4 := s.rd (LAN_CFG_TEST_RATE l) == 5 || s.rd (LAN_CFG_TEST_RATE l) == 11
  decide (p ≤ 4) || p == 7 || ((p == 5 || p == 6) && pam4)

/-- PRBS_INJECT: on a lane in test one transmitted bit is inverted (R179); a locked checker behind the near-end loopback
counts it (R182). -/
def execPrbsInject (l : Lane) (s : State) : Host.Outcome State Fault Refusal :=
  s.event (!s.on (LAN_STATUS_OWNED l) && s.on (LAN_CFG_TEST_EN l) && s.on (LAN_PRBS_CFG_GEN_EN l) && s.patternRuns l) fun s =>
    let s := s.emit (.block l 0x100 1)
    if s.rd (LAN_CFG_LOOPBACK l) = 1 ∧ s.on (LAN_PRBS_STATUS_CHK_LOCK l) then s.inc (LAN_PRBS_ERR_ERR_COUNT l) else s

/-- PRBS_CHECKER_LOCK: 64 consecutive error-free words (R182). -/
def execPrbsCheckerLock (l : Lane) (s : State) : Host.Outcome State Fault Refusal :=
  s.event (!s.on (LAN_STATUS_OWNED l) && s.on (LAN_CFG_TEST_EN l) && s.on (LAN_PRBS_CFG_CHK_EN l) && s.patternRuns l) fun s =>
    s.wr (LAN_PRBS_STATUS_CHK_LOCK l) 1

end Sys2Proof.Machine
end

