-- ==== Sys2Proof/Machine/Wake.lean ====
section
/-! DEFINITION. Wakes (R782, R785 to R787, R792), and what the arrival of a TLP does in PS-IDLE and PS-SLEEP (R779, R781, R786). States are
numbered as in PWR_STATUS. -/

namespace Sys2Proof.Machine

/-- Sources of a wake (PWR_LAST_WAKE). -/
def wakeCold : Nat := 0
/-- A tether. -/
def wakeTether : Nat := 3
/-- A command over SMBus. -/
def wakeSmbus : Nat := 4
/-- A slot input. -/
def wakeSlot : Nat := 5
/-- The Lift pack. -/
def wakeLift : Nat := 6
/-- A slot channel fault. -/
def wakeFault : Nat := 7
/-- A fabric time step. -/
def wakeTime : Nat := 8
/-- WAKE_IN. -/
def wakePin : Nat := 9
/-- Feed return after a mooring. -/
def wakeFeed : Nat := 10
/-- RESET_N. -/
def wakeReset : Nat := 11
/-- The debug access port. -/
def wakeDebug : Nat := 12

/-- PWR_LAST_WAKE with the fabric time of the event (R792). -/
def State.lastWake (s : State) (src from_ idx : Nat) : State :=
  s.wrs [(PWR_LAST_WAKE_SOURCE, src), (PWR_LAST_WAKE_FROM_STATE, from_), (PWR_LAST_WAKE_INDEX, idx),
    (PWR_LAST_WAKE_TIME_LO_TIME, s.ft % 2 ^ 32), (PWR_LAST_WAKE_TIME_HI_TIME, s.ft / 2 ^ 32)]

/-- Every channel in state `a` enters state `b`: 2 ACTIVE, 3 self-refresh. -/
def State.channelsTo (s : State) (a b : Nat) : State :=
  s.forN (fun c s => if s.rd (BAL_CH_STATUS_STATE c) = a then s.wr (BAL_CH_STATUS_STATE c) b else s) 8

/-- A wake event: it ends PS-SLEEP, or abandons an entry that runs, and is no event in any other state (R782, R785, R786). -/
def State.wake (s : State) (src idx : Nat) : State :=
  if s.rd PWR_STATUS_STATE = 2 then
    ((s.wrs [(PWR_STATUS_STATE, 0), (PWR_EVENT_WAKE, 1)]).channelsTo 3 2).lastWake src 2 idx
  else if s.on PWR_STATUS_ENTERING then
    (((s.wrs [(PWR_STATUS_STATE, 0), (PWR_STATUS_ENTERING, 0), (PWR_EVENT_ABANDONED, 1)]).inc PWR_COUNT_ABANDONS).channelsTo 3 2).lastWake
      src 2 idx
  else s

/-- A link in L0s or L1 returns to L0. -/
def State.aspmLeave (s : State) (p : Nat) : State :=
  if (s.rd (PRT_CFG_MODE p) = 1 ∨ s.rd (PRT_CFG_MODE p) = 2) ∧ (s.rd (PRT_LINK_STATUS_LTSSM p) = 5 ∨ s.rd (PRT_LINK_STATUS_LTSSM p) = 6) then
    (s.wrs [(PRT_LINK_STATUS_LTSSM p, 3), (PRT_LINK_STATUS_DEEP_LEVEL p, 0)]).laneView p
  else s

/-- Work arrives in PS-IDLE: the part returns to PS-RUN, and its links to L0 (R779). -/
def State.exitIdle (s : State) : State :=
  if s.rd PWR_STATUS_STATE = 1 then (s.wr PWR_STATUS_STATE 0).forN (fun p s => s.aspmLeave p) 128 else s

/-- The part is neither idle nor asleep, nor on its way to sleep: what arrives finds it as it is. -/
def State.awake (s : State) : Bool :=
  s.rd PWR_STATUS_STATE != 1 && s.rd PWR_STATUS_STATE != 2 && !s.on PWR_STATUS_ENTERING

/-- A TLP arrives on port `p`: in PS-SLEEP, or while an entry runs, it is a wake event, and in PS-IDLE the part returns to PS-RUN; the TLP is
then processed (R779, R781, R785, R786). -/
def State.arrive (s : State) (p : Nat) : State :=
  if s.rd PWR_STATUS_STATE = 2 ∨ s.on PWR_STATUS_ENTERING then (s.wake (if s.rd (PRT_CFG_MODE p) = 1 then 1 else 2) p).aspmLeave p
  else s.exitIdle

/-- A TLP arrives from host `h`, on its upstream port. -/
def State.arriveHost (s : State) (h : Nat) : State :=
  match s.hostPort h with
  | some p => s.arrive p
  | none => s

end Sys2Proof.Machine
end

