-- ==== Sys2Proof/Machine/Switch.lean ====
section
/-! DEFINITION. The switch core (chapter 07): admission, cut-through, the scheduler's choice (R458 to R466), ageing,
multicast and what becomes of bad TLPs. -/

namespace Sys2Proof.Machine

/-! Queues. -/

/-- The number of a type within a queue number (R313). -/
def kindIdx : TlpKind → Nat
  | .posted => 0
  | .nonPosted => 1
  | .completion => 2

/-- The egress queue of port `p`, class `t` and type `y` (R313). -/
def queueOf (p t y : Nat) : Nat := 24 * p + 3 * t + y

/-- The queue of a TLP at its egress port. -/
def tlpQueue (t : Tlp) : Nat := queueOf t.egress t.tc (kindIdx t.kind)

/-- The cells of `n` stored bytes (R308). -/
def cellsOf (n : Nat) : Nat := ceilDiv n 64

/-- The queued TLPs satisfying `p` changed by `f`. -/
def State.mapTxq (s : State) (p : QTlp → Bool) (f : QTlp → QTlp) : State :=
  { s with switch := { s.switch with txq := updateAll p f s.switch.txq } }

/-- Queued TLPs of queue `q`, in order of admission (R314). -/
def State.inQueue (s : State) (q : Nat) : List QTlp := s.switch.txq.filter fun x => x.queue == q

/-- Cells of the reserve of queue `q` in use by its unicast TLPs (R318). -/
def State.reserveUsed (s : State) (q : Nat) : Nat :=
  ((s.inQueue q).filter fun x => x.mc.isNone).foldl (fun n x => n + (x.cells - x.shared)) 0

/-- Shared cells that a unicast TLP of `c` cells needs beyond the queue's unused reserve of 9 (R318, R319). -/
def State.sharedNeed (s : State) (q c : Nat) : Nat := c - (9 - s.reserveUsed q)

/-- A unicast TLP of `c` cells may enter queue `q`: Q + c ≤ 9 + α × F, with α = 2^(ALPHA − 4) (R319, R320), and the
shared region has the cells it needs. -/
def State.admits (s : State) (q c : Nat) : Bool :=
  decide (16 * (s.rd (SWC_QUEUE_DEPTH q) + c) ≤ 144 + 2 ^ s.rd (SWC_QUEUE_ALPHA q) * s.rd SWC_CELL_STATUS_FREE_SHARED)
    && decide (s.sharedNeed q c ≤ s.rd SWC_CELL_STATUS_FREE_SHARED)

/-- A multicast copy of `c` cells may enter queue `q`: Q + c ≤ α × F (R349). It is also refused while the shared region has not `c` free
cells: the spec does not say (log entry 33). -/
def State.admitsCopy (s : State) (q c : Nat) : Bool :=
  decide (16 * (s.rd (SWC_QUEUE_DEPTH q) + c) ≤ 2 ^ s.rd (SWC_QUEUE_ALPHA q) * s.rd SWC_CELL_STATUS_FREE_SHARED)
    && decide (c ≤ s.rd SWC_CELL_STATUS_FREE_SHARED)

/-- `n` shared cells taken; PEAK_SHARED follows (R319). -/
def State.takeShared (s : State) (n : Nat) : State :=
  let f := s.rd SWC_CELL_STATUS_FREE_SHARED - n
  (s.wr SWC_CELL_STATUS_FREE_SHARED f).wr SWC_CELL_PEAK_PEAK_SHARED (max (s.rd SWC_CELL_PEAK_PEAK_SHARED) (758784 - f))

/-- The shapers that meter class `t` of port `p`: its class shaper and the port shaper (R488). -/
def State.shapersOf (s : State) (p t : Nat) : List Nat := (s.attached 1 p t).toList ++ (s.attached 2 p 0).toList

/-- A TLP arrives for class `t` of port `p`: a shaper all of whose traffic was empty becomes newly active (R496). -/
def State.activate (s : State) (p t : Nat) : State :=
  let clsEmpty := s.switch.txq.all fun x => x.queue / 3 != 8 * p + t
  let portEmpty := s.switch.txq.all fun x => x.queue / 24 != p
  let s := match s.attached 1 p t with
    | some i => if clsEmpty then s.newlyActive i else s
    | none => s
  match s.attached 2 p 0 with
  | some i => if portEmpty then s.newlyActive i else s
  | none => s

/-- A TLP enters a queue. -/
def State.enqueue (s : State) (x : QTlp) : State :=
  let s := s.activate (x.queue / 24) (x.queue / 3 % 8)
  let s := { s with switch := { s.switch with txq := s.switch.txq ++ [x] } }
  s.wr (SWC_QUEUE_DEPTH x.queue) (s.rd (SWC_QUEUE_DEPTH x.queue) + x.cells)

/-- The ACTIVE bits of the shapers and the deficit of a class follow its queues after a TLP left them (R463, R496). -/
def State.settleClass (s : State) (p t : Nat) : State :=
  let clsEmpty := s.switch.txq.all fun x => x.queue / 3 != 8 * p + t
  let portEmpty := s.switch.txq.all fun x => x.queue / 24 != p
  let s := if clsEmpty then s.wr (DRRX_DEF p t) 0 else s
  let s := match s.attached 1 p t with
    | some i => if clsEmpty then s.wr (SHP_ACTIVE i) 0 else s
    | none => s
  match s.attached 2 p 0 with
  | some i => if portEmpty then s.wr (SHP_ACTIVE i) 0 else s
  | none => s

/-- A TLP leaves a queue, sent or discarded: its cells are freed once no copy of it is left (R311), and the wait timer
of the queue's new head starts (R342). -/
def State.dequeue (s : State) (x : QTlp) : State :=
  let rest := removeFirst (fun y => y.order == x.order && y.queue == x.queue) s.switch.txq
  let last := rest.all fun y => y.mc.isNone || y.mc != x.mc
  let s := { s with switch := { s.switch with txq := rest } }
  let s := s.wr (SWC_QUEUE_DEPTH x.queue) (s.rd (SWC_QUEUE_DEPTH x.queue) - x.cells)
  let s := if last then s.wr SWC_CELL_STATUS_FREE_SHARED (s.rd SWC_CELL_STATUS_FREE_SHARED + x.shared) else s
  let s := match s.inQueue x.queue with
    | [] => s
    | y :: _ => s.mapTxq (fun z => z.order == y.order && z.queue == x.queue) (fun z => { z with headSince := max z.headSince s.now })
  s.settleClass (x.queue / 24) (x.queue / 3 % 8)

/-! Answers and reports. -/

/-- Number of a kind of requester. -/
def kindNo : ReqKind → Nat
  | .host => 0
  | .port => 1
  | .node => 2

/-- The requester whose tags serve requests of kind `k` toward `target`: 128 × kind + target. -/
def reqKey (k : ReqKind) (target : Nat) : Nat := 128 * kindNo k + target

/-- The requester of a TLP that this node sends on under a tag of its own: a request of a device toward a node, or a proxy request (R402, R404). -/
def State.requesterOf (s : State) (t : Tlp) : Option Nat := match t.dest, t.src with
  | some n, none => some (reqKey .node n)
  | none, some _ => some (match s.portHost t.egress with
    | some h => reqKey .host h
    | none => reqKey .port t.egress)
  | _, _ => none

/-- Completion status codes of PCI Express: Unsupported Request and Completer Abort. -/
def cplUR : Nat := 1
/-- Completer Abort. -/
def cplCA : Nat := 4

/-- A request of the part, of a requester and tag, that the core discards is noted for its answer with status `st`. -/
def State.noteFailed (s : State) (key tag st : Nat) : State :=
  { s with switch := { s.switch with failed := s.switch.failed ++ [(key, tag, st)] } }

/-- A TLP refused: a non-posted request is answered with completion status `st`, another TLP is discarded. A request in transit is answered to its
node, and one that this node sent on under a tag of its own with the others of its requester (R341, R344, R412). -/
def State.refuseTlp (s : State) (t : Tlp) (st : Nat) : State :=
  if t.kind ≠ .nonPosted then s
  else match t.dest, t.src, s.requesterOf t with
    | some _, some m, _ => s.answerUnits m t.requester t.tc t.unitKind t.addr t.tag st [] false true
    | _, _, some k => s.noteFailed k t.tag st
    | _, _, _ => s.emit (.tlpAnswered t st)

/-- A TLP that the part made is discarded by the core (R312, R347): a request of the part, or a store whose report it awaits, is noted for its
answer. -/
def State.failOwn (s : State) (o : OwnTlp) : State :=
  match o with
  | .out (.hostRead h _ _ tag _) => s.noteFailed h tag cplCA
  | .out _ => s
  | .unit u => if u.typ = 1 ∨ (u.typ = 0 ∧ u.kind = 1) then s.noteFailed (reqKey .node u.dst) (u.body % 2 ^ 14) cplCA else s

/-- A queued TLP refused: its requester is answered with completion status `st`, where it has one. -/
def State.refuseQ (s : State) (x : QTlp) (st : Nat) : State :=
  match x.own with
  | some o => s.failOwn o
  | none => s.refuseTlp x.tlp st

/-- The only host to which downstream port `p` is bound, when its binding is exclusive. -/
def State.boundHost (s : State) (p : Nat) : Option Nat :=
  if s.rd (PRT_CFG_MODE p) = 2 ∧ s.rd (BINDX_COUNT p) = 1 ∧ ¬ s.on (BINDX_SHARED p) then some (s.rd (BINDX_HOST p)) else none

/-- The Max_Payload_Size of port `p` in bytes (R197); a tether, where none is programmed, takes the 512 bytes that the SF256 supports. -/
def State.maxPayload (s : State) (p : Nat) : Nat := if s.rd (PRT_CFG_MODE p) = 3 then 512 else mpsBytes (s.rd (PRTX_MPS p))

/-- A TLP is an AtomicOp. The type codes are the PCI Express standard's, PRESUMED (log entry 62). -/
def isAtomic (t : Tlp) : Bool := t.kind == .nonPosted && t.fmtType ∈ [0x4C, 0x4D, 0x4E, 0x6C, 0x6D, 0x6E]

/-- A TLP-level uncorrectable error with AER bit `bitNo`, detected at the TLP's ingress port, logged as code 0x0202, or
as 0x0204 when it is fatal on an upstream port, with the severity of the reporting function (R503, R504, R519). -/
def State.uncorrectable (s : State) (t : Tlp) (bitNo : Nat) : State :=
  let p := t.ingress.val
  match s.portHost p with
  | some h =>
    let fatal := bitSet (s.rd (BFX_UNCSEV (f0Bank h))) bitNo
    let s := s.bankUnc h (f0Bank h) bitNo (t.hdr % 2 ^ 128)
    if fatal then s.recSev 3 p 0x0204 2 h 0 (detT t (2 ^ bitNo)) [h] else s.recNear 2 p 0x0202 [(2, h)] 0 (detT t (2 ^ bitNo)) [h]
  | none =>
    let by_ := if s.rd (PRT_CFG_MODE p) = 2 then s.owner p t.requester else none
    let fatal := bitSet (match by_ with | some k => s.rd (BFX_UNCSEV (vbBank k)) | none => (BFX_UNCSEV 0).rst) bitNo
    let s := match by_ with
      | some k => s.bankUnc (k / 32) (vbBank k) bitNo (t.hdr % 2 ^ 128)
      | none => s
    s.recSev (if fatal then 3 else 2) p 0x0202 1 p 0 (detT t (2 ^ bitNo)) ((s.boundHost p).toList ++ tlpHosts t)

/-- A correctable link-level error with AER bit `bitNo` at port `p`, reported by function 0 of an upstream port's host or by the virtual bridge of an
exclusive port, and logged as code 0x0201 (R504, R519). -/
def State.correctable (s : State) (p : Nat) (t : Tlp) (bitNo : Nat) : State :=
  let s := match s.portHost p with
    | some h => s.bankCor h (f0Bank h) bitNo
    | none => match s.boundHost p with
      | some h => s.bankCor h (vbBank (posIdx h (s.rd (BINDX_POS p)))) bitNo
      | none => s
  s.recordNear p 0x0201 (s.tlpDoms t) 0 (detT t (2 ^ bitNo)) ((s.portHost p).toList ++ (s.boundHost p).toList)

/-- AER bit number: Bad TLP, a correctable error. -/
def aerBadTlp : Nat := 6
/-- AER bit numbers: Malformed TLP and Unsupported Request. -/
def aerMalformed : Nat := 18
/-- Unsupported Request Error. -/
def aerUR : Nat := 20

/-- The egress link of port `p` is a PCI Express link in non-flit mode. -/
def State.nonFlit (s : State) (p : Nat) : Bool := s.rd (PRT_CFG_MODE p) != 3 && !s.on (PRT_LINK_STATUS_FLIT_ACTIVE p)

/-- A TLP cannot be expressed on its egress link (R341). -/
def State.notExpressible (s : State) (t : Tlp) : Bool := s.nonFlit t.egress && (decide (1023 < t.tag) || t.flitOnly)

/-- TLP_NOT_EXPRESSIBLE (R341). -/
def State.fmtReject (s : State) (t : Tlp) : State :=
  let s := ((s.inc (SWC_PORT_MISC_FMT_REJECT t.ingress)).wr SWC_EVENT_FMT_REJECT 1).refuseTlp t cplUR
  s.recordNear t.ingress.val 0x0407 (s.tlpDoms t) 0 (detT t 0) (tlpHosts t)

/-- The containment that refuses a TLP, when there is one, in the order node, hierarchy, gondola, port, window: its
level and index (R520, R522). -/
def State.tlpFence (s : State) (t : Tlp) : Option (Nat × Nat) :=
  match t.src.filter fun n => s.contained 5 n with
  | some n => some (5, n)
  | none =>
  if t.host < 48 ∧ s.contained 2 t.host then some (2, t.host)
  else match (if t.host < 48 ∧ t.kind ≠ .completion then s.gondFence t.host t.pasid else none) with
  | some g => some (3, g)
  | none => match s.portHost t.egress with
    | some h => if s.contained 2 h then some (2, h) else
        if s.contained 1 t.ingress then some (1, t.ingress.val) else none
    | none =>
      if s.contained 1 t.ingress then some (1, t.ingress.val)
      else if s.contained 1 t.egress then some (1, t.egress.val)
      else none

/-- The containment of the source of a multicast TLP, when there is one. -/
def State.sourceFence (s : State) (t : Tlp) : Option (Nat × Nat) :=
  if t.host < 48 ∧ s.contained 2 t.host then some (2, t.host)
  else if s.contained 1 t.ingress then some (1, t.ingress.val)
  else none

/-- The completion status that a containment gives non-posted requests (R520). -/
def State.fenceStatus (s : State) (f : Nat × Nat) : Nat := if f.1 = 1 ∧ s.on (PRTX_DPC_UR f.2) then cplUR else cplCA

/-- A TLP refused by a containment, counted against it once (R520, R522); a host's store to a contained port counts for the host's next
barrier too (R30, R603). -/
def State.fenceTlp (s : State) (t : Tlp) (f : Nat × Nat) : State :=
  let i := domIdx f.1 f.2
  if t.kind = .nonPosted then (s.bump (DOMX_NP i)).refuseTlp t (s.fenceStatus f)
  else
    let s := if t.kind = .posted ∧ f = (1, t.egress.val) ∧ t.host < 48 then s.inc (HOSTF_DISC_PORT t.host) else s
    s.bump (DOMX_POSTED i)

/-! Ingress. -/

/-- A TLP may go cut-through (R27, R328 to R330). -/
def State.mayCut (s : State) (t : Tlp) : Bool :=
  decide (s.compareRate t.ingress ≤ s.compareRate t.egress) && decide (0 < s.compareRate t.ingress)
    && (s.inQueue (tlpQueue t)).isEmpty && !s.on (SWC_PORT_STATUS_SF_FALLBACK t.ingress)
    && s.on (SWC_PORT_CFG_CT_ENABLE t.ingress)

/-- The cells that must be in the buffer before a cut-through TLP of `len` bytes starts, at compare rates `ri` in and
`re` out (R331): the larger of 1 and ⌈len × (1 − ri/re) / 64⌉. -/
def cutCells (len ri re : Nat) : Nat := max 1 (ceilDiv (len * (re - ri)) (64 * re))

/-- A unicast TLP admitted to its queue with the place `n` in order of arrival, as its head cell is written (R319, R328). -/
def State.admitAs (s : State) (n : Nat) (t : Tlp) : State :=
  let q := tlpQueue t
  let c := cellsOf t.stored
  let need := s.sharedNeed q c
  let cut := s.mayCut t
  let start := if cut then cutCells t.stored (s.compareRate t.ingress) (s.compareRate t.egress) else c
  let s := if cut then s.inc (SWC_PORT_CT_COUNT_CT_FWD t.ingress) else s
  let x : QTlp := ⟨t, q, c, need, n, cut, cut && start == 1, false, false, s.now, none, false, none, start⟩
  (s.takeShared need).enqueue x

/-- A unicast TLP that arrives admitted to its queue (R319). -/
def State.admitTlp (s : State) (t : Tlp) : State := (s.admitAs (s.rd SYS_ORDER) t).bump SYS_ORDER

/-- One TLP of a queue ages: a posted TLP or a completion is discarded and logged, a non-posted request is answered
with a Completer Abort (R344, R347). -/
def State.ageOne (s : State) (x : QTlp) : State :=
  let p := x.queue / 24
  let s := if x.tlp.kind = .nonPosted then
      s.inc (SWC_PORT_AGE_COUNT_AGED_CA p)
    else (s.inc (SWC_PORT_AGE_COUNT_AGED_DISCARD p)).recordNear 144 0x0404 (s.tlpDoms x.tlp) 0 (detT x.tlp 0) (tlpHosts x.tlp)
  let s := s.refuseQ x cplCA
  let s := if x.tlp.kind = .posted ∧ x.tlp.host < 48 then s.inc (HOSTF_DISC_PORT x.tlp.host) else s
  s.dequeue x

/-- Every TLP of an AGED queue that has not started ages at once (R345). -/
def State.drainAged (s : State) (q : Nat) : State :=
  if s.on (SWC_QUEUE_AGED q) && !s.on (PRT_CYT_STATUS_IN_GRACE (q / 24)) then ((s.inQueue q).filter fun x => !x.started).foldl (fun s x => s.ageOne x) s else s

/-- A TLP that the part made enters its egress queue, whole (R18, R319). -/
def State.admitOwn (s : State) (m : Nat × Tlp × OwnTlp) : State :=
  let q := tlpQueue m.2.1
  let c := cellsOf m.2.1.stored
  let need := s.sharedNeed q c
  let s := { s with switch := { s.switch with made := s.switch.made.filter fun w => w.1 != m.1 } }
  ((s.takeShared need).enqueue ⟨m.2.1, q, c, need, m.1, false, true, true, false, s.now, none, false, some m.2.2, c⟩).drainAged q

/-- The TLPs that the part made for the ports that `f` selects enter their queues, each when the threshold allows and none of its queue waits
ahead of it (R18, R319). -/
def State.intake (s : State) (f : Nat → Bool) : State :=
  (s.switch.made.filter fun m => f m.2.1.egress.val).foldl (fun (s : State) m =>
    if (s.switch.made.any fun w => decide (w.1 < m.1) && tlpQueue w.2.1 == tlpQueue m.2.1)
        || !s.admits (tlpQueue m.2.1) (cellsOf m.2.1.stored) then s else s.admitOwn m) s

/-- Something of the type of a TLP that arrives, and on a tether of its class, waits ahead of it at its ingress port (R324, R436). -/
def State.waitsBehind (s : State) (t : Tlp) : Bool := s.ahead (s.rd SYS_ORDER) t.ingress t.kind t.tc

/-- The SF256 withholds the credit that TLP `t`, number `n` in order of arrival, would need: every credit past a drain point (R111, R852), and
posted credits of the upstream port of a host whose write buffer is full (R26). A posted write behind a store or full barrier of its source waits
too (R600). -/
def State.withheld (s : State) (n : Nat) (t : Tlp) : Bool :=
  s.pastDrain || (s.pool.barriers.any fun b => !b.dead && b.kind != 0 && decide (b.seq ≤ n) && s.postedFrom b.host t)
    || match s.portHost t.ingress with
    | some h => t.kind == .posted && decide (bufSize h ≤ s.bufUsed h)
    | none => false

/-- A TLP past its checks is admitted, or waits at its ingress port with its credit withheld (R26, R319, R323, R325). -/
def State.offer (s : State) (t : Tlp) : State :=
  if !s.waitsBehind t && !s.withheld (s.rd SYS_ORDER) t && s.admits (tlpQueue t) (cellsOf t.stored) then (s.admitTlp t).drainAged (tlpQueue t)
  else { s with switch := { s.switch with wait := s.switch.wait ++ [(s.rd SYS_ORDER, t)] } }.bump SYS_ORDER

/-- A TLP that goes to a node leaves on the tether of its bucket (R407). -/
def State.retarget (s : State) (t : Tlp) : Tlp := match s.tlpBucket t with
  | some b => { t with egress := Fin.ofNat 128 (s.bucketPort b) }
  | none => t

/-- A TLP goes to a node to which there is no route, or that is contained (R411, R520). -/
def State.unrouted (s : State) (t : Tlp) : Bool := t.dest.any fun n => !s.reachable n || s.contained 5 n

/-- A TLP for a node to which there is no route: a request is counted and logged, and refused (R411). -/
def State.noRouteTlp (s : State) (t : Tlp) : State :=
  if t.kind = .completion then s
  else ((s.noRoute).recordNear 145 0x0503 (s.tlpDoms t ++ (t.src.map fun n => (5, n.val)).toList) 0 (detT t ((t.dest.map Fin.val).getD 0))
    (tlpHosts t)).refuseTlp t cplCA

/-- A TLP in transit would leave on the tether that it came on (R412). -/
def loops412 (t : Tlp) : Bool := t.src.isSome && t.dest.isSome && t.egress == t.ingress

/-- Such a TLP is discarded, counted and logged (R412). -/
def State.loopDrop (s : State) (t : Tlp) : State :=
  (((s.inc RTE_COUNT_FAB_LOOP_DROP).wr RTE_EVENT_LOOP_DROP 1).recordNear 145 0x0504 (s.tlpDoms t ++ (t.src.map fun n => (5, n.val)).toList) 0
    (detT t ((t.dest.map Fin.val).getD 0)) []).refuseTlp t cplCA

/-- A completion comes for a request that has been answered already: its tag is quarantined (R379, R542). -/
def State.lateFor (s : State) (t : Tlp) : Option QTlp :=
  if t.kind = .completion ∧ t.dest = none then s.switch.asked.find? fun x => x.held && x.tlp.requester == t.requester && x.tlp.tag == t.tag else none

/-- A completion meets the request that awaits it (R434). -/
def State.meetCompletion (s : State) (t : Tlp) : State :=
  if t.kind = .completion ∧ t.dest = none then
    { s with switch := { s.switch with
      asked := removeFirst (fun x => x.tlp.requester == t.requester && x.tlp.tag == t.tag) s.switch.asked } }
  else s

/-- A TLP that its ingress has routed to its egress port, or to a node: refused by a containment, for want of a route, by the egress
Max_Payload_Size or by its form, or offered to its queue (R198, R319, R324, R341, R411, R412, R520). A completion meets its request as it `came`,
before its IDs were mapped (R370, R379). -/
def State.ingress (s : State) (t : Tlp) (came : Tlp := t) : State :=
  let t := s.retarget t
  match s.tlpFence t with
  | some f => s.fenceTlp t f
  | none =>
    let late := s.lateFor came
    let s := s.meetCompletion came
    if s.unrouted t then s.noRouteTlp t
    else if loops412 t then s.loopDrop t
    else if late.isSome then ((s.inc ERR_CPL_COUNT_LATE_CPL).wr ERR_EVENT_LATE_CPL 1).recordNear 173 0x0206 (s.tlpDoms t) 0 (detTag t.tag 0) (tlpHosts t)
    else if s.maxPayload t.egress < t.payload then s.uncorrectable t aerMalformed
    else if s.notExpressible t then s.fmtReject t
    else s.offer t

/-- The group of the waiting TLP with place `n`, where it is multicast. -/
def State.waitGroup (s : State) (n : Nat) : Option Nat := (s.switch.mcast.find? fun x => x.1 == n).map fun x => x.2

/-- The first TLP waiting at port `p` that may be admitted now, with none of its type ahead of it (R323, R324). -/
def State.nextWaiting (s : State) (p : Nat) : Option (Nat × Tlp) :=
  s.switch.wait.find? fun w => w.2.ingress.val == p && !s.withheld w.1 w.2 && !s.ahead w.1 p w.2.kind w.2.tc
    && ((s.waitGroup w.1).isSome || (s.tlpFence w.2).isSome || s.unrouted w.2 || s.admits (tlpQueue (s.retarget w.2)) (cellsOf w.2.stored))

/-- CUT_THROUGH_READY: `cells` cells of the TLP are in the buffer, and it starts once they are as many as it needs (R331); with `whole`, all of
them are and it has passed its ingress checks, so that its end may leave (R333, R336). -/
def execCutThroughReady (id cells : Nat) (whole : Bool) (s : State) : Host.Outcome State Fault Refusal :=
  .next (s.mapTxq (fun x => x.order == id && !x.tailIn && (whole || (x.cutThrough && decide (x.start ≤ cells))))
    (fun x => { x with ready := true, tailIn := whole }))

/-- All of a TLP is in the buffer, and it has passed its ingress checks. -/
def State.markWhole (s : State) (f : QTlp → Bool) : State := s.mapTxq (fun x => f x && !x.tailIn) fun x => { x with ready := true, tailIn := true }

/-- A stomp caused by ingress port `p`: counted, and kept for the fallback's 100 ms (R335, R338). -/
def State.stompFrom (s : State) (p : Nat) : State :=
  let s := s.inc (SWC_PORT_FALLBACK_STOMP_IN p)
  { s with switch := { s.switch with stomps := s.switch.stomps ++ [(p, s.now)] } }

/-- The TLP with number `id`. -/
def State.queued (s : State) (id : Nat) : Option QTlp := s.switch.txq.find? fun x => x.order == id

/-- The segments of TLP number `id` that a tether has not sent yet become, in their place, one EOP segment with END_CODE stomp (R259, R263). -/
def State.stompUnits (s : State) (id : Nat) : State :=
  let mine := fun (u : Staged) => u.unit.order == id + 1
  match s.tether.sendq.find? mine with
  | none => s
  | some u =>
    let last : Staged := { u with unit := { u.unit with eop := true, stomp := true } }
    let before := s.tether.sendq.takeWhile fun v => !mine v
    let after := (s.tether.sendq.drop (before.length + 1)).filter fun v => !mine v
    { s with tether := { s.tether with sendq := before ++ last :: after } }

/-- The egress mode of port `p` (R335, R340): 0 PCI Express without flit mode at 2.5 or 5 GT/s, whose nullified TLP ends with an EDB symbol; 1 at
higher rates, with an EDB token; 2 flit mode, with the standard's nullify indication; 3 a tether, with END_CODE stomp. -/
def State.egressMode (s : State) (p : Nat) : Nat :=
  if s.rd (PRT_CFG_MODE p) = 3 then 3 else if s.on (PRT_LINK_STATUS_FLIT_ACTIVE p) then 2
  else if s.rd (PRT_LINK_STATUS_RATE p) ≤ 1 then 0 else 1

/-- The LCRC or flit CRC that port `p` generates for a TLP in its egress mode (R340). -/
def State.crcAt (s : State) (p : Nat) (t : Tlp) : Nat :=
  (Config.linkCrc (s.egressMode p) ([t.fmtType, t.tc, t.requester, t.tag, t.addr, t.payload, t.hdr, b2n t.ep] ++ t.rest.map BitVec.toNat)).toNat

/-- A TLP leaves port `p` in the format of its link (R340). -/
def State.sentAt (s : State) (p : Nat) (t : Tlp) : Out := .tlpSent p (s.egressMode p) (s.crcAt p t) t

/-- A TLP is nullified on port `p`: without flit mode its LCRC is inverted (R335). -/
def State.nullifiedAt (s : State) (p : Nat) (t : Tlp) : Out :=
  .tlpNullified p (s.egressMode p) (if s.egressMode p ≤ 1 then 2 ^ 32 - 1 - s.crcAt p t else s.crcAt p t) t

/-- A TLP found bad after its head was admitted is discarded; when its head has left, it is nullified on the egress and
counted at both ports (R263, R334, R335). -/
def State.badTail (s : State) (x : QTlp) : State :=
  let p := x.queue / 24
  let s := if x.started then
      (((s.inc (SWC_PORT_STOMP_STOMP_TX p)).stompFrom x.tlp.ingress).stompUnits x.order).emit (s.nullifiedAt p x.tlp) else s
  s.dequeue x

/-- An uncorrectable cell error of TLP `t` on port `p`: counted and logged (R312). -/
def State.cellLost (s : State) (p : Nat) (t : Tlp) : State :=
  ((s.inc SWC_ECC_COUNT_UNCORRECTED).wr SWC_EVENT_ECC_UNCORR 1).recordNear 144 0x0402 (s.tlpDoms t ++ [(1, p)]) 0 (detT t 0) (tlpHosts t)

/-- BAD_TAIL: the TLP `id`, whose tail is not in yet, is found bad; with `c` a cell, an uncorrectable error is found in a TLP that is being
transmitted, on every port that sends it (R312, R334, R335, R337). -/
def execBadTail (id : Nat) (c : TailFault) (s : State) : Host.Outcome State Fault Refusal :=
  .next (match c with
    | .cell =>
      let l := s.switch.txq.filter fun x => x.order == id && x.started
      l.foldl (fun (s : State) (x : QTlp) => (s.cellLost (x.queue / 24) x.tlp).badTail x) s
    | .lcrc | .length | .nullified | .malformed => match s.switch.txq.find? fun x => x.order == id && !x.tailIn with
      | none => s
      | some x =>
        let s := if c = .nullified then s.inc (SWC_PORT_STOMP_STOMP_RX x.tlp.ingress) else s
        let s := if c = .malformed ∨ c = .length then s.uncorrectable x.tlp aerMalformed
          else if c = .lcrc then s.correctable x.tlp.ingress x.tlp aerBadTlp else s
        (s.switch.txq.filter fun x => x.order == id && !x.tailIn).foldl State.badTail s)

/-- UNDERRUN: a started cut-through TLP whose tail is not in is nullified, and is sent again store-and-forward from the head of its queue
once CUT_THROUGH_READY says that all of it is in the buffer (R336). -/
def execUnderrun (id : Nat) (s : State) : Host.Outcome State Fault Refusal :=
  .next (match s.switch.txq.find? fun x => x.order == id && x.started && x.cutThrough && !x.tailIn with
    | none => s
    | some x =>
      let p := x.queue / 24
      let s := (((((s.inc (SWC_PORT_STOMP_STOMP_TX p)).inc (SWC_PORT_FALLBACK_UNDERRUN p)).stompFrom x.tlp.ingress).stompUnits id).wr
        SWC_EVENT_UNDERRUN 1).emit (s.nullifiedAt p x.tlp)
      s.mapTxq (fun y => y.order == id) (fun y => { y with started := false, cutThrough := false, ready := false, headSince := s.now }))

/-- STOMP_FALLBACK: the stomps of port `p` within 100 ms have reached STOMP_LIMIT (R338, R339). -/
def execStompFallback (p : Port) (s : State) : Host.Outcome State Fault Refusal :=
  let lim := s.rd (SWC_PORT_CFG_STOMP_LIMIT p)
  s.event (decide (0 < lim) && decide (lim ≤ (recent s.switch.stomps p s.now (100 * ms)).length)
      && !s.on (SWC_PORT_STATUS_SF_FALLBACK p)) fun s =>
    ((s.wr (SWC_PORT_STATUS_SF_FALLBACK p) 1).wr SWC_EVENT_FALLBACK 1).recordNear p 0x0405 [(1, p.val)] 0
      (detG p (recent s.switch.stomps p s.now (100 * ms)).length) []

/-- A write of 1 to SF_FALLBACK clears it and re-arms the port (R339). -/
def State.rearmFallback (s : State) (p : Nat) : State :=
  let s := s.wr (SWC_PORT_STATUS_SF_FALLBACK p) 0
  { s with switch := { s.switch with stomps := s.switch.stomps.filter fun x => x.1 != p } }

/-- SF_FALLBACK_REARM (R339). -/
def execSfFallbackRearm (p : Port) (s : State) : Host.Outcome State Fault Refusal := .next (s.rearmFallback p)

/-! Ageing. -/

/-- Time at which the head of queue `q` reaches the age limit (R342, R343). -/
def State.ageDue (s : State) (x : QTlp) : Nat := x.headSince + us * s.rd (SWC_PORT_CFG_AGE_LIMIT (x.queue / 24))

/-- AGE_LIMIT_EXPIRY: the head of queue `q` ages, unless its gate is closed, its tether is in grace, or it has started;
the queue enters AGED, with one record for the entry, and drains (R287, R342 to R347, R353). -/
def execAgeLimitExpiry (q : Fin 3072) (s : State) : Host.Outcome State Fault Refusal :=
  let p := q.val / 24
  match s.inQueue q with
  | [] => .next s
  | x :: _ =>
    s.event (!x.started && bitSet (s.rd (SCH_GATE_STATUS_OPEN p)) (q.val / 3 % 8) && !s.on (PRT_CYT_STATUS_IN_GRACE p)) fun s =>
      let s := s.advTo (s.ageDue x)
      let s := if s.on (SWC_QUEUE_AGED q) then s
        else (((s.wr (SWC_QUEUE_AGED q) 1).wr (SWC_PORT_AGED_AGED p) (setBit (s.rd (SWC_PORT_AGED_AGED p)) (q.val % 24))).wr
          SWC_EVENT_AGED 1).recordNear 144 0x0403 (s.tlpDoms x.tlp) 0 (detT x.tlp q) (tlpHosts x.tlp)
      s.drainAged q

/-- The egress link of port `p` is in L0 or UP. -/
def State.linkUp (s : State) (p : Nat) : Bool :=
  if s.rd (PRT_CFG_MODE p) = 3 then s.rd (PRT_CYT_STATUS_STATE p) == 7 else s.rd (PRT_LINK_STATUS_LTSSM p) == 3

/-- The egress link has credit for `payload` bytes of class `t`, type `y`: on a tether R268, elsewhere the link
partner's flow control. -/
def State.linkCredit (s : State) (p t y payload : Nat) : Bool :=
  if s.rd (PRT_CFG_MODE p) = 3 then
    decide ((s.rd (PRT_CYT_CRED_TX_LIM_HDR p t) + 4096 - (s.rd (PRT_CYT_CRED_TX_CONS_HDR p t) + 1) % 4096) % 4096 ≤ 2048)
    && decide ((s.rd (PRT_CYT_CRED_TX_LIM_DATA p t) + 65536
        - (s.rd (PRT_CYT_CRED_TX_CONS_DATA p t) + ceilDiv payload 32) % 65536) % 65536 ≤ 32768)
  else bitSet (s.rd (SWX_LNKCR p)) (3 * t + y)

/-- AGED_EXIT: the queue's link is in L0 or UP and has credit (R346). -/
def execAgedExit (q : Fin 3072) (s : State) : Host.Outcome State Fault Refusal :=
  let p := q.val / 24
  s.event (s.on (SWC_QUEUE_AGED q) && s.linkUp p && s.linkCredit p (q.val / 3 % 8) (q.val % 3) 0) fun s =>
    (s.wr (SWC_QUEUE_AGED q) 0).wr (SWC_PORT_AGED_AGED p) (clrBit (s.rd (SWC_PORT_AGED_AGED p)) (q.val % 24))

/-! The scheduler. -/

/-- The Completer ID of a completion: bytes 4 and 5 of its header. -/
def completerOf (t : Tlp) : Nat := 256 * bits t.hdr 32 8 + bits t.hdr 40 8

/-- The standard lets `x` pass the posted TLP `w` of its class (R315): by Relaxed Ordering a completion or a request
with data, and by ID-Based Ordering a request of another requester or of another PASID where both carry one, and a completion
of a completer that is not `w`'s requester. Fmt bit 1 of the header's first byte tells data. -/
def mayPass (x w : Tlp) : Bool :=
  (x.relaxed && (x.kind == .completion || bitSet x.fmtType 6))
    || (x.idOrder && (if x.kind = .completion then completerOf x != w.requester
      else x.requester != w.requester || (x.pasid.isSome && w.pasid.isSome && x.pasid != w.pasid)))

/-- R315 holds `x` back: an earlier posted TLP of its port and class from its ingress port waits. -/
def State.heldByPosted (s : State) (x : QTlp) : Bool :=
  x.tlp.kind != .posted && s.switch.txq.any fun w =>
    w.queue == x.queue / 3 * 3 && decide (w.order < x.order) && w.tlp.ingress == x.tlp.ingress && !w.started
      && !mayPass x.tlp w.tlp

/-- The shaping length of a TLP on port `p` (R467). -/
def State.shapeLen (s : State) (p : Nat) (t : Tlp) : Nat := t.stored + s.overhead p

/-- The head of queue `q` that may be sent now, but for the guard (R458). -/
def State.readyHead (s : State) (q : Nat) : Option QTlp :=
  let p := q / 24
  let t := q / 3 % 8
  match s.inQueue q with
  | [] => none
  | x :: _ =>
    if !s.heldByPosted x && bitSet (s.rd (SCH_GATE_STATUS_OPEN p)) t
        && (s.shapersOf p t).all (fun i => s.on (SHP_ELIGIBLE i))
        && s.linkUp p && s.linkCredit p t (q % 3) x.tlp.payload && x.ready && !x.started then some x else none

/-- The head of queue `q` that is eligible, the guard included (R458, R474). -/
def State.eligible (s : State) (q : Nat) : Option QTlp :=
  match s.readyHead q with
  | none => none
  | some x => if s.guardSays (q / 24) (q / 3 % 8) (s.shapeLen (q / 24) x.tlp) = 1 then none else some x

/-- The eligible head of class `t` of port `p`, by round-robin over the types from the one after the last sent
(R465). -/
def State.classHead (s : State) (p t : Nat) : Option QTlp :=
  let y := s.rd (DRRX_LAST p t) + 1
  (s.eligible (queueOf p t (y % 3))).orElse fun _ =>
    (s.eligible (queueOf p t ((y + 1) % 3))).orElse fun _ => s.eligible (queueOf p t ((y + 2) % 3))

/-- The highest strict class below `n` of port `p` with an eligible head (R461). -/
def State.strictHead (s : State) (p : Nat) : Nat → Option QTlp
  | 0 => none
  | t + 1 => if bitSet (s.rd (SCH_TC_MODE_STRICT p)) t then
      match s.classHead p t with
      | some x => some x
      | none => s.strictHead p t
    else s.strictHead p t

/-- Deficit round robin over the weighted classes (R461, R462): the state of the round and the head chosen. The fuel of
104 visits covers the 12 rounds after which the smallest QUANTUM covers the longest TLP. -/
def State.drr (s : State) (p : Nat) : Nat → State × Option QTlp
  | 0 => (s, none)
  | n + 1 =>
    let t := s.rd (SCHX_RR p)
    let next := (s.wr (SCHX_RR p) ((t + 1) % 8)).wr (SCHX_CREDITED p) 0
    if bitSet (s.rd (SCH_TC_MODE_STRICT p)) t then next.drr p n
    else match s.classHead p t with
      | none => next.drr p n
      | some x =>
        let s := if s.on (SCHX_CREDITED p) then s
          else (s.wr (DRRX_DEF p t) (s.rd (DRRX_DEF p t) + s.rd (SCH_TC_CFG_QUANTUM p t))).wr (SCHX_CREDITED p) 1
        let len := s.shapeLen p x.tlp
        if len ≤ s.rd (DRRX_DEF p t) then (s.wr (DRRX_DEF p t) (s.rd (DRRX_DEF p t) - len), some x)
        else ((s.wr (SCHX_RR p) ((t + 1) % 8)).wr (SCHX_CREDITED p) 0).drr p n

/-- Some weighted class of port `p` has an eligible head. -/
def State.weightedReady (s : State) (p : Nat) : Bool :=
  (List.range 8).any fun t => !bitSet (s.rd (SCH_TC_MODE_STRICT p)) t && (s.classHead p t).isSome

/-- The heads of port `p` that the guard holds now, counted once each in GUARD_HOLD (R474). -/
def State.countGuard (s : State) (p : Nat) : State :=
  s.forN (fun k s =>
    let q := 24 * p + k
    match s.readyHead q with
    | none => s
    | some x =>
      if !x.held && s.guardSays p (q / 3 % 8) (s.shapeLen p x.tlp) == 1 then
        (s.inc (SCH_GATE_COUNT_GUARD_HOLD p)).mapTxq (fun y => y.order == x.order && y.queue == q)
          (fun y => { y with held := true })
      else s) 24

/-- SCH_TC_MODE.ELIGIBLE: the classes with an eligible head. -/
def State.eligView (s : State) (p : Nat) : State :=
  s.wr (SCH_TC_MODE_ELIGIBLE p) ((List.range 8).foldl (fun n t => if (s.classHead p t).isSome then n + 2 ^ t else n) 0)

/-- A one-shot injected fault of kind `k` at port or channel `w`, when one is pending (R731). -/
def State.injected (s : State) (k w : Nat) : Bool := s.mgmt.inject.any fun x => x.1 == k && x.2.1 == w

/-- The injected fault of kind `k` at `w` is used up. -/
def State.useInjected (s : State) (k w : Nat) : State :=
  { s with mgmt := { s.mgmt with inject := removeFirst (fun x => x.1 == k && x.2.1 == w) s.mgmt.inject } }

/-- What a read of a cell at port `p` finds: the fault that DEBUG_INJECT armed, once, or what the event says. -/
def State.cellEcc (s : State) (p : Nat) (e : Ecc) : State × Ecc :=
  if s.injected 2 p then (s.useInjected 2 p, .uncorrPayload)
  else if s.injected 1 p then (s.useInjected 1 p, .corrected)
  else (s, e)

/-- The segment header of a queued TLP's units on a tether (R257, R406). -/
def State.tlpUnit (s : State) (x : QTlp) : CUnit :=
  match x.own with
  | some (.unit u) => { u with order := x.order + 1 }
  | _ =>
  let b := s.tlpBucket x.tlp
  ⟨x.tlp.tc, kindIdx x.tlp.kind, x.tlp.unitKind, (x.tlp.dest.getD 0).val, x.tlp.payload, false, false, false, b, x.order + 1, true,
    some x.tlp, 0, 0, 0⟩

/-- The head `x` starts transmission on port `p`: its shapers are charged and a tether's credits consumed (R265, R268,
R489, R495); an overrun of the gate is counted (R475). -/
def State.startTlp (s : State) (p : Nat) (x : QTlp) : State :=
  let t := x.queue / 3 % 8
  let len := s.shapeLen p x.tlp
  let s := if s.guardSays p t len = 2 then (s.inc (SCH_GATE_COUNT_OVERRUN p)).wr SCH_EVENT_OVERRUN 1 else s
  let s := (s.shapersOf p t).foldl (fun s i => s.charge i len) s
  let s := s.wr (DRRX_LAST p t) (x.queue % 3)
  let s := if s.rd (PRT_CFG_MODE p) = 3 then
      (s.wr (PRT_CYT_CRED_TX_CONS_HDR p t) (s.rd (PRT_CYT_CRED_TX_CONS_HDR p t) + 1)).wr (PRT_CYT_CRED_TX_CONS_DATA p t)
        (s.rd (PRT_CYT_CRED_TX_CONS_DATA p t) + ceilDiv x.tlp.payload 32)
    else s
  let s := if s.rd (PRT_CFG_MODE p) = 3 then s.stage p (unitsOf (s.tlpUnit x) x.tlp.stored) else s
  s.mapTxq (fun y => y.order == x.order && y.queue == x.queue) (fun y => { y with started := true, tlp := { y.tlp with ep := y.tlp.ep || x.tlp.ep } })

/-- The scheduler sends head `x`, whose cells read with `e` (R312). -/
def State.sendHead (s : State) (p : Nat) (x : QTlp) (e : Ecc) : State :=
  match e with
  | .clean => s.startTlp p x
  | .corrected => (((s.inc SWC_ECC_COUNT_CORRECTED).wr SWC_EVENT_ECC_CORR 1).recordNear 144 0x0401 (s.tlpDoms x.tlp) 0 (detG p x.order) []).startTlp p x
  | .uncorrHeader =>
    ((s.cellLost p x.tlp).refuseQ x cplCA).dequeue x
  | .uncorrPayload =>
    (s.cellLost p x.tlp).startTlp p { x with tlp := { x.tlp with ep := true } }

/-- The scheduler's choice on port `p`: the highest strict class with an eligible head, then the round, which moves on from a class without an
eligible head (R461, R462). -/
def State.choose (s : State) (p : Nat) : State × Option QTlp :=
  match s.strictHead p 8 with
  | some x => (s, some x)
  | none => if s.weightedReady p then s.drr p 104
    else (s.when (s.on (SCHX_CREDITED p)) fun s => s.wrs [(SCHX_RR p, (s.rd (SCHX_RR p) + 1) % 8), (SCHX_CREDITED p, 0)], none)

/-- EGRESS_SELECT: when nothing is on the wire of port `p`, what the part made for it enters its queues, and the scheduler selects an eligible
head and starts it (R18, R458 to R466, R474). `credit` names the classes and types, by 3 × class + type, for which the flow control of the link
partner of a PCI Express port has credit (R346, R458). -/
def execEgressSelect (p : Port) (e : Ecc) (credit : BitVec 24) (s : State) : Host.Outcome State Fault Refusal :=
  s.event (!s.moored && s.switch.txq.all fun x => x.queue / 24 != p.val || !x.started) fun s =>
    let s := ((s.wr (SWX_LNKCR p) credit.toNat).intake fun q => q == p.val).countGuard p
    match s.choose p with
    | (t, none) => t.eligView p
    | (t, some x) =>
      let (t, e) := t.cellEcc p e
      (t.sendHead p x e).eligView p

/-- What leaves port `p` with a queued TLP: a completion that the part made is poisoned with its TLP (R312). -/
def State.sentOf (s : State) (x : QTlp) (p : Nat) : Out :=
  match x.own with
  | some (.out (.completion h r t st d poison)) => .completion h r t st d (poison || x.tlp.ep)
  | some (.out o) => if x.tlp.ep then s.sentAt p x.tlp else o
  | _ => s.sentAt p x.tlp

/-- The message code of PME_TO_Ack (R195). -/
def msgToAck : Nat := 0x1B

/-- The TLP is PME_TO_Ack. -/
def QTlp.isToAck (x : QTlp) : Bool :=
  match x.own with
  | some (.out (.message _ c)) => c == msgToAck
  | _ => false

/-- The link of PCI Express port `p` enters L2 (R222). -/
def State.enterL2 (s : State) (p : Nat) : State :=
  ((s.wrs [(PRT_LINK_STATUS_LTSSM p, 7), (PRT_LINK_STATUS_DL_ACTIVE p, 0), (PRT_LINK_STATUS_DEEP_LEVEL p, 0)]).laneView p).linkView p

/-- TLP_SENT: the last byte of the started TLP `id` has left port `p`, on a tether once its last unit is sent; its cells
are freed (R311, R434). An upstream link enters L2 once PME_TO_Ack is sent (R222). -/
def execTlpSent (p : Port) (id : Nat) (s : State) : Host.Outcome State Fault Refusal :=
  match s.switch.txq.find? fun x => x.order == id && x.queue / 24 == p.val && x.started with
  | none => .next s
  | some x => s.event (!s.moored && s.tether.sendq.all fun u => u.port != p.val || u.unit.order != id + 1) fun s =>
      let s := ((if s.rd (PRT_CFG_MODE p) = 3 then s else s.emit (s.sentOf x p)).dequeue x).when x.isToAck fun s => s.enterL2 p
      if x.tlp.kind = .nonPosted ∧ x.own.isNone ∧ s.rd (PRT_CFG_MODE p) ≠ 3 then
        { s with switch := { s.switch with asked := s.switch.asked ++ [{ x with headSince := s.now }] } }
      else s

/-! Multicast. -/

/-- Member ports of group `n` (R348). -/
def State.members (s : State) (n : Nat) : List Nat :=
  idxs 128 fun p => bitSet (s.rd (SWC_MC_PORTS_PORTS n (p / 32))) (p % 32)

/-- Ports that get a copy of a TLP of group `n` that arrives on a tether (R414). -/
def State.transit (s : State) (n : Nat) : List Nat := idxs 128 fun p => bitSet (s.rd (MCT_TRANSIT n)) p

/-- Why port `p` misses a copy of `c` cells of class `t`: 0 not missed, 1 contained, alone or with its host, 2 dead, 3 over threshold (R350,
R508, R520). -/
def State.missReason (s : State) (p t c : Nat) : Nat :=
  if s.contained 1 p || (s.portHost p).any fun h => s.contained 2 h then 1 else if s.on (SWC_PORT_STATUS_DEAD p) then 2
  else if s.admitsCopy (queueOf p t 0) c then 0 else 3

/-- Function 0 of the host of upstream port `p` takes no request upstream from a downstream port, its Bus Master Enable being 0: the request is an
Unsupported Request (R230). -/
def State.bmeRefuses (s : State) (t : Tlp) (p : Nat) : Bool :=
  s.rd (PRT_CFG_MODE t.ingress) == 2 && (s.portHost p).any fun h => !s.on (HOSTF_F0BME h)

/-- The bank of the function that a multicast copy leaves by: function 0 of an upstream port, the virtual bridge of an exclusive one. -/
def State.copyBank (s : State) (p : Nat) : Option Nat :=
  match s.portHost p with
  | some h => some (f0Bank h)
  | none => if (s.boundHost p).isSome then some (vbBank (posIdx (s.rd (BINDX_HOST p)) (s.rd (BINDX_POS p)))) else none

/-- The address of a copy at egress port `p`: with MC_Enable and an overlay size of 6 or more, the overlay BAR replaces the bits from that size
on. The registers' layout is the PCI Express standard's, PRESUMED (R195, log entry 62). -/
def State.overlaid (s : State) (p addr : Nat) : Nat :=
  match s.copyBank p with
  | none => addr
  | some b =>
    let n := s.rd (BFX_MC b 4) % 64
    if bitSet (s.rd (BFX_MCCTL b)) 15 ∧ 6 ≤ n then s.rd (BFX_MC b 4) / 2 ^ n * 2 ^ n + addr % 2 ^ n else addr

/-- The copies of a multicast TLP: `mem` the member ports but the ingress port; a copy that is too large, cannot be expressed or finds no Bus
Master Enable is refused at its port (R198, R230, R341, R348 to R352). -/
def State.multicast (s : State) (t : Tlp) (n : Nat) (mem : List Nat) : State :=
  let c := cellsOf t.stored
  let id := s.rd SYS_ORDER
  let at_ := fun (p : Nat) => { t with egress := Fin.ofNat 128 p, addr := s.overlaid p t.addr }
  let s := (mem.filter fun p => decide (s.maxPayload p < t.payload)).foldl (fun s _ => s.uncorrectable t aerMalformed) s
  let mem := mem.filter fun p => !decide (s.maxPayload p < t.payload)
  let s := (mem.filter fun p => s.notExpressible (at_ p)).foldl (fun s p => s.fmtReject (at_ p)) s
  let mem := mem.filter fun p => !s.notExpressible (at_ p)
  let s := (mem.filter fun p => s.bmeRefuses t p).foldl (fun s _ => s.uncorrectable t aerUR) s
  let mem := mem.filter fun p => !s.bmeRefuses t p
  let hit := mem.filter fun p => s.missReason p t.tc c == 0
  let miss := mem.filter fun p => s.missReason p t.tc c != 0
  let vec := miss.foldl (fun v p => v + s.missReason p t.tc c * 2 ^ (2 * p)) 0
  let u := if hit.isEmpty then s else s.takeShared c
  let u := hit.foldl (fun s p =>
      s.enqueue ⟨at_ p, queueOf p t.tc 0, c, c, id, false, false, false, false, s.now, some id, false, none, c⟩) u
  let u := hit.foldl (fun s p => s.drainAged (queueOf p t.tc 0)) u
  let u := (u.bump SYS_ORDER).incBy (SWC_MC_COPIES_COPIES n) hit.length
  if miss.isEmpty then u
  else
    let u := miss.foldl (fun s p => s.inc (SWC_PORT_MISC_MC_DROP p)) (u.incBy (SWC_MC_MISSES_MISSES n) miss.length)
    ((u.inc SWC_MC_PARTIAL_COUNT_PARTIAL).wr SWC_EVENT_MC_PARTIAL 1).recordNear 144 0x0406 (s.tlpDoms { t with egress := t.ingress }) 0 (detM vec n t.ingress) []

/-- The ports that a multicast TLP of group `n` goes to: the members but the ingress port, or those of the transit vector when it arrives on a
tether (R348, R414). -/
def State.mcPorts (s : State) (t : Tlp) (n : Nat) : List Nat :=
  (if s.rd (PRT_CFG_MODE t.ingress) = 3 then s.transit n else s.members n).filter fun p => p != t.ingress.val

/-- The ingress of a port gives up a TLP of class `tc`, KIND `k`, type number `y` and `payload` bytes that came with place `o`: it waits, or its
credit is returned; on a tether it is taken from the ingress buffer, or its end is still to come (R267, R323, R328). -/
def State.leaveIngress (s : State) (o p : Nat) (t : Tlp) : State :=
  if s.rd (PRT_CFG_MODE p) = 3 then
    if s.stands p t.tc t.unitKind then ((s.takeRx fun x => x.port == p && x.kind == t.unitKind.val && x.tc == t.tc.val).settleRx p).markWhole fun x => x.order == o
    else s.wr (CYTX_EARLY p t.tc) 1
  else if s.switch.wait.any fun w => w.1 == o then s
  else s.fcReturn p (kindIdx t.kind) t.payload

/-- MULTICAST_TLP: stored once, with a copy in the posted queue of each port it goes to (R348, R414). It waits behind a TLP of its type that waits
at its ingress port, and for posted credit (R26, R324). -/
def execMulticastTlp (t : Tlp) (n : Fin 256) (s : State) : Host.Outcome State Fault Refusal :=
  (s.arrive t.ingress).event (s.on (SWC_MC_CFG_VALID n)) fun s =>
    let o := s.rd SYS_ORDER
    (match s.sourceFence t with
    | some f => s.fenceTlp t f
    | none =>
      if s.waitsBehind t || s.withheld o t then
        ({ s with switch := { s.switch with wait := s.switch.wait ++ [(o, t)], mcast := s.switch.mcast ++ [(o, n.val)] } }).bump SYS_ORDER
      else s.multicast t n (s.mcPorts t n)).leaveIngress o t.ingress t

/-- A TLP with place `n` that waited and came on a tether has wholly arrived, unless it is the last of its class there and its end is still to come
(R267, R333). -/
def State.cameWhole (s : State) (n : Nat) (t : Tlp) : Bool :=
  s.rd (PRT_CFG_MODE t.ingress) == 3 && (!s.on (CYTX_EARLY t.ingress t.tc)
    || s.switch.wait.any fun w => decide (n < w.1) && w.2.ingress == t.ingress && w.2.tc == t.tc)

/-- A TLP that waited is admitted, with the place in order that it has: to its queue, or as the copies of a multicast TLP; one that a containment
refuses by now, or that has lost its route, is refused (R317, R323, R411). Its credit is returned. -/
def State.admitWaiting (s : State) (n : Nat) (t : Tlp) : State :=
  let g := s.waitGroup n
  let whole := s.cameWhole n t
  let s := s.fcReturn t.ingress (kindIdx t.kind) t.payload
  let s := { s with switch := { s.switch with
    wait := removeFirst (fun w => w.1 == n) s.switch.wait
    mcast := s.switch.mcast.filter fun x => x.1 != n } }
  match g, (if g.isSome then s.sourceFence t else s.tlpFence t) with
  | _, some f => s.fenceTlp t f
  | some k, none => s.multicast t k (s.mcPorts t k)
  | none, none =>
    let t := s.retarget t
    if s.unrouted t then s.noRouteTlp t
    else ((s.admitAs n t).when whole fun s => s.markWhole fun x => x.order == n).drainAged (tlpQueue t)

/-- TLP_ADMIT_WAITING: TLPs that wait at ingress ports up to `p` are admitted once the threshold allows, in ascending order of port, one of each
(R322, R323). -/
def execTlpAdmitWaiting (p : Port) (s : State) : Host.Outcome State Fault Refusal :=
  .next ((s.forN (fun q s => match s.nextWaiting q with
    | none => s
    | some x => s.admitWaiting x.1 x.2) (p.val + 1)).release.settleAll)

end Sys2Proof.Machine
end

