-- ==== Sys2Proof/Machine/Request.lean ====
section
/-! DEFINITION. Requests that the SF256 issues (R202, R203, R402, R539 to R545): their tags, timeouts, synthesized
answers and quarantine. -/

namespace Sys2Proof.Machine

/-- Tags of a requester: 512 toward a host, 256 with 8-bit tags (R202); 256 toward a downstream port (R402); 1,024 toward
a node, which the spec leaves open (log entry 10). -/
def State.tagLimit (s : State) (k : ReqKind) (target : Nat) : Nat :=
  match k with
  | .host =>
    let flit := match s.hostPort target with
      | some p => s.on (PRT_LINK_STATUS_FLIT_ACTIVE p)
      | none => false
    if (flit && s.on (HOSTF_TAG14 target)) || s.on (HOSTF_TAG10 target) then 512 else 256
  | .port => 256
  | .node => 1023

/-- The next tag of a requester: one never taken, otherwise the one freed longest ago (R544); none when all are in use or
in quarantine (R545). -/
def State.takeTag (s : State) (k : ReqKind) (target : Nat) : Option (Nat × State) :=
  let key := reqKey k target
  let n := s.rd (TAGX_NEXT key)
  let lim := s.tagLimit k target
  if n < lim then some (n, s.wr (TAGX_NEXT key) (n + 1))
  else match s.switch.tags.find? fun x => x.1 == key && decide (x.2 < lim) with
    | some x => some (x.2, { s with switch := { s.switch with tags := removeFirst (fun y => y == x) s.switch.tags } })
    | none => none

/-- The completion timeout that an encoding selects, in ns (R203). -/
def ctovNs (v : Nat) : Nat :=
  if v = 1 then 80 * us else if v = 2 then 8 * ms else if v = 6 then 160 * ms else if v = 9 then 640 * ms
  else if v = 10 then 2500 * ms else 40 * ms

/-- The timeout of a request of kind `k` toward `target` (R539). -/
def State.timeoutOf (s : State) (k : ReqKind) (target : Nat) : Nat :=
  match k with
  | .host => ctovNs (s.rd (HOSTF_CTOV target))
  | .port => ctovNs (s.rd (ERR_PORT_CTO_DS_TIMEOUT target))
  | .node => ms * s.rd ERR_CFG_FABRIC_TIMEOUT_MS

/-- OUTSTANDING of a host's port and QUARANTINED follow the requests. -/
def State.outView (s : State) : State :=
  let s := s.wr ERR_QUAR_QUARANTINED (s.outst.filter fun o => o.quarantined).length
  s.forN (fun h s => match s.hostPort h with
    | none => s
    | some p => s.wr (PRT_HOST_STATUS_OUTSTANDING p)
        (s.outst.filter fun o => o.kind == .host && o.target == h && !o.quarantined).length) 48

/-- A request issued, when a tag is free: its tag and the state (R544, R545). -/
def State.issue (s : State) (k : ReqKind) (target waiter src requester otag seq : Nat) (store : Bool) (link : Option Nat)
    (pasid : Option Nat := none) (tc addr : Nat := 0) : Option (Nat × State) :=
  match s.takeTag k target with
  | none => none
  | some (tag, s) =>
    let o : Outst := ⟨k, target, tag, s.now, s.timeoutOf k target, waiter, src, requester, otag, seq, store, link, pasid, [], false, false, tc, addr⟩
    some (tag, State.outView { s with outst := s.outst ++ [o] })

/-- A request or a tag in quarantine ends, and its tag is free (R544). -/
def State.endReq (s : State) (o : Outst) : State :=
  State.outView { s with
    outst := removeFirst (fun x => x == o) s.outst
    switch := { s.switch with tags := s.switch.tags ++ [(reqKey o.kind o.target, o.tag)] } }

/-- The source that means no requester beyond the waiting operation. -/
def noSource : Nat := 300

/-- The source of a request that serves a command of an issuer: a gondola's requests are known as its own (R765). -/
def issuerSource : Issuer → Nat
  | .g g => 1024 + g
  | _ => noSource

/-- The source that means a device at port `p`, whose request went to another node. -/
def portSource (p : Nat) : Nat := 512 + p

/-- The completion of a device's request to another node, on its way from tether `link` to the device's port (R404). -/
def peerCompletion (o : Outst) (st : Nat) (data : List (BitVec 8)) (poison : Bool) : Tlp :=
  ⟨.completion, if data.isEmpty then 0x0A else 0x4A, Fin.ofNat 8 o.tc, 12 + data.length, data.length, Fin.ofNat 128 (o.link.getD 0),
    Fin.ofNat 128 (o.src - 512), 48, o.requester, o.otag, none, 0, false, false, poison, false, false, st, none, 0, data, none⟩

/-- A completion of a request goes back to whoever waits on it: the host whose request went to another node, or the
node whose request this node issued as a proxy; it is the last one where `last` says so (R404). A store that awaited its report waits no more. -/
def State.answerReq (s : State) (o : Outst) (st : Nat) (data : List (BitVec 8)) (poison : Bool) (last : Bool := true) : State :=
  if o.store then s
  else if o.src < 48 then
    if s.contained 2 o.src || (s.gondFence o.src o.pasid).isSome || s.on (HOSTF_IN_RESET o.src) then s
    else s.completeRead o.src o.tc o.addr o.requester o.otag st data poison
  else if 64 ≤ o.src ∧ o.src < 128 then s.answerUnits (o.src - 64) o.requester o.tc 4 o.addr o.otag st data poison last
  else if 512 ≤ o.src ∧ o.src < 640 then (s.ingress (peerCompletion o st data poison)).markWhole fun x => x.order == s.rd SYS_ORDER
  else s

/-- What has been given of a request's data is noted in its address. -/
def State.advanceReq (s : State) (o : Outst) (n : Nat) : State :=
  { s with outst := updateAll (fun x => x == o) (fun x => { x with addr := x.addr + n }) s.outst }

/-- The waiter of a request that fetches the payload of append `id`. -/
def appendWaiter (id : Nat) : Nat := 2 ^ 20 + id

/-- The command behind waiter `w` ends with status `st`: an append that consumes no LSN, or a long operation (R540, R658). -/
def State.failWaiter (s : State) (w st : Nat) : State :=
  if w = 0 then s
  else if 2 ^ 20 ≤ w then
    let gone := s.pool.appends.filter fun a => appendWaiter a.id == w
    let s := { s with pool := { s.pool with appends := s.pool.appends.filter fun a => appendWaiter a.id != w } }
    let s := gone.foldl (fun (s : State) (a : Append) => s.restShaper a.issuer) s
    s.finishLates 0x060E (w - 2 ^ 20) st 0
  else s.endOp w st 0

/-- A request answered with a synthesized Completer Abort, or with completion status `cpl`: a command whose work depended on it ends with `st`,
and the tag is in quarantine (R289, R379, R540). -/
def State.abortReq (s : State) (o : Outst) (st : Nat) (cpl : Nat := cplCA) : State :=
  let s := s.answerReq o cpl [] false
  let s := s.failWaiter o.waiter st
  if o.store then s.endReq o
  else State.outView { s with outst := updateAll (fun x => x == o) (fun x => { x with quarantined := true }) s.outst }

/-- Every request of `s` that satisfies `p` and is not in quarantine answered so. -/
def State.abortAll (s : State) (p : Outst → Bool) (st : Nat) : State :=
  (s.outst.filter fun o => !o.quarantined && p o).foldl (fun s o => s.abortReq o st) s

/-- The requests of the part that the core discarded are answered with the status noted, Completer Abort for the most part (R312, R341, R347); a
host's store among them counts for its next barrier (R603). -/
def State.endFailed (s : State) : State :=
  s.switch.failed.foldl (fun s f => match s.outst.find? fun o => !o.quarantined && reqKey o.kind o.target == f.1 && o.tag == f.2.1 with
    | some o => if o.store then (s.countDiscard o.src 0).endReq o else s.abortReq o stHwError f.2.2
    | none => s) { s with switch := { s.switch with failed := [] } }

/-- The request or quarantined tag of a kind, target and tag. -/
def State.reqOf (s : State) (k : ReqKind) (target tag : Nat) : Option Outst :=
  s.outst.find? fun o => o.kind == k && o.target == target && o.tag == tag

/-- The domain that a request of the SF256 goes to (R509). -/
def reqDomain (k : ReqKind) (target : Nat) : List (Nat × Nat) :=
  match k with
  | .host => [(2, target)]
  | .port => [(1, target)]
  | .node => [(5, target)]

/-- The port through which a request of a kind and target leaves, when it is not a tether. -/
def State.askPort (s : State) (k : ReqKind) (target : Nat) : Option Nat :=
  match k with
  | .host => s.hostPort target
  | .port => some target
  | .node => none

/-- Detail layout T of the request `o` of the SF256 (R508). -/
def State.detReq (s : State) (o : Outst) (v : Nat) : Nat := s.detAsk (s.askPort o.kind o.target) o.requester o.tag o.tc o.addr v

/-- COMPLETION_TIMEOUT: the request's timeout expires (R540). A host's request to another node is timed by the host. -/
def execCompletionTimeout (k : ReqKind) (target : Port) (tag : BitVec 14) (s : State) : Host.Outcome State Fault Refusal :=
  match s.reqOf k target tag.toNat with
  | none => .next s
  | some o => s.event (!o.quarantined && !o.store && decide (48 ≤ o.src)) fun s =>
      let s := s.advTo (o.issuedAt + o.timeout)
      let s := ((s.inc ERR_CPL_COUNT_CTO).wr ERR_EVENT_CTO 1).recordNear 173 0x0205 (reqDomain o.kind o.target) 0 (s.detReq o o.target)
        (if o.kind = .host then [o.target] else [])
      s.abortReq o stTimeout

end Sys2Proof.Machine
end

