-- ==== Sys2Proof/Machine/Ycp.lean ====
section
/-! DEFINITION. The DEVICE commands of queries, cancels, spools and the management host, the mailboxes, the doorbells
and the handles (chapter 15; R896, R897). -/

namespace Sys2Proof.Machine

/-! Shared operations. -/

/-- An issuer may name the resources of host `h` (R694). -/
def ownsHost (h : Nat) : Issuer → Bool
  | .m => true
  | .h x => x == h
  | .g _ => false

/-- An issuer may name gondola `g` (R694). -/
def State.ownsGond (s : State) (g : Nat) : Issuer → Bool
  | .m => true
  | .h x => s.on (GND_VALID g) && s.rd (GND_HOST g) == x
  | .g x => x == g

/-- An issuer may name spool `n` (R694). -/
def State.ownsSpool (s : State) (n : Nat) (i : Issuer) : Bool :=
  if s.on (SPL_GONDOLA_OWNED n) then s.ownsGond (s.rd (SPL_GONDOLA n)) i else ownsHost (s.rd (SPL_HOST n)) i

/-- The operation with handle `h`. -/
def State.opOf (s : State) (h : Nat) : Option Op := s.ops.find? fun o => o.handle == h

/-- The last step of an operation has begun: a fill or a copy has issued all its stores and waits only for them (R717, R645). -/
def Op.lastStep (o : Op) : Bool := (o.opcode == 0x0609 || o.opcode == 0x060A) && decide (0 < o.total) && decide (o.total ≤ o.done)

/-- An issuer may query or cancel an operation (R716). -/
def ownsOp (o : Op) (i : Issuer) : Bool := i == .m || i == o.issuer

/-- The running control firmware's version, in the layout of PEN_FW_VERSION. -/
def State.fwVersion (s : State) : Nat :=
  s.rd PEN_FW_VERSION_PATCH + s.rd PEN_FW_VERSION_MINOR * 2 ^ 8 + s.rd PEN_FW_VERSION_MAJOR * 2 ^ 16

/-- A held status waits for its gondola's thaw (R754, R763). -/
def State.heldFrozen (s : State) (x : Held) : Bool := s.on (SPL_GONDOLA_OWNED x.spool) && s.rd (GND_STATE (s.rd (SPL_GONDOLA x.spool))) == 3

/-- The statuses held for host `h`, but for those of a frozen gondola, delivered in completion order (R228, R763). -/
def State.deliverHeld (s : State) (h : Nat) : State :=
  let due := fun (x : Held) => s.rd (SPL_HOST x.spool) == h && !s.heldFrozen x
  let mine := s.held.filter due
  let s := { s with held := s.held.filter fun x => !due x }
  mine.foldl (fun s x => if !s.on (SPL_VALID x.spool) || s.on (SPL_STOPPED x.spool) then s else s.writeSpool x.spool x.status x.final) s

/-- Stops spool `n` (R704). -/
def State.stopSpool (s : State) (n : Nat) : State := (s.wr (SPL_STOPPED n) 1).wr YCP_EVENT_SPOOL_ERR 1

/-- The fields of spool `n` and their reset values. -/
def State.eraseSpool (s : State) (n : Nat) : State := s.clearRange (splAddr n) 32

/-- Removes spool `n`: its table entry, doorbell slot and counts; statuses held for it are discarded. -/
def State.removeSpool (s : State) (n : Nat) : State :=
  let h := s.rd (SPL_HOST n)
  let d := s.rd (SPL_DB_SLOT n)
  let g := s.rd (SPL_GONDOLA n)
  let s := if s.on (SPL_GONDOLA_OWNED n) then
      ((s.wr (GDB_SPOOL g d) 0).wr (GDB_LATCHED g d) 0).dec (GND_SPOOLS_USED g)
    else (s.wr (HDB_SPOOL h d) 0).dec QUOTA_HOSTSPOOLS
  let s := s.when (s.rd (SPL_KIND n) == 0) fun s => s.dec (SPLX_CMDS (s.rd (SPL_PAIRED n)))
  let s := { s with held := s.held.filter fun x => x.spool != n }
  ((s.eraseSpool n).wrs [(SPLX_CMDS n, 0), (SPLX_PASS n, 0), (SPLX_COAL_DUE n, 0)]).dec YCP_STATUS_SPOOLS_USED

/-- Deletes the spools in the doorbell slots of host `h` (R706). -/
def State.deleteHostSpools (s : State) (h : Nat) : State :=
  s.forN (fun d s => if s.rd (HDB_SPOOL h d) = 0 then s else s.removeSpool (s.rd (HDB_SPOOL h d) - 1)) 512

/-- Deletes the spools of gondola `g` (R764 step 4). -/
def State.deleteGondSpools (s : State) (g : Nat) : State :=
  s.forN (fun d s => if s.rd (GDB_SPOOL g d) = 0 then s else s.removeSpool (s.rd (GDB_SPOOL g d) - 1)) 512

/-- A mailbox in its reset state (R706, R764). -/
def State.resetMailbox (s : State) (m : Nat) : State := s.clearRange (mbxBase m) 0x1000

/-! Device commands. -/

/-- DEVICE_INFO (R721). -/
def execDeviceInfo (c : Cmd) (s : State) : Host.Outcome State Fault Refusal :=
  .next (s.command 0x0101 anyIssuer (cleanCmd c [] false) (fun _ =>
    .ok (s.fwVersion + (s.rd MGT_NODE_ID_NODE_ID + s.rd MGT_NODE_ID_NODE_VALID * 2 ^ 15) * 2 ^ 32
      + (s.rd MGT_MGMT_HOST_HOST + s.rd MGT_MGMT_HOST_VALID * 2 ^ 15) * 2 ^ 48
      + Config.serial.toNat * 2 ^ 64) s) c)

/-- The result of a query of operation `o` (R715, R721): state, final status, opcode, DONE and TOTAL. -/
def queryResult (o : Op) : Nat :=
  (match o.final with | some st => 2 + st * 2 ^ 8 | none => b2n o.cancel) + o.opcode * 2 ^ 16
    + o.done % 2 ^ 64 * 2 ^ 64 + o.total % 2 ^ 64 * 2 ^ 128

/-- DEVICE_OP_QUERY (R715, R716, R718): a final status read once frees the handle (R643), but a handle that a mooring
recorded stays until its time ends. -/
def execDeviceOpQuery (c : Cmd) (s : State) : Host.Outcome State Fault Refusal :=
  let h := parBytes c 0 2
  .next (s.command 0x0102 (fun i => ((s.opOf h).map (ownsOp · i)).getD true) (cleanCmd c [(0, 16)] false) (fun _ =>
    match s.opOf h with
    | none => .fail stBadParam
    | some o =>
      .ok (queryResult o)
        (if o.final.isSome && !o.recorded then s.setOps (s.ops.filter fun x => x.handle != h) else s)) c)

/-- DEVICE_OP_CANCEL (R717): registered while the operation has no final status, too late after it. A paused operation
stands at a step boundary, so its cancel takes effect at once (R762). -/
def execDeviceOpCancel (c : Cmd) (s : State) : Host.Outcome State Fault Refusal :=
  let h := parBytes c 0 2
  .next (s.command 0x0103 (fun i => ((s.opOf h).map (ownsOp · i)).getD true) (cleanCmd c [(0, 16)] false) (fun _ =>
    match s.opOf h with
    | none => .fail stBadParam
    | some o =>
      if o.final.isSome || o.lastStep then .ok 1 s
      else if o.paused then .ok 0 (s.endOp h stCancelled 0)
      else .ok 0 { s with ops := updateAll (fun x => x.handle == h) (fun x => { x with cancel := true }) s.ops }) c)

/-- Names host `h` the management host, by command or by the strap (R896, R897). -/
def State.setMgmt (s : State) (h : Nat) (byCommand : Bool) : State :=
  let s := match s.mgmtHost with
    | some o => s.wr (HV_ID_IS_MGMT o) 0
    | none => s
  s.wrs [(MGT_MGMT_HOST_HOST, h), (MGT_MGMT_HOST_VALID, 1), (MGT_MGMT_HOST_BY_COMMAND, b2n byCommand),
    (HV_ID_IS_MGMT h, 1)]

/-- DEVICE_MGMT_SET (R897). -/
def execDeviceMgmtSet (c : Cmd) (s : State) : Host.Outcome State Fault Refusal :=
  let h := parBytes c 0 1
  .next (s.command 0x0104 onlyM (cleanCmd c [(0, 8)] false && decide (h < 48)) (fun _ =>
    if (s.hostPort h).isNone then .fail stBadParam else .ok 0 (s.setMgmt h true)) c)

/-- The lowest free spool number (R721). -/
def State.freeSpool (s : State) : Option Nat := findFrom (fun n => !s.on (SPL_VALID n)) 0 32768

/-- Makes spool `n` in doorbell slot `d` from the parameters of DEVICE_SPOOL_CREATE (R701, R702, R721, R739). -/
def State.makeSpool (s : State) (c : Cmd) (n d : Nat) : State :=
  let gond := parBits c 160 1
  let h := parBytes c 17 1
  let g := parBytes c 18 2
  let kind := parBytes c 0 1
  let s := s.wrs [(SPL_VALID n, 1), (SPL_KIND n, kind), (SPL_GONDOLA_OWNED n, gond), (SPL_HOST n, h),
    (SPL_GONDOLA n, if gond = 1 then g else 0), (SPL_SIZE_LOG2 n, parBytes c 1 1),
    (SPL_PAIRED n, if kind = 0 then parBytes c 2 2 else 0), (SPL_VECTOR n, parBytes c 4 2),
    (SPL_COALESCE_US n, parBytes c 6 2), (SPL_OUT_MAX n, parBytes c 16 1), (SPL_DB_SLOT n, d),
    (SPL_BASE n, parBytes c 8 8)]
  let s := if gond = 1 then (s.wr (GDB_SPOOL g d) (n + 1)).bump (GND_SPOOLS_USED g)
    else (s.wr (HDB_SPOOL h d) (n + 1)).bump QUOTA_HOSTSPOOLS
  (s.when (kind == 0) fun s => s.bump (SPLX_CMDS (parBytes c 2 2))).bump YCP_STATUS_SPOOLS_USED

/-- DEVICE_SPOOL_CREATE (R699 to R702, R721, R736, R739). -/
def execDeviceSpoolCreate (c : Cmd) (s : State) : Host.Outcome State Fault Refusal :=
  let kind := parBytes c 0 1
  let n := parBytes c 1 1
  let q := parBytes c 2 2
  let h := parBytes c 17 1
  let g := parBytes c 18 2
  let gond := parBits c 160 1 == 1
  let own := fun i => if gond then s.ownsGond g i else ownsHost h i
  let ownQ := fun i => kind != 0 || !s.on (SPL_VALID q) || s.ownsSpool q i
  .next (s.command 0x0105 (fun i => own i && ownQ i)
    (cleanCmd c [(0, 8), (8, 8), (16, 16), (32, 16), (48, 16), (64, 64), (128, 8), (136, 8), (144, 16), (160, 1)] false
      && decide (kind ≤ 1) && decide (1 ≤ n) && decide (n ≤ 16) && decide (q < 32768) && decide (parBytes c 4 2 < 2048)
      && decide (parBytes c 6 2 ≤ 1000) && parBytes c 8 8 % 4096 == 0
      && (kind == 1 || decide (1 ≤ parBytes c 16 1) && decide (parBytes c 16 1 ≤ 64))
      && decide (h < 48) && decide (g < 1024))
    (fun _ =>
      firstFail
        [(gond && (!s.on (GND_VALID g) || s.rd (GND_HOST g) != h), stBadParam),
         (kind == 0 && (!s.on (SPL_VALID q) || s.rd (SPL_KIND q) != 1 || s.rd (SPL_HOST q) != h
            || s.on (SPL_GONDOLA_OWNED q) != gond || (gond && s.rd (SPL_GONDOLA q) != g)), stBadParam),
         (kind == 0 && decide (64 ≤ s.rd (SPLX_CMDS q)), stNoResource),
         (gond && decide (s.rd (GND_SPOOL_QUOTA g) ≤ s.rd (GND_SPOOLS_USED g)), stNoResource),
         (!gond && decide (32768 ≤ s.rd QUOTA_SPOOLS + s.rd QUOTA_HOSTSPOOLS), stNoResource)]
        (match s.freeSpool, findFrom (fun d => (if gond then s.rd (GDB_SPOOL g d) else s.rd (HDB_SPOOL h d)) == 0) 0 512 with
         | some m, some d => .ok (m + d * 2 ^ 16) (s.makeSpool c m d)
         | _, _ => .fail stNoResource)) c)

/-- DEVICE_SPOOL_DELETE: BUSY while commands from the spool lack a final status, this one among them, or while a command
spool names it (R721). -/
def execDeviceSpoolDelete (c : Cmd) (s : State) : Host.Outcome State Fault Refusal :=
  let n := parBytes c 0 2
  .next (s.command 0x0106 (fun i => !s.on (SPL_VALID n) || s.ownsSpool n i)
    (cleanCmd c [(0, 16)] false && decide (n < 32768))
    (fun _ =>
      firstFail
        [(!s.on (SPL_VALID n), stBadParam),
         (decide (0 < s.rd (SPL_NOT_FINAL n))
            || (match c.path with | .spool k => k.val == n || s.rd (SPL_PAIRED k.val) == n | _ => false), stBusy),
         (s.rd (SPL_KIND n) == 1 && decide (0 < s.rd (SPLX_CMDS n)), stBusy)]
        (.ok 0 (s.removeSpool n))) c)

/-! Mailboxes and doorbells. -/

/-- A write of the request TAIL of mailbox `m` (R697): ignored, with OVERRUN, when it is more than 32 ahead of HEAD or
behind it, all indices taken modulo 65,536. -/
def execMbxReqTailWrite (m : Fin 1073) (v : BitVec 16) (s : State) : Host.Outcome State Fault Refusal :=
  .next (if (v.toNat + 65536 - s.rd (YCP_MBX_REQ_HEAD m)) % 65536 ≤ 32 then s.wr (YCP_MBX_REQ_TAIL m) v.toNat
    else (s.wr (YCP_MBX_STATUS_OVERRUN m) 1).wr YCP_EVENT_MBX_ERR 1)

/-- A write of the response HEAD of mailbox `m` (R697): ignored, with BAD_HEAD, when it lies beyond TAIL. -/
def execMbxRspHeadWrite (m : Fin 1073) (v : BitVec 16) (s : State) : Host.Outcome State Fault Refusal :=
  let h := s.rd (YCP_MBX_RSP_HEAD m)
  .next (if (v.toNat + 65536 - h) % 65536 ≤ (s.rd (YCP_MBX_RSP_TAIL m) + 65536 - h) % 65536 then
      s.wr (YCP_MBX_RSP_HEAD m) v.toNat
    else (s.wr (YCP_MBX_STATUS_BAD_HEAD m) 1).wr YCP_EVENT_MBX_ERR 1)

/-- A doorbell value acts on spool `n` (R703, R704): a new tail of a command spool, a new head of a status spool; a
value outside the ring, a tail past the head or a head past the tail stops the spool. -/
def State.ringDoorbell (s : State) (n v : Nat) : State :=
  let size := 2 ^ s.rd (SPL_SIZE_LOG2 n)
  let used := (s.rd (SPL_TAIL n) + size - s.rd (SPL_HEAD n)) % size
  let x := (v + size - s.rd (SPL_HEAD n)) % size
  if s.on (SPL_STOPPED n) then s
  else if size ≤ v then s.stopSpool n
  else if s.rd (SPL_KIND n) = 0 then (if x < used then s.stopSpool n else s.wr (SPL_TAIL n) v)
  else if used < x then s.stopSpool n else s.wr (SPL_HEAD n) v

/-- A gondola latches its doorbells while it is FREEZING or FROZEN (R751). -/
def State.latches (s : State) (g : Nat) : Bool := s.rd (GND_STATE g) == 2 || s.rd (GND_STATE g) == 3

/-- A write to doorbell slot `d` of host `h`'s page, or of gondola `g`'s page (R703, R739, R751, R520): ignored for a
slot without a spool, discarded for a contained gondola, latched while the gondola is frozen. -/
def execSpoolDoorbellWrite (h : Host) (g : Option Gond) (d : Fin 512) (v : BitVec 16) (s : State) :
    Host.Outcome State Fault Refusal :=
  .next (match g with
    | none => if s.rd (HDB_SPOOL h d) = 0 then s else s.ringDoorbell (s.rd (HDB_SPOOL h d) - 1) v.toNat
    | some g =>
      if s.rd (GDB_SPOOL g d) = 0 ∨ s.contained 3 g then s
      else if s.latches g then (s.wr (GDB_LATCH g d) v.toNat).wr (GDB_LATCHED g d) 1
      else s.ringDoorbell (s.rd (GDB_SPOOL g d) - 1) v.toNat)

/-- A command read of spool `n` ended in a completion timeout or an error completion (R704). -/
def execSpoolReadFailed (n : Fin 32768) (s : State) : Host.Outcome State Fault Refusal :=
  s.event (s.on (SPL_VALID n) && s.rd (SPL_KIND n) == 0) fun s => s.stopSpool n

/-- The coalescing time of status spool `q` ends: one MSI-X covers its statuses (R721). -/
def execSpoolCoalesceExpiry (q : Fin 32768) (s : State) : Host.Outcome State Fault Refusal :=
  s.event (s.rd (SPLX_COAL_DUE q) != 0) fun s =>
    let s := (s.advTo (s.rd (SPLX_COAL_DUE q) - 1)).wr (SPLX_COAL_DUE q) 0
    s.msix (s.rd (SPL_HOST q)) (s.rd (SPL_VECTOR q))

/-- 60 s have passed since the final status of the operation with handle `h`: the handle is free (R643). -/
def execHandleExpire (h : BitVec 16) (s : State) : Host.Outcome State Fault Refusal :=
  match s.opOf h.toNat with
  | some o => s.event (o.final.isSome && !o.recorded) fun s =>
      (s.advTo (o.finishedAt + 60 * sec)).setOps (s.ops.filter fun x => x.handle != h.toNat)
  | none => .next s

/-- 60 s after READY the handles of the handle area end, and the area is emptied (R718). -/
def execHandleAreaExpire (s : State) : Host.Outcome State Fault Refusal :=
  s.event (s.on READYX_AREA) fun s =>
    let s := (s.advTo (s.rd READYX_AT + 60 * sec)).wr READYX_AREA 0
    { s.setOps (s.ops.filter fun o => !o.recorded) with mooring := { s.mooring with handles := [] } }

/-- A write of GO to YCP_IND_SEL takes a snapshot of the spool it names (R701). -/
def execYcpIndGo (v : BitVec 31) (s : State) : Host.Outcome State Fault Refusal :=
  let n := v.toNat % 32768
  .next (((s.wr YCP_IND_SEL_SPOOL n).wrs [(YCP_IND_STATUS_DONE, 0), (SNAPX_DUE, setBit (s.rd SNAPX_DUE) 5)]).snapshot splLayout (splAddr n) YCP_IND_DATA_WORD 7)

end Sys2Proof.Machine
end

