-- ==== Sys2Proof/Machine/Host.lean ====
section
/-! DEFINITION. Function 1 toward its host (chapter 05): Bus Master Enable, D-states, wake events and what waits for
them (R218 to R230). -/

namespace Sys2Proof.Machine

/-- PRT_HOST_STATUS of host `h`'s port follows the functions' state. -/
def State.hostView (s : State) (h : Nat) : State :=
  match s.hostPort h with
  | none => s
  | some p => s.wrs [(PRT_HOST_STATUS_DSTATE p, s.rd (HOSTF_PM h)), (PRT_HOST_STATUS_F1_BME p, s.rd (HOSTF_BME h)),
      (PRT_HOST_STATUS_F1_MSE p, s.rd (HOSTF_MSE h)), (PRT_HOST_STATUS_F0_BME p, s.rd (HOSTF_F0BME h)),
      (PRT_HOST_STATUS_PME_EN p, s.rd (HOSTF_PMEEN h))]

/-- An event of host `h`'s upstream port. -/
def State.hostEvent (s : State) (h : Nat) (f : Nat → Fld) : State :=
  match s.hostPort h with
  | none => s
  | some p => s.wr (f p) 1

/-- A pending vector of function 1 of host `h` sent, when nothing masks it. -/
def State.sendPending (s : State) (h v : Nat) : State :=
  if bitSet (s.rd (HV_PBA h (v / 32))) (v % 32) && bit (s.rd (HV_MSIX h v)) 96 == 0 then
    (s.wr (HV_PBA h (v / 32)) (clrBit (s.rd (HV_PBA h (v / 32))) (v % 32))).toHostPort h .posted 4 0 (.msix h v)
  else s

/-- The pending vectors of host `h` sent once MSI-X is enabled, the function is not masked and requests may be issued, as
the standard defines (R211, R227). -/
def State.flushMsix (s : State) (h : Nat) : State :=
  if s.on (HOSTF_MSIXEN h) && !s.on (HOSTF_MSIXMASK h) && s.hostOpen h && !s.contained 2 h then
    s.forN (fun w s => if s.rd (HV_PBA h w) = 0 then s else s.forN (fun b s => s.sendPending h (32 * w + b)) 32) 64
  else s

/-- Requests toward host `h` may be issued again: what waited is sent (R219, R227, R228). -/
def State.hostOpened (s : State) (h : Nat) : State := if s.hostOpen h then (s.deliverHeld h).flushMsix h else s

/-- Bus Master Enable of function 1 of host `h` written (R224, R228). -/
def State.setBme (s : State) (h : Nat) (b : Bool) : State :=
  if s.on (HOSTF_BME h) = b then s
  else
    let s := (s.wr (HOSTF_BME h) (b2n b)).hostView h
    if b then s.hostOpened h else s.hostEvent h PRT_EVENT_BME_CLEARED

/-- Function 1 of host `h` enters D3hot: stores in its write buffer go on being performed, and the vote waits for them
(R218). -/
def State.enterD3 (s : State) (h : Nat) : State :=
  if s.rd (HOSTF_PM h) = 3 then s
  else (((s.wr (HOSTF_PM h) 3).wr (HOSTF_D3EMPTY h) 1).hostView h).hostEvent h PRT_EVENT_D3_ENTRY

/-- Function 1 of host `h` returns to D0 with its state kept (R219, R777). -/
def State.leaveD3 (s : State) (h : Nat) : State :=
  if s.rd (HOSTF_PM h) = 3 then (((s.wr (HOSTF_PM h) 0).wr (HOSTF_D3EMPTY h) 0).hostView h).hostOpened h else s

/-- WAKE_N of host `h` released (R222). -/
def State.releaseWake (s : State) (h : Nat) : State :=
  match s.hostPort h with
  | none => s
  | some p =>
    if s.on (PRT_HOST_STATUS_WAKE_DRIVEN p) then (s.wr (PRT_HOST_STATUS_WAKE_DRIVEN p) 0).emit (.pin 1 h true) else s

/-- Nothing of host `h` waits to be performed in the pool. -/
def State.hostBufEmpty (s : State) (h : Nat) : Bool := s.bufUsed h == 0 && s.pool.waiting.all fun a => a.src != h

/-- BME_CLEAR (R224 to R227). -/
def execBmeClear (h : Host) (s : State) : Host.Outcome State Fault Refusal := .next ((s.arriveHost h).setBme h false)

/-- BME_SET (R228). -/
def execBmeSet (h : Host) (s : State) : Host.Outcome State Fault Refusal := .next ((s.arriveHost h).setBme h true)

/-- D3HOT_ENTRY (R218). -/
def execD3hotEntry (h : Host) (s : State) : Host.Outcome State Fault Refusal := .next (s.enterD3 h)

/-- D0_RETURN (R219). -/
def execD0Return (h : Host) (s : State) : Host.Outcome State Fault Refusal := .next ((s.arriveHost h).leaveD3 h)

/-- HOST_VOTE_WITHDRAW: the vote that waited for the host's write buffer ends (R218, R777). -/
def execHostVoteWithdraw (h : Host) (s : State) : Host.Outcome State Fault Refusal :=
  s.event (s.on (HOSTF_D3EMPTY h) && s.hostBufEmpty h) fun s => s.wr (HOSTF_D3EMPTY h) 0

/-- FLR_WRITE: no effect (R229). -/
def execFlrWrite (_h : Host) (s : State) : Host.Outcome State Fault Refusal := .next s

/-- WAKE_EVENT_HOST (R220 to R223). -/
def execWakeEventHost (h : Host) (s : State) : Host.Outcome State Fault Refusal := .next (s.wakeHost h)

end Sys2Proof.Machine
end

