-- ==== Sys2Proof/Machine/PoolCmd.lean ====
section
/-! DEFINITION. The POOL commands that configure the pool and its durable domains (R555, R572 to R578, R614, R623,
R629 to R631, R726). -/

namespace Sys2Proof.Machine

/-- Some window is valid (R555). -/
def State.anyWindow (s : State) : Bool := (findFrom (fun w => s.on (WIN_VALID w)) 0 4096).isSome

/-- POOL_MAP_SET (R554, R555, R556, R948). The save copies and the gondola tables keep their contents at their pool
addresses, so only the map changes. -/
def execPoolMapSet (c : Cmd) (s : State) : Host.Outcome State Fault Refusal :=
  let w := parBytes c 0 1
  .next (s.command 0x0601 onlyM (cleanCmd c [(0, 8)] false)
    (fun _ => firstFail
      [(s.anyWindow, stBusy), (!(w == 1 || w == 2 || w == 4 || w == 8) || decide (s.rd BAL_STATUS_N < w), stBadParam)]
      (.ok 0 (s.wr BAL_STATUS_W w))) c)

/-- The channels that the pool bytes from `base` to `limit`, a window's range, use: every way of each interleave set
that the range touches, since a window is larger than one round of granules (R554, R568). -/
def State.windowChannels (s : State) (base limit : Nat) : Nat :=
  let n := s.rd BAL_STATUS_N
  let w := s.rd BAL_STATUS_W
  let size := s.poolC * w / n
  (List.range n).foldl (fun m k =>
    if base / size ≤ k / w ∧ k / w ≤ limit / size then m ||| 2 ^ popChannel n k else m) 0

/-- The attributes of a window, as POOL_WINDOW_SET gives them: BASE, LIMIT, STRICT, DOMAIN, SPILL and OWNER. -/
structure WinAttr where
  base : Nat
  limit : Nat
  strict : Nat
  domValid : Nat
  dom : Nat
  spill : Nat
  ownValid : Nat
  owner : Nat
  deriving DecidableEq, Repr

/-- The attributes that a command gives. -/
def winOfCmd (c : Cmd) : WinAttr :=
  ⟨parBytes c 8 8, parBytes c 16 8, parBits c 16 1, parBits c 17 1, parBytes c 3 1, parBits c 18 1, parBits c 19 1,
    parBytes c 4 2⟩

/-- The attributes that window `w` has. -/
def State.winAttr (s : State) (w : Nat) : WinAttr :=
  ⟨s.rd (WIN_BASE w), s.rd (WIN_LIMIT w), s.rd (WIN_STRICT w), s.rd (WIN_DOMAIN_VALID w), s.rd (WIN_DOMAIN w),
    s.rd (WIN_SPILL w), s.rd (WIN_OWNER_VALID w), s.rd (WIN_OWNER w)⟩

/-- Size of a window in 4 KiB units. -/
def WinAttr.units (a : WinAttr) : Nat := (a.limit + 1 - a.base) / 4096

/-- The totals of strict and SPILL windows in BAL_SPILL_SIZE. -/
def State.windowTotals (s : State) : State :=
  (s.wr BAL_SPILL_SIZE_SPILL_MIB (s.rd QUOTA_SPILL / 256)).wr BAL_SPILL_SIZE_STRICT (s.rd QUOTA_STRICT)

/-- Window `w` removed from the table and from the totals and its owner's quota. -/
def State.eraseWindow (s : State) (w : Nat) : State :=
  if s.on (WIN_VALID w) then
    let a := s.winAttr w
    let s := s.clearRange (winAddr w) 32
    let s := if a.strict = 1 then s.dec QUOTA_STRICT else s
    let s := if a.spill = 1 then s.wr QUOTA_SPILL (s.rd QUOTA_SPILL - a.units) else s
    if a.ownValid = 1 then s.wr (GND_POOL_USED a.owner) (s.rd (GND_POOL_USED a.owner) - a.units) else s
  else s

/-- Window `w` entered in the table with attributes `a` (R572). -/
def State.putWindow (s : State) (w : Nat) (a : WinAttr) : State :=
  let s := s.eraseWindow w
  let s := s.wrs [(WIN_VALID w, 1), (WIN_STRICT w, a.strict), (WIN_DOMAIN_VALID w, a.domValid),
    (WIN_DOMAIN w, if a.domValid = 1 then a.dom else 0), (WIN_SPILL w, a.spill), (WIN_OWNER_VALID w, a.ownValid),
    (WIN_OWNER w, if a.ownValid = 1 then a.owner else 0), (WIN_CHANNELS w, s.windowChannels a.base a.limit),
    (WIN_BASE w, a.base), (WIN_LIMIT w, a.limit)]
  let s := if a.strict = 1 then s.bump QUOTA_STRICT else s
  let s := if a.spill = 1 then s.wr QUOTA_SPILL (s.rd QUOTA_SPILL + a.units) else s
  let s := if a.ownValid = 1 then s.wr (GND_POOL_USED a.owner) (s.rd (GND_POOL_USED a.owner) + a.units) else s
  s.windowTotals.channelView

/-- A store to window `w` is in a write buffer or waits at the head of a source's ingress (R574). -/
def State.windowStores (s : State) (w : Nat) : Bool :=
  s.pool.wb.any (fun e => e.window == w)
    || s.pool.waiting.any fun a => a.window == w && (match a.op with | .store _ => true | _ => false)

/-- A change of window `w` but for SPILL, or its removal, is rejected: a local translation entry names it, or stores to
it are under way (R574). -/
def State.windowBusy (s : State) (w : Nat) : Bool := decide (0 < s.rd (WINX_XLATS w)) || s.windowStores w

/-- Another valid window overlaps the range of `a` (R573). -/
def State.windowOverlap (s : State) (w : Nat) (a : WinAttr) : Bool :=
  (findFrom (fun k => k != w && s.on (WIN_VALID k) && decide (s.rd (WIN_BASE k) ≤ a.limit)
    && decide (a.base ≤ s.rd (WIN_LIMIT k))) 0 4096).isSome

/-- POOL_WINDOW_SET (R572 to R574). -/
def execPoolWindowSet (c : Cmd) (s : State) : Host.Outcome State Fault Refusal :=
  let w := parBytes c 0 2
  let a := winOfCmd c
  let old := s.winAttr w
  let live := s.on (WIN_VALID w)
  let t := s.eraseWindow w
  .next (s.command 0x0602 onlyM
    (cleanCmd c [(0, 16), (16, 4), (24, 8), (32, 16), (64, 64), (128, 64)] false && decide (w < 4096) && decide (a.dom < 16)
      && decide (a.owner < 1024) && a.base % 4096 == 0 && a.limit % 4096 == 4095 && decide (a.base < a.limit))
    (fun _ => firstFail
      [(s.windowOverlap w a, stOverlap),
       (decide (s.poolUsable ≤ a.limit), stBadParam),
       (a.spill == 1 && a.domValid == 0, stBadParam),
       (a.strict == 1 && decide (16 ≤ t.rd QUOTA_STRICT), stNoResource),
       (a.spill == 1 && decide (16777216 < t.rd QUOTA_SPILL + a.units), stNoResource),
       (a.ownValid == 1 && decide (t.rd (GND_POOL_QUOTA a.owner) < t.rd (GND_POOL_USED a.owner) + a.units), stNoResource),
       (live && { a with spill := old.spill } != old && s.windowBusy w, stBusy), (s.releasing 4 w, stBusy)]
      (.ok 0 (s.putWindow w a))) c)

/-- POOL_WINDOW_CLEAR (R574). -/
def execPoolWindowClear (c : Cmd) (s : State) : Host.Outcome State Fault Refusal :=
  let w := parBytes c 0 2
  .next (s.command 0x0603 onlyM (cleanCmd c [(0, 16)] false && decide (w < 4096))
    (fun _ => firstFail [(!s.on (WIN_VALID w), stBadParam), (s.windowBusy w, stBusy), (s.releasing 4 w, stBusy)]
      (.ok 0 (s.eraseWindow w).windowTotals.channelView)) c)

/-- POOL_APERTURE_SET (R214, R578): the size takes effect at the hierarchy's next reset. -/
def execPoolApertureSet (c : Cmd) (s : State) : Host.Outcome State Fault Refusal :=
  let h := parBytes c 0 1
  let n := parBytes c 1 1
  .next (s.command 0x0604 onlyM (cleanCmd c [(0, 8), (8, 8)] false && decide (h < 48)
      && (n == 0 || decide (26 ≤ n) && decide (n ≤ 40)))
    (fun _ => .ok 0 (s.wr (BAL_APERTURE_SIZE_LOG2_NEXT h) n)) c)

/-- POOL_SCRUB_SET (R566, R567): the pass goes on from the line it has reached. -/
def execPoolScrubSet (c : Cmd) (s : State) : Host.Outcome State Fault Refusal :=
  .next (s.command 0x0605 onlyM (cleanCmd c [(0, 8), (8, 8)] false && decide (1 ≤ parBytes c 0 1) && decide (parBytes c 0 1 ≤ 168))
    (fun _ => .ok 0 ((s.wr BAL_SCRUB_PERIOD_H (parBytes c 0 1)).wr BAL_SCRUB_UE_LIMIT (parBytes c 1 1))) c)

/-- The grants of domain `d` written to the hosts' pages (R614). -/
def State.grantHosts (s : State) (d hosts : Nat) : State :=
  s.forN (fun h s =>
    let v := s.rd (ORD_EPOCH_STATUS_GRANTED h)
    s.wr (ORD_EPOCH_STATUS_GRANTED h) (if bitSet hosts h then setBit v d else clrBit v d)) 48

/-- The configuration of domain `d` that POOL_DOMAIN_SET gives (R614, R615, R623, R629): the counter becomes 1 when the
domain is first made valid, and a mirror role that is set, or set toward another peer, starts SYNCING. -/
def State.putDomain (s : State) (c : Cmd) (d : Nat) : State :=
  let valid := parBits c 8 1
  let mir := parBits c 9 1
  let same := s.on (ORD_DOM_CFG_MIRRORED d) && s.rd (ORD_DOM_CFG_PEER_NODE d) == parBytes c 2 1
    && s.rd (ORD_DOM_CFG_PEER_DOMAIN d) == parBytes c 3 1
  let mstate := if mir = 0 then 0 else if same then s.rd (ORD_DOM_STATUS_MIRROR_STATE d) else 1
  let hosts := if valid = 1 then parBytes c 16 6 else 0
  let s := s.wrs [(ORD_DOM_CFG_VALID d, valid), (ORD_DOM_CFG_MIRRORED d, mir), (ORD_DOM_CFG_MIRROR_TARGET d, parBits c 10 1),
    (ORD_DOM_CFG_POLICY d, parBits c 11 1), (ORD_DOM_CFG_PEER_NODE d, parBytes c 2 1),
    (ORD_DOM_CFG_PEER_DOMAIN d, parBytes c 3 1), (ORD_DOM_CFG_MIRROR_TC d, parBytes c 4 1),
    (ORD_DOM_OFFSET_LO_OFFSET d, parBytes c 8 4), (ORD_DOM_OFFSET_HI_OFFSET d, parBytes c 12 4),
    (ORD_DOM_HOSTS_LO_HOSTS d, hosts), (ORD_DOM_HOSTS_HI_HOSTS d, hosts / 2 ^ 32), (ORD_DOM_STATUS_MIRROR_STATE d, mstate),
    (DDX_STARTED d, if mir = 1 ∧ same then s.rd (DDX_STARTED d) else 0)]
  let s := (s.grantHosts d hosts).degView d
  s.setEpoch d (if valid = 1 ∧ s.rd (DDX_EPOCH d) = 0 then 1 else s.rd (DDX_EPOCH d))

/-- A valid route to node `n` exists (R409). -/
def State.routed (s : State) (n : Nat) : Bool := s.on (NRT_VALID n)

/-- POOL_DOMAIN_SET (R614, R615, R623, R629, R631, R711). -/
def execPoolDomainSet (c : Cmd) (s : State) : Host.Outcome State Fault Refusal :=
  let d := parBytes c 0 1
  .next (s.command 0x0606 onlyM
    (cleanCmd c [(0, 8), (8, 4), (16, 8), (24, 8), (32, 8), (64, 64), (128, 48)] true && decide (d < 16)
      && decide (parBytes c 2 1 < 64) && decide (parBytes c 3 1 < 16) && decide (parBytes c 4 1 < 8)
      && parBytes c 8 8 % 4096 == 0 && !(parBits c 9 1 == 1 && parBits c 10 1 == 1))
    (fun _ => firstFail
      [(s.on (ORD_DOM_CFG_MIRROR_TARGET d) && parBits c 10 1 == 0 && s.routed (s.rd (ORD_DOM_CFG_PEER_NODE d)) && !opFlag c,
          stNotPermitted),
       (s.opBusy [0x0607] (fun o => parBytes o.cmd 0 1 == d), stBusy)]
      (.ok 0 (s.putDomain c d))) c)

/-- The lines of a domain's windows, which a resync copies (R630). -/
def State.domainLines (s : State) (d : Nat) : Nat :=
  (idxs 4096 fun w => s.on (WIN_VALID w) && s.winDom w == some d).foldl (fun n w => n + (s.winAttr w).units * 64) 0

/-- The pool is being brought back after a mooring (R879). -/
def State.poolBusy (s : State) : Bool := s.rd MOR_STATUS_STATE == 5 || s.rd MOR_STATUS_STATE == 6

/-- POOL_MIRROR_RESYNC, a long operation (R629, R630): BROKEN becomes SYNCING. -/
def execPoolMirrorResync (c : Cmd) (s : State) : Host.Outcome State Fault Refusal :=
  let d := parBytes c 0 1
  let ms := s.rd (ORD_DOM_STATUS_MIRROR_STATE d)
  .next (s.command 0x0607 onlyM (cleanCmd c [(0, 8)] false && decide (d < 16))
    (fun _ => firstFail
      [(!s.on (ORD_DOM_CFG_MIRRORED d) || !(ms == 1 || ms == 3), stBadParam),
       (s.opBusy [0x0607] (fun o => parBytes o.cmd 0 1 == d), stBusy), (s.poolBusy, stBusy)]
      (.long 1 (s.domainLines d) 0 d ((s.wrs [(ORD_DOM_STATUS_MIRROR_STATE d, 1), (DDX_STARTED d, 1)]).degView d))) c)

/-- POOL_EPOCH_CLOSE: the one status waits for the close (R617, R620, R634, R712, R726). -/
def execPoolEpochClose (c : Cmd) (s : State) : Host.Outcome State Fault Refusal :=
  let d := parBytes c 0 1
  let t := s.command 0x0608 (fun i => decide (16 ≤ d) || s.granted d i) (cleanCmd c [(0, 8)] false && decide (d < 16))
    (fun _ => if s.on (ORD_DOM_CFG_VALID d) then .later d s else .fail stBadParam) c
  .next (if s.late.length < t.late.length then t.requestClose d (.cmd c) else t)

end Sys2Proof.Machine
end

