-- ==== Sys2Proof/Machine/Line.lean ====
section
/-! DEFINITION. The line layer of Cytrum tethers and the layout of link units (R233 to R250, R256, R257): blocks, scrambling, stuffing, rows,
control blocks with their parity, and what a receiver makes of the unit intervals of a row. -/

namespace Sys2Proof

/-! Units. -/

/-- One bit of the reflected CRC-32 (R256). -/
def crc32Bit (c : Nat) : Nat := if c % 2 = 1 then c / 2 ^^^ 0xEDB88320 else c / 2

/-- One byte of the CRC-32. -/
def crc32Byte (c : Nat) (b : BitVec 8) : Nat :=
  crc32Bit (crc32Bit (crc32Bit (crc32Bit (crc32Bit (crc32Bit (crc32Bit (crc32Bit (c ^^^ b.toNat))))))))

/-- CRC-32 of a list of bytes: polynomial 0x04C1_1DB7 reflected, initial value and final XOR 0xFFFF_FFFF (R256). -/
def crc32 (l : List (BitVec 8)) : Nat := l.foldl crc32Byte 0xFFFFFFFF ^^^ 0xFFFFFFFF

/-- `n` bytes of a list from byte `i` on as a number, the lowest first. -/
def bytesAt (l : List (BitVec 8)) (i n : Nat) : Nat := ((l.drop i).take n).foldr (fun b v => b.toNat + 256 * v) 0

/-- SEQ of a unit (R256). -/
def RxUnit.seq (u : RxUnit) : BitVec 16 := BitVec.ofNat 16 (bytesAt u.bytes 0 2)

/-- GEN of a unit. -/
def RxUnit.gen (u : RxUnit) : BitVec 8 := BitVec.ofNat 8 (bytesAt u.bytes 2 1)

/-- TC of a unit. -/
def RxUnit.tc (u : RxUnit) : Nat := bytesAt u.bytes 3 1 % 8

/-- The unit's CRC-32 is good. -/
def RxUnit.crcOk (u : RxUnit) : Bool := u.crc.toNat == crc32 u.bytes

/-- A segment of an arriving unit: its header (R257), and what its content says. -/
structure Seg where
  len : Nat
  sop : Bool
  eop : Bool
  stomp : Bool
  kind : Nat
  dst : Nat
  info : SegInfo
  deriving DecidableEq, Repr

/-- The segment whose header is `h`; END_CODE counts with EOP. -/
def segOf (h : Nat) (i : SegInfo) : Seg :=
  ⟨h % 4096, h.testBit 12, h.testBit 13, h.testBit 13 && h / 2 ^ 14 % 4 == 3, h / 2 ^ 16 % 8, h / 2 ^ 24 % 64, i⟩

/-- The segments from byte `i` of the bytes on: a header with LEN 0, or one that would pass byte 251, ends them (R257). -/
def segsFrom (l : List (BitVec 8)) (i : Nat) : List SegInfo → List Seg
  | [] => []
  | x :: t =>
    let h := bytesAt l i 4
    if h % 4096 = 0 ∨ 252 < i + 4 + h % 4096 then [] else segOf h x :: segsFrom l (i + 4 + h % 4096) t

/-- The segments of a unit. -/
def RxUnit.segs (u : RxUnit) : List Seg := segsFrom u.bytes 4 u.infos

namespace Machine

/-- The segment header of a segment that a tether sends (R257): an EOP that ends a bad TLP carries END_CODE stomp, and DEST_NODE stands with
SOP. -/
def segHeader (u : CUnit) : Nat :=
  u.len + 2 ^ 12 * b2n u.sop + 2 ^ 13 * b2n u.eop + 2 ^ 14 * (if u.eop && u.stomp then 3 else 0) + 2 ^ 16 * u.kind
    + 2 ^ 24 * (if u.sop then u.dst else 0)

/-- The bytes of a TLP in flit-mode format, without LCRC (R258, R307). The header's coding is the PCI Express standard's, which the spec does not
reprint: 16 bytes of `Config.flitHeader`; what follows the header of a TLP from the switch goes on unchanged, and the content of a TLP
that the node makes is `Config.flitContent`. Log entry 63. -/
def tlpBytes (u : CUnit) : List (BitVec 8) :=
  match u.tlp with
  | some t => leBytes 16 (Config.flitHeader [t.fmtType, t.tc, t.requester, t.tag, t.pasid.getD 0, t.addr, t.payload, b2n t.ep, t.hdr]) ++ t.rest
  | none => leBytes 16 (Config.flitHeader [u.kind, u.typ, u.tc, u.dst, u.payload, u.body]) ++ leBytes u.payload (Config.flitContent [u.kind, u.body])

/-- A segment: its header and its LEN bytes of content. -/
def segBytes (u : CUnit) : List (BitVec 8) :=
  let c := ((tlpBytes u).drop u.off).take u.len
  leBytes 4 (segHeader u) ++ c ++ List.replicate (u.len - c.length) 0

/-- Bytes 0 to 251 of a unit (R256, R257): after the last segment they are zero. -/
def unitHead (v : TUnit) : List (BitVec 8) :=
  let c := (leBytes 2 v.seq ++ leBytes 1 v.gen ++ leBytes 1 ((v.segs.head?.map fun u => u.tc).getD 0) ++ v.segs.flatMap segBytes).take 252
  c ++ List.replicate (252 - c.length) 0

/-- The 256 bytes of a unit. -/
def unitBytes (v : TUnit) : List (BitVec 8) := unitHead v ++ leBytes 4 (crc32 (unitHead v))

/-- The four data blocks that carry a unit, 64 bytes each (R239). -/
def unitBlocks (v : TUnit) : List Nat := (List.range 4).map fun k => bytesAt (unitBytes v) (64 * k) 64

/-! Blocks. -/

/-- One step of the PRBS31 scrambler: the bit it gives and its next state (R235). -/
def prbsStep (st : Nat) : Bool × Nat :=
  let b := st.testBit 30 != st.testBit 27
  (b, (2 * st + b2n b) % 2 ^ 31)

/-- Bits combined with the scrambler's sequence from state `st` on; the same operation descrambles (R235). -/
def scrambleFrom : Nat → List Bool → List Bool
  | _, [] => []
  | st, b :: t => (b != (prbsStep st).1) :: scrambleFrom (prbsStep st).2 t

/-- The payload bits of a block, each byte least significant bit first, scrambled from the reset state (R233, R235). -/
def scramble (l : List Bool) : List Bool := scrambleFrom 0x7FFFFFFF l

/-- The 514 bits of a block: header 10 for a control block and 01 for a data block, then the scrambled payload (R233, R235). -/
def blockBits (ctl : Bool) (n : Nat) : List Bool := ctl :: (!ctl) :: scramble ((List.range 512).map n.testBit)

/-- The PAM4 level of a pair of bits, the first more significant, by the Gray mapping (R234). -/
def grayLevel (a b : Bool) : Nat := match a, b with
  | false, false => 0
  | false, true => 1
  | true, true => 2
  | true, false => 3

/-- Bits as PAM4 levels. -/
def pam4Levels : List Bool → List Nat
  | a :: b :: t => grayLevel a b :: pam4Levels t
  | _ => []

/-- The levels of a block's unit intervals before stuffing: 257 PAM4 symbols, or 514 NRZ intervals at levels 0 and 3 (R234). -/
def blockLevels (pam4 ctl : Bool) (n : Nat) : List Nat :=
  if pam4 then pam4Levels (blockBits ctl n) else (blockBits ctl n).map fun b => 3 * b2n b

/-- Identical unit intervals after which one is stuffed: 64 in NRZ, 48 in PAM4 (R236, R237). -/
def stuffAfter (pam4 : Bool) : Nat := if pam4 then 48 else 64

/-- Levels with the stuffed intervals, and the last level with its run at the end; a stuffed interval has the opposite level and starts the
run anew (R236, R237). -/
def stuff (lim : Nat) : Nat × Nat → List Nat → List Nat × Nat × Nat
  | r, [] => ([], r)
  | r, x :: t =>
    let n := if x = r.1 then r.2 + 1 else 1
    if n = lim then
      let y := stuff lim (3 - x, 1) t
      (x :: (3 - x) :: y.1, y.2)
    else
      let y := stuff lim (x, n) t
      (x :: y.1, y.2)

/-- Where the removal of stuffed intervals stands: the last level, its run, and whether a stuffing error stands before the next interval. -/
abbrev Unstuff := Nat × Nat × Bool

/-- Received levels without the stuffed intervals, each with whether a stuffing error stands before it; the stuffing errors; and where the
removal stands at the end. After an error counting goes on from the interval that is not the inverse, which is removed as well: DEDUCED, log
entry 63 (R238). -/
def destuff (lim : Nat) : Unstuff → List Nat → (List (Nat × Bool) × Nat) × Unstuff
  | r, [] => (([], 0), r)
  | (a, n, e), x :: t =>
    if n = lim then
      let y := destuff lim (x, 1, e || x != 3 - a) t
      ((y.1.1, y.1.2 + b2n (x != 3 - a)), y.2)
    else
      let y := destuff lim (x, if x = a then n + 1 else 1, false) t
      (((x, e) :: y.1.1, y.1.2), y.2)

/-- The bits of a level (R234). -/
def levelBits (pam4 : Bool) (x : Nat) : List Bool := if pam4 then [decide (2 ≤ x), x == 1 || x == 2] else [decide (2 ≤ x)]

/-- A number from bits, the lowest first. -/
def natOfBits (l : List Bool) : Nat := l.foldr (fun b n => b2n b + 2 * n) 0

/-- A block from its 514 bits: none with an invalid header, or when their number is wrong (R233). -/
def blockOf : List Bool → Option (Bool × Nat)
  | a :: b :: t => if a != b && t.length == 512 then some (a, natOfBits (scramble t)) else none
  | _ => none

/-- XOR of the bytes of a number below byte `k`. -/
def xorBytes (n : Nat) (k : Nat) : Nat := (List.range k).foldl (fun v i => v ^^^ n / 2 ^ (8 * i) % 256) 0

/-- A control block with its parity in byte 63 (R246). -/
def withParity (n : Nat) : Nat := n % 2 ^ 504 + xorBytes n 63 * 2 ^ 504

/-- Control-block types that stand the same on every lane (R247). -/
def sameTypes : List Nat := [0x0F, 0x1E, 0x4B, 0x55, 0x66]

/-- The parity of a row of control blocks is good: each block's XOR is zero, the types are listed, and a row of a same-on-every-lane type is the
same on every lane (R246 to R248). -/
def rowParityOk (l : List Nat) : Bool :=
  l.all fun n => xorBytes n 64 == 0 && (if sameTypes.contains (n % 256) then l.all fun m => m == n else n % 256 == 0x2D || n % 256 == 0x33)

/-! Sending. -/

/-- The physical lane of logical lane `i` of tether `p`. -/
def State.tetherLane (s : State) (p i : Nat) : Nat := ((s.portLanes p).find? fun l => s.rd (LAN_STATUS_LOGICAL_LANE l) == i).getD 0

/-- A block leaves on lane `l`: its unit intervals, stuffed after what the lane has sent before, and inverted where TX_INVERT is in effect (R171,
R233 to R237). -/
def State.sendLane (s : State) (l : Nat) (pam4 ctl : Bool) (n : Nat) : State × List Nat :=
  let x := stuff (stuffAfter pam4) (s.rd (LANX_TX_LAST l), s.rd (LANX_TX_RUN l)) (blockLevels pam4 ctl n)
  (s.wrs [(LANX_TX_LAST l, x.2.1), (LANX_TX_RUN l, x.2.2)], if s.on (LANX_TXINV l) then x.1.map fun v => 3 - v else x.1)

/-- The lanes of a row, from logical lane `i` on. -/
def State.sendLanes (s : State) (p i : Nat) (pam4 ctl : Bool) : List Nat → State × List (List Nat)
  | [] => (s, [])
  | n :: t =>
    let x := s.sendLane (s.tetherLane p i) pam4 ctl n
    let y := State.sendLanes x.1 p (i + 1) pam4 ctl t
    (y.1, x.2 :: y.2)

/-- A row of blocks leaves on tether `p`, one block for each logical lane from lane 0 on; `kind` is the type of a control row, and 0 for a data row. -/
def State.emitRow (s : State) (p kind : Nat) (blocks : List Nat) : State :=
  let x := s.sendLanes p 0 (s.rd (PRT_CYT_STATUS_RATE p) == 11) (kind != 0) blocks
  x.1.emit (.row p kind blocks x.2)

/-! Receiving. -/

/-- Bits of lane `l` that no block has taken yet, each with whether a stuffing error stands before it. -/
def State.leftover (s : State) (l : Nat) : List (Bool × Bool) :=
  (List.range (s.rd (LANX_REM_N l))).map fun i => (bitSet (s.rd (LANX_REM l)) i, bitSet (s.rd (LANX_REM_ERR l)) i)

/-- The bits of lane `l` that no block has taken yet, of which it keeps fewer than two blocks' worth. -/
def State.setLeftover (s : State) (l : Nat) (bs : List (Bool × Bool)) : State :=
  let bs := bs.take 1023
  s.wrs [(LANX_REM_N l, bs.length), (LANX_REM l, natOfBits (bs.map fun b => b.1)), (LANX_REM_ERR l, natOfBits (bs.map fun b => b.2))]

/-- A header joins the history of lane `l` of tether `p`; a lane without lock begins anew at an invalid one, and slips by a bit, or by a symbol
in PAM4 (R240). -/
def State.noteHeader (s : State) (p l : Nat) (pam4 bad : Bool) : State :=
  if bad && !bitSet (s.rd (CYTX_LOCKED p)) (s.laneIndex p l) then
    s.wrs [(LANX_SLIP l, if pam4 then 2 else 1), (LANX_HIST l, 0), (LANX_HIST_N l, 0)]
  else s.wrs [(LANX_HIST l, (2 * s.rd (LANX_HIST l) + b2n bad) % 2 ^ 64), (LANX_HIST_N l, min 64 (s.rd (LANX_HIST_N l) + 1))]

/-- The next block of 514 bits at the spacing of lane `l` of tether `p`, once its bits are there (R233, R240): none where its header is invalid or
a stuffing error lies in it (R238). An invalid header is counted, and kept for VERIFY (R278). -/
def State.takeBlock (s : State) (p l : Nat) (pam4 : Bool) (bs : List (Bool × Bool)) : State × Option (Bool × Nat) :=
  let slip := s.rd (LANX_SLIP l)
  let s := s.wr (LANX_SLIP l) (slip - bs.length)
  let bs := bs.drop slip
  if bs.length < 514 then (s.setLeftover l bs, none)
  else
    let one := bs.take 514
    let b := blockOf (one.map fun x => x.1)
    let s := (s.setLeftover l (bs.drop 514)).noteHeader p l pam4 b.isNone
    let s := s.when b.isNone fun s => (s.inc (PRT_CYT_ERR_COUNT_HDR_ERR p)).wr (CYTX_VBAD p) 1
    (s, if one.any fun x => x.2 then none else b)

/-- The block that the unit intervals of lane `l` of tether `p` complete, if there is one and it is valid; stuffing errors are counted, and kept
for VERIFY (R238, R240, R278). -/
def State.receiveLane (s : State) (p i : Nat) (pam4 : Bool) (ls : List Nat) : State × Option (Bool × Nat) :=
  let l := s.tetherLane p i
  let ls := if s.on (LAN_STATUS_RX_INVERTED l) then ls.map fun x => 3 - x else ls
  let x := destuff (stuffAfter pam4) (s.rd (LANX_RX_LAST l), s.rd (LANX_RX_RUN l), s.on (LANX_RX_ERR l)) ls
  let s := s.wrs [(LANX_RX_LAST l, x.2.1), (LANX_RX_RUN l, x.2.2.1), (LANX_RX_ERR l, b2n x.2.2.2)]
  let s := s.incBy (PRT_CYT_ERR_COUNT_HDR_ERR p) x.1.2
  let s := s.when (decide (0 < x.1.2)) fun s => s.wr (CYTX_VBAD p) 1
  s.takeBlock p l pam4 (s.leftover l ++ x.1.1.flatMap fun (v : Nat × Bool) =>
    (levelBits pam4 v.1).zipIdx.map fun (b : Bool × Nat) => (b.1, v.2 && b.2 == 0))

/-- The lanes of a received row, from logical lane `i` on. -/
def State.receiveLanes (s : State) (p i : Nat) (pam4 : Bool) : List (List Nat) → State × List (Option (Bool × Nat))
  | [] => (s, [])
  | ls :: t =>
    let x := s.receiveLane p i pam4 ls
    let y := State.receiveLanes x.1 p (i + 1) pam4 t
    (y.1, x.2 :: y.2)

/-- Invalid headers among the last 64 of lane `l` (R240). -/
def State.badHeaders (s : State) (l : Nat) : Nat := countN 64 fun i => bitSet (s.rd (LANX_HIST l)) i

/-- The elastic buffer of tether `p` takes a row that arrives: a FILLER row is deleted while another row waits (R245). -/
def State.elasticIn (s : State) (p : Nat) (filler : Bool) : State :=
  if filler && decide (1 ≤ s.rd (CYTX_ELASTIC p)) then s else s.inc (CYTX_ELASTIC p)

/-- The link layer takes one row a slot from the elastic buffer, which inserts a FILLER row when it is empty (R245). -/
def State.elasticOut (s : State) (p : Nat) : State := s.wr (CYTX_ELASTIC p) (s.rd (CYTX_ELASTIC p) - 1)

/-- A row arrives on tether `p` (R233 to R248): whether it has a parity error. The lanes are compared once they are aligned, before which each
stands alone (R241, R242). What a good row carries comes as a row of its own. -/
def State.receiveRow (s : State) (p : Nat) (row : List (List Nat)) : State × Bool :=
  let x := s.receiveLanes p 0 (s.rd (PRT_CYT_STATUS_RATE p) == 11) row
  let bl := x.2.filterMap id
  let ctl := (bl.filter fun b => b.1).map fun b => b.2
  let s := x.1.elasticIn p (!ctl.isEmpty && ctl.all fun n => n % 256 == 0x1E)
  let ok := if s.on (CYTX_DESKEW p) then rowParityOk ctl else ctl.all fun n => rowParityOk [n]
  if ok then (s, false) else (s.wr (CYTX_VBAD p) 1, true)

end Machine
end Sys2Proof
end

