-- ==== Sys2Proof/Machine/Role.lean ====
section
/-! DEFINITION. The roles of the fabric time unit: root, follower and free-running (R84 to R90). -/

namespace Sys2Proof.Machine

/-- Roles of MGT_FT_STATUS. -/
def ftRoot : Nat := 1
/-- Follower. -/
def ftFollower : Nat := 2

/-- The tether in UP with the lowest advertised hop count below 15, ties to the lowest port, `p` left out (R90). -/
def State.bestParent (s : State) (p : Nat) : Option Nat :=
  (List.range 15).findSome? fun h => findFrom (fun q => q != p && s.tetherUp q && s.rd (CYTX_HOPS q) == h) 0 128

/-- A follower with parent `q` (R87, R89). -/
def State.follow (s : State) (q : Nat) : State :=
  let same := s.rd MGT_FT_STATUS_ROLE == ftFollower && s.on MGT_FT_STATUS_PARENT_VALID && s.rd MGT_FT_STATUS_PARENT_PORT == q
  let s := s.wrs [(MGT_FT_STATUS_ROLE, ftFollower), (MGT_FT_STATUS_PARENT_PORT, q), (MGT_FT_STATUS_PARENT_VALID, 1),
    (MGT_FT_STATUS_HOPS, min 14 (s.rd (CYTX_HOPS q) + 1))]
  if same then s else s.wrs [(MGT_FT_STATUS_LOCKED, 0), (FTX_BIG, 0), (FTX_EXCH_AT, s.now), (CYTX_MISSED q, 0)]

/-- The count goes on the retention clock, which is within 20 ppm of the rate that the time clock had, by a free value; a root with FT_REF
stays disciplined (R104). -/
def State.retentionClock (s : State) : State :=
  if s.on MGT_FT_STATUS_REF_PRESENT || s.rd RETX_FT_INC != 0 then s
  else
    let w := s.clk.ftInc / 50000
    { (s.wr RETX_FT_INC s.clk.ftInc).takeFree with clk := { s.clk with ftInc := s.clk.ftInc - w + s.freeVal % (2 * w + 1) } }

/-- The count is on the time clock again, at the rate that it had before retention (R104). -/
def State.timeClock (s : State) : State :=
  if s.rd RETX_FT_INC = 0 then s
  else { s.wr RETX_FT_INC 0 with clk := { s.clk with ftInc := s.rd RETX_FT_INC } }

/-- The node is free-running: no reference and no tether toward a root. LOCKED stays 0 and its hop count is 15 (R88, R89); a root that
loses FT_REF has entered FT_HOLDOVER (R98). Log entry 25. -/
def State.freeRun (s : State) : State :=
  s.wrs [(MGT_FT_STATUS_ROLE, 0), (MGT_FT_STATUS_PARENT_VALID, 0), (MGT_FT_STATUS_HOPS, 15), (MGT_FT_STATUS_LOCKED, 0)]

/-- The role is evaluated again (R84): root with FT_REF, follower with a tether toward a root, and free-running with neither (R85, R87, R88).
A follower keeps its parent unless that advertises 15 (R90). A root that loses FT_REF enters FT_HOLDOVER, whatever role it takes (R98). -/
def State.ftRole (s : State) : State :=
  let role := s.rd MGT_FT_STATUS_ROLE
  let parent := s.rd MGT_FT_STATUS_PARENT_PORT
  if s.on MGT_FT_STATUS_REF_PRESENT then
    if role = ftRoot then s
    else s.wrs [(MGT_FT_STATUS_ROLE, ftRoot), (MGT_FT_STATUS_PARENT_VALID, 0), (MGT_FT_STATUS_HOPS, 0), (MGT_FT_STATUS_LOCKED, 0), (FTX_ROOT_AT, s.now)]
  else
  let s := s.when (role == ftRoot) fun s => s.wr MGT_FT_STATUS_FT_HOLDOVER 1
  if role = ftFollower ∧ s.rd (CYTX_HOPS parent) < 15 then s.follow parent
  else match s.bestParent 128 with
    | some q => s.follow q
    | none => s.freeRun

/-- The far end of tether `p` advertises hop count `h`; the role is judged again, since the tether may be one that was down (R84). -/
def State.heardHops (s : State) (p h : Nat) : State := (s.wr (CYTX_HOPS p) h).ftRole

/-- Tether `p` is disabled or left: nothing is advertised on it any more (R84, R89). DESIGN CHOICE, log entry 25. -/
def State.forgetHops (s : State) (p : Nat) : State := s.heardHops p 15

end Sys2Proof.Machine
end

