-- ==== Sys2Proof/Machine/Tether.lean ====
section
/-! DEFINITION. Cytrum tethers (chapter 06): training, units with selective retransmission and credits, the grace period
and generations, requests for a retrain or a width, joining and leaving the fabric, and flow buckets (R406 to R413). -/

namespace Sys2Proof.Machine

/-! Training states. -/

/-- The phase of the training of tether `p`: its state, or the phase within RETRAIN (R278). -/
def State.phase (s : State) (p : Nat) : Nat :=
  if s.cyState p = cyRetrain then s.rd (CYTX_SUB p) else s.cyState p

/-- Tether `p` enters state `st`. -/
def State.setCy (s : State) (p st : Nat) : State :=
  let s := { s with tether := { s.tether with
    stream := s.tether.stream.filter fun x => x.1 != p
    mgmt := if st = cyDisabled ∨ st = cyFailed ∨ st = cyLeft then s.tether.mgmt.filter fun x => x.1 != p else s.tether.mgmt } }
  ((s.wrs [(PRT_CYT_STATUS_STATE p, st), (CYTX_STATE_AT p, s.now), (CYTX_SUB_AT p, s.now), (CYTX_VBAD p, 0)]).laneView p).linkView p

/-- The next phase of the training that runs (R278). -/
def State.setPhase (s : State) (p st : Nat) : State :=
  if s.cyState p = cyRetrain then s.wrs [(CYTX_SUB p, st), (CYTX_SUB_AT p, s.now), (CYTX_VBAD p, 0)] else s.setCy p st

/-- The rates that tether `p` may offer (R142, R280): those up to MAX_RATE, 112.5 Gb/s in lane groups 0 to 7 only. -/
def State.offered (s : State) (p : Nat) : Nat :=
  let m := s.rd (PRT_CFG_MAX_RATE p)
  1 + (if 9 ≤ m then 2 else 0) + (if 10 ≤ m then 4 else 0) + (if 11 ≤ m ∧ p < 64 then 8 else 0)

/-- The rates that tether `p` offers: those it may offer, but for the ones that have failed VERIFY (R280, R281). -/
def State.ratesNow (s : State) (p : Nat) : Nat := s.rd (CYTX_RATES p) &&& s.offered p

/-- The lanes of tether `p` seek block lock anew, and their alignment is lost (R240 to R242). -/
def State.seekLock (s : State) (p : Nat) : State :=
  (s.portLanes p).foldl (fun s l => s.wrs [(LANX_HIST l, 0), (LANX_HIST_N l, 0), (LANX_SLIP l, 0), (LANX_REM_N l, 0), (LANX_RX_ERR l, 0),
    (LANX_TAP_SEEN l, 0)])
    (s.wrs [(CYTX_LOCKED p, 0), (CYTX_DESKEW p, 0)])

/-- Tether `p` enters DETECT: training starts at 14.0625 Gb/s and preset P0, and polarity is found anew (R169, R278). -/
def State.enterDetect (s : State) (p : Nat) : State :=
  let s := (s.seekLock p).wrs [(CYTX_RETRAIN p, 0), (PRT_CYT_STATUS_RATE p, 8), (PRT_CYT_STATUS_WIDTH p, 0)]
  let s := (s.portLanes p).foldl (fun s l => (s.startPreset l 0).takePolarity l) s
  (s.setCy p cyDetect).wake wakeTether p

/-- DETECT from DISABLED or FAILED, where every rate is offered again, or from LEFT, where a rate that failed stays withdrawn (R281). -/
def State.trainAnew (s : State) (p : Nat) : State :=
  (s.wrs [(CYTX_RATES p, if s.cyState p = cyLeft then s.rd (CYTX_RATES p) else 15), (CYTX_WIDTH_LIMIT p, 16)]).enterDetect p

/-- Tether `p` enters FAILED: its lanes are electrically idle (R278). -/
def State.cyFail (s : State) (p : Nat) : State := (s.wr (PRT_CYT_STATUS_RATE p) 15).setCy p cyFailed

/-! Routes and buckets. -/

/-- USABLE of node `n`'s route follows its tethers. -/
def State.usableView (s : State) (n : Nat) : State :=
  s.wr (NRT_USABLE n) ((s.slotsWhere n s.tetherUp).foldl (fun v i => v + 2 ^ i) 0)

/-- Bucket `b` may leave its tether: no TLP of it is queued or unacknowledged there, and the tether is not in its grace period (R408, R410). -/
def State.bucketFree (s : State) (b : Nat) : Bool := s.inFlight b == 0 && !s.on (PRT_CYT_STATUS_IN_GRACE (s.bucketPort b))

/-- Bucket `b` is mapped to slot `i` of its node's list. -/
def State.setBucket (s : State) (b i : Nat) : State := s.wrs [(BKT_SLOT b, i), (BKT_MOVE_PENDING b, 0), (BKTX_OLD b, 0)]

/-- Bucket `b` is to move to slot `i`, once it may (R408). -/
def State.pendBucket (s : State) (b i : Nat) : State := s.wrs [(BKT_MOVE_PENDING b, 1), (BKT_MOVE_TO b, i)]

/-- The buckets of node `n` spread over the tethers then UP, or over all that are listed when none is: a bucket that `now` selects takes its slot at
once, and every other move waits (R406, R408, R409). With none UP no other bucket is to move. -/
def State.spread (s : State) (n : Nat) (now : Nat → Bool) : State :=
  let ups := s.slotsWhere n s.tetherUp
  let l := if ups.isEmpty then s.slotsWhere n fun _ => true else ups
  if l.isEmpty then s
  else s.forN (fun k s =>
    let b := 256 * n + k
    let slot := l.getD (k % l.length) 0
    if now b then s.setBucket b slot
    else if ups.isEmpty ∨ s.bucketPort b = s.rd (tetherFld n slot) then s.wr (BKT_MOVE_PENDING b) 0
    else s.pendBucket b slot) 256

/-- Node `n`'s list holds tether `p`. -/
def State.lists (s : State) (n p : Nat) : Bool := s.on (NRT_VALID n) && !(s.slotsWhere n fun q => q == p).isEmpty

/-- Tether `p` has come up: the nodes that list it spread their buckets (R409). -/
def State.tetherCameUp (s : State) (p : Nat) : State :=
  s.forN (fun n s => if s.lists n p then (s.usableView n).spread n fun _ => false else s) 64

/-- Bucket `b` takes the slot of its node's list that holds its tether; when none does, it stays on that tether until it may move (R408). -/
def State.keepTether (s : State) (b p : Nat) : State :=
  match s.slotsWhere (b / 256) fun q => q == p with
  | i :: _ => s.wrs [(BKT_SLOT b, i), (BKTX_OLD b, 0)]
  | [] => s.wr (BKTX_OLD b) (p + 1)

/-- BUCKET_MOVE: the bucket moves once nothing of it is queued or unacknowledged, and its tether is not in its grace period (R408, R410). -/
def execBucketMove (n : Node) (b : BitVec 8) (s : State) : Host.Outcome State Fault Refusal :=
  let k := 256 * n.val + b.toNat
  s.event (s.on (BKT_MOVE_PENDING k) && s.bucketFree k) fun s => s.setBucket k (s.rd (BKT_MOVE_TO k))

/-- The buckets on tether `p` leave it for another tether of their lists that is UP: at once, as when its grace period has expired (R410), or
else each once it may (R408). -/
def State.moveBuckets (s : State) (p : Nat) (now : Bool := true) : State :=
  s.forN (fun n s =>
    if s.on (NRT_VALID n) then
      let s := s.usableView n
      let ups := s.slotsWhere n fun q => q != p && s.tetherUp q
      if ups.isEmpty then s
      else s.forN (fun k s =>
        let b := 256 * n + k
        let i := ups.getD (k % ups.length) 0
        if s.bucketPort b = p then (if now ∨ s.bucketFree b then s.setBucket b i else s.pendBucket b i) else s) 256
    else s) 64

/-! Loss of a node. -/

/-- The entry of the fabric manager's table for node `n`: its serial number and state, 1 present, 2 departed, 4 lost
(R299, R731). -/
def State.nodeEntry (s : State) (n : Nat) : Nat × Nat :=
  match s.mgmt.nodes.find? fun x => x.1 == n with
  | some x => x.2
  | none => (0, 0)

/-- The table's entry for node `n` replaced. -/
def State.setNode (s : State) (n serial st : Nat) : State :=
  { s with mgmt := { s.mgmt with nodes := (s.mgmt.nodes.filter fun x => x.1 != n) ++ [(n, serial, st)] } }

/-- Origin domains whose peer is node `n` become BROKEN (R629). -/
def State.breakPeer (s : State) (n : Nat) : State :=
  s.forN (fun d s => if s.on (ORD_DOM_CFG_MIRRORED d) && s.rd (ORD_DOM_CFG_PEER_NODE d) == n then s.breakMirror d else s) 16

/-- Node `n` is treated as lost (R293, R413): code 0x0304, its route invalid, its mirrors BROKEN, and the stores that
await its report discarded (R601). -/
def State.loseNode (s : State) (n p : Nat) : State :=
  let s := (s.record p 0x0304 5 n 0 (detG n 0) []).wr (NRT_VALID n) 0
  let s := s.setNode n (s.nodeEntry n).1 4
  let mine := s.outst.filter fun o => o.kind == .node && o.target == n && o.store
  let s := mine.foldl (fun s o => (s.countDiscard o.src 0).endReq o) s
  s.breakPeer n

/-- Tether `q` still keeps a way to its far end: it is UP, in its grace period, or in a
retrain or width change that was asked for, which starts none (R293, R294). -/
def State.tetherKept (s : State) (q : Nat) : Bool :=
  s.rd (PRT_CFG_MODE q) == 3 && (s.cyState q == cyUp || s.on (PRT_CYT_STATUS_IN_GRACE q)
    || (s.cyState q == cyRetrain && (s.rd (CYTX_REQ q) != 0 || s.rd (CYTX_FARREQ q) != 0)))

/-- The nodes whose last kept tether was `p` are lost (R293); the mirrors toward every node behind `p` are BROKEN, since
copies on it were discarded (R629). -/
def State.afterExpiry (s : State) (p : Nat) : State :=
  s.forN (fun n s =>
    if s.lists n p then
      if (s.slotsWhere n s.tetherKept).isEmpty then s.loseNode n p else s.breakPeer n
    else s) 64

/-! Expiry of a generation. -/

/-- A non-posted TLP that tether `p` holds, in transit or of a device, whose answer is not that of a request which this node sent on under a tag of
its own: those are answered together. -/
def State.answersAlone (s : State) (t : Tlp) : Bool := (s.requesterOf t).isNone

/-- A TLP that a tether holds when its generation ends (R289 steps 1 to 3): a posted TLP or a completion is discarded and logged, a non-posted
request is answered. -/
def State.dropTlp (s : State) (p : Nat) (t : Tlp) : State :=
  if t.kind = .nonPosted then (if s.answersAlone t then s.refuseTlp t cplCA else s)
  else s.recordNear p 0x0303 ((1, p) :: s.tlpDoms t) 0 (detT t ((t.dest.getD 0).val)) (tlpHosts t)

/-- A unit of a TLP that a tether holds when its generation ends (R289 steps 1 to 3). Only its last unit stands for the TLP. A store of this node
that is discarded so awaits no report (R603). -/
def State.dropUnit (s : State) (p : Nat) (u : CUnit) : State :=
  if !u.eop then s
  else match u.tlp with
    | some t => s.dropTlp p t
    | none => if u.typ = 1 then s else (s.recordNear p 0x0303 [(5, u.dst), (1, p)] 0 (detUnit 0 0 u.tc p) []).failOwn (.unit u)

/-- A TLP that the part made for tether `p` and that has not started; its own requests are answered with those that have. -/
def State.dropOwn (s : State) (p : Nat) (o : OwnTlp) : State :=
  match o with
  | .unit u => s.dropUnit p { u with eop := true }
  | .out _ => s

/-- A TLP waiting in an egress queue of the tether (R289 steps 1 to 3). -/
def State.dropQueued (s : State) (p : Nat) (x : QTlp) : State :=
  let s : State := match x.own with
    | some o => s.dropOwn p o
    | none => s.dropTlp p x.tlp
  s.dequeue x

/-- The TLPs that the part made and that `f` selects, which wait for room in their queues, dropped as those in the queues are. -/
def State.dropMade (s : State) (f : Tlp → Bool) : State :=
  (s.switch.made.filter fun m => f m.2.1).foldl (fun s m => s.dropOwn m.2.1.egress m.2.2)
    { s with switch := { s.switch with made := s.switch.made.filter fun m => !f m.2.1 } }

/-- The steps of R289 on tether `p`, its generation becoming `gen`; posted discards and synthesized Completer Aborts are
returned. Completions that are discarded are logged with the code of posted ones (log entry 11). -/
def State.endGeneration (s : State) (p gen : Nat) : State × Nat × Nat :=
  let us := (s.tether.unacked.filter fun u => u.port == p).flatMap (fun u => u.segs) ++ (s.tether.sendq.filter fun u => u.port == p).map fun u => u.unit
  let qs := s.switch.txq.filter fun x => x.queue / 24 == p
  let owed := s.outst.filter fun o => o.link == some p && !o.quarantined && !o.store
  let mine := fun (k : TlpKind) (t : Tlp) => t.egress.val == p && t.kind == k
  let posted := (us.filter fun u => u.eop && u.typ == 0).length + (qs.filter fun x => x.tlp.kind == .posted && !x.started).length
    + (s.switch.made.filter fun m => mine .posted m.2.1).length
  let cas := (us.filter fun u => u.eop && u.typ == 1 && u.tlp.any fun t => s.answersAlone t).length
    + (qs.filter fun x => x.tlp.kind == .nonPosted && x.own.isNone && !x.started && s.answersAlone x.tlp).length + owed.length
  let drop := fun (s : State) (k : TlpKind) =>
    ((qs.filter fun x => x.tlp.kind == k && !x.started).foldl (fun s x => s.dropQueued p x)
      ((us.filter fun u => u.typ == kindIdx k).foldl (fun s u => s.dropUnit p u) s)).dropMade (mine k)
  let s := drop (drop s .posted) .nonPosted
  let s := drop (s.abortAll (fun o => o.link == some p && !o.store) stHwError) .completion
  let s := (qs.filter fun x => x.started).foldl (fun s x => s.dequeue x) s
  let cut := s.switch.txq.filter fun x => x.tlp.ingress.val == p && !x.tailIn
  let s := cut.foldl (fun s x => s.badTail x) s
  let s := { s with tether := { s.tether with
    unacked := s.tether.unacked.filter fun u => u.port != p
    sendq := s.tether.sendq.filter fun u => u.port != p
    reorder := s.tether.reorder.filter fun x => x.1 != p
    naks := s.tether.naks.filter fun x => x.1 != p
    gaps := s.tether.gaps.filter fun x => x.1 != p } }
  let s := s.wrs [(PRT_CYT_TX_SEQ_NEXT_SEQ p, 0), (PRT_CYT_TX_SEQ_OLDEST_UNACKED p, 0), (PRT_CYT_RX_SEQ_NEXT_EXPECTED p, 0),
    (PRT_CYT_RX_SEQ_REORDER_USED p, 0), (CYTX_NAK_TO p, 0), (PRT_CYT_STATUS_GEN p, gen), (CYTX_FRESH p, 1), (CYTX_REPLAY_N p, 0)]
  (s, posted, cas)

/-- The grace period of tether `p` expires, its generation becoming `gen` (R289, R293, R410). -/
def State.expireGrace (s : State) (p gen : Nat) : State :=
  let s := (s.endGrace p).wr (PRT_CYT_EVENT_GRACE_EXPIRED p) 1
  let s := (s.inc (PRT_CYT_GRACE_COUNT_GRACE_EXPIRE p)).linkView p
  let x := s.endGeneration p gen
  ((x.1.recordNear p 0x0302 [(1, p)] 0 (detG x.2.1 x.2.2) []).moveBuckets p).afterExpiry p

/-- The generation after the one in force, modulo 256. -/
def State.nextGen (s : State) (p : Nat) : Nat := (s.rd (PRT_CYT_STATUS_GEN p) + 1) % 256

/-- Tether `p` enters DISABLED with the steps of R289 run at once (R520); a PORT class disable runs them as well (log
entry 12). -/
def State.disableTether (s : State) (p : Nat) : State :=
  let s := s.endGrace p
  let s := (s.endGeneration p (s.nextGen p)).1
  let s := (s.wrs [(PRT_CYT_STATUS_RATE p, 15), (PRT_CYT_STATUS_WIDTH p, 0), (CYTX_REQ p, 0), (CYTX_FARREQ p, 0)]).setCy p cyDisabled
  ((s.moveBuckets p).afterExpiry p).forgetHops p

/-! Loss of the link. -/

/-- USABLE of every node that lists tether `p`. -/
def State.usableAll (s : State) (p : Nat) : State := s.forN (fun n s => if s.lists n p then s.usableView n else s) 64

/-- RETRAIN begins: ALIGN at the current rate and coefficients (R278); until UP the tether is not usable (R417). -/
def State.startRetrain (s : State) (p : Nat) : State :=
  (((s.seekLock p).wrs [(CYTX_SUB p, cyAlign), (CYTX_RETRAIN p, 1), (CYTX_PREV_SERIAL p, s.rd (CYTX_SERIAL p)),
    (CYTX_MARK_RX p, 0)]).setCy p cyRetrain).usableAll p

/-- The grace period of tether `p` starts (R285); one of 0 expires at once. -/
def State.startGrace (s : State) (p : Nat) : State :=
  let g := s.rd (PRT_CYT_CFG_GRACE_MS p)
  let s := s.inc (PRT_CYT_GRACE_COUNT_GRACE_START p)
  if g = 0 then s.expireGrace p (s.nextGen p)
  else ((s.pauseHeads p).wrs [(CYTX_GRACE_END p, s.now + g * ms + 1), (PRT_CYT_STATUS_IN_GRACE p, 1)]).linkView p

/-- Tether `p` is in a RETRAIN that a request brought, outside a grace period: a loss of the link withdraws the request (R297). -/
def State.inAsked (s : State) (p : Nat) : Bool :=
  s.rd (PRT_CFG_MODE p) == 3 && s.cyState p == cyRetrain && (s.rd (CYTX_REQ p) != 0 || s.rd (CYTX_FARREQ p) != 0)
    && !s.on (PRT_CYT_STATUS_IN_GRACE p) && !s.moored

/-- A loss of the link of tether `p` in UP, or in a RETRAIN that was asked for, for a cause in the bit order of PRT_CYT_EVENT (R283, R297): an
outstanding request is withdrawn, and RETRAIN and the grace period start. -/
def State.loseLink (s : State) (p cause : Nat) : State :=
  if !s.tetherUp p && !s.inAsked p then s
  else
    let s := s.wr (PRT_CYT_EVENT_LINK_LOST p) 1
    let s := if cause = 3 then s.wr (PRT_CYT_EVENT_PARITY_FATAL p) 1
      else if cause = 4 then s.wr (PRT_CYT_EVENT_MARKER_FATAL p) 1
      else if cause = 5 then s.wr (PRT_CYT_EVENT_RETX_FATAL p) 1 else s
    let s := s.recordNear p 0x0301 [(1, p)] 0 (detG (2 ^ cause) 0) []
    let s := s.when (s.rd (CYTX_REQ p) != 0) fun s => s.wr (CYTX_WANT p) (s.rd (CYTX_REQ p))
    let s := (s.wrs [(CYTX_REQ p, 0), (CYTX_FARREQ p, 0)]).startRetrain p
    s.startGrace p

/-- A parity error of a control block at tether `p` (R248): in UP the link is lost, and in INIT of a RETRAIN that was asked for (R297); in another
INIT the tether retrains, within the time of the RETRAIN that runs, if one does. -/
def State.parityFatal (s : State) (p : Nat) : State :=
  if s.tetherUp p || (s.phase p == cyInit && s.inAsked p) then s.loseLink p 3
  else if s.phase p = cyInit then
    let s := s.wr (PRT_CYT_EVENT_PARITY_FATAL p) 1
    if s.cyState p = cyRetrain then (s.seekLock p).setPhase p cyAlign else s.startRetrain p
  else s

/-- LINK_LOST (R283); `cause` names a bit of PRT_CYT_EVENT. -/
def execLinkLost (p : Port) (cause : Fin 6) (s : State) : Host.Outcome State Fault Refusal := .next (s.loseLink p cause)

/-- GRACE_EXPIRED: the grace period of tether `p` expires (R289). -/
def execGraceExpired (p : Port) (s : State) : Host.Outcome State Fault Refusal :=
  s.event (s.on (PRT_CYT_STATUS_IN_GRACE p)) fun s =>
    let s := s.advTo (s.rd (CYTX_GRACE_END p) - 1)
    s.expireGrace p (s.nextGen p)

/-! Training events. -/

/-- DETECT_EXIT: LOS deasserts on a lane in DETECT (R278). -/
def execDetectExit (p : Port) (s : State) : Host.Outcome State Fault Refusal :=
  s.event (s.cyState p == cyDetect && (s.portLanes p).any fun l => !s.on (LAN_STATUS_LOS l)) fun s =>
    (s.wr (CYTX_LOCKED p) 0).setCy p cyAlign

/-- BLOCK_LOCK_ACQUIRED: a lane of a tether in ALIGN whose last 64 block headers are valid acquires block lock (R240); at 14.0625 Gb/s its
polarity is corrected, unless detection is off (R169, R171). CONFIG once every lane has locked (R278). -/
def execBlockLockAcquired (l : Lane) (inverted : Bool) (s : State) : Host.Outcome State Fault Refusal :=
  match s.ownerOf l with
  | none => .next s
  | some p => s.event (s.on (LAN_STATUS_CYTRUM l) && s.phase p == cyAlign && s.rd (LANX_HIST_N l) == 64 && s.rd (LANX_HIST l) == 0) fun s =>
      let s := s.wr (CYTX_LOCKED p) (setBit (s.rd (CYTX_LOCKED p)) (s.laneIndex p l))
      let s := s.when (s.rd (PRT_CYT_STATUS_RATE p) == 8 && !s.on (LANX_RXFORCE l)) fun s => s.wr (LAN_STATUS_RX_INVERTED l) (b2n inverted)
      if s.rd (CYTX_LOCKED p) = 2 ^ 2 ^ s.rd (PRT_CFG_WIDTH p) - 1 then s.setPhase p cyConfig else s

/-- BLOCK_LOCK_LOST: 16 of the last 64 headers are invalid (R240), and LOL asserts (R173); an unmasked LOL, and the loss on a lane of the width, is a
loss of the link in UP (R177, R283). -/
def execBlockLockLost (l : Lane) (s : State) : Host.Outcome State Fault Refusal :=
  match s.ownerOf l with
  | none => .next s
  | some p => s.event (s.holdsLock l && decide (16 ≤ s.badHeaders l)) fun s =>
      let event := !s.on (LAN_STATUS_LOL l) && !s.wsMasked l
      let s := (s.lolAssert l).wrs [(CYTX_LOCKED p, clrBit (s.rd (CYTX_LOCKED p)) (s.laneIndex p l)), (LANX_HIST l, 0), (LANX_HIST_N l, 0)]
      if event ∨ s.rd (LAN_STATUS_LOGICAL_LANE l) < s.rd (PRT_CYT_STATUS_WIDTH p) then s.loseLink p 1 else s

/-- ALIGN_TIMEOUT: after 2 ms the lanes without lock are excluded; without logical lane 0 the tether fails (R278).
`reversed` says that logical lane 0 is the highest lane. In RETRAIN, whose whole time is 1 ms, the event says that no further lane will lock,
and without logical lane 0 the time runs out. -/
def execAlignTimeout (p : Port) (reversed : Bool) (s : State) : Host.Outcome State Fault Refusal :=
  s.event (s.phase p == cyAlign) fun s =>
    let s := if s.cyState p = cyRetrain then s else s.advTo (s.rd (CYTX_STATE_AT p) + 2 * ms)
    let first := if reversed && decide (0 < s.rd (PRT_CFG_WIDTH p)) then 2 ^ s.rd (PRT_CFG_WIDTH p) - 1 else 0
    if bitSet (s.rd (CYTX_LOCKED p)) first then s.setPhase p cyConfig else if s.cyState p = cyRetrain then s else s.cyFail p

/-- Logical lane `i` of tether `p` holds block lock here. -/
def State.lockedLogical (s : State) (p : Nat) (reversed : Bool) (i : Nat) : Bool :=
  bitSet (s.rd (CYTX_LOCKED p)) (if reversed then 2 ^ s.rd (PRT_CFG_WIDTH p) - 1 - i else i)

/-- The width asked for: by the own WIDTH_REQ while it proceeds, else by the last width change (R294, R295), which binds every training until the
tether trains anew. DESIGN CHOICE, log entry 72. -/
def State.widthLimit (s : State) (p : Nat) : Nat := if s.rd (CYTX_REQ p) = 2 then s.rd (CYTX_REQ_ARG p) else s.rd (CYTX_WIDTH_LIMIT p)

/-- The trained width (R279): the largest that exceeds neither configured width nor the width asked for, whose lanes hold
lock at both ends; 0 when there is none. -/
def State.trainedWidth (s : State) (p : Nat) (reversed : Bool) (farWidth : Nat) (farLocked : Nat) : Nat :=
  let ok := fun w => decide (w ≤ 2 ^ s.rd (PRT_CFG_WIDTH p)) && decide (w ≤ s.widthLimit p) && decide (w ≤ farWidth)
    && (List.range w).all fun i => s.lockedLogical p reversed i && bitSet farLocked i
  if ok 16 then 16 else if ok 8 then 8 else if ok 4 then 4 else if ok 2 then 2 else if ok 1 then 1 else 0

/-- The target rate: the highest that both ends offer (R280); 14.0625 Gb/s carries training only (R231), so 0 is none. -/
def targetRate (both : Nat) : Nat := if bitSet both 3 then 11 else if bitSet both 2 then 10 else if bitSet both 1 then 9 else 0

/-- The preset at which a rate step starts (R161). -/
def firstPreset (rate : Nat) : Nat := if rate = 11 then 9 else if rate = 8 then 0 else 1

/-- The logical lanes of tether `p` numbered (R170, R239). -/
def State.numberLanes (s : State) (p : Nat) (reversed : Bool) : State :=
  let n := 2 ^ s.rd (PRT_CFG_WIDTH p)
  let reversed := reversed && decide (1 < n)
  let base := 16 * (p / 8) + s.rd (PRT_CFG_FIRST_OFFSET p)
  (s.portLanes p).foldl (fun s l => s.wrs [(LAN_STATUS_REVERSED l, b2n reversed),
    (LAN_STATUS_LOGICAL_LANE l, if reversed then n - 1 - (l - base) else l - base)]) s

/-- CONFIG_AGREED: eight consecutive identical CONFIG blocks on every lane carry the far end's node ID, serial number,
rates, width and locked lanes (R170, R241, R278 to R282, R284). A RETRAIN goes to VERIFY at its rate, a training to EQ; without a width or a rate
that both ends have, CONFIG stays until its time is up (R278). The node that is met enters the table of nodes. -/
def execConfigAgreed (p : Port) (node : Option Node) (serial : BitVec 64) (rates : BitVec 4) (farWidth : Fin 17)
    (farLocked : BitVec 16) (reversed : Bool) (s : State) : Host.Outcome State Fault Refusal :=
  s.event (s.phase p == cyConfig) fun s =>
    let own := s.rd MGT_NODE_ID_NODE_ID
    let conflict := match node with
      | some n => s.on MGT_NODE_ID_NODE_VALID && n.val == own && serial != Config.serial
      | none => false
    let s := s.wrs [(PRT_CYT_STATUS_PEER_NODE p, match node with | some n => n.val | none => 0),
      (PRT_CYT_STATUS_PEER_VALID p, b2n node.isSome), (CYTX_SERIAL p, serial.toNat), (CYTX_SERIAL_OK p, 1)]
    let s := if s.on (PRT_CYT_STATUS_IN_GRACE p) && s.rd (CYTX_PREV_SERIAL p) != serial.toNat then s.expireGrace p (s.nextGen p) else s
    if conflict then
      let s := ((s.wr (PRT_CYT_EVENT_NODE_CONFLICT p) 1).recordNear p 0x0305 [(1, p)] 0 (detG own serial.toNat) []).wr (PRT_CYT_STATUS_RATE p) 15
      s.setCy p cyDisabled
    else
      let s := match node with
        | some n => s.setNode n serial.toNat 1
        | none => s
      let w := s.trainedWidth p (reversed && decide (0 < s.rd (PRT_CFG_WIDTH p))) farWidth farLocked.toNat
      let t := targetRate (s.ratesNow p &&& rates.toNat)
      if w = 0 ∨ (t = 0 ∧ s.cyState p ≠ cyRetrain) then s
      else
        let s := (s.wrs [(PRT_CYT_STATUS_WIDTH p, w), (CYTX_DESKEW p, b2n (w == 2))]).numberLanes p reversed
        let s := s.when (decide (w < 2 ^ s.rd (PRT_CFG_WIDTH p))) fun s => s.wr (PRT_CYT_EVENT_WIDTH_REDUCED p) 1
        if s.cyState p = cyRetrain then s.setPhase p cyVerify
        else
          let s := s.wrs [(CYTX_TARGET p, t), (PRT_CYT_STATUS_RATE p, t), (CYTX_EQ_FAR p, 0)]
          ((s.portLanes p).foldl (fun s l => s.startPreset l (firstPreset t)) s).setCy p cyEq

/-- CONFIG_TIMEOUT: CONFIG reaches 1 ms (R278). -/
def execConfigTimeout (p : Port) (s : State) : Host.Outcome State Fault Refusal :=
  s.event (s.cyState p == cyConfig) fun s => (s.advTo (s.rd (CYTX_STATE_AT p) + ms)).cyFail p

/-- Equalisation of tether `p` ends with the coefficients then in force, and VERIFY begins (R166, R278). -/
def State.endEq (s : State) (p : Nat) : State :=
  ((s.portLanes p).foldl (fun s l => (s.wr (LAN_EQ_STATUS_EQ_DONE l) 1).adapted l) s).setCy p cyVerify

/-- The receivers of the lanes of the trained width have finished equalising: their TRAIN blocks set byte 28 bit 0 (R250, R278). -/
def State.ownDone (s : State) (p : Nat) : Bool :=
  (s.portLanes p).all fun l => decide (s.rd (PRT_CYT_STATUS_WIDTH p) ≤ s.rd (LAN_STATUS_LOGICAL_LANE l)) || s.on (LANX_FIN l)

/-- EQ ends once both ends set byte 28 bit 0 (R278). -/
def State.settleEq (s : State) (p : Nat) : State :=
  if s.cyState p = cyEq ∧ s.on (CYTX_EQ_FAR p) ∧ s.ownDone p then s.endEq p else s

/-- EQ_DONE: the TRAIN blocks of the far end set byte 28 bit 0; EQ ends once those of this end do too (R278). -/
def execEqDone (p : Port) (s : State) : Host.Outcome State Fault Refusal :=
  s.event (s.cyState p == cyEq) fun s => (s.wr (CYTX_EQ_FAR p) 1).settleEq p

/-- EQ_TIMEOUT: EQ reaches 5 ms (R278). -/
def execEqTimeout (p : Port) (s : State) : Host.Outcome State Fault Refusal :=
  s.event (s.cyState p == cyEq) fun s => (s.advTo (s.rd (CYTX_STATE_AT p) + 5 * ms)).endEq p

/-- EQ_LIMIT: the receiver of lane `l` has issued 4,096 requests in a rate step; the equalisation phase ends (R166). -/
def execEqLimit (l : Lane) (s : State) : Host.Outcome State Fault Refusal :=
  match s.ownerOf l with
  | none => .next s
  | some p => s.event (s.on (LAN_STATUS_CYTRUM l) && s.cyState p == cyEq && s.rd (LANX_REQ_N l) == 4096) fun s =>
      (s.wr (LAN_EQ_STATUS_EQ_LIMIT l) 1).endEq p

/-- INIT_TIMEOUT: INIT reaches 100 µs (R278). -/
def execInitTimeout (p : Port) (s : State) : Host.Outcome State Fault Refusal :=
  s.event (s.cyState p == cyInit) fun s => (s.advTo (s.rd (CYTX_STATE_AT p) + 100 * us)).cyFail p

/-- RETRAIN_TIMEOUT: RETRAIN reaches 1 ms, or 500 µs for a width change (R278, R294), and the tether returns to DETECT; one
that was asked for has then lost the link, and is evaluated again after UP (R297). -/
def execRetrainTimeout (p : Port) (s : State) : Host.Outcome State Fault Refusal :=
  s.event (s.cyState p == cyRetrain) fun s =>
    let width := s.rd (CYTX_REQ p) == 2 || s.rd (CYTX_FARREQ p) == 2
    let asked := s.rd (CYTX_REQ p) != 0 || s.rd (CYTX_FARREQ p) != 0
    let s := s.advTo (s.rd (CYTX_STATE_AT p) + (if width then 500 * us else ms))
    let s := s.when (s.rd (CYTX_REQ p) != 0) fun s => s.wr (CYTX_WANT p) (s.rd (CYTX_REQ p))
    let s := if asked && !s.on (PRT_CYT_STATUS_IN_GRACE p) then
        ((s.wrs [(PRT_CYT_EVENT_LINK_LOST p, 1), (CYTX_REQ p, 0), (CYTX_FARREQ p, 0)]).recordNear p 0x0301 [(1, p)] 0 (detG 2 0) []).startGrace p
      else s
    s.enterDetect p

/-- FAILED_TIMEOUT: FAILED reaches 100 ms (R278). -/
def execFailedTimeout (p : Port) (s : State) : Host.Outcome State Fault Refusal :=
  s.event (s.cyState p == cyFailed) fun s => (s.advTo (s.rd (CYTX_STATE_AT p) + 100 * ms)).trainAnew p

/-! Credits. -/

/-- The header and data limits of class `t` in bytes 20 to 51 of a CREDIT block (R251). -/
def creditOf (cred : BitVec 256) (t : Nat) : Nat × Nat := (bits cred.toNat (32 * t + 16) 12, bits cred.toNat (32 * t) 16)

/-- The limits taken as they stand, at an INIT that starts afresh, with the consumed counts at 0 (R266, R290). -/
def State.freshCredits (s : State) (p : Nat) (cred : BitVec 256) : State :=
  s.forN (fun t s => s.wrs [(PRT_CYT_CRED_TX_LIM_HDR p t, (creditOf cred t).1), (PRT_CYT_CRED_TX_LIM_DATA p t, (creditOf cred t).2),
    (PRT_CYT_CRED_TX_CONS_HDR p t, 0), (PRT_CYT_CRED_TX_CONS_DATA p t, 0)]) 8

/-- The limits of a CREDIT block taken, but for one that is older than the one held (R269). -/
def State.newLimits (s : State) (p : Nat) (cred : BitVec 256) : State :=
  s.forN (fun t s =>
    let h := (creditOf cred t).1
    let d := (creditOf cred t).2
    let s := if (h + 4096 - s.rd (PRT_CYT_CRED_TX_LIM_HDR p t)) % 4096 ≤ 2048 then s.wr (PRT_CYT_CRED_TX_LIM_HDR p t) h else s
    if (d + 65536 - s.rd (PRT_CYT_CRED_TX_LIM_DATA p t)) % 65536 ≤ 32768 then s.wr (PRT_CYT_CRED_TX_LIM_DATA p t) d else s) 8

/-- The allotments of PORT_TETHER_SET applied at an INIT (R264, R266): a fresh INIT starts the limits at them, another
moves the limits by the change. -/
def State.applyAllot (s : State) (p : Nat) (fresh : Bool) : State :=
  s.forN (fun t s =>
    let h := s.rd (CYTN_HDR p t)
    let d := s.rd (CYTN_DATA p t)
    let lh := if fresh then h else s.rd (PRT_CYT_CRED_RX_LIM_HDR p t) + 4096 + h - s.rd (PRT_CYT_CRED_RX_ALLOT_HDR p t)
    let ld := if fresh then d else s.rd (PRT_CYT_CRED_RX_LIM_DATA p t) + 65536 + d - s.rd (PRT_CYT_CRED_RX_ALLOT_DATA p t)
    s.wrs [(PRT_CYT_CRED_RX_ALLOT_HDR p t, h), (PRT_CYT_CRED_RX_ALLOT_DATA p t, d), (PRT_CYT_CRED_RX_LIM_HDR p t, lh),
      (PRT_CYT_CRED_RX_LIM_DATA p t, ld)]) 8

/-- VERIFY_END: VERIFY has lasted 1 ms, or 100 µs in RETRAIN; clean, it leads to INIT, which sends CREDIT blocks with the allotments; otherwise to
ALIGN with the next lower target rate at its start preset, and below 28.125 Gb/s to FAILED (R161, R278, R281). It is not clean when the rows
received had an invalid header, a stuffing error or a parity error, or when `bad` says that the far end's had. -/
def execVerifyEnd (p : Port) (bad : Bool) (s : State) : Host.Outcome State Fault Refusal :=
  s.event (s.phase p == cyVerify) fun s =>
    let s := s.advTo (s.rd (CYTX_SUB_AT p) + if s.cyState p = cyRetrain then 100 * us else ms)
    if !(bad || s.on (CYTX_VBAD p)) then
      ((s.setPhase p cyInit).applyAllot p (s.on (CYTX_FRESH p))).wr (CYTX_CRED_DUE p) 2
    else
      let t := s.rd (PRT_CYT_STATUS_RATE p)
      let s := (s.seekLock p).wrs [(CYTX_RATES p, clrBit (s.rd (CYTX_RATES p)) (t - 8)), (PRT_CYT_EVENT_RATE_FALLBACK p, 1),
        (PRT_CYT_STATUS_RATE p, t - 1), (CYTX_TARGET p, t - 1)]
      if t ≤ 9 then s.cyFail p
      else ((s.portLanes p).foldl (fun s l => s.startPreset l (firstPreset (t - 1))) s).setPhase p cyAlign

/-! Acknowledgement. -/

/-- Distance from `b` to `a` modulo 65,536. -/
def seqDist (a b : Nat) : Nat := (a + 65536 - b % 65536) % 65536

/-- OLDEST_UNACKED of tether `p` follows its retransmission buffer. -/
def State.ackView (s : State) (p : Nat) : State :=
  s.wr (PRT_CYT_TX_SEQ_OLDEST_UNACKED p) (match s.tether.unacked.find? fun u => u.port == p with
    | some u => u.seq
    | none => s.rd (PRT_CYT_TX_SEQ_NEXT_SEQ p))

/-- Units of tether `p` before sequence number `next` are acknowledged and freed (R270, R275). -/
def State.ackTo (s : State) (p next : Nat) : State :=
  let old := s.tether.unacked.filter fun u => u.port == p
  let gone := fun (u : TUnit) => u.port == p && decide (0 < seqDist next u.seq) && decide (seqDist next u.seq ≤ 2048)
  let s := { s with tether := { s.tether with unacked := s.tether.unacked.filter fun u => !gone u } }
  let s := if old.any gone then s.wrs [(CYTX_REPLAY_N p, 0), (CYTX_REPLAY_AT p, s.now)] else s
  s.ackView p

/-- A NAK for sequence number `n`: that unit is sent again ahead of new units; for one not held it is counted (R274). -/
def State.nak (s : State) (p n : Nat) : State :=
  if s.tether.unacked.any fun u => u.port == p && u.seq == n then
    let l := updateAll (fun u => u.port == p && u.seq == n) (fun u => { u with again := true }) s.tether.unacked
    { s with tether := { s.tether with unacked := l } }
  else s.inc (CYTX_BAD_NAK p)

/-- A parity error injected at port `p` is used up (R731), and whether a control block is good. -/
def State.blockParity (s : State) (p : Nat) (ok : Bool) : State × Bool :=
  if s.injected 6 p then (s.useInjected 6 p, false) else (s, ok)

/-- CREDIT_BLOCK_RECEIVED (R248, R251, R266, R269, R274): a parity error is fatal; a block of another generation is
ignored. -/
def execCreditBlockReceived (p : Port) (parityOk : Bool) (gen : BitVec 8) (ack : BitVec 16) (naks : List (BitVec 16))
    (cred : BitVec 256) (s : State) : Host.Outcome State Fault Refusal :=
  s.event (s.tetherUp p) fun s =>
    let x := s.blockParity p parityOk
    if !x.2 then x.1.parityFatal p
    else if gen.toNat ≠ s.rd (PRT_CYT_STATUS_GEN p) then x.1
    else
      let s := x.1.ackTo p (ack.toNat + 1)
      let s := (naks.take 8).foldl (fun s n => s.nak p n.toNat) s
      s.newLimits p cred

/-- REPLAY_TIMEOUT: the oldest unacknowledged unit is sent again and the timer restarts (R275). -/
def execReplayTimeout (p : Port) (s : State) : Host.Outcome State Fault Refusal :=
  match s.tether.unacked.find? fun u => u.port == p.val with
  | none => .next s
  | some u => s.event (s.tetherUp p) fun s =>
      let s := s.advTo (s.rd (CYTX_REPLAY_AT p) + us * s.rd (PRT_CYT_CFG_REPLAY_US p))
      ((s.inc (PRT_CYT_DUP_COUNT_REPLAY_TIMEOUT p)).wrs [(CYTX_REPLAY_N p, s.rd (CYTX_REPLAY_N p) + 1), (CYTX_REPLAY_AT p, s.now)]).nak p u.seq

/-- RETX_FATAL: a unit has been sent 16 times, or REPLAY_TIME has expired eight times in a row (R276). -/
def execRetxFatal (p : Port) (s : State) : Host.Outcome State Fault Refusal :=
  s.event (decide (8 ≤ s.rd (CYTX_REPLAY_N p)) || s.tether.unacked.any fun u => u.port == p.val && decide (16 ≤ u.sends)) fun s =>
    s.loseLink p 5

/-! Sending. -/

/-- Lanes of a row of tether `p`: the configured width until CONFIG ends, then the trained one. -/
def State.rowLanes (s : State) (p : Nat) : Nat :=
  if s.phase p ≤ cyConfig then 2 ^ s.rd (PRT_CFG_WIDTH p) else max 1 (s.rd (PRT_CYT_STATUS_WIDTH p))

/-- A row goes by: the counts of rows since the periodic ones (R242, R244, R273). -/
def State.countRow (s : State) (p : Nat) : State :=
  ((s.inc (CYTX_FILL_ROWS p)).inc (CYTX_MARK_ROWS p)).inc (CYTX_CRED_ROWS p)

/-- A LANE_MARKER row is due: 16,384 rows have gone by at x4 or wider (R242). -/
def State.markerDue (s : State) (p : Nat) : Bool :=
  decide (cyInit ≤ s.phase p) && decide (4 ≤ s.rd (PRT_CYT_STATUS_WIDTH p)) && decide (16384 < s.rd (CYTX_MARK_ROWS p))

/-- A FILLER row is due, early enough for a LANE_MARKER row to go first (R244). -/
def State.fillerDue (s : State) (p : Nat) : Bool := decide (2047 ≤ s.rd (CYTX_FILL_ROWS p))

/-- A control row of one content on every lane (R246, R247). -/
def State.ctlNow (s : State) (p n : Nat) : State := s.emitRow p (n % 256) (List.replicate (s.rowLanes p) (withParity n))

/-- A LANE_MARKER row: each lane's number and the marker count (R242, R249). -/
def State.sendMarker (s : State) (p : Nat) : State :=
  (s.emitRow p 0x2D ((List.range (s.rowLanes p)).map fun i => withParity (0x2D + i * 2 ^ 8 + s.rd (CYTX_MARK_TX p) * 2 ^ 16))).wrs
    [(CYTX_MARK_ROWS p, 0), (CYTX_MARK_TX p, s.rd (CYTX_MARK_TX p) + 1)]

/-- A FILLER row (R244). -/
def State.sendFiller (s : State) (p : Nat) : State := (s.ctlNow p 0x1E).wr (CYTX_FILL_ROWS p) 0

/-- What goes before a CREDIT, TIME or LINK_MGMT row that an event sends: the LANE_MARKER and FILLER rows that are due (R277). The row takes its own
row slot. -/
def State.dueRows (s : State) (p : Nat) : State :=
  let s := s.countRow p
  let s := s.when (s.markerDue p) fun s => (s.sendMarker p).countRow p
  s.when (s.fillerDue p) fun s => (s.sendFiller p).countRow p

/-- A TIME row (R252, R277). -/
def State.timeRow (s : State) (p n : Nat) : State := (s.dueRows p).ctlNow p n

/-- The sequence numbers that tether `p` misses below the ones it holds out of order. -/
def State.missingSeqs (s : State) (p : Nat) : List Nat :=
  let next := s.rd (PRT_CYT_RX_SEQ_NEXT_EXPECTED p)
  let held := (s.tether.reorder.filter fun x => x.1 == p).map fun x => x.2.seq.toNat
  if held.isEmpty then []
  else ((List.range (seqDist (s.rd (CYTX_NAK_TO p)) next)).map fun i => (next + i) % 65536).filter fun n => !held.contains n

/-- How many sequence numbers tether `p` misses. -/
def State.missing (s : State) (p : Nat) : Nat := (s.missingSeqs p).length

/-- NAKs of tether `p` that no CREDIT block has carried yet, but for gaps that have closed. -/
def State.naksDue (s : State) (p : Nat) : List Nat :=
  let miss := s.missingSeqs p
  ((s.tether.naks.filter fun x => x.1 == p).map fun x => x.2).filter fun n => miss.contains n

/-- A CREDIT block as a number: ACK_SEQ, up to eight NAKs, limits and GEN at their bytes (R251). -/
def State.creditWord (s : State) (p : Nat) : Nat :=
  let next := s.rd (PRT_CYT_RX_SEQ_NEXT_EXPECTED p)
  let naks := (s.naksDue p).take 8
  0x4B + (next + 65535) % 65536 * 2 ^ 8 + naks.length * 2 ^ 24 + (naks.foldr (fun k n => k + 65536 * n) 0) * 2 ^ 32
    + ((List.range 8).foldr (fun t n => s.rd (PRT_CYT_CRED_RX_LIM_DATA p t) + 2 ^ 16 * s.rd (PRT_CYT_CRED_RX_LIM_HDR p t) + 2 ^ 32 * n) 0) * 2 ^ 160
    + s.rd (PRT_CYT_STATUS_GEN p) * 2 ^ 416

/-- A CREDIT row (R273): with more than eight NAKs waiting, the next one is due at once. -/
def State.creditNow (s : State) (p : Nat) : State :=
  let rest := (s.naksDue p).drop 8
  let s := s.ctlNow p (s.creditWord p)
  let s := { s with tether := { s.tether with naks := (s.tether.naks.filter fun (x : Nat × Nat) => x.1 != p) ++ rest.map fun n => (p, n) } }
  s.wrs [(CYTX_CRED_ROWS p, 0), (CYTX_CRED_AT p, s.now), (CYTX_CRED_DUE p, if rest.isEmpty then 0 else 2)]

/-- A CREDIT row that an event sends (R273, R277). -/
def State.sendCredit (s : State) (p : Nat) : State := (s.dueRows p).creditNow p

/-- CREDIT_BLOCK_SEND: a periodic CREDIT block (R266, R273). -/
def execCreditBlockSend (p : Port) (s : State) : Host.Outcome State Fault Refusal := s.event (s.tetherUp p) fun s => s.sendCredit p

/-- The gaps of tether `p` that remain, by sequence number with the time of their last NAK (R273). -/
def State.openGaps (s : State) (p : Nat) : List (Nat × Nat) :=
  let miss := s.missingSeqs p
  ((s.tether.gaps.filter fun x => x.1 == p).map fun x => x.2).filter fun x => miss.contains x.1

/-- Sequence numbers `l` of tether `p` are NAKed now, and their NAKs go with the next CREDIT block (R271, R273). -/
def State.nakNow (s : State) (p : Nat) (l : List Nat) : State :=
  let old := (s.openGaps p).filter fun x => !l.contains x.1
  let wait := (s.tether.naks.filter fun (x : Nat × Nat) => x.1 != p || !l.contains x.2) ++ l.map fun n => (p, n)
  let s := { s with tether := { s.tether with
    naks := (wait : List (Nat × Nat))
    gaps := (s.tether.gaps.filter fun (x : Nat × Nat × Nat) => x.1 != p) ++ (old ++ l.map fun n => (n, s.now)).map fun x => (p, x) } }
  (s.incBy (PRT_CYT_RETX_COUNT_NAK_SENT p) l.length).wr (CYTX_CRED_DUE p) 2

/-- NAK_REPEAT: 2 µs after the last NAK of a gap that remains, the NAK is repeated (R273). -/
def execNakRepeat (p : Port) (s : State) : Host.Outcome State Fault Refusal :=
  let g := s.openGaps p
  s.event (s.tetherUp p && !g.isEmpty) fun s =>
    let s := s.advTo (g.foldl (fun m x => min m (x.2 + 2 * us)) (s.now + 2 * us))
    (s.nakNow p ((g.filter fun x => decide (x.2 + 2 * us ≤ s.now)).map fun x => x.1)).sendCredit p

/-- A LINK_MGMT block as a number (R255): OP, node ID, GEN, NEXT_EXPECTED and ARG; the serial number is `Config.serial`. -/
def State.mgmtWord (s : State) (p op arg : Nat) : Nat :=
  0x66 + op * 2 ^ 8
    + (s.rd MGT_NODE_ID_NODE_ID + s.rd MGT_NODE_ID_NODE_VALID * 2 ^ 7) * 2 ^ 16 + Config.serial.toNat * 2 ^ 32
    + s.rd (PRT_CYT_STATUS_GEN p) * 2 ^ 96 + s.rd (PRT_CYT_RX_SEQ_NEXT_EXPECTED p) * 2 ^ 104 + arg * 2 ^ 120

/-- A LINK_MGMT row that an event sends (R255, R277): while TRAIN rows are due it waits behind them, and a tether whose lanes are off sends none. -/
def State.linkMgmt (s : State) (p op arg : Nat) : State :=
  let ph := s.phase p
  if cyInit ≤ ph ∧ ph ≤ cyUp then (s.dueRows p).ctlNow p (s.mgmtWord p op arg)
  else if cyDetect ≤ ph ∧ ph ≤ cyVerify then { s with tether := { s.tether with mgmt := s.tether.mgmt ++ [(p, op, arg)] } }
  else s

/-- A TRAIN block of logical lane `i` (R250): in EQ it carries the request of this end's receiver, and the answers to the far end's. Before a target
rate is agreed it carries that of the training before, 14.0625 Gb/s after reset: DESIGN CHOICE, log entry 72. -/
def State.trainWord (s : State) (p i : Nat) : Nat :=
  let l := s.tetherLane p i
  let ph := s.phase p
  let rsp := s.rd (LANX_TAP_RSP l)
  let req := if ph = cyEq then s.rd (LANX_REQ l) else 0
  0x33 + (if ph ≤ cyAlign then 0 else ph - 2) * 2 ^ 8
    + (s.rd MGT_NODE_ID_NODE_ID + s.rd MGT_NODE_ID_NODE_VALID * 2 ^ 7) * 2 ^ 16 + i * 2 ^ 24 + 2 ^ s.rd (PRT_CFG_WIDTH p) * 2 ^ 32
    + s.ratesNow p * 2 ^ 40 + s.rd (CYTX_TARGET p) * 2 ^ 48 + Config.serial.toNat * 2 ^ 64
    + req % 4 * 2 ^ 128 + req / 4 % 16 * 2 ^ 136
    + (req / 64 % 4 + req / 256 % 4 * 2 ^ 8 + req / 1024 % 4 * 2 ^ 16 + req / 4096 % 4 * 2 ^ 24) * 2 ^ 144
    + (rsp % 4 + rsp / 4 % 4 * 2 ^ 8 + rsp / 16 % 4 * 2 ^ 16 + rsp / 64 % 4 * 2 ^ 24) * 2 ^ 176
    + s.rd (LANX_REQ_NO l) * 2 ^ 208 + s.rd (LANX_TAP_NO l) * 2 ^ 216 + s.rd (LANX_FIN l) * 2 ^ 224

/-- A TRAIN row, one block per lane; in EQ the receivers of the lanes go on first, and EQ ends once both ends have finished (R163, R166, R278). -/
def State.sendTrain (s : State) (p : Nat) : State :=
  let s := s.when (s.phase p == cyEq) fun s => (List.range (s.rowLanes p)).foldl (fun s i => s.askTaps (s.tetherLane p i)) s
  (s.emitRow p 0x33 ((List.range (s.rowLanes p)).map fun i => withParity (s.trainWord p i))).settleEq p

/-- A segment may be sent: KIND 5 alone while one of the two ends has no node ID (R302); for a TLP whose credits are not consumed, credits (R268); and the good end of a
TLP that is cut through only once its tail is in (R263). -/
def State.unitReady (s : State) (p : Nat) (u : CUnit) : Bool :=
  ((s.on MGT_NODE_ID_NODE_VALID && s.on (PRT_CYT_STATUS_PEER_VALID p)) || u.kind == 5) && (u.charged || !u.sop || s.linkCredit p u.tc u.typ u.payload)
    && !(u.eop && !u.stomp && u.order != 0 && s.switch.txq.any fun x => x.order + 1 == u.order && !x.tailIn)

/-- The first segment that waits on tether `p` and may be sent, with none of its class ahead of it (R259, R277). -/
def State.nextUnit (s : State) (p : Nat) : List Nat → List Staged → Option Staged
  | _, [] => none
  | held, u :: t =>
    if u.port = p ∧ ¬ held.contains u.unit.tc then
      (if s.unitReady p u.unit then some u else s.nextUnit p (u.unit.tc :: held) t)
    else s.nextUnit p held t

/-- Credits of a TLP that this node made are consumed when its first segment is sent (R265). -/
def State.chargeUnit (s : State) (p : Nat) (u : CUnit) : State :=
  if u.charged || !u.sop then s
  else s.wrs [(PRT_CYT_CRED_TX_CONS_HDR p u.tc, s.rd (PRT_CYT_CRED_TX_CONS_HDR p u.tc) + 1),
    (PRT_CYT_CRED_TX_CONS_DATA p u.tc, s.rd (PRT_CYT_CRED_TX_CONS_DATA p u.tc) + ceilDiv u.payload 32)]

/-- The segments of class `tc` that are ready and fit in `room` bytes leave the transmit stage for one unit, in their order (R256, R259, R260). -/
def State.pack (s : State) (p tc room : Nat) : List Staged → State × List CUnit
  | [] => (s, [])
  | u :: t =>
    if u.port = p ∧ u.unit.tc = tc then
      (if 4 + u.unit.len ≤ room ∧ s.unitReady p u.unit then
        let s := s.chargeUnit p u.unit
        let y := State.pack { s with tether := { s.tether with sendq := removeFirst (fun x => x == u) s.tether.sendq } } p tc
          (room - 4 - u.unit.len) t
        (y.1, u.unit :: y.2)
      else (s, []))
    else State.pack s p tc room t

/-- The data blocks of a unit join the byte stream of tether `p` (R239). -/
def State.putStream (s : State) (p : Nat) (v : TUnit) : State :=
  ({ s with tether := { s.tether with stream := s.tether.stream ++ (unitBlocks v).map fun b => (p, b) } }).emit (.unitSent v)

/-- A new unit of these segments sent: it takes the next sequence number and the generation and is held until acknowledged (R256, R270). -/
def State.sendNew (s : State) (p : Nat) (segs : List CUnit) : State :=
  let n := s.rd (PRT_CYT_TX_SEQ_NEXT_SEQ p)
  let v : TUnit := ⟨p, n, s.rd (PRT_CYT_STATUS_GEN p), segs, 1, false⟩
  let s := s.when (s.tether.unacked.all fun x => x.port != p) fun s => s.wr (CYTX_REPLAY_AT p) s.now
  let s := { s with tether := { s.tether with unacked := s.tether.unacked ++ [v] } }
  ((s.wr (PRT_CYT_TX_SEQ_NEXT_SEQ p) (n + 1)).ackView p).putStream p v

/-- A unit sent again, unchanged (R274). -/
def State.sendAgain (s : State) (p : Nat) (u : TUnit) : State :=
  let v : TUnit := { u with sends := u.sends + 1, again := false }
  let l := updateAll (fun x => x == u) (fun _ => v) s.tether.unacked
  (({ s with tether := { s.tether with unacked := l } }).inc (PRT_CYT_RETX_COUNT_RETX_UNITS p)).putStream p v

/-- The next unit: a retransmission first, then a new unit within the window (R270, R277). None when nothing is ready. -/
def State.sendUnit (s : State) (p : Nat) : Option State :=
  match s.tether.unacked.find? fun u => u.port == p && u.again with
  | some u => some (s.sendAgain p u)
  | none =>
    if 2048 ≤ (s.tether.unacked.filter fun u => u.port == p).length then none
    else (s.nextUnit p [] s.tether.sendq).map fun u =>
      let x := s.pack p u.unit.tc 248 s.tether.sendq
      x.1.sendNew p x.2

/-- Data blocks of tether `p` that wait for their row. -/
def State.streamOf (s : State) (p : Nat) : List Nat := (s.tether.stream.filter fun x => x.1 == p).map fun x => x.2

/-- Units join the stream of tether `p` until a row of `w` blocks is full or none is ready. -/
def State.fillStream (s : State) (p w : Nat) : Nat → State
  | 0 => s
  | n + 1 => if w ≤ (s.streamOf p).length then s else match s.sendUnit p with
    | some t => State.fillStream t p w n
    | none => s

/-- A data row, stream block k on logical lane k mod w (R239), or an IDLE row when nothing is ready (R277). What the lanes carry beyond the last
unit that is ready the spec does not say: free values, log entry 63. -/
def State.sendRow (s : State) (p : Nat) : State :=
  let w := s.rowLanes p
  let s := s.fillStream p w 4
  let l := s.streamOf p
  if l.isEmpty then s.ctlNow p 0x0F
  else
    let row := l.take w
    let pad := (List.range (w - row.length)).map fun i => s.freeVal / 2 ^ (512 * i) % 2 ^ 512
    let s := s.when (decide (row.length < w)) State.takeFree
    ({ s with tether := { s.tether with
      stream := (s.tether.stream.filter fun (x : Nat × Nat) => x.1 != p) ++ (l.drop w).map fun b => (p, b) } }).emitRow p 0 (row ++ pad)

/-- A CREDIT row is due: at once, or with changed limits or units arriving after 1 µs or 240 rows, so that the rows which go before it keep it
within 256 (R273). -/
def State.creditDue (s : State) (p : Nat) : Bool :=
  s.rd (CYTX_CRED_DUE p) == 2
    || (s.rd (CYTX_CRED_DUE p) == 1 && (decide (240 ≤ s.rd (CYTX_CRED_ROWS p)) || decide (s.rd (CYTX_CRED_AT p) + us ≤ s.now)))

/-- A row slot of tether `p` is filled in the order of R277. -/
def State.sendSlot (s : State) (p : Nat) : State :=
  let s := s.countRow p
  let ph := s.phase p
  if s.markerDue p then s.sendMarker p
  else if s.fillerDue p then s.sendFiller p
  else if ph ≤ cyVerify then s.sendTrain p
  else if s.creditDue p then s.creditNow p
  else match s.tether.mgmt.find? fun x => x.1 == p with
    | some x => State.ctlNow { s with tether := { s.tether with mgmt := removeFirst (fun y => y == x) s.tether.mgmt } } p (s.mgmtWord p x.2.1 x.2.2)
    | none => if ph = cyInit then s.ctlNow p (s.mgmtWord p 1 0) else s.sendRow p

/-- The rows that arrived in a row slot, none, one or two, since the far end's clock differs (R245), each by its lanes. -/
def State.receiveRows (s : State) (p : Nat) (rows : List (List Levels)) : State :=
  let x := rows.foldl (fun (x : State × Bool) r =>
    let y := x.1.receiveRow p (r.map fun l => l.map fun (v : Fin 4) => v.val)
    (y.1, x.2 || y.2)) (s, false)
  let s := x.1.elasticOut p
  if x.2 then s.parityFatal p else s

/-- ROW_SLOT: rows are received, and the slot is filled: TRAIN, LANE_MARKER and FILLER rows when due, CREDIT and LINK_MGMT rows, retransmitted units, new
units, IDLE (R233 to R248, R277). CREDIT, TIME and LINK_MGMT rows that an event sends take slots of their own. -/
def execRowSlot (p : Port) (rows : List (List Levels)) (s : State) : Host.Outcome State Fault Refusal :=
  s.event (s.rd (PRT_CFG_MODE p) == 3 && !s.moored && decide (1 ≤ s.phase p) && decide (s.phase p ≤ 7)) fun s => (s.receiveRows p rows).sendSlot p

/-! The fabric manager. -/

/-- This node is the fabric manager: the lowest-numbered node with a management host. Of the nodes below it that are
present, it takes each to hold one (log entry 13). -/
def State.isManager (s : State) : Bool :=
  s.on MGT_NODE_ID_NODE_VALID && s.mgmtHost.isSome
    && s.mgmt.nodes.all fun x => !bitSet x.2.2 0 || decide (s.rd MGT_NODE_ID_NODE_ID ≤ x.1)

/-- The node taken to be the fabric manager: the lowest-numbered one that is present or has a valid route (log entry 13). -/
def State.managerNode (s : State) : Nat :=
  (findFrom (fun n => n != s.rd MGT_NODE_ID_NODE_ID && ((s.nodeEntry n).2 % 2 == 1 || s.on (NRT_VALID n))) 0 64).getD 0

/-- The lowest free node ID in 1 to 63 (R299): one that no node of the table holds and toward which no route is valid. The ID and serial number of a
node that is recorded as lost count as free: DESIGN CHOICE, log entry 72. -/
def State.freeNode (s : State) : Option Nat :=
  findFrom (fun n => n != s.rd MGT_NODE_ID_NODE_ID && (s.nodeEntry n).2 % 2 == 0 && !s.on (NRT_VALID n)) 1 63

/-! Receiving. -/

/-- A TLP that has wholly arrived stands in the ingress buffer until its consumer has it (R267); the switch core may have it already, having
forwarded its head. -/
def State.keepRx (s : State) (p tc kind payload : Nat) : State :=
  let early := s.on (CYTX_EARLY p tc)
  let s := { s with tether := { s.tether with rx := s.tether.rx ++ [(⟨p, kind, tc, payload, early, none⟩ : RxTlp)] } }
  s.when early fun s => ((s.wr (CYTX_EARLY p tc) 0).markWhole fun x => x.tlp.ingress.val == p && x.tlp.tc.val == tc).settleRx p

/-- A TLP whose head the switch core has turns out bad at its end: one that waits for admission is discarded (R263, R334). -/
def State.dropEarly (s : State) (p tc : Nat) : State :=
  let mine := fun (w : Nat × Tlp) => w.2.ingress.val == p && w.2.tc.val == tc
  if !s.on (CYTX_EARLY p tc) then s
  else match s.switch.wait.reverse.find? mine with
    | some w => { s with switch := { s.switch with
        wait := s.switch.wait.filter fun x => x.1 != w.1
        mcast := s.switch.mcast.filter fun x => x.1 != w.1 } }
    | none => s

/-- The manager's answer to a JOIN_REQ of serial number `serial`: the lowest free node ID, which the table then holds, or a reason to refuse,
2 for a serial number that is in the table and 1 for a full table (R299). -/
def State.judgeJoin (s : State) (serial : Nat) : State × (Nat ⊕ Nat) :=
  if serial == Config.serial.toNat || s.mgmt.nodes.any fun x => x.2.1 == serial && bitSet x.2.2 0 then (s, .inr 2)
  else match s.freeNode with
    | none => (s, .inr 1)
    | some n => (s.setNode n serial 1, .inl n)

/-- The manager's answer goes out on tether `p` as JOIN_ACCEPT or JOIN_REFUSE. -/
def State.sendJoin (s : State) (p : Nat) (x : Nat ⊕ Nat) : State :=
  match x with
  | .inl n => s.linkMgmt p 6 n
  | .inr r => s.linkMgmt p 7 r

/-- The content of a unit of KIND 5 as a number: a forwarded JOIN_REQ is the serial number; its answer adds bit 64, the node ID or the reason from
bit 65 on, and bit 73 for a refusal. The spec gives no format. DESIGN CHOICE, log entry 13. -/
def joinBody (serial : Nat) (x : Nat ⊕ Nat) : Nat :=
  serial + 2 ^ 64 + match x with
    | .inl n => n * 2 ^ 65
    | .inr r => r * 2 ^ 65 + 2 ^ 73

/-- A JOIN_REQ that node `src` forwarded: the manager answers it by a unit of KIND 5 (R299). -/
def State.forwardedJoin (s : State) (src serial : Nat) : State :=
  if s.isManager then
    let x := s.judgeJoin serial
    x.1.sendNode src 0 0 0 5 10 (joinBody serial x.2)
  else s

/-- The manager's answer to a JOIN_REQ that this node forwarded goes out on the tether that the request came on (R299). -/
def State.relayJoin (s : State) (serial : Nat) (x : Nat ⊕ Nat) : State :=
  match findFrom (fun q => s.rd (CYTX_JOIN_FROM q) == serial + 1) 0 128 with
  | some q => (s.sendJoin q x).wr (CYTX_JOIN_FROM q) 0
  | none => s

/-- A completion of this node's own request to node `src`: the data goes on to whoever waits, and the last completion, or one whose status is not
success, ends the request (R404). -/
def State.takeCpl (s : State) (src : Node) (tag st : Nat) (data : List (BitVec 8)) (poison last : Bool) : State :=
  match s.reqOf .node src tag with
  | some o =>
    let done := last || st != 0
    if o.quarantined then
      (((s.inc ERR_CPL_COUNT_LATE_CPL).wr ERR_EVENT_LATE_CPL 1).recordNear 173 0x0206 [(5, src.val)] 0 (s.detReq o 0) []).when done fun s => s.endReq o
    else if o.waiter ≠ 0 then s
    else if done then (s.answerReq o st data poison).endReq o
    else (s.answerReq o st data poison false).advanceReq o data.length
  | none => s.recordNear 173 0x0207 [(5, src.val)] 0 (detTag tag 0) []

/-- A segment of a released unit (R257, R262, R267, R404, R626): a TLP that ends with stomp is counted and discarded, and nullified in its egress
mode when its head has left; a completion goes to the request that waits for it; a rejected copy breaks the mirror; a request, a copy or a
marker stands in the ingress buffer for the block that KIND names, whose row of its own follows. Fabric control, KIND 5, goes to the control
firmware; KIND 6 and 7 are reserved, and what carries them is discarded. -/
def State.takeSeg (s : State) (p : Nat) (u : RxUnit) (g : Seg) : State :=
  if !g.eop then s
  else if g.stomp then
    let s := (s.freeCredit p u.tc g.info.payload).inc (SWC_PORT_STOMP_STOMP_RX p)
    let s := (s.dropEarly p u.tc).wr (CYTX_EARLY p u.tc) 0
    (s.switch.txq.filter fun x => x.tlp.ingress.val == p && x.tlp.tc.val == u.tc && !x.tailIn).foldl (fun s x => s.badTail x) s
  else match g.info.body with
  | .request => if g.kind ≤ 4 then s.keepRx p u.tc g.kind g.info.payload else s.freeCredit p u.tc g.info.payload
  | .copyRejected d =>
    let s := s.freeCredit p u.tc g.info.payload
    if g.kind = 3 then s.breakMirror d else s
  | .completion src tag st data poison last =>
    let s := s.freeCredit p u.tc g.info.payload
    if g.kind ≠ 0 ∧ g.kind ≠ 1 ∧ g.kind ≠ 4 then s else s.takeCpl src tag.toNat st data poison last
  | .joinReq src serial =>
    let s := s.freeCredit p u.tc g.info.payload
    if g.kind = 5 then s.forwardedJoin src serial.toNat else s
  | .joinAnswer serial answer =>
    let s := s.freeCredit p u.tc g.info.payload
    if g.kind = 5 then s.relayJoin serial.toNat (match answer with
      | .inl n => .inl n.val
      | .inr r => .inr r.toNat) else s

/-- A unit released: its segments in order, and NEXT_EXPECTED passes it (R271). -/
def State.releaseUnit (s : State) (p : Nat) (u : RxUnit) : State :=
  let s := s.wr (PRT_CYT_RX_SEQ_NEXT_EXPECTED p) (u.seq.toNat + 1)
  u.segs.foldl (fun s g => s.takeSeg p u g) s

/-- REORDER_USED of tether `p`. -/
def State.reorderView (s : State) (p : Nat) : State :=
  s.wr (PRT_CYT_RX_SEQ_REORDER_USED p) (s.tether.reorder.filter fun x => x.1 == p).length

/-- The buffered units that follow in sequence released, at most 512 of them (R271). -/
def State.releaseRun (s : State) (p : Nat) : Nat → State
  | 0 => s.reorderView p
  | n + 1 => match s.tether.reorder.find? fun x => x.1 == p && x.2.seq.toNat == s.rd (PRT_CYT_RX_SEQ_NEXT_EXPECTED p) with
    | none => s.reorderView p
    | some x =>
      let s := { s with tether := { s.tether with reorder := removeFirst (fun y => y == x) s.tether.reorder } }
      (s.releaseUnit p x.2).releaseRun p n

/-- A unit that arrives ahead of a gap is stored, and the missing sequence numbers below it that have not been NAKed are
NAKed (R271, R273). -/
def State.storeUnit (s : State) (p : Nat) (u : RxUnit) : State :=
  if s.tether.reorder.any fun x => x.1 == p && x.2.seq == u.seq then s
  else
    let next := s.rd (PRT_CYT_RX_SEQ_NEXT_EXPECTED p)
    let first := if (s.tether.reorder.filter fun x => x.1 == p).isEmpty then next else s.rd (CYTX_NAK_TO p)
    let new := if seqDist u.seq.toNat next < seqDist first next then 0 else seqDist u.seq.toNat first
    let s := if new = 0 then s else
        s.nakNow p ((List.range new).map fun i => (first + i) % 65536)
    let to_ := if seqDist u.seq.toNat next < seqDist first next then first else u.seq.toNat + 1
    let s := s.wr (CYTX_NAK_TO p) to_
    State.reorderView { s with tether := { s.tether with reorder := s.tether.reorder ++ [(p, u)] } } p

/-- A unit arrives on tether `p` (R261, R262, R271, R272, R291): one that fails its CRC is counted; one of another generation, or
from a contained node (R520), is stale; the others by their distance from NEXT_EXPECTED. -/
def State.rxUnit (s : State) (p : Nat) (u : RxUnit) : State :=
  if !s.tetherUp p then s
  else
    let bad := s.injected 5 p || !u.crcOk
    let s := if s.injected 5 p then s.useInjected 5 p else s
    let d := seqDist u.seq.toNat (s.rd (PRT_CYT_RX_SEQ_NEXT_EXPECTED p))
    if bad then s.inc (PRT_CYT_ERR_COUNT_CRC_ERR p)
    else if u.gen.toNat ≠ s.rd (PRT_CYT_STATUS_GEN p)
        ∨ (s.on (PRT_CYT_STATUS_PEER_VALID p) ∧ s.contained 5 (s.rd (PRT_CYT_STATUS_PEER_NODE p))) then
      s.inc (PRT_CYT_DROP_COUNT_STALE p)
    else
      let s := s.wr (CYTX_CRED_DUE p) (max 1 (s.rd (CYTX_CRED_DUE p)))
      if d = 0 then (s.releaseUnit p u).releaseRun p 512
      else if d < 512 then s.storeUnit p u
      else if d < 32768 then s.inc (PRT_CYT_DROP_COUNT_BEYOND_WINDOW p)
      else (s.inc (PRT_CYT_DUP_COUNT_DUP p)).wr (CYTX_CRED_DUE p) 2

/-- LANE_MARKER: a LANE_MARKER row deskews after INIT and checks alignment later; a fault is fatal (R242, R248, R249). -/
def execLaneMarker (p : Port) (parityOk laneOk : Bool) (count : BitVec 32) (s : State) : Host.Outcome State Fault Refusal :=
  s.event (s.tetherUp p && decide (4 ≤ s.rd (PRT_CYT_STATUS_WIDTH p))) fun s =>
    let x := s.blockParity p parityOk
    let s := x.1
    let want := s.rd (CYTX_MARK_RX p)
    if !x.2 then s.loseLink p 3
    else if !laneOk || (want != 0 && want - 1 != count.toNat) then s.loseLink p 4
    else s.wrs [(CYTX_MARK_RX p, (count.toNat + 1) % 2 ^ 32 + 1), (CYTX_DESKEW p, 1)]

/-! Requests and INIT. -/

/-- The own request that waits is evaluated again (R296, R297): a width change is asked for again while the tether does not have that width; the
training that has just ended has done what a retrain was asked for. DEDUCED, log entry 64. -/
def State.askAgain (s : State) (p : Nat) : State :=
  if s.rd (CYTX_WANT p) = 2 ∧ s.rd (PRT_CYT_STATUS_WIDTH p) ≠ s.rd (CYTX_REQ_ARG p) then
    ((s.wrs [(CYTX_WANT p, 0), (CYTX_REQ p, 2)]).linkMgmt p 3 (s.rd (CYTX_REQ_ARG p))).startRetrain p
  else s.wr (CYTX_WANT p) 0

/-- Tether `p` joins: a node without an ID asks the far end that holds one (R298). -/
def State.askJoin (s : State) (p : Nat) : State :=
  if !s.on MGT_NODE_ID_NODE_VALID && s.on (PRT_CYT_STATUS_PEER_VALID p) && !s.on (CYTX_JOIN_OFF p) then
    (s.linkMgmt p 5 0).wr (CYTX_JOIN_AT p) (s.now + 1)
  else s

/-- INIT settles GEN and NEXT_EXPECTED and the tether reaches UP (R264, R278, R288, R290, R292, R298, R409); in UP an INIT
carries the far end's new node ID (R300). The counts of R276, of the sends of a held unit and of expiries of REPLAY_TIME in a row, go on across a
RETRAIN: DESIGN CHOICE, log entry 72. -/
def execInit (p : Port) (node : Option Node) (gen : BitVec 8) (next : BitVec 16) (cred : BitVec 256) (s : State) :
    Host.Outcome State Fault Refusal :=
  s.event (s.phase p == cyInit || s.tetherUp p) fun s =>
    let s := s.wrs [(PRT_CYT_STATUS_PEER_NODE p, match node with | some n => n.val | none => 0),
      (PRT_CYT_STATUS_PEER_VALID p, b2n node.isSome)]
    let s := match node with
      | some n => (s.setNode n (s.rd (CYTX_SERIAL p)) 1).wr (NRTX_LEAVING n) 0
      | none => s
    if s.tetherUp p then s.askJoin p
    else
      let s := s.wr (CYTX_WIDTH_LIMIT p) (s.widthLimit p)
      let behind := (gen.toNat + 256 - s.rd (PRT_CYT_STATUS_GEN p)) % 256
      let s := if 1 ≤ behind ∧ behind ≤ 127 then s.expireGrace p gen.toNat else s
      let fresh := s.on (CYTX_FRESH p)
      let s := s.applyAllot p fresh
      let s := if fresh then s.freshCredits p cred
        else
          let s := (s.newLimits p cred).ackTo p next.toNat
          let l := updateAll (fun u => u.port == p.val) (fun u => { u with again := true }) s.tether.unacked
          { s with tether := { s.tether with unacked := l } }
      let s := (s.endGrace p).wrs [(CYTX_FRESH p, 0), (CYTX_RETRAIN p, 0), (CYTX_REQ p, 0),
        (CYTX_FARREQ p, 0), (CYTX_MARK_RX p, 0), (CYTX_MARK_ROWS p, 0), (CYTX_MARK_TX p, 0), (CYTX_REPLAY_AT p, s.now),
        (CYTX_CRED_DUE p, 2), (PRT_CYT_EVENT_UP p, 1), (CYTX_LEAVING p, 0)]
      let s := (s.setCy p cyUp).tetherCameUp p
      (s.askJoin p).askAgain p

/-- The far end's request proceeds over the own one (R295): the lower node ID, an end with one, or the lower serial
number. -/
def State.farWins (s : State) (p : Nat) : Bool :=
  let own := s.on MGT_NODE_ID_NODE_VALID
  let far := s.on (PRT_CYT_STATUS_PEER_VALID p)
  if own && far then decide (s.rd (PRT_CYT_STATUS_PEER_NODE p) < s.rd MGT_NODE_ID_NODE_ID)
  else if own then false
  else if far then true
  else decide (s.rd (CYTX_SERIAL p) < Config.serial.toNat)

/-- A request of the far end arrives (R294 to R296): 1 RETRAIN_REQ, 2 WIDTH_REQ for `width` lanes. When an own request is
outstanding and loses, it is withdrawn and logged, to be evaluated again. -/
def State.farRequest (s : State) (p kind width : Nat) : State :=
  let go := fun (s : State) => (s.wrs [(CYTX_FARREQ p, kind), (CYTX_WIDTH_LIMIT p, if kind = 2 then width else s.rd (CYTX_WIDTH_LIMIT p))])
  if s.rd (CYTX_REQ p) = 0 then (if s.tetherUp p then (go s).startRetrain p else s)
  else if s.farWins p then
    let s := ((s.linkMgmt p 4 0).wr (PRT_CYT_EVENT_COLLISION p) 1).recordNear p 0x0306 [(1, p)] 0 (detG (s.rd (CYTX_REQ p)) kind) []
    go (s.wrs [(CYTX_WANT p, s.rd (CYTX_REQ p)), (CYTX_REQ p, 0)])
  else s.wr (CYTX_FARREQ p) kind

/-- RETRAIN_REQ (R295). -/
def execRetrainReq (p : Port) (s : State) : Host.Outcome State Fault Refusal := .next (s.farRequest p 1 0)

/-- WIDTH_REQ for `2 ^ code` lanes (R294, R295). -/
def execWidthReq (p : Port) (code : Fin 5) (s : State) : Host.Outcome State Fault Refusal := .next (s.farRequest p 2 (2 ^ code.val))

/-- WITHDRAW: the far end gives up its request, and the own one proceeds (R296). -/
def execWithdraw (p : Port) (s : State) : Host.Outcome State Fault Refusal := .next (s.wr (CYTX_FARREQ p) 0)

/-! Joining and leaving. -/

/-- JOIN_REQ from a node of serial number `serial` (R299): the manager answers, another node forwards the request as a
unit of KIND 5. -/
def execJoinReq (p : Port) (serial : BitVec 64) (s : State) : Host.Outcome State Fault Refusal :=
  s.event (s.tetherUp p && s.on MGT_NODE_ID_NODE_VALID) fun s =>
    if s.isManager then (s.judgeJoin serial.toNat).1.sendJoin p (s.judgeJoin serial.toNat).2
    else (s.wr (CYTX_JOIN_FROM p) (serial.toNat + 1)).sendNode s.managerNode 0 0 0 5 8 serial.toNat

/-- JOIN_REQ_REPEAT: without an answer for 1 s, JOIN_REQ is sent again (R298). -/
def execJoinReqRepeat (p : Port) (s : State) : Host.Outcome State Fault Refusal :=
  s.event (s.rd (CYTX_JOIN_AT p) != 0 && s.tetherUp p && !s.on MGT_NODE_ID_NODE_VALID) fun s =>
    let s := s.advTo (s.rd (CYTX_JOIN_AT p) - 1 + sec)
    (s.linkMgmt p 5 0).wr (CYTX_JOIN_AT p) (s.now + 1)

/-- Every tether that satisfies `f` changed by `g`. -/
def State.eachTether (s : State) (f : Nat → Bool) (g : Nat → State → State) : State :=
  s.forN (fun p s => if s.rd (PRT_CFG_MODE p) == 3 && f p then g p s else s) 128

/-- The own node ID is taken, or given up: the node-route entry of its own node says so (R417). -/
def State.localView (s : State) : State :=
  s.forN (fun n s => s.wr (NRT_LOCAL n) (b2n (s.on MGT_NODE_ID_NODE_VALID && n == s.rd MGT_NODE_ID_NODE_ID))) 64

/-- The unit has taken a node ID: it tells it on every tether that is UP and asks no more to join (R300). -/
def State.tellNode (s : State) : State :=
  s.localView.eachTether (fun _ => true) fun q s => (s.wr (CYTX_JOIN_AT q) 0).when (s.tetherUp q) fun s => s.linkMgmt q 1 0

/-- JOIN_ACCEPT: the node takes its ID with SOURCE 0b11 and tells it on every tether that is UP (R300). A node that has an ID ignores it. -/
def execJoinAccept (p : Port) (n : Node) (s : State) : Host.Outcome State Fault Refusal :=
  .next (if s.on MGT_NODE_ID_NODE_VALID then s
    else (s.wrs [(MGT_NODE_ID_NODE_ID, n), (MGT_NODE_ID_NODE_VALID, 1), (MGT_NODE_ID_SOURCE, 3), (PRT_CYT_EVENT_JOINED p, 1)]).tellNode)

/-- A PORT class command trains tether `p` anew: it may ask to join again there (R301). -/
def State.joinAgain (s : State) (p : Nat) : State := s.wr (CYTX_JOIN_OFF p) 0

/-- JOIN_REFUSE: the node stays without an ID and asks no more on any tether until a PORT class command retrains that tether; the reason
is kept and logged; no event code is given for it (R301, log entries 14 and 19). A node that has an ID ignores it. -/
def execJoinRefuse (p : Port) (reason : BitVec 8) (s : State) : Host.Outcome State Fault Refusal :=
  .next (if s.on MGT_NODE_ID_NODE_VALID then s
    else ((s.eachTether (fun _ => true) fun q s => s.wrs [(CYTX_JOIN_OFF q, 1), (CYTX_JOIN_AT q, 0)]).wrs
      [(PRT_CYT_EVENT_JOIN_REFUSED p, 1), (CYTX_REFUSED p, reason.toNat)]).logUncoded p reason.toNat 0)

/-- LEAVE: the peer answers LEAVE_ACK and routes nothing new to or through the leaving node (R304 step 1). A durable domain that is still mirrored
to it tells that FORCE was set, and takes the degraded-durability policy (R304). Until SHUTDOWN its loss is that of any node (R306). -/
def execLeave (p : Port) (s : State) : Host.Outcome State Fault Refusal :=
  s.event (s.tetherUp p) fun s =>
    let s := (s.linkMgmt p 9 0).wr (CYTX_LEAVING p) 1
    let n := s.rd (PRT_CYT_STATUS_PEER_NODE p)
    let s := if s.on (PRT_CYT_STATUS_PEER_VALID p) then (s.wr (NRTX_LEAVING n) 1).breakPeer n else s
    s.moveBuckets p false

/-- LEAVE_ACK arrives at the leaving node (R304 step 1). -/
def execLeaveAck (p : Port) (s : State) : Host.Outcome State Fault Refusal := .next (s.wr (CYTX_LEAVE_ACKED p) 1)

/-- Tether `p` reaches LEFT: its lanes are off, and no grace period runs (R278, R305). Units still held for it are dropped, without a record or an
answer, which the spec leaves open: DESIGN CHOICE, log entry 72. -/
def State.leaveTether (s : State) (p : Nat) : State :=
  let s := { s with tether := { s.tether with
    unacked := s.tether.unacked.filter fun u => u.port != p
    sendq := s.tether.sendq.filter fun u => u.port != p
    reorder := s.tether.reorder.filter fun x => x.1 != p
    naks := s.tether.naks.filter fun x => x.1 != p
    gaps := s.tether.gaps.filter fun x => x.1 != p } }
  let s := s.wrs [(PRT_CYT_EVENT_LEFT p, 1), (PRT_CYT_STATUS_RATE p, 15), (PRT_CYT_STATUS_WIDTH p, 0), (CYTX_FRESH p, 1),
    (PRT_CYT_RX_SEQ_REORDER_USED p, 0), (PRT_CYT_TX_SEQ_NEXT_SEQ p, 0), (PRT_CYT_TX_SEQ_OLDEST_UNACKED p, 0),
    (PRT_CYT_RX_SEQ_NEXT_EXPECTED p, 0)]
  ((s.setCy p cyLeft).usableAll p).forgetHops p

/-- SHUTDOWN: the tether goes to LEFT, and the far end's node is recorded as departed, not lost (R305); the manager frees
its ID (R304 step 5). -/
def execShutdown (p : Port) (s : State) : Host.Outcome State Fault Refusal :=
  s.event (s.tetherUp p) fun s =>
    let n := s.rd (PRT_CYT_STATUS_PEER_NODE p)
    let s := if s.on (PRT_CYT_STATUS_PEER_VALID p) then (s.setNode n (s.nodeEntry n).1 2).wrs [(NRT_VALID n, 0), (NRTX_LEAVING n, 0)] else s
    s.leaveTether p

/-! Commands. -/

/-- PORT_TETHER_SET (R264, R275, R285, R722): flag SET_CREDITS applies the allotments at the next INIT. -/
def execPortTetherSet (c : Cmd) (s : State) : Host.Outcome State Fault Refusal :=
  let p := parBytes c 0 1
  let hs := (List.range 8).map fun t => parBits c (64 + 32 * t + 16) 12
  let ds := (List.range 8).map fun t => parBits c (64 + 32 * t) 16
  .next (s.command 0x0203 onlyM
    (cleanCmd c ([(0, 8), (8, 8), (16, 8), (32, 16)] ++ (List.range 8).map fun t => (64 + 32 * t, 28)) true
      && decide (p < 128) && decide (parBytes c 1 1 ≤ 100) && decide (1 ≤ parBytes c 2 1) && decide (parBytes c 2 1 ≤ 100)
      && (!opFlag c || decide (hs.sum ≤ 2048) && decide (ds.sum ≤ 16384)))
    (fun _ =>
      firstFail [(s.rd (PRT_CFG_MODE p) != 3, stBadParam), (s.portBusy p, stBusy)]
        (let t := s.wrs [(PRT_CYT_CFG_GRACE_MS p, parBytes c 1 1), (PRT_CYT_CFG_REPLAY_US p, parBytes c 2 1), (PRT_CYT_ASYM_ASYM p, parBytes c 4 2)]
         .ok 0 (if opFlag c then
            t.forN (fun k s => s.wrs [(CYTN_HDR p k, parBits c (64 + 32 * k + 16) 12), (CYTN_DATA p k, parBits c (64 + 32 * k) 16)]) 8
          else t))) c)

/-- PORT_LINK with action 1, a width change on a tether that is UP (R294, R722). -/
def execPortLinkWidthRequest (c : Cmd) (s : State) : Host.Outcome State Fault Refusal :=
  let p := parBytes c 0 1
  let w := parBytes c 2 1
  .next (s.command 0x0204 onlyM (cleanCmd c [(0, 8), (8, 8), (16, 8)] false && parBytes c 1 1 == 1 && decide (p < 128) && decide (w ≤ 4))
    (fun _ =>
      firstFail [(s.rd (PRT_CFG_MODE p) != 3 || decide (s.rd (PRT_CFG_WIDTH p) < w), stBadParam), (s.portBusy p || s.rd (CYTX_REQ p) != 0, stBusy),
          (!s.tetherUp p, stBadParam)]
        (.ok 0 ((((s.joinAgain p).wrs [(CYTX_REQ p, 2), (CYTX_REQ_ARG p, 2 ^ w)]).linkMgmt p 3 (2 ^ w)).startRetrain p))) c)

/-- FABRIC_NODE_READ (R731). -/
def execFabricNodeRead (c : Cmd) (s : State) : Host.Outcome State Fault Refusal :=
  let n := parBytes c 0 1
  .next (s.command 0x0B03 onlyM (cleanCmd c [(0, 8)] false && decide (n < 64)) (fun _ =>
    .ok (if s.on MGT_NODE_ID_NODE_VALID ∧ n = s.rd MGT_NODE_ID_NODE_ID then 1 + Config.serial.toNat * 2 ^ 64
      else (s.nodeEntry n).2 + (s.nodeEntry n).1 * 2 ^ 64) s) c)

end Sys2Proof.Machine
end

