-- ==== Sys2Proof/Machine/Route.lean ====
section
/-! DEFINITION. Hierarchies, bindings, window translation and routes (chapter 08): the ROUTE commands and the routing
table snapshot. -/

namespace Sys2Proof.Machine

/-! Bindings. -/

/-- Every bound position, by index. -/
def State.boundPos (s : State) : List Nat := s.listed (POS_BOUND 0).key 256 1536

/-- Positions to which port `p` is bound. -/
def State.posOf (s : State) (p : Nat) : List Nat := s.boundPos.filter fun k => s.rd (POS_PORT k) == p

/-- The position at which port `p` is bound to host `h`. -/
def State.posAt (s : State) (p h : Nat) : Option Nat := (s.posOf p).find? fun k => k / 32 == h

/-- An unbind of port `p` is in progress (R380). -/
def State.unbinding (s : State) (p : Nat) : Bool := (s.posOf p).any fun k => s.on (POS_UNBINDING k)

/-- The functions of port `p` bound to host `h`. -/
def State.fnsOf (s : State) (p h : Nat) : List Nat :=
  ((s.listed (SHF_BOUND 0).key 256 32768).filter fun i => i / 256 == p && s.rd (SHF_HOST i) == h).map fun i => i % 256

/-- Data Link Layer State Changed at port `p`'s slot (R207, R377). -/
def State.dlChanged (s : State) (p : Nat) : State := s.wr (SLTX_STS p) (setBit (s.rd (SLTX_STS p)) 8)

/-- DL_ACTIVE of PCI Express port `p` falls: LINK_DOWN, and Data Link Layer Link Active of its positions. -/
def State.dlFall (s : State) (p : Nat) : State :=
  if s.on (PRT_LINK_STATUS_DL_ACTIVE p) then
    let s := ((s.wr (PRT_LINK_STATUS_DL_ACTIVE p) 0).wr (PRT_EVENT_LINK_DOWN p) 1).dlChanged p
    (s.posOf p).foldl (fun s k => s.wr (POS_LINK_ACTIVE k) 0) s
  else s

/-- The link of PCI Express port `p` leaves L0 for LTSSM state `st`: 0 Detect, 7 L2, 8 Disabled, 10 Hot Reset. The corrections of polarity and
order end at the entry to Detect (R169). -/
def State.pcieDown (s : State) (p st : Nat) : State :=
  let s := (s.dlFall p).wrs [(PRT_LINK_STATUS_LTSSM p, st), (PRT_LINK_STATUS_RATE p, 15), (PRT_LINK_STATUS_WIDTH p, 0),
    (PRT_LINK_STATUS_FLIT_ACTIVE p, 0), (PRT_LINK_STATUS_DEEP_LEVEL p, 0)]
  let s := s.when (st == 0) fun s => (s.portLanes p).foldl (fun s l => s.wrs [(LAN_STATUS_RX_INVERTED l, 0), (LAN_STATUS_REVERSED l, 0)])
    (s.wr (PRT_LINK_STATUS_REVERSED p) 0)
  (s.laneView p).linkView p

/-- The functions bound at position `k` of a shared port get a Function Level Reset; those without one are named in one
record (R363). -/
def State.flrFns (s : State) (k : Nat) : State :=
  let p := s.rd (POS_PORT k)
  let fs := s.fnsOf p (k / 32)
  let skip := fs.filter fun f => !Config.flrCapable p f
  let s := (fs.filter fun f => Config.flrCapable p f).foldl (fun s f => s.make (ownTlp .nonPosted p 0 4 0 0 none 0) (.out (.flr p f))) s
  if skip.isEmpty then s
  else (s.wr RTE_EVENT_FLR_SKIPPED 1).recordNear 145 0x0505 [(2, k / 32), (1, p)] 0 (detG p (skip.foldl (fun m f => m + 2 ^ f) 0)) [k / 32]

/-- The Secondary Bus Reset bit of position `k` or of function 0 is set, or PERST_N of the host is low: the downstream link is held in hot reset
(R363). -/
def State.posHeld (s : State) (k : Nat) : Bool :=
  bitSet (s.rd (POSX_BCTL k)) 6 || bitSet (s.rd (HF0_BCTL (k / 32))) 6 || s.on (HOSTF_PERST (k / 32))

/-- A reset at its position holds the link of exclusive port `p` (R363). -/
def State.busHeld (s : State) (p : Nat) : Bool := (s.posOf p).any fun k => !s.on (POS_SHARED k) && s.posHeld k

/-- A Secondary Bus Reset, or a hot reset of the hierarchy, acts on the binding at position `k`; `on` tells that the bit is
set and `false` that it is cleared, upon which the link is let go unless another bit holds it still (R363). -/
def State.resetPos (s : State) (k : Nat) (on : Bool) : State :=
  if !s.on (POS_BOUND k) || (!on && s.posHeld k) then s
  else if s.on (POS_SHARED k) then (if on then s.flrFns k else s)
  else
    let p := s.rd (POS_PORT k)
    let s := s.emit (.hotReset p on)
    if s.contained 1 p then s else if on then s.pcieDown p 10 else if s.rd (PRT_LINK_STATUS_LTSSM p) = 10 then s.pcieDown p 0 else s

/-- A port has a slot, and one host owns its Slot Control (R205). -/
def State.slotOwned (s : State) (p : Nat) : Bool := s.on (PRT_CFG_SLOT_VALID p) && (s.boundHost p).isSome

/-! ROUTE commands. -/

/-- ROUTE_HIER_SET (R358, R359, R383). -/
def execRouteHierSet (c : Cmd) (s : State) : Host.Outcome State Fault Refusal :=
  let h := parBytes c 0 1
  .next (s.command 0x0301 onlyM (cleanCmd c [(0, 8), (8, 8), (32, 32)] false && decide (h < 48)
      && decide (parBytes c 1 1 ≤ 32) && decide (parBytes c 4 4 ≤ 65536))
    (fun _ => .ok 0 ((s.wr (RTE_HIER_CFG_VB_COUNT_NEXT h) (parBytes c 1 1)).wr (RTE_HIER_QUOTA_XLAT_QUOTA h) (parBytes c 4 4))) c)

/-- DPC at port `p`: enabled by some host to which it is bound, and with Completion Control as such a host selects it (R520, R535). -/
def State.dpcView (s : State) (p : Nat) : State :=
  let l := s.boundPos.filter fun k => s.rd (POS_PORT k) == p && s.rd (POSX_DPCCTL k) % 4 != 0
  s.wrs [(PRTX_DPC_EN p, b2n (!l.isEmpty)), (PRTX_DPC_UR p, b2n (l.any fun k => bitSet (s.rd (POSX_DPCCTL k)) 2))]

/-- The functions that ROUTE_BIND names: bit 8d + f of parameter bytes 8 to 39. -/
def bindFns (c : Cmd) : List Nat := idxs 256 fun f => parBits c (64 + f) 1 == 1

/-- A range of fabric buses overlaps that of another port (R365). -/
def State.busOverlap (s : State) (p base span : Nat) : Bool :=
  s.boundPos.any fun k => s.rd (POS_PORT k) != p && decide (s.rd (POS_FABRIC_BUS_BASE k) < base + span)
    && decide (base < s.rd (POS_FABRIC_BUS_BASE k) + s.rd (POS_BUS_SPAN k))

/-- The binding that ROUTE_BIND makes (R365, R377). -/
def State.bind (s : State) (p h v shared base span : Nat) (fns : List Nat) : State :=
  let k := posIdx h v
  let s := s.wrs [(POS_BOUND k, 1), (POS_SHARED k, shared), (POS_PORT k, p), (POS_FABRIC_BUS_BASE k, base), (POS_BUS_SPAN k, span),
    (POS_UNBINDING k, 0), (POS_LINK_ACTIVE k, s.rd (PRT_LINK_STATUS_DL_ACTIVE p)), (BINDX_COUNT p, s.rd (BINDX_COUNT p) + 1),
    (BINDX_SHARED p, shared), (BINDX_HOST p, h), (BINDX_POS p, v)]
  if shared = 1 then
    fns.foldl (fun s f => s.wrs [(SHF_BOUND (fnIdx p f), 1), (SHF_HOST (fnIdx p f), h), (SHF_POSITION (fnIdx p f), v)]) (s.dpcView p)
  else s.dpcView p

/-- ROUTE_BIND (R364 to R366, R375 to R377, R380, R864), its cases in the order of R691. A shared binding of a port that is bound exclusively, and a
second position of a port in one hierarchy, for which R376 names no status, get OVERLAP: DESIGN CHOICE, log entry 65. -/
def execRouteBind (c : Cmd) (s : State) : Host.Outcome State Fault Refusal :=
  let p := parBytes c 0 1
  let h := parBytes c 1 1
  let v := parBytes c 2 1
  let shared := parBits c 24 1
  let base := parBytes c 4 1
  let span := parBytes c 5 1
  let fns := bindFns c
  .next (s.command 0x0302 onlyM (cleanCmd c [(0, 8), (8, 8), (16, 8), (24, 1), (32, 8), (40, 8), (64, 256)] false
      && decide (p < 128) && decide (h < 48) && decide (v < 32) && decide (1 ≤ base) && decide (1 ≤ span) && decide (span ≤ 32)
      && decide (base + span ≤ 255))
    (fun _ => firstFail
      [(s.busOverlap p base span, stOverlap),
       (shared == 1 && span != 1, stBadParam),
       (s.rd (PRT_CFG_MODE p) != 2, stNotPermitted),
       (s.contained 1 p, stBusy),
       (decide (0 < s.rd (BINDX_COUNT p)) && shared == 0, stOverlap),
       (fns.any fun f => s.on (SHF_BOUND (fnIdx p f)), stOverlap),
       (decide (s.rd (RTE_HIER_CFG_VB_COUNT h) ≤ v), stBadParam),
       (s.on (POS_BOUND (posIdx h v)), stOverlap),
       (decide (0 < s.rd (BINDX_COUNT p)) && (!s.on (BINDX_SHARED p) || (s.posAt p h).isSome), stOverlap),
       (s.unbinding p, stBusy),
       (s.on MOR_CFG_TARGET_EN && (p == s.rd MOR_CFG_PORT0 || p == s.rd MOR_CFG_PORT1), stBusy)]
      (.ok 0 (s.bind p h v shared base span fns))) c)

/-- The OPCODE of ROUTE_UNBIND. -/
def opUnbind : Nat := 0x0303

/-- A non-posted request between host `h` and port `p`, in either direction. -/
def asksFor (h p : Nat) (t : Tlp) : Bool := t.kind == .nonPosted && t.host == h && (t.egress.val == p || t.ingress.val == p)

/-- Non-posted requests between host `h` and port `p` that await their completions, in either direction (R378). -/
def State.asksBetween (s : State) (h p : Nat) : List QTlp := s.switch.asked.filter fun x => !x.held && asksFor h p x.tlp

/-- A non-posted request from a device at port `p` to the pool, a peer or another node that waits or runs, for host `h` (R378). -/
def heldAsk (h p : Nat) : BHeld → Option Tlp
  | .peer t _ _ => if t.kind = .nonPosted ∧ t.ingress.val = p then some { t with host := h } else none
  | _ => none

/-- Non-posted requests between `h` and `p` that are still on their way: queued, waiting for admission or at the checker, with the pool, or sent on
to another node (R378). -/
def State.asksMoving (s : State) (h p : Nat) : Bool :=
  (s.switch.txq.any fun x => x.own.isNone && asksFor h p x.tlp) || (s.switch.wait.any fun w => asksFor h p w.2)
    || (s.bridle.held.any fun b => (heldAsk h p b.2).isSome)
    || ((s.pool.queue ++ s.pool.waiting).any fun a => a.port == p && a.src == h && opType a.op == 1)
    || s.outst.any fun o => !o.quarantined && !o.store && o.src == portSource p

/-- The non-posted requests outstanding between `h` and `p` answered with a Completer Abort: those still on their way go no further, and the tags of
those sent are quarantined, so that a late completion is discarded (R379, R542). -/
def State.abortAsks (s : State) (h p : Nat) : State :=
  let l := s.asksBetween h p
  let qs := s.switch.txq.filter fun x => x.own.isNone && asksFor h p x.tlp && !x.started
  let ws := (s.switch.wait.filter fun w => asksFor h p w.2).map fun w => w.2
  let hs := s.bridle.held.filterMap fun b => heldAsk h p b.2
  let ps := (s.pool.queue ++ s.pool.waiting).filter fun a => a.port == p && a.src == h && opType a.op == 1
  let s := { s with
    switch := { s.switch with
      asked := updateAll (fun x => l.contains x) (fun x => { x with held := true }) s.switch.asked
      wait := s.switch.wait.filter fun w => !asksFor h p w.2 }
    bridle := { s.bridle with held := s.bridle.held.filter fun b => (heldAsk h p b.2).isNone }
    pool := { s.pool with
      queue := s.pool.queue.filter fun a => !ps.contains a
      waiting := s.pool.waiting.filter fun a => !ps.contains a } }
  let s := (l.map (fun x => x.tlp) ++ ws ++ hs).foldl (fun s t => s.refuseTlp t cplCA) s
  let s := ps.foldl (fun s a => s.reply a cplCA [] false) s
  let s := qs.foldl (fun s x => (s.refuseTlp x.tlp cplCA).dequeue x) s
  s.abortAll (fun o => o.src == portSource p && !o.store) stHwError

/-- ROUTE_UNBIND, a long operation: its first step at once; with SURPRISE, what is outstanding is answered with a Completer
Abort (R378, R379). The operation's `acc` keeps the place in order that bounds the stores of its third step. -/
def execRouteUnbind (c : Cmd) (s : State) : Host.Outcome State Fault Refusal :=
  let p := parBytes c 0 1
  let h := parBytes c 1 1
  .next (s.command opUnbind onlyM (cleanCmd c [(0, 8), (8, 8)] true && decide (p < 128) && decide (h < 48))
    (fun _ => match s.posAt p h with
      | none => .fail stBadParam
      | some k =>
        if s.unbinding p then .fail stBusy
        else
          let t := (s.wr (POS_UNBINDING k) 1).wr (POS_LINK_ACTIVE k) 0
          .long 0 1 (if opFlag c then 1 else 0) (s.rd SYS_ORDER) (if opFlag c then t.abortAsks h p else t)) c)

/-- The binding at position `k` and its shadow BARs cleared (R378 step 5). -/
def State.clearBind (s : State) (k : Nat) : State :=
  let p := s.rd (POS_PORT k)
  let fs := s.fnsOf p (k / 32)
  let s := fs.foldl (fun s f => (s.clearRange ((SHBX_BAR (4096 * p + 16 * f)).key / 8) 128).wrs
    [(SHF_BOUND (fnIdx p f), 0), (SHF_HOST (fnIdx p f), 0), (SHF_POSITION (fnIdx p f), 0)]) s
  let s := s.wrs [(POS_BOUND k, 0), (POS_SHARED k, 0), (POS_PORT k, 0), (POS_FABRIC_BUS_BASE k, 0), (POS_BUS_SPAN k, 0),
    (POS_LINK_ACTIVE k, 0), (POS_UNBINDING k, 0), (BINDX_COUNT p, s.rd (BINDX_COUNT p) - 1)]
  let s := if s.rd (BINDX_COUNT p) = 0 then s.wrs [(BINDX_SHARED p, 0), (BINDX_HOST p, 0), (BINDX_POS p, 0)] else s
  (s.dpcView p).wr RTE_EVENT_UNBIND_DONE 1

/-- One step of an unbind: phase 0 waits for what is outstanding, within the longest completion timeout; phase 1 for the
stores of the functions accepted so far, which are among the host's; then the functions are reset and the binding cleared
(R378). -/
def State.stepUnbind (s : State) (o : Op) : State :=
  let p := parBytes o.cmd 0 1
  let h := parBytes o.cmd 1 1
  match s.posAt p h with
  | none => s.finishOp o.handle stOk 0
  | some k =>
    if o.phase = 0 ∧ !opFlag o.cmd ∧ (s.asksMoving h p ∨ (s.asksBetween h p).any (fun x => decide (s.now < x.headSince + 2500 * ms))) then s
    else if s.pool.wb.any (fun e => e.src == h && decide (e.seq < o.acc))
        || s.pool.waiting.any (fun a => a.src == h && opType a.op == 0 && decide (a.seq < o.acc))
      then { s with ops := updateAll (fun x => x.handle == o.handle) (fun x => { x with phase := 1 }) s.ops }
    else (((s.resetPos k true).resetPos k false).clearBind k).finishOp o.handle stOk 0

/-! Window translation. -/

/-- The contents of a translation entry as ROUTE_XLAT_WRITE gives them (R381, R386). -/
structure Xlat where
  typ : Nat
  host : Nat
  alt : Nat
  acs : Nat
  sizeLog2 : Nat
  node : Nat
  remote : Nat
  port : Nat
  window : Nat
  base : Nat
  target : Nat
  deriving DecidableEq, Repr

/-- The entry that a command gives. -/
def xlatOfCmd (c : Cmd) : Xlat :=
  ⟨parBits c 33 2, parBits c 35 6, parBits c 41 2, parBits c 43 1, parBits c 44 6, parBits c 50 6, parBits c 56 1, parBits c 57 7,
    parBits c 64 12, parBytes c 16 8, parBytes c 24 8⟩

/-- Every valid translation entry. -/
def State.xlats (s : State) : List Nat := s.listed (XLAT_VALID 0).key 256 65536

/-- Entry `i` counts against its host's quota (R383). -/
def Xlat.counted (x : Xlat) : Bool := x.typ == 0 || x.typ == 1

/-- The contents of entry `i`. -/
def State.xlat (s : State) (i : Nat) : Xlat :=
  ⟨s.rd (XLAT_TYPE i), s.rd (XLAT_HOST i), s.rd (XLAT_ALIAS i), s.rd (XLAT_HONOUR_ACS i), s.rd (XLAT_SIZE_LOG2 i),
    s.rd (XLAT_TARGET_NODE i), s.rd (XLAT_REMOTE i), s.rd (XLAT_TARGET_PORT i), s.rd (XLAT_WINDOW i), s.rd (XLAT_MATCH_BASE i),
    s.rd (XLAT_TARGET_BASE i)⟩

/-- The entry names a window of this node (R386, R574). -/
def Xlat.local (x : Xlat) : Bool := x.typ == 0 && x.remote == 0

/-- An entry is well formed (R381, R382, R386). -/
def Xlat.valid (x : Xlat) : Bool :=
  decide (x.typ < 3) && decide (x.alt < 3) && decide (12 ≤ x.sizeLog2) && decide (x.sizeLog2 ≤ (if x.typ = 0 then 40 else 46))
    && x.base % 2 ^ x.sizeLog2 == 0 && x.target % 4096 == 0 && (x.typ == 2 || decide (x.host < 48))

/-- Two entries may not both be valid: one match space, overlapping ranges (R383). -/
def Xlat.clashes (x y : Xlat) : Bool :=
  x.typ == y.typ && (x.typ == 2 || x.host == y.host) && decide (x.base < y.base + 2 ^ y.sizeLog2)
    && decide (y.base < x.base + 2 ^ x.sizeLog2)

/-- Entry `i` removed, with what it counts for. -/
def State.eraseXlat (s : State) (i : Nat) : State :=
  if s.on (XLAT_VALID i) then
    let x := s.xlat i
    let s := (s.clearRange (xlatAddr i) 32).dec RTE_XLAT_USED_USED
    let s := if x.counted then s.dec (RTE_HIER_USED_XLAT_USED x.host) else s
    if x.local then s.dec (WINX_XLATS x.window) else s
  else s

/-- Entry `i` written; its HITS start at 0 (R389). -/
def State.putXlat (s : State) (i : Nat) (x : Xlat) : State :=
  let s := (s.eraseXlat i).wrs [(XLAT_VALID i, 1), (XLAT_TYPE i, x.typ), (XLAT_HOST i, x.host), (XLAT_ALIAS i, x.alt), (XLAT_HONOUR_ACS i, x.acs),
    (XLAT_SIZE_LOG2 i, x.sizeLog2), (XLAT_TARGET_NODE i, x.node), (XLAT_REMOTE i, x.remote), (XLAT_TARGET_PORT i, x.port),
    (XLAT_WINDOW i, x.window), (XLAT_MATCH_BASE i, x.base), (XLAT_TARGET_BASE i, x.target)]
  let s := s.bump RTE_XLAT_USED_USED
  let s := if x.counted then s.bump (RTE_HIER_USED_XLAT_USED x.host) else s
  if x.local then s.bump (WINX_XLATS x.window) else s

/-- The lowest-numbered free entry, one of the first 65,536 (R946). -/
def State.freeXlat (s : State) : Option Nat :=
  let l := s.xlats
  findFrom (fun i => !l.contains i) 0 (min 65536 (l.length + 1))

/-- The index that a ROUTE_XLAT_WRITE names, when there is one (R946). -/
def State.xlatIndex (s : State) (n : Nat) : Option Nat := if n = 0xFFFFFFFF then s.freeXlat else some n

/-- ROUTE_XLAT_WRITE (R382, R383, R389, R390, R444, R575, R946). The old contents leave the translation stage within the
step, since each request is translated in one. -/
def execRouteXlatWrite (c : Cmd) (s : State) : Host.Outcome State Fault Refusal :=
  let n := parBytes c 0 4
  let x := xlatOfCmd c
  let i := (s.xlatIndex n).getD 65536
  let t := s.eraseXlat i
  let last := x.target + 2 ^ x.sizeLog2
  .next (s.command 0x0304 onlyM (cleanCmd c [(0, 32), (32, 32), (64, 12), (128, 64), (192, 64)] false && parBits c 32 1 == 1
      && x.valid && (n == 0xFFFFFFFF || decide (n < 65536)))
    (fun _ => firstFail
      [(t.xlats.any fun j => (t.xlat j).clashes x, stOverlap),
       (x.local && decide (s.poolC < last), stBadParam),
       (x.counted && !(s.on (XLAT_VALID i) && (s.xlat i).counted && (s.xlat i).host == x.host)
          && decide (s.rd (RTE_HIER_QUOTA_XLAT_QUOTA x.host) ≤ t.rd (RTE_HIER_USED_XLAT_USED x.host)), stNoResource),
       (i == 65536, stNoResource),
       (x.local && decide (s.poolUsable < last), stBadParam),
       (x.local && !s.inWindow x.window x.target (2 ^ x.sizeLog2), stBadParam)]
      (.ok i (s.putXlat i x))) c)

/-- ROUTE_XLAT_CLEAR (R389, R390, R946). -/
def execRouteXlatClear (c : Cmd) (s : State) : Host.Outcome State Fault Refusal :=
  let n := parBytes c 0 4
  .next (s.command 0x0305 onlyM (cleanCmd c [(0, 32)] false && decide (n < 65536))
    (fun _ => if s.on (XLAT_VALID n) then .ok 0 (s.eraseXlat n) else .fail stBadParam) c)

/-! Routes between nodes. -/

/-- A mirror resync that the part starts on its own, without a status (R884). Its handle lies above every handle that a
command gets. -/
def State.autoResync (s : State) (d : Nat) : State :=
  if s.on (DDX_AUTO d) && s.routed (s.rd (ORD_DOM_CFG_PEER_NODE d)) then
    let c : Cmd := ⟨.mgmt, 0, 0, BitVec.ofNat 448 d⟩
    let o : Op := ⟨65536 + d, 0x0607, c, .m, 128, 0, s.domainLines d, 0, d, false, none, 0, false, true, false, false⟩
    (s.setOps (s.ops ++ [o])).wrs [(DDX_AUTO d, 0), (DDX_STARTED d, 1)]
  else s

/-- Every resync that awaits a route tried. -/
def State.autoResyncs (s : State) : State := s.forN (fun d s => s.autoResync d) 16

/-- The tether list toward node `n` written and its buckets spread, each from the tether on which it was (R408, R409); an empty list is no
route. On a route that was not valid, a bucket of which nothing is in flight is mapped at once, but for one kept on a tether in its grace period
(R410). -/
def State.putRoute (s : State) (c : Cmd) (n : Nat) : State :=
  let listed := parBits c 8 4
  let fresh := !s.on (NRT_VALID n)
  let before := s
  let s := s.wrs [(NRT_VALID n, b2n (listed != 0)), (NRT_LOCAL n, b2n (s.on MGT_NODE_ID_NODE_VALID && s.rd MGT_NODE_ID_NODE_ID == n)),
    (NRT_LISTED n, listed), (NRT_TETHER0 n, parBytes c 2 1), (NRT_TETHER1 n, parBytes c 3 1), (NRT_TETHER2 n, parBytes c 4 1),
    (NRT_TETHER3 n, parBytes c 5 1)]
  let now := fun (b : Nat) => fresh && before.inFlight b == 0 && (before.rd (BKTX_OLD b) == 0 || before.bucketFree b)
  let s := s.forN (fun k s => s.when (!now (256 * n + k)) fun s => s.keepTether (256 * n + k) (before.bucketPort (256 * n + k))) 256
  ((s.usableView n).spread n now).autoResyncs

/-- ROUTE_NODE_SET (R406, R409, R884): every listed port is a tether. -/
def execRouteNodeSet (c : Cmd) (s : State) : Host.Outcome State Fault Refusal :=
  let n := parBytes c 0 1
  .next (s.command 0x0306 onlyM (cleanCmd c [(0, 8), (8, 4), (16, 8), (24, 8), (32, 8), (40, 8)] false && decide (n < 64)
      && ((List.range 4).all fun i => decide (parBytes c (2 + i) 1 < 128)
        && (parBits c (8 + i) 1 == 0 || s.rd (PRT_CFG_MODE (parBytes c (2 + i) 1)) == 3)))
    (fun _ => .ok 0 (s.putRoute c n)) c)

/-- ROUTE_MC_SET (R348, R414). -/
def execRouteMcSet (c : Cmd) (s : State) : Host.Outcome State Fault Refusal :=
  let g := parBytes c 0 1
  .next (s.command 0x0307 onlyM (cleanCmd c [(0, 8), (8, 2), (64, 128), (192, 128)] false)
    (fun _ => .ok 0 ((s.forN (fun j s => s.wr (SWC_MC_PORTS_PORTS g j) (parBytes c (8 + 4 * j) 4)) 4).wrs
      [(SWC_MC_CFG_VALID g, parBits c 8 1), (SWC_MC_CFG_REMOTE g, parBits c 9 1), (MCT_TRANSIT g, parBytes c 24 16)])) c)

/-- ROUTE_MC_MAP (R723): a port's Multicast capability group mapped onto a device group. -/
def execRouteMcMap (c : Cmd) (s : State) : Host.Outcome State Fault Refusal :=
  let p := parBytes c 0 1
  let g := parBytes c 1 1
  .next (s.command 0x0308 onlyM (cleanCmd c [(0, 8), (8, 8), (16, 8), (24, 1)] false && decide (p < 128) && decide (g < 64))
    (fun _ => .ok 0 ((s.wr (MCMX_GROUP p g) (parBytes c 2 1)).wr (MCMX_VALID p g) (parBits c 24 1))) c)

/-! Snapshots. -/

/-- Entries of each table of RTE_IND_SEL. -/
def rteCount (t : Nat) : Nat :=
  if t = 0 then 65536 else if t = 1 then 1536 else if t = 2 then 32768 else if t = 3 then 64 else if t = 4 then 16384
  else if t = 5 then 256 else 0

/-- RTE_IND_GO: a snapshot of one entry at a single instant (R417). -/
def execRteIndGo (v : BitVec 31) (s : State) : Host.Outcome State Fault Refusal :=
  let t := v.toNat % 16
  let i := v.toNat / 16 % 65536
  let s := s.wrs [(RTE_IND_SEL_TABLE, t), (RTE_IND_SEL_INDEX, i), (RTE_IND_STATUS_DONE, 0), (SNAPX_DUE, setBit (s.rd SNAPX_DUE) 0)]
  .next (if rteCount t ≤ i then (s.forN (fun k s => s.wr (RTE_IND_DATA_WORD k) 0) 8).wr RTE_IND_STATUS_BAD_INDEX 1
    else
      let s := s.wr RTE_IND_STATUS_BAD_INDEX 0
      if t = 0 then s.snapshot xlatLayout (xlatAddr i) RTE_IND_DATA_WORD 8
      else if t = 1 then s.snapshot posLayout (posAddr i) RTE_IND_DATA_WORD 8
      else if t = 2 then s.snapshot shfLayout (shfAddr i) RTE_IND_DATA_WORD 8
      else if t = 3 then s.snapshot nrtLayout (nrtAddr i) RTE_IND_DATA_WORD 8
      else if t = 4 then (s.wr (BKT_IN_FLIGHT i) (min 65535 (s.inFlight i))).snapshot bktLayout (bktAddr i) RTE_IND_DATA_WORD 8
      else s.snapshot mctLayout (mctAddr i) RTE_IND_DATA_WORD 8)

end Sys2Proof.Machine
end

