-- ==== Sys2Proof/Machine/Access.lean ====
section
/-! DEFINITION. Requests from outside to the pool, to peers and to other nodes (R196, R216, R217, R360 to R412): their
checks, translation and routing, and the requests that wait at the checker. -/

namespace Sys2Proof.Machine

/-! Shared parts. -/

/-- Requests that need the pool wait at the checker: a session holds it (R436), or the pool is being brought back
(R879). -/
def State.poolPaused (s : State) : Bool := s.checkerHeld || s.rd MOR_STATUS_STATE == 5 || s.rd MOR_STATUS_STATE == 6

/-- A request that waits at the checker is dropped at the end of a drain: a store, which has not passed window translation, is
discarded and counted (R29, R111, R853). -/
def State.dropHeld (s : State) : BHeld → State
  | .pool h r => match r.op with
    | .store _ => s.lateStore h (r.addr.toNat - s.rd (HOSTF_BAR2 h))
    | _ => s
  | .peer t _ op => match op with
    | .store _ => s.lateStore t.host t.addr
    | _ => s
  | .remote _ n r => match r.op with
    | .store _ => s.lateStore (64 + n) (r.addr.toNat % 2 ^ 40)
    | _ => s
  | .fabric .. | .proxy .. => s
  | .regs .. => s
  | .bar .. => s

/-- Every request that still waits at the checker is dropped, but for those to the register map, which go on (R435). -/
def State.discardHeld (s : State) : State :=
  let regs := s.bridle.held.filter fun b => match b.2 with | .regs .. => true | _ => false
  s.bridle.held.foldl (fun s b => s.dropHeld b.2) { s with bridle := { s.bridle with held := regs } }

/-- A memory request is posted. -/
def postedOp : MemOp → Bool
  | .store _ => true
  | _ => false

/-- An AtomicOp is naturally aligned to its operand size (R581). -/
def alignedOp (a : Nat) : MemOp → Bool
  | .atomic _ n _ _ => a % n == 0
  | _ => true

/-- The pool completes an AtomicOp of this kind and operand size (R579). -/
def sizedOp : MemOp → Bool
  | .atomic .cas n _ _ => n == 4 || n == 8 || n == 16
  | .atomic _ n _ _ => n == 4 || n == 8
  | _ => true

/-- An error of a request that function 1 of host `h` detects, with AER bit `bitNo`: code 0x0202, or 0x0204 when that bit
is fatal (R503, R504, R519). The header it logs is a free value, since a memory request here carries no raw header. -/
def State.f1Error (s : State) (h bitNo detail : Nat) : State :=
  let src := (s.hostPort h).getD 0
  let s := (s.aerUnc h bitNo s.freeVal).takeFree
  if bitSet (s.rd (HOSTF_AER_UNCSEV h)) bitNo then s.recSev 3 src 0x0204 2 h 0 (detail + 2 ^ bitNo * 2 ^ 288) [h]
  else s.recNear 2 src 0x0202 [(2, h)] 0 (detail + 2 ^ bitNo * 2 ^ 288) [h]

/-- A host's request answered: a non-posted one with completion status `st`. -/
def State.answerHost (s : State) (h : Nat) (r : MemReq) (st : Nat) : State :=
  if postedOp r.op then s else s.complete h r.requester.toNat r.tag.toNat st [] false r.tc

/-- A host's request that nothing takes is an Unsupported Request: a posted one is discarded and logged, another is
answered (R196, R216, R217). -/
def State.unsupported (s : State) (h : Nat) (r : MemReq) : State :=
  if postedOp r.op then s.f1Error h aerUR (detMem ((s.hostPort h).getD 0) r) else s.answerHost h r cplUR

/-- A host's request that matched no translation entry or no window (R25). -/
def State.missed (s : State) (h : Nat) (r : MemReq) : State :=
  if postedOp r.op then s.recordNear ((s.hostPort h).getD 0) 0x0501 [(2, h)] 0 (detMem ((s.hostPort h).getD 0) r) [h]
  else s.answerHost h r cplUR

/-- The translation entry of type `typ`, and of host `h` for the types that have one, that holds address `a` (R381, R383). -/
def State.lookup (s : State) (typ h a : Nat) : Option Nat :=
  s.xlats.find? fun i => s.rd (XLAT_TYPE i) == typ && (typ == 2 || s.rd (XLAT_HOST i) == h)
    && decide (s.rd (XLAT_MATCH_BASE i) ≤ a) && decide (a < s.rd (XLAT_MATCH_BASE i) + 2 ^ s.rd (XLAT_SIZE_LOG2 i))

/-- The address that entry `i` gives for `a` (R384). -/
def State.translated (s : State) (i a : Nat) : Nat := s.rd (XLAT_TARGET_BASE i) + (a - s.rd (XLAT_MATCH_BASE i))

/-- A request with place `n` in the order of arrival waits behind an earlier one of its type that came on its port, and on a tether of its class
(R316, R323, R324, R436). -/
def State.heldBefore (s : State) (n : Nat) (b : BHeld) : Bool := s.ahead n (s.heldPort b) b.typeOf.1 b.typeOf.2

/-- The write buffer of host `h` is full, so that posted credits on its upstream port are withheld (R26). -/
def State.bufFull (s : State) (h : Nat) : Bool := decide (bufSize h ≤ s.bufUsed h)

/-! The pool. -/

/-- How an access reaches the pool by its alias, when it may (R607, R610, R611): through LR a read within one line,
through SC a 64-bit Swap. -/
def viaOf (alt a : Nat) (op : MemOp) : Option Via :=
  if alt = 0 then some .plain
  else match op with
    | .read n => if alt = 1 ∧ a / 64 = (a + n - 1) / 64 then some .lr else none
    | .atomic .swap 8 _ _ => if alt = 2 then some .sc else none
    | _ => none

/-- The window that holds every byte of an access (R576). -/
def State.windowOf (s : State) (a : Nat) (op : MemOp) : Option Nat :=
  (s.windowAt a).filter fun w => s.inWindow w a (accLen op)

/-- A host's access to pool address `a` of this node (R387 step 6), that came on port `p`: through its alias, under the window that holds it; a
store after the drain point is discarded. -/
def State.localAccess (s : State) (h : Nat) (r : MemReq) (alt a p : Nat) : State :=
  match viaOf alt a r.op, s.windowOf a r.op with
  | some v, some w =>
    if postedOp r.op && s.pastDrain then s.lateStore h a
    else s.submit ⟨0, h, v, a, r.op, r.requester.toNat, r.pasid.map fun (x : BitVec 20) => x.toNat, r.tag.toNat, w, 0, r.tc, p⟩
  | _, _ => s.missed h r

/-- The content of a request as a number, for a unit: tag, address and alias, and the operation's own data. -/
def reqBody (tag addr requester : Nat) (pasid : Option Nat) (op : MemOp) : Nat :=
  let x := match op with
    | .read n => 4 * n
    | .store l => 1 + 4 * leNat l
    | .atomic k n a b => 2 + 4 * ((match k with | .fetchAdd => 0 | .swap => 1 | .cas => 2) + 4 * (n + 32 * (a + 2 ^ 128 * b)))
  tag + 2 ^ 14 * (addr + 2 ^ 64 * (requester + 2 ^ 16 * ((match pasid with | some p => p + 2 ^ 20 | none => 0) + 2 ^ 21 * x)))

/-- A request for a node without a route: counted, logged, and a store counted for the host's next barrier (R411, R603). -/
def State.noRouteHost (s : State) (h n : Nat) (r : MemReq) : State :=
  let s := s.noRoute.recordNear 145 0x0503 [(5, n), (2, h)] 0 (detMem ((s.hostPort h).getD 0) r + n * 2 ^ 288) [h]
  if postedOp r.op then s.countDiscard h 0 else s.answerHost h r cplCA

/-- Entry `i` leads to another node, which has a route, and no tag is free for it (R545). -/
def State.lacksTag (s : State) (i : Nat) : Bool :=
  s.on (XLAT_REMOTE i) && s.reachable (s.rd (XLAT_TARGET_NODE i)) && (s.takeTag .node (s.rd (XLAT_TARGET_NODE i))).isNone

/-- A host's access to pool address `a` of node `n`, for which a tag is free (R387 step 7, R399, R411); refused while the node leaves the fabric (R304). -/
def State.remoteAccess (s : State) (h : Nat) (r : MemReq) (alt n a : Nat) : State :=
  if s.opBusy [0x0B02] (fun o => decide (1 ≤ o.phase)) then s.unsupported h r
  else if s.reachable n && !s.contained 5 n then
    let b := s.bucketOf r.requester.toNat n r.tc
    match s.issue .node n 0 h r.requester.toNat r.tag.toNat (s.rd SYS_ORDER) (postedOp r.op) (some (s.bucketPort b))
        (r.pasid.map fun (x : BitVec 20) => x.toNat) r.tc r.addr.toNat with
    | none => s
    | some (tag, t) =>
      (t.bump SYS_ORDER).putNode n r.requester.toNat r.tc (if postedOp r.op then 0 else 1) 1 (payloadOf r.op)
        (reqBody tag (a % 2 ^ 40 + alt * 2 ^ 40) r.requester.toNat (r.pasid.map fun (x : BitVec 20) => x.toNat) r.op)
  else s.noRouteHost h n r

/-- A barrier of host `h` holds a request for another node (R600). -/
def State.barredOp (s : State) (h : Nat) (op : MemOp) : Bool :=
  s.pool.barriers.any fun b => b.host == h && !b.dead && (match op with
    | .read _ => b.kind != 1
    | .store _ => b.kind != 0
    | .atomic .. => true)

/-- A host's request to offset `off` of its BAR2, or one of its hierarchy's devices, past the function's own checks
(R387); `wait` is what waits, with its place in the order of arrival. A store to another node waits for its host's buffer too, as its credit is
withheld (R26). -/
def State.bar2 (s : State) (h : Nat) (r : MemReq) (off : Nat) (wait : Nat × BHeld) : State :=
  let far := fun (i : Nat) => s.on (XLAT_REMOTE i)
  let p := s.heldPort wait.2
  match s.gondFence h (r.pasid.map fun (x : BitVec 20) => x.toNat) with
  | some g => if postedOp r.op then s.bump (DOMX_POSTED (domIdx 3 g)) else (s.bump (DOMX_NP (domIdx 3 g))).answerHost h r cplCA
  | none =>
    if s.poolPaused || s.heldBefore wait.1 wait.2
        || (s.lookup 0 h off).any fun i => s.lacksTag i || (far i && (s.barredOp h r.op || (postedOp r.op && s.bufFull h && s.portHost p == some h))) then
      s.holdAs wait.1 wait.2
    else
      let c : Check := ⟨clsTenant, spAperture, accessOf r.op, h, r.requester.toNat, r.pasid.map fun (x : BitVec 20) => x.toNat, off,
        accLen r.op, 0⟩
      let x := s.check c
      let s := x.1
      if !x.2 then s.answerHost h r cplCA
      else match s.lookup 0 h off with
        | none => ((s.inc RTE_COUNT_XLAT_XLAT_MISS).wr RTE_EVENT_XLAT_MISS 1).missed h r
        | some i =>
          let s := s.inc (XLAT_HITS i)
          let a := s.translated i off
          if s.on (XLAT_REMOTE i) then s.remoteAccess h r (s.rd (XLAT_ALIAS i)) (s.rd (XLAT_TARGET_NODE i)) a
          else s.localAccess h r (s.rd (XLAT_ALIAS i)) a p

/-- The bytes of host `h`'s aperture, 0 when BAR2 is not implemented (R213, R215). -/
def State.aperture (s : State) (h : Nat) : Nat :=
  if s.rd (BAL_APERTURE_SIZE_LOG2 h) = 0 then 0 else 2 ^ s.rd (BAL_APERTURE_SIZE_LOG2 h)

/-- An address lies in host `h`'s BAR2. -/
def State.inBar2 (s : State) (h a : Nat) : Bool :=
  decide (s.rd (HOSTF_BAR2 h) ≤ a) && decide (a < s.rd (HOSTF_BAR2 h) + s.aperture h)

/-- Function 1 of host `h` takes memory requests: Memory Space Enable is 1 and it is in D0 (R217, R218). -/
def State.f1Takes (s : State) (h : Nat) : Bool := s.on (HOSTF_MSE h) && s.rd (HOSTF_PM h) == 0

/-- POOL_REQUEST from host `h` with place `n` in the order of arrival (R24, R25, R196, R216, R217, R387, R520, R581). -/
def State.poolRequest (s : State) (n h : Nat) (r : MemReq) : State :=
  let a := r.addr.toNat
  if s.on (HOSTF_IN_RESET h) || s.contained 2 h then s
  else if !s.f1Takes h || !s.inBar2 h a || r.ide || !sizedOp r.op then s.unsupported h r
  else if !alignedOp a r.op then s.f1Error h aerMalformed (detMem ((s.hostPort h).getD 0) r)
  else s.bar2 h r (a - s.rd (HOSTF_BAR2 h)) (n, .pool h r)

/-! Crossing between a host and a bound port. -/

/-- The fabric bus for host bus `x` at position `k`, when the map holds (R367). -/
def State.toFabric (s : State) (k x : Nat) : Option Nat :=
  let b := s.rd (POS_SEC_BUS k)
  if b ≤ x ∧ x ≤ s.rd (POS_SUB_BUS k) ∧ x - b < s.rd (POS_BUS_SPAN k) then some (s.rd (POS_FABRIC_BUS_BASE k) + (x - b)) else none

/-- The host bus for fabric bus `b` at position `k`, when the map holds and the host has programmed the position (R367,
R371). -/
def State.toHost (s : State) (k b : Nat) : Option Nat :=
  let base := s.rd (POS_FABRIC_BUS_BASE k)
  let x := s.rd (POS_SEC_BUS k) + (b - base)
  if s.rd (POS_SEC_BUS k) ≠ 0 ∧ base ≤ b ∧ b < base + s.rd (POS_BUS_SPAN k) ∧ x ≤ s.rd (POS_SUB_BUS k) then some x else none

/-- Position and Requester ID in the host's hierarchy of a request from a bound port (R370 to R372). -/
def State.mapUp (s : State) (p rid : Nat) : Option (Nat × Nat) :=
  match s.owner p rid with
  | none => none
  | some k => (s.toHost k (rid / 256)).map fun b => (k, 256 * b + rid % 256)

/-- A request that maps to no host bus (R371). -/
def State.svFail (s : State) (t : Tlp) : State :=
  let s := (s.inc RTE_COUNT_XLAT_SV_FAIL).wr RTE_EVENT_SV_FAIL 1
  (s.recordNear t.ingress.val 0x0502 [(1, t.ingress.val)] 0 (detT t 0) []).refuseTlp t cplUR

/-- The IDs of a TLP by a map of bus numbers, those it does not hold as they are: the Requester ID, and of a completion the bus of the Completer
ID, byte 4 of its header (R370). -/
def mapIds (f : Nat → Option Nat) (t : Tlp) : Tlp :=
  let rid := match f (t.requester / 256) with
    | some b => 256 * b + t.requester % 256
    | none => t.requester
  let hdr := match t.kind, f (bits t.hdr 32 8) with
    | .completion, some b => putBits t.hdr 32 8 b
    | _, _ => t.hdr
  { t with requester := rid, hdr := hdr }

/-- A TLP from a host toward the bound port of position `k`: its IDs by the map, or as they are (R370); a memory
request that falls in a shadow BAR goes to the device's own BAR (R373). -/
def State.crossDown (s : State) (k : Nat) (t : Tlp) : Tlp :=
  let t := mapIds (s.toFabric k) t
  if s.on (POS_SHARED k) && t.kind != .completion then
    let p := s.rd (POS_PORT k)
    let hit := ((s.fnsOf p (k / 32)).flatMap fun f => (List.range 16).map fun b => (f, b)).find? fun x =>
      let v := s.rd (SHBX_BAR (4096 * p + 16 * x.1 + x.2))
      v != 0 && decide (v ≤ t.addr) && decide (t.addr < v + (Config.fabricBar p x.1 x.2).2)
    match hit with
    | some x => { t with addr := (Config.fabricBar p x.1 x.2).1 + (t.addr - s.rd (SHBX_BAR (4096 * p + 16 * x.1 + x.2))) }
    | none => t
  else t

/-- A completion between two bound ports of host `t.host`: its Completer ID by the map of the port it comes from, and its
Requester ID by that of the port it goes to (R370, R398). -/
def State.crossPeer (s : State) (t : Tlp) : Tlp :=
  let t := { mapIds (s.toHost ((s.posAt t.ingress t.host).getD 1536)) t with requester := t.requester }
  match s.toFabric ((s.posAt t.egress t.host).getD 1536) (t.requester / 256) with
    | some b => { t with requester := 256 * b + t.requester % 256 }
    | none => t

/-- PME_Turn_Off, message code 0x19, from host `h`: it goes to the downstream ports bound to the host alone, their links
enter L2 by way of L2/L3 Ready, and PME_TO_Ack, code 0x1B, answers, after which the upstream link `up` does so too (R195, R222). The handshake below a port is the device's. Log entry 18. -/
def State.turnOff (s : State) (h up : Nat) : State :=
  let down := ((s.boundPos.filter fun k => k / 32 == h && !s.on (POS_SHARED k)).map fun k => s.rd (POS_PORT k)).filter fun p =>
    s.rd (PRT_CFG_MODE p) == 2 && s.on (PRT_LINK_STATUS_DL_ACTIVE p)
  (down.foldl (fun s p => s.enterL2 p) s).make (ownTlp .posted up 0 0 0 0 none 0) (.out (.message h msgToAck))

/-- The position at which the port that a TLP of host `h` goes to sits in the hierarchy it belongs to: that of `h`, or for a completion of a
peer's request that of the peer's own host (R370, R398). -/
def State.posToward (s : State) (h : Nat) (t : Tlp) : Option Nat :=
  let asker := s.switch.asked.find? fun x => x.tlp.ingress == t.egress && x.tlp.requester == t.requester && x.tlp.tag == t.tag
  match t.kind, asker with
  | .completion, some x => s.posAt t.egress x.tlp.host
  | _, _ => s.posAt t.egress h

/-- The virtual bridge at position `k` blocks AtomicOps toward its port: they are answered with Unsupported Request, as the standard has it
(R195). -/
def State.atomicBlocked (s : State) (k : Nat) (t : Tlp) : Bool := isAtomic t && bitSet (s.rd (BFX_CTL2 (vbBank k))) 7

/-- A TLP that host `h` sends: PME_Turn_Off; a request toward a downstream port that is not bound to the host, or whose unbind is in progress,
which is refused (R361, R378); or one that goes on, by the map of its position when it has one. -/
def State.fromHost (s : State) (h : Nat) (t : Tlp) : State :=
  if isMessage t && bits t.hdr 56 8 == 0x19 then s.turnOff h t.ingress
  else match s.posToward h t with
    | some k =>
      if s.on (POS_UNBINDING k) && t.kind != .completion then s.refuseTlp t cplUR
      else if s.atomicBlocked k t then s.refuseTlp t cplUR
      else s.ingress (s.crossDown k { t with host := h }) t
    | none => if s.rd (PRT_CFG_MODE t.egress) = 2 ∧ t.kind ≠ .completion then s.refuseTlp t cplUR else s.ingress { t with host := h } t

/-- A request of the host of position `k`, from its bound port or passed by its checks, goes on to node `n` as KIND 0, or as KIND 4 under a tag
of this node, which comes back to the device with the Requester ID that the device has on the fabric (R397, R399, R404). -/
def State.toNode (s : State) (k : Nat) (t : Tlp) (n : Node) : State :=
  if t.kind ≠ .nonPosted then s.ingress { t with dest := some n, src := none, unitKind := 0 }
  else
    let rid := 256 * (s.toFabric k (t.requester / 256)).getD 0 + t.requester % 256
    match s.issue .node n 0 (portSource t.ingress) rid t.tag (s.rd SYS_ORDER) false (some (s.bucketPort (s.bucketOf t.requester n t.tc)))
        none t.tc t.addr with
    | none => s
    | some (tag, u) => u.ingress { t with dest := some n, src := none, unitKind := 4, tag := tag }

/-- A request that goes upstream while Bus Master Enable of function 0 is 0 is an Unsupported Request at the bridge: a posted one is discarded
and reported, another answered (R230). -/
def State.bmeRefuse (s : State) (t : Tlp) : State :=
  if t.kind = .posted then s.uncorrectable t aerUR else s.refuseTlp t cplUR

/-- A TLP that is no memory request of a peer, from a bound port: a completion by the maps of the hierarchies it crosses (R370, R398), a request
by that of its own, without which it goes nowhere (R371). -/
def State.fromDevice (s : State) (t : Tlp) : State :=
  match t.kind with
  | .completion =>
    if s.rd (PRT_CFG_MODE t.egress) = 1 then s.ingress (mapIds (s.toHost ((s.posAt t.ingress t.host).getD 1536)) t) t
    else if s.rd (PRT_CFG_MODE t.egress) = 2 then s.ingress (s.crossPeer t) t
    else s.ingress t
  | .posted | .nonPosted => match s.mapUp t.ingress t.requester with
    | none => s.svFail t
    | some (k, rid) =>
      let u := { t with requester := rid, host := k / 32 }
      match t.dest with
      | some n => s.toNode k u n
      | none =>
        if s.rd (PRT_CFG_MODE t.egress) = 1 then (if s.on (HOSTF_F0BME (k / 32)) || isMessage t then s.ingress u else s.bmeRefuse u)
        else s.ingress (match s.posAt t.egress (k / 32) with
          | some j => mapIds (s.toFabric j) u
          | none => u)

/-- TLP_INGRESS: a TLP received on a port and routed by its header (R198, R319, R324, R337, R341, R370, R371, R373, R520).
A nullified or stomped TLP is counted and discarded without a report. -/
def execTlpIngress (t : Tlp) (nullified : Bool) (s : State) : Host.Outcome State Fault Refusal :=
  let s := s.arrive t.ingress
  let o := s.rd SYS_ORDER
  .next ((if nullified then s.inc (SWC_PORT_STOMP_STOMP_RX t.ingress)
    else if s.rd (PRT_CFG_MODE t.ingress) = 2 then s.fromDevice t
    else match s.portHost t.ingress with
      | some h => s.fromHost h t
      | none => s.ingress t).leaveIngress o t.ingress t)

/-! Peer to peer. -/

/-- The address lies in the memory windows of bridge position `k`, whose Memory Space Enable is set (R393). -/
def State.inWindows (s : State) (k a : Nat) : Bool :=
  let m := s.rd (POSX_MEMW k)
  let p := s.rd (POSX_PREFW k)
  let lo := s.rd (POSX_PREFBU k) * 2 ^ 32 + bits p 4 12 * 2 ^ 20
  let hi := s.rd (POSX_PREFLU k) * 2 ^ 32 + bits p 20 12 * 2 ^ 20 + 0xFFFFF
  bitSet (s.rd (POSX_CMD k)) 1
    && ((decide (bits m 4 12 * 2 ^ 20 ≤ a) && decide (a ≤ bits m 20 12 * 2 ^ 20 + 0xFFFFF)) || (decide (lo ≤ a) && decide (a ≤ hi)))

/-- P2P Request Redirect of position `k` does not send upstream a request with AT `addrType`, or Direct
Translated P2P lets it pass (R394). -/
def State.notRedirected (s : State) (k addrType : Nat) : Bool :=
  !bitSet (s.rd (POSX_ACS k)) 2 || (bitSet (s.rd (POSX_ACS k)) 6 && addrType == 2)

/-- The P2P Egress Control vector of position `k` blocks port `p` (R394, R395). -/
def State.egressBlocked (s : State) (k p : Nat) : Bool := bitSet (s.rd (POSX_ACS k)) 5 && bitSet (s.rd (POSX_EGR k)) p

/-- AER bit of an ACS Violation. -/
def aerAcs : Nat := 21

/-- A request that ACS refuses: a posted one is discarded and logged, another answered with a Completer Abort (R393, R395). -/
def State.acsRefuse (s : State) (t : Tlp) : State :=
  if t.kind = .nonPosted then s.refuseTlp t cplCA else s.uncorrectable t aerAcs

/-- The kind of access of a TLP that is a memory request: bit 6 of Fmt and Type tells data. -/
def tlpAccess (t : Tlp) : Nat := if t.kind = .posted then 1 else if bitSet t.fmtType 6 then 2 else 0

/-- A request from a bound port, checked toward a local port and sent there (R397, R398, R418, R450). -/
def State.toPeer (s : State) (k : Nat) (t : Tlp) (target : Nat) : State :=
  let x := s.check ⟨clsTenant, spPeer, tlpAccess t, k / 32, t.requester, t.pasid, t.addr, max 1 t.payload, target⟩
  if x.2 then x.1.ingress { t with egress := Fin.ofNat 128 target } else x.1.refuseTlp t cplCA

/-- A request from a bound port, checked toward node `n` and sent there as KIND 0 or 4 (R196, R397, R399, R411, R418). -/
def State.toNodePeer (s : State) (k : Nat) (t : Tlp) (n : Node) : State :=
  if t.ide then (s.uncorrectable t aerUR).refuseTlp t cplUR
  else
    let x := s.check ⟨clsTenant, spFabric, tlpAccess t, k / 32, t.requester, t.pasid, t.addr, max 1 t.payload, n⟩
    let s := x.1
    if !x.2 then s.refuseTlp t cplCA
    else if s.reachable n && !s.contained 5 n then s.toNode k t n
    else (s.noRoute.recordNear 145 0x0503 [(5, n.val), (2, k / 32), (1, t.ingress.val)] 0 (detT t n) [k / 32]).refuseTlp t cplCA

/-- The pool access that a TLP from a bound port asks for, when its address lies in the aperture; what a TLP carries is
`op`. -/
def memOfTlp (t : Tlp) (op : MemOp) : MemReq :=
  ⟨BitVec.ofNat 16 t.requester, BitVec.ofNat 14 t.tag, t.pasid.map fun x => BitVec.ofNat 20 x, t.tc, BitVec.ofNat 64 t.addr, op, t.ide⟩

/-- The other positions of the host of position `k` that are bound. -/
def State.siblings (s : State) (k : Nat) : List Nat := s.boundPos.filter fun j => j / 32 == k / 32 && j != k

/-- The destination of a request from a bound port, past R371, in the order of R393: `t` has its mapped Requester ID, and `wait` is what waits,
with its place in the order of arrival. -/
def State.routePeer (s : State) (k : Nat) (t : Tlp) (addrType : Nat) (op : MemOp) (wait : Nat × BHeld) : State :=
  let h := k / 32
  let hit := (s.lookup 1 h t.addr).filter fun i => !s.on (XLAT_HONOUR_ACS i) || !bitSet (s.rd (POSX_ACS k)) 2 || addrType == 2
  let near := (s.siblings k).find? fun j => s.inWindows j t.addr
  if bitSet (s.rd (POSX_ACS k)) 1 ∧ addrType ≠ 0 then s.acsRefuse t
  else if s.f1Takes h && s.inBar2 h t.addr then
    if t.ide || !sizedOp op then s.unsupported h (memOfTlp t op)
    else if !alignedOp t.addr op then s.f1Error h aerMalformed (detT t 0)
    else s.bar2 h (memOfTlp t op) (t.addr - s.rd (HOSTF_BAR2 h)) wait
  else match hit with
    | some i =>
      if s.checkerHeld || s.heldBefore wait.1 wait.2 || (t.kind == .nonPosted && s.lacksTag i)
          || (t.kind == .posted && s.on (XLAT_REMOTE i) && s.barredOp h (.store [])) then s.holdAs wait.1 wait.2
      else
        let s := s.inc (XLAT_HITS i)
        let t := { t with addr := s.translated i t.addr }
        if s.on (XLAT_REMOTE i) then s.toNodePeer k t (Fin.ofNat 64 (s.rd (XLAT_TARGET_NODE i)))
        else s.toPeer k t (s.rd (XLAT_TARGET_PORT i))
    | none =>
      match near.filter fun _ => s.notRedirected k addrType with
      | some j =>
        if s.egressBlocked k (s.rd (POS_PORT j)) then s.acsRefuse t
        else if s.atomicBlocked j t then s.refuseTlp t cplUR
        else if s.checkerHeld || s.heldBefore wait.1 wait.2 then s.holdAs wait.1 wait.2
        else s.toPeer k (s.crossDown j t) (s.rd (POS_PORT j))
      | none =>
        match s.hostPort h with
        | none => s.refuseTlp t cplUR
        | some up =>
          if s.on (HOSTF_F0BME h) then s.ingress { t with egress := Fin.ofNat 128 up } else s.bmeRefuse t

/-- A memory request from a bound port with place `n` in the order of arrival (R371, R372, R393, R520). -/
def State.peerRequest (s : State) (n : Nat) (t : Tlp) (addrType : Nat) (op : MemOp) : State :=
  match s.mapUp t.ingress t.requester with
  | none => s.svFail t
  | some (k, rid) =>
    let u := { t with requester := rid, host := k / 32 }
    if s.on (HOSTF_IN_RESET (k / 32)) then s
    else if s.contained 1 t.ingress then s
    else if s.contained 2 (k / 32) then s.fenceTlp u (2, k / 32)
    else s.routePeer k u addrType op (n, .peer t addrType op)

/-! Requests from other nodes. -/

/-- A refusal goes back to node `n` in the flow of its request: a store's report or a completion, of KIND `kind`. -/
def State.answerNode (s : State) (n requester tc tag st kind : Nat) : State := s.sendNode n requester tc 2 kind 0 (cplBody tag st false true [])

/-- REMOTE_POOL_REQUEST: a KIND 1 request of node `n` that came on port `p` with place `o` in the order of arrival (R400, R451, R520, R577, R581,
R611, R879). -/
def State.remoteRequest (s : State) (o p n : Nat) (r : MemReq) : State :=
  let a := r.addr.toNat % 2 ^ 40
  let tag := r.tag.toNat
  let pasid := r.pasid.map fun (x : BitVec 20) => x.toNat
  let acc : PAcc := ⟨0, 64 + n, .plain, a, r.op, r.requester.toNat, pasid, tag, 0, 0, r.tc, 128⟩
  if s.contained 5 n then (s.bump (if postedOp r.op then DOMX_POSTED (domIdx 5 n) else DOMX_NP (domIdx 5 n))).answerNode n r.requester.toNat r.tc tag cplCA 1
  else if s.poolPaused || s.heldBefore o (.remote p n r) then s.holdAs o (.remote p n r)
  else
    let x := s.check ⟨clsNode, spPool, accessOf r.op, n, r.requester.toNat, pasid, a, accLen r.op, 0⟩
    let s := x.1
    if !x.2 then s.refuseAcc acc cplCA
    else match viaOf (r.addr.toNat / 2 ^ 40 % 4) a r.op, s.windowOf a r.op with
      | some v, some w =>
        if !sizedOp r.op then s.refuseAcc acc cplUR
        else if !alignedOp a r.op then (s.recNear 2 p 0x0202 [(5, n), (1, p), (4, w)] 0 (detMem p r + 2 ^ aerMalformed * 2 ^ 288) []).refuseAcc acc cplUR
        else if postedOp r.op && s.pastDrain then (s.lateStore (64 + n) a).refuseAcc acc 0
        else s.submit { acc with via := v, window := w }
      | _, _ =>
        (if postedOp r.op then s.recordNear p 0x0501 [(5, n), (1, p)] 0 (detMem p r) [] else s).refuseAcc acc cplUR

/-- A request of KIND 4 of node `n` refused with completion status `st`. -/
def State.answerFabric (s : State) (n : Nat) (t : Tlp) (st : Nat) : State := s.answerNode n t.requester t.tc t.tag st 4

/-- A KIND 0 or 4 request of node `n`, past its check, with place `o` in the order of arrival, sent to port `q` as a proxy request under a tag of
this node, for which it waits; a posted one carries tag 0 (R402, R403, R404, R520). -/
def State.proxy (s : State) (o p n : Nat) (t : Tlp) (q : Nat) : State :=
  let u : Tlp := { t with egress := Fin.ofNat 128 q, host := 48, requester := s.proxyId q, tag := 0, dest := none, src := some (Fin.ofNat 64 n) }
  let go := fun (s : State) (u : Tlp) => (s.ingress u).markWhole fun x => x.order == s.rd SYS_ORDER
  match s.tlpFence { u with src := none } with
  | some f => if t.kind = .nonPosted then (s.bump (DOMX_NP (domIdx f.1 f.2))).answerFabric n t (s.fenceStatus f)
      else s.bump (DOMX_POSTED (domIdx f.1 f.2))
  | none =>
    let (kind, target, open_) := match s.portHost q with
      | some h => (ReqKind.host, h, s.hostOpen h)
      | none => (ReqKind.port, q, true)
    if !open_ then (if t.kind = .nonPosted then s.answerFabric n t cplCA else s.inc (PRT_BME_DISCARD_WRITE_DISCARD q))
    else if t.kind = .posted then go s u
    else if s.heldBefore o (.proxy p n q t) then s.holdAs o (.proxy p n q t)
    else match s.issue kind target 0 (64 + n) t.requester t.tag (s.rd SYS_ORDER) false none none t.tc t.addr with
      | none => s.holdAs o (.proxy p n q t)
      | some (tag, s) => go s { u with tag := tag }

/-- FABRIC_PEER_REQUEST: a KIND 0 or 4 request of node `n` that came on port `p` with place `o` in the order of arrival (R401 to R403, R418, R451,
R520). -/
def State.fabricRequest (s : State) (o p n : Nat) (t : Tlp) : State :=
  if s.contained 5 n then
    if t.kind = .nonPosted then (s.bump (DOMX_NP (domIdx 5 n))).answerFabric n t cplCA else s.bump (DOMX_POSTED (domIdx 5 n))
  else if s.checkerHeld || s.heldBefore o (.fabric p n t) then s.holdAs o (.fabric p n t)
  else match s.lookup 2 0 t.addr with
    | none =>
      let s := (s.inc RTE_COUNT_XLAT_XLAT_MISS).wr RTE_EVENT_XLAT_MISS 1
      if t.kind = .nonPosted then s.answerFabric n t cplUR else s.recordNear p 0x0501 [(5, n), (1, p)] 0 (detT t 0) []
    | some i =>
      let s := s.inc (XLAT_HITS i)
      let u := { t with addr := s.translated i t.addr }
      let q := s.rd (XLAT_TARGET_PORT i)
      let x := s.check ⟨clsNode, spPeer, tlpAccess t, n, t.requester, t.pasid, u.addr, max 1 t.payload, q⟩
      if x.2 then x.1.proxy o p n u q
      else if t.kind = .nonPosted then x.1.answerFabric n t cplCA else x.1

/-- TRANSIT_UNIT: a TLP of node `src` for node `dst`, that came on tether `p`, goes on by this node's route table and buckets, its content
unchanged (R134, R406, R411, R412). -/
def State.transitUnit (s : State) (p : Port) (src dst : Node) (k : Fin 8) (t : Tlp) : State :=
  if !s.on MGT_NODE_ID_NODE_VALID then s
  else s.ingress { t with ingress := p, dest := some dst, src := some src, unitKind := k, host := 48 }

/-! Rows. -/

/-- Requests that wait at an ingress: at the checker, for admission, or at the pool. -/
def State.waitCount (s : State) : Nat := s.bridle.held.length + s.switch.wait.length + s.pool.waiting.length

/-- The ingress of PCI Express port `p` has passed on a memory request, and its credit is returned, unless it made one more request wait (R323). -/
def State.settleIngress (t s : State) (p : Nat) (op : MemOp) : State :=
  if s.waitCount < t.waitCount then t else t.fcReturn p (opType op) (payloadOf op)

/-- POOL_REQUEST (R387). -/
def execPoolRequest (h : Host) (r : MemReq) (s : State) : Host.Outcome State Fault Refusal :=
  let s := s.arriveHost h
  .next ((s.poolRequest (s.rd SYS_ORDER) h r).settleIngress s ((s.hostPort h).getD 128) r.op)

/-- PEER_REQUEST: a memory request from a bound port, with its AT field and what it asks for (R393). -/
def execPeerRequest (t : Tlp) (addrType : Fin 4) (op : MemOp) (s : State) : Host.Outcome State Fault Refusal :=
  let s := s.arrive t.ingress
  .next ((s.peerRequest (s.rd SYS_ORDER) t addrType op).settleIngress s t.ingress op)

/-- REMOTE_POOL_REQUEST (R400). -/
def execRemotePoolRequest (p : Port) (n : Node) (r : MemReq) (s : State) : Host.Outcome State Fault Refusal :=
  .next ((s.remoteRequest (s.rd SYS_ORDER) p n r).consumePool p (s.rd SYS_ORDER))

/-- FABRIC_PEER_REQUEST (R401). -/
def execFabricPeerRequest (p : Port) (n : Node) (t : Tlp) (s : State) : Host.Outcome State Fault Refusal :=
  .next ((s.fabricRequest (s.rd SYS_ORDER) p n { t with ingress := p }).consumeRx p [0, 4])

/-- TRANSIT_UNIT (R412). -/
def execTransitUnit (p : Port) (src dst : Node) (k : Fin 8) (t : Tlp) (s : State) : Host.Outcome State Fault Refusal :=
  .next ((s.transitUnit p src dst k t).leaveIngress (s.rd SYS_ORDER) p { t with unitKind := k })

/-- A waiting request with place `n` tried again; one to BAR0 or BAR4 waits for its own operation. -/
def State.retry (s : State) (n : Nat) : BHeld → State
  | .pool h r => s.poolRequest n h r
  | .peer t x op => s.peerRequest n t x op
  | .remote p m r => s.remoteRequest n p m r
  | .fabric p m t => s.fabricRequest n p m t
  | .proxy p m q t => s.proxy n p m t q
  | .regs h r => s.holdAs n (.regs h r)
  | .bar h k r t tc b => s.barrier n h k r t tc b

/-- What a memory request from a PCI Express port asks for. -/
def BHeld.op : BHeld → MemOp
  | .pool _ r | .regs _ r | .remote _ _ r => r.op
  | .peer _ _ op => op
  | .fabric .. | .proxy .. | .bar .. => .read 0

/-- The requests that wait at the checker tried in order by `f`; one that still has to wait goes back to its place, and those behind it of its
type and port with it (R436, R545). The credit of one that has gone on is returned (R323). -/
def State.retryBy (s : State) (f : State → Nat → BHeld → State) : State :=
  (s.bridle.held.foldl (fun (s : State) b => (f s b.1 b.2).settleIngress s (s.heldPort b.2) b.2.op)
    { s with bridle := { s.bridle with held := [] } }).settleAll

/-- The requests that wait at the checker tried, but for those to the register map. -/
def State.retryHeld (s : State) : State := if s.bridle.held.isEmpty then s else s.retryBy State.retry

/-- BARRIER_COMPLETE: the oldest barrier of host `h` completes and returns its status word, and what it held goes on (R602, R603, R605). -/
def execBarrierComplete (h : Host) (s : State) : Host.Outcome State Fault Refusal :=
  match s.pool.barriers.find? fun b => b.host == h.val with
  | none => .next s
  | some b => s.event (s.barrierMet b) fun s =>
      let s := s.bump (HOSTF_BARSEQ h)
      let w := s.barrierWord h
      let fail := w / 2 % 8 != 0
      let s := s.wrs [(HOSTF_DISC_NODE h, 0), (HOSTF_DISC_PORT h, 0), (HOSTF_DISC_CH h, 0)]
      let s := if fail then
          ((s.inc ORD_COUNT_BAR_FAIL).wr ORD_EVENT_BARRIER_FAIL 1).recordNear 156 0x0A02 [(2, h.val)] 0 (detG w (w / 2 ^ 16 % 65536)) [h.val]
        else s
      let s := { s with pool := { s.pool with barriers := removeFirst (fun x => x == b) s.pool.barriers } }
      let s := if b.dead || s.contained 2 h || s.on (HOSTF_IN_RESET h) then s
        else s.complete h b.requester b.tag 0 (leBytes b.bytes w) false b.tc
      s.release.retryHeld

/-- TAG_QUARANTINE_EXPIRE: twice the timeout has passed since the request was issued (R541); a request that waits for a tag
may go on (R545). -/
def execTagQuarantineExpire (k : ReqKind) (target : Port) (tag : BitVec 14) (s : State) : Host.Outcome State Fault Refusal :=
  match s.reqOf k target tag.toNat with
  | none => .next s
  | some o => s.event o.quarantined fun s => ((s.advTo (o.issuedAt + 2 * o.timeout)).endReq o).retryHeld

/-- LINK_UNIT_RECEIVED (R261, R262, R271, R272, R291, R404). -/
def execLinkUnitReceived (p : Port) (u : RxUnit) (s : State) : Host.Outcome State Fault Refusal := .next (s.rxUnit p u).retryHeld

end Sys2Proof.Machine
end

