-- ==== Sys2Proof/Machine/BridleCmd.lean ====
section
/-! DEFINITION. The BRIDLE commands, the update session and the save copies (chapter 09). -/

namespace Sys2Proof.Machine

/-! Rules. -/

/-- Every field of a rule. -/
def ruleFlds (i : Nat) : List Fld :=
  [RULE_VALID i, RULE_CLASS i, RULE_SPACE i, RULE_READ i, RULE_WRITE i, RULE_ATOMIC i, RULE_LOCK i, RULE_PRIORITY i, RULE_SRC_HOST i,
    RULE_SRC_HOST_ANY i, RULE_SRC_NODE i, RULE_SRC_NODE_ANY i, RULE_PASID_MODE i, RULE_OWNER_VALID i, RULE_RID i, RULE_RID_MASK i,
    RULE_PASID i, RULE_OWNER_GONDOLA i, RULE_TARGET_PORT i, RULE_TARGET_PORT_ANY i, RULE_TARGET_NODE i, RULE_TARGET_NODE_ANY i,
    RULE_INT_SRC i, RULE_BASE i, RULE_LIMIT i]

/-- The table with rule `i` as the 256 bits `w` in the layout of BRD_IND_DATA. -/
def Tables.write (t : Tables) (i w : Nat) : Tables :=
  (ruleFlds i).foldl (fun t f => t.put f (bits w (f.key % 256) f.width)) (t.erase i)

/-- Rule `i` as 256 bits in the layout of BRD_IND_DATA. -/
def Tables.packed (t : Tables) (i : Nat) : Nat := (t.entry i).foldl (fun n e => n + e.2 * 2 ^ (e.1 % 256)) 0

/-- Rule `i` is valid. -/
def Tables.has (t : Tables) (i : Nat) : Bool := t.get (RULE_VALID i) == 1

/-- Rule `i` is a valid LOCK rule. -/
def Tables.isLock (t : Tables) (i : Nat) : Bool := t.has i && t.get (RULE_LOCK i) == 1

/-- CLASS and SPACE are paired as R418 pairs them (R425). -/
def pairedRule (cls space : Nat) : Bool :=
  if cls = clsTenant then decide (space < 6) else if cls = clsNode then space == spPool || space == spPeer
  else cls == clsInternal && (space == spPool || space == spMgmt)

/-- A rule may be written (R425). -/
def Tables.okRule (t : Tables) (i : Nat) : Bool :=
  t.has i && pairedRule (t.get (RULE_CLASS i)) (t.get (RULE_SPACE i)) && t.get (RULE_PASID_MODE i) != 3 && decide (t.get (RULE_INT_SRC i) < 4)
    && (t.get (RULE_SRC_HOST_ANY i) == 1 || decide (t.get (RULE_SRC_HOST i) < 48))
    && t.get (RULE_BASE i) % 4096 == 0 && t.get (RULE_LIMIT i) % 4096 == 4095 && decide (t.get (RULE_BASE i) ≤ t.get (RULE_LIMIT i))
    && (t.get (RULE_LOCK i) == 0 || (t.get (RULE_CLASS i) == clsTenant && t.get (RULE_OWNER_VALID i) == 1))

/-- Two selectors, each with an ANY bit, have a common value. -/
def common (any1 v1 any2 v2 : Nat) : Bool := any1 == 1 || any2 == 1 || v1 == v2

/-- Two rules of a tenant or node class overlap (R428). -/
def Tables.overlaps (t : Tables) (i j : Nat) : Bool :=
  let g := t.get
  let src := if g (RULE_CLASS i) = clsTenant then
      common (g (RULE_SRC_HOST_ANY i)) (g (RULE_SRC_HOST i)) (g (RULE_SRC_HOST_ANY j)) (g (RULE_SRC_HOST j))
    else common (g (RULE_SRC_NODE_ANY i)) (g (RULE_SRC_NODE i)) (g (RULE_SRC_NODE_ANY j)) (g (RULE_SRC_NODE j))
  let rid := ((g (RULE_RID i) ^^^ g (RULE_RID j)) &&& g (RULE_RID_MASK i)) &&& g (RULE_RID_MASK j)
  let mi := g (RULE_PASID_MODE i)
  let mj := g (RULE_PASID_MODE j)
  let pas := mi == 0 || mj == 0 || (mi == mj && (mi == 1 || g (RULE_PASID i) == g (RULE_PASID j)))
  let aim := if g (RULE_SPACE i) = spPeer then
      common (g (RULE_TARGET_PORT_ANY i)) (g (RULE_TARGET_PORT i)) (g (RULE_TARGET_PORT_ANY j)) (g (RULE_TARGET_PORT j))
    else if g (RULE_SPACE i) = spFabric then
      common (g (RULE_TARGET_NODE_ANY i)) (g (RULE_TARGET_NODE i)) (g (RULE_TARGET_NODE_ANY j)) (g (RULE_TARGET_NODE j))
    else true
  g (RULE_CLASS i) != clsInternal && g (RULE_CLASS i) == g (RULE_CLASS j) && g (RULE_SPACE i) == g (RULE_SPACE j)
    && decide (g (RULE_BASE i) ≤ g (RULE_LIMIT j)) && decide (g (RULE_BASE j) ≤ g (RULE_LIMIT i)) && src && rid == 0 && pas && aim

/-- Rules of a table that gondola `g` owns. -/
def Tables.ownedBy (t : Tables) (g : Nat) : List Nat :=
  t.valid.filter fun i => t.get (RULE_OWNER_VALID i) == 1 && t.get (RULE_OWNER_GONDOLA i) == g

/-- The registers that show Bridle's tables follow them. -/
def State.bridleView (s : State) : State :=
  let b := s.bridle
  let s := s.wrs [(BRD_STATUS_STAGED_DIFFERS, b2n (b.staged.rules != b.active.rules || b.staged.policy != b.active.policy)),
    (BRD_STATUS_SAVE_A_VALID, b2n b.saveA.ok), (BRD_STATUS_SAVE_B_VALID, b2n b.saveB.ok), (BRD_STATUS_GEN, b.active.gen),
    (BRD_RULES_USED_ACTIVE, b.active.valid.length), (BRD_RULES_USED_STAGED, b.staged.valid.length),
    (BRD_POLICY_TENANT, bits b.active.policy 0 6), (BRD_POLICY_NODE_POOL, bit b.active.policy 8), (BRD_POLICY_NODE_PEER, bit b.active.policy 9)]
  (s.listed (GND_VALID 0).key 256 1024).foldl (fun s g => s.wr (GND_RULES_USED g) (b.staged.ownedBy g).length) s

/-- The staged table replaced. -/
def State.setStaged (s : State) (t : Tables) : State := State.bridleView { s with bridle := { s.bridle with staged := t } }

/-- Rule `i` is a committed LOCK rule, or one of a commit that runs; `t` would leave it as it is not (R432). -/
def State.breaksLock (s : State) (t : Tables) (i : Nat) : Bool :=
  (s.bridle.active.isLock i && t.entry i != s.bridle.active.entry i)
    || (s.rd BRD_STATUS_STATE == 2 && s.bridle.commit.isLock i && t.entry i != s.bridle.commit.entry i)

/-- BRIDLE_RULE_WRITE (R425 to R428, R432, R435, R736). -/
def execBridleRuleWrite (c : Cmd) (s : State) : Host.Outcome State Fault Refusal :=
  let i := parBytes c 0 2
  let t := s.bridle.staged.write i (parBytes c 8 32)
  let g := t.get (RULE_OWNER_GONDOLA i)
  .next (s.command 0x0401 onlyM (cleanCmd c [(0, 16), (64, 31), (96, 32), (128, 30), (160, 18), (192, 64), (256, 64)] false
      && decide (i < 8192) && t.okRule i)
    (fun _ => firstFail
      [(t.get (RULE_OWNER_VALID i) == 1 && decide (s.rd (GND_RULE_QUOTA g) < (t.ownedBy g).length), stNoResource),
       (t.valid.any fun j => j != i && t.overlaps i j, stOverlap),
       (s.breaksLock t i, stNotPermitted)]
      (.ok 0 (s.setStaged t))) c)

/-- BRIDLE_RULE_CLEAR (R427, R432, R435). -/
def execBridleRuleClear (c : Cmd) (s : State) : Host.Outcome State Fault Refusal :=
  let i := parBytes c 0 2
  .next (s.command 0x0402 onlyM (cleanCmd c [(0, 16)] false && decide (i < 8192))
    (fun _ => if s.breaksLock (s.bridle.staged.erase i) i then .fail stNotPermitted else .ok 0 (s.setStaged (s.bridle.staged.erase i))) c)

/-- BRIDLE_STAGE_RESET (R430, R435). -/
def execBridleStageReset (c : Cmd) (s : State) : Host.Outcome State Fault Refusal :=
  .next (s.command 0x0403 onlyM (cleanCmd c [] false) (fun _ => .ok 0 (s.setStaged s.bridle.active)) c)

/-- BRIDLE_POLICY_SET (R430). -/
def execBridlePolicySet (c : Cmd) (s : State) : Host.Outcome State Fault Refusal :=
  .next (s.command 0x0407 onlyM (cleanCmd c [(0, 6), (8, 2)] false)
    (fun _ => .ok 0 (s.setStaged { s.bridle.staged with policy := parBytes c 0 2 })) c)

/-! Sessions (R435). -/

/-- The opcode of BRIDLE_COMMIT. -/
def opCommit : Nat := 0x0405

/-- BRIDLE_BEGIN (R435). -/
def execBridleBegin (c : Cmd) (s : State) : Host.Outcome State Fault Refusal :=
  .next (s.command 0x0404 onlyM (cleanCmd c [] false)
    (fun _ => if s.rd BRD_STATUS_STATE ≠ 0 then .fail stBusy
      else .ok 0 (s.wrs [(BRD_STATUS_STATE, 1), (BRDX_HOLD_AT, s.now), (BRDX_TIMER_ABORT, 0)])) c)

/-- A session that aborts: HOLD is released, and held requests are checked under the active table (R435). -/
def State.abortSession (s : State) (timer : Bool) : State :=
  (((s.wrs [(BRD_STATUS_STATE, 0), (BRDX_TIMER_ABORT, b2n timer), (BRD_EVENT_SESSION_ABORT, 1)]).log 146 0x0604 0 (detG (b2n timer) 0)).retryHeld)

/-- BRIDLE_ABORT (R435). -/
def execBridleAbort (c : Cmd) (s : State) : Host.Outcome State Fault Refusal :=
  .next (s.command 0x0406 onlyM (cleanCmd c [] false)
    (fun _ => if s.rd BRD_STATUS_STATE = 1 then .ok 0 (s.abortSession false) else .fail stBadParam) c)

/-- BRIDLE_SESSION_TIMEOUT: 100 µs after BRIDLE_BEGIN (R435). -/
def execBridleSessionTimeout (s : State) : Host.Outcome State Fault Refusal :=
  s.event (s.rd BRD_STATUS_STATE == 1) fun s => (s.advTo (s.rd BRDX_HOLD_AT + 100 * us)).abortSession true

/-- No save copy is written while the pool has no capacity or the locks are unknown (R947). -/
def State.noSave (s : State) : Bool := s.poolC == 0 || s.on BRD_STATUS_LOCK_UNKNOWN

/-- Generation `a` is newer than `b` (R447). -/
def newer (a b : Nat) : Bool := decide (1 ≤ (a + 65536 - b) % 65536) && decide ((a + 65536 - b) % 65536 ≤ 32767)

/-- The save copy that a commit writes is A: it is not valid, or both are valid and it holds the older generation (R445). -/
def State.savesToA (s : State) : Bool :=
  let a := s.bridle.saveA
  let b := s.bridle.saveB
  if !a.ok then true else if !b.ok then false else newer b.gen a.gen

/-- Save copy A or B replaced. -/
def State.putSave (s : State) (a : Bool) (t : Tables) : State :=
  { s with bridle := if a then { s.bridle with saveA := t } else { s.bridle with saveB := t } }

/-- The table `t` becomes active with the next generation, in one cycle; requests admitted so far are of the old one
(R434, R435, R439), those of operations whose ranges have been checked among them. -/
def State.replaceTable (s : State) (t : Tables) : State :=
  let t := { t with gen := (s.bridle.active.gen + 1) % 65536, ok := true }
  let s := if s.noSave then s else s.putSave s.savesToA t
  let run := fun (o : Op) => [0x0609, 0x060A, 0x060B].contains o.opcode && o.phase != 0
  let s := { s with ops := updateAll run (fun o => { o with old := true }) s.ops }
  (State.bridleView { s with bridle := { s.bridle with active := t } }).wr BRDX_CUT (s.rd SYS_ORDER)

/-- The table with the LOCK rules of another as that has them: a LOCK rule leaves only with its owning gondola (R432). -/
def Tables.keepLocks (t a : Tables) : Tables :=
  (a.valid.filter fun i => a.isLock i && t.entry i != a.entry i).foldl (fun t i =>
    { t with rules := (a.entry i).foldl (fun r e => regsPut r e.1 e.2) (t.erase i).rules }) t

/-- The active table is replaced and HOLD released (R435). -/
def State.commitTable (s : State) : State := ((s.replaceTable s.bridle.commit).wr BRD_STATUS_STATE 3).retryHeld

/-- BRIDLE_COMMIT (R435, R438, R947): its one status follows the last request of the previous generation. -/
def execBridleCommit (c : Cmd) (s : State) : Host.Outcome State Fault Refusal :=
  .next (s.command opCommit onlyM (cleanCmd c [] false)
    (fun _ =>
      if s.rd BRD_STATUS_STATE ≠ 1 then .fail (if s.on BRDX_TIMER_ABORT then stTimeout else stBadParam)
      else
        let t := { s with bridle := { s.bridle with commit := s.bridle.staged.keepLocks s.bridle.active } }.wr BRD_STATUS_STATE 2
        .later 0 (if s.noSave then t.commitTable else t)) c)

/-- BRIDLE_SAVE_COPY_WRITTEN (R435, R437, R439, R445). -/
def execBridleSaveCopyWritten (s : State) : Host.Outcome State Fault Refusal :=
  s.event (s.rd BRD_STATUS_STATE == 2) fun s => s.commitTable

/-- Unfinished requests of the previous generation (R434, R441). -/
def State.oldInflight (s : State) : Nat := s.unfinished true (s.rd BRDX_CUT) (fun _ => true) (fun _ => true) (fun _ => true)

/-- BRIDLE_OLD_DRAINED: the status of BRIDLE_COMMIT is posted (R435, R441). -/
def execBridleOldDrained (s : State) : Host.Outcome State Fault Refusal :=
  s.event (s.rd BRD_STATUS_STATE == 3 && s.oldInflight == 0) fun s =>
    ((s.wr BRD_STATUS_STATE 0).wr BRD_EVENT_COMMIT_DONE 1).finishLates opCommit 0 stOk s.bridle.active.gen

/-- The session meets a mooring trigger or RESET_N: in HOLD it aborts, in COMMITTING the copy that was being written fails
its check, and in DRAINING the new table stands; BRIDLE_COMMIT gets no status (R435). -/
def State.stopSession (s : State) : State :=
  let st := s.rd BRD_STATUS_STATE
  let s := { s with late := s.late.filter fun l => l.opcode != opCommit }
  if st = 1 then s.abortSession false
  else if st = 2 then ((s.putSave s.savesToA Tables.invalid).bridleView).wr BRD_STATUS_STATE 0
  else s.wr BRD_STATUS_STATE 0

/-- BRIDLE_REBUILD, a long operation (R449, R947). -/
def execBridleRebuild (c : Cmd) (s : State) : Host.Outcome State Fault Refusal :=
  .next (s.command 0x0408 onlyM (cleanCmd c [] false)
    (fun _ => firstFail [(s.poolC == 0, stBadParam), (s.on BRD_STATUS_LOCK_UNKNOWN, stNotPermitted)] (.long 0 1 0 0 s)) c)

/-- The step of BRIDLE_REBUILD: a copy that fails its check is written from the active table, which is then compared with it; `ok` tells that
they match (R449). -/
def State.stepRebuild (s : State) (o : Op) (ok : Bool) : State :=
  let good := s.bridle.saveA.ok && s.bridle.saveB.ok
  let t := if ok then s.bridle.active else Tables.invalid
  let s := if s.bridle.saveA.ok then s else s.putSave true t
  let s := if s.bridle.saveB.ok then s else s.putSave false t
  let s := if good then s else s.wr BRD_EVENT_SAVE_ERR 1
  s.bridleView.finishOp o.handle (if good || ok then stOk else stHwError) 0

/-- A session of the device's own starts, in which the rules of gondola `g` leave the table, its locked rules included; the staged copy
loses them too (R432, R435, R442, R768, R947). -/
def State.dropRules (s : State) (g : Nat) : State :=
  let drop := fun (t : Tables) => (t.ownedBy g).foldl (fun (t : Tables) i => t.erase i) t
  let s := State.bridleView { s with bridle := { s.bridle with staged := drop s.bridle.staged, commit := drop s.bridle.active } }
  let s := s.wrs [(BRD_STATUS_STATE, 2), (BRDX_TIMER_ABORT, 0)]
  if s.noSave then s.commitTable else s

/-- BRD_IND_GO: a snapshot of a rule of the active or the staged table (R457). -/
def execBrdIndGo (v : BitVec 31) (s : State) : Host.Outcome State Fault Refusal :=
  let i := bits v.toNat (BRD_IND_SEL_RULE.key % 32) 13
  let st := bits v.toNat (BRD_IND_SEL_STAGED.key % 32) 1
  let w := (if st = 1 then s.bridle.staged else s.bridle.active).packed i
  .next ((s.wrs [(BRD_IND_SEL_RULE, i), (BRD_IND_SEL_STAGED, st), (BRD_IND_STATUS_DONE, 0), (SNAPX_DUE, setBit (s.rd SNAPX_DUE) 1)]).forN
    (fun k s => s.wr (BRD_IND_DATA_WORD k) (bits w (32 * k) 32)) 8)

end Sys2Proof.Machine
end

