-- ==== Sys2Proof/Machine/Service.lean ====
section
/-! DEFINITION. Penek engines and their services (chapter 14): engine groups and faults, zero, copy and CRC-64 of the pool,
and commit logs. -/

namespace Sys2Proof.Machine

/-! Engines. -/

/-- Groups of PEN_ENG_STATUS. -/
def grpControl : Nat := 0
/-- The mirror group. -/
def grpMirror : Nat := 1
/-- The commit-log group. -/
def grpLog : Nat := 2
/-- The hot-plug group. -/
def grpHotPlug : Nat := 3
/-- The patrol group. -/
def grpPatrol : Nat := 4
/-- The general group. -/
def grpGeneral : Nat := 5

/-- The group of engine `e` with `m` mirror and `l` commit-log engines, in the order of R638. -/
def groupOf (m l e : Nat) : Nat :=
  if e < 8 then grpControl else if e < 8 + m then grpMirror else if e < 9 + m then grpHotPlug else if e < 10 + m then grpPatrol
  else if e < 10 + m + l then grpLog else grpGeneral

/-- Engine `e` is faulted. -/
def State.engFaulted (s : State) (e : Nat) : Bool := s.rd (PEN_ENG_STATUS_STATE e) == 4

/-- Engines of group `g` in service. -/
def State.inGroup (s : State) (g : Nat) : List Nat :=
  idxs 96 fun e => s.rd (PEN_ENG_STATUS_GROUP e) == g && s.rd (PEN_ENG_STATUS_STATE e) != 4 && s.rd (PEN_ENG_STATUS_STATE e) != 0

/-- PEN_STATUS and PEN_ALLOC follow the engines. -/
def State.engView (s : State) : State :=
  s.wrs [(PEN_STATUS_ENG_ACTIVE, countN 96 fun e => s.rd (PEN_ENG_STATUS_STATE e) != 4 && s.rd (PEN_ENG_STATUS_STATE e) != 0),
    (PEN_STATUS_ENG_FAULTED, countN 96 fun e => s.engFaulted e), (PEN_ALLOC_MIRROR, (s.inGroup grpMirror).length),
    (PEN_ALLOC_LOG, (s.inGroup grpLog).length), (PEN_ALLOC_GENERAL, (s.inGroup grpGeneral).length)]

/-- Engine `e` in group `g`: one that changes group hands its work to the engines of its old group (R639). -/
def State.regroup (s : State) (e g : Nat) : State :=
  if s.rd (PEN_ENG_STATUS_GROUP e) = g then s
  else
    let s := s.idleEngine e
    { s with ops := updateAll (fun (o : Op) => o.engine == e && o.final.isNone) (fun (o : Op) => { o with engine := 128 }) s.ops }.wr (PEN_ENG_STATUS_GROUP e) g

/-- Every engine in the group that R638 gives it. -/
def State.allocEngines (s : State) (m l : Nat) : State := (s.forN (fun e s => s.regroup e (groupOf m l e)) 96).engView

/-- The engines in service at the start of the firmware, with the default groups (R637, R638). -/
def State.startEngines (s : State) : State :=
  (s.forN (fun e s => s.wrs [(PEN_ENG_STATUS_STATE e, 1), (PEN_ENG_STATUS_FAULT_CAUSE e, 0)]) 96).allocEngines 4 8

/-- The low end of a group's range (R637). -/
def groupLow (g : Nat) : Nat := if g = grpMirror then 2 else if g = grpGeneral then 36 else if g = grpControl then 0 else 1

/-- A group below the low end of its range takes the highest-numbered general engine (R668, R680). -/
def State.refill (s : State) (g : Nat) : State :=
  if g ≠ grpGeneral ∧ (s.inGroup g).length < groupLow g then
    match (s.inGroup grpGeneral).reverse with
    | [] => s
    | e :: _ => ((s.regroup e g).wr PEN_EVENT_REALLOC 1).engView
  else s

/-- A mirror engine faults: the mirrors whose lines it holds break (R668). Which domains it serves the spec leaves open: a
domain with queued lines is served by it as a free value says. -/
def State.mirrorEngineLost (s : State) : State :=
  let v := s.freeVal
  s.takeFree.forN (fun d s => if s.mirrors d && (s.pool.mirror.any fun m => m.dom == d) && bitSet v d then s.breakMirror d else s) 16

/-- The append that commit-log engine `e` was running, of those without an LSN: which one, if any, the spec leaves open, and a free value says
(R679). -/
def State.runningAppend (s : State) (g : Nat) : Option Append :=
  let l := s.pool.appends.filter fun a => a.lsn.isNone
  if g = grpLog then l[s.freeVal % (l.length + 1)]? else none

/-- An append ends without a record: its one status is `st`, and it consumes no LSN (R657, R658). -/
def State.failAppend (s : State) (id st : Nat) : State := s.failWaiter (appendWaiter id) st

/-- Engine `e` faults for `cause`: the command it runs ends with HW_ERROR, each gondola whose service it ran is named for containment, and its
group is refilled (R668, R679, R680, R682). -/
def State.faultEngine (s : State) (e cause : Nat) : State :=
  let g := s.rd (PEN_ENG_STATUS_GROUP e)
  let hit := s.ops.filter fun o => o.engine == e && o.final.isNone
  let app := s.runningAppend g
  let s := if g = grpLog then s.takeFree else s
  let gonds := (hit.map (fun o => o.issuer) ++ (app.map fun a => a.issuer).toList).foldl (fun (l : List Nat) i => match i with
    | .g x => insertNat x l
    | _ => l) []
  let s := s.wrs [(PEN_ENG_STATUS_STATE e, 4), (PEN_ENG_STATUS_FAULT_CAUSE e, cause), (PEN_EVENT_ENG_FAULT, 1)]
  let s := if gonds.isEmpty then s.record (157 + e / 8) 0x0B01 0 0 (e % 8) (detG e cause) []
    else gonds.foldl (fun (s : State) x => s.record (157 + e / 8) 0x0B01 3 x (e % 8) (detG e cause) [s.rd (GND_HOST x)]) s
  let s := hit.foldl (fun s o => s.endOp o.handle stHwError 0) s
  let s := match app with
    | some a => s.failAppend a.id stHwError
    | none => s
  let s := if e < 8 then (s.wr PEN_STATUS_CTRL_DEGRADED 1).alert else s
  let s := if g = grpMirror then s.mirrorEngineLost else s
  (s.engView).refill g

/-- ENGINE_WATCHDOG: a step of engine `e` runs for more than 100 µs (R677, R679). -/
def execEngineWatchdog (e : Eng) (s : State) : Host.Outcome State Fault Refusal :=
  s.event (s.rd (PEN_ENG_STATUS_STATE e) != 4 && s.rd (PEN_ENG_STATUS_STATE e) != 0) fun s =>
    (s.wr PEN_EVENT_WATCHDOG 1).faultEngine e 1

/-- LMEM_ERROR: an error of engine `e`'s local memory is corrected, or faults the engine (R678, R679). -/
def execLmemError (e : Eng) (corrected : Bool) (s : State) : Host.Outcome State Fault Refusal :=
  s.event (s.rd (PEN_ENG_STATUS_STATE e) != 4 && s.rd (PEN_ENG_STATUS_STATE e) != 0) fun s =>
    if corrected then (s.inc PEN_LMEM_ECC_LMEM_CE).wr PEN_EVENT_LMEM_CE 1
    else (s.inc PEN_LMEM_ECC_LMEM_UE).faultEngine e 2

/-- DEVICE_ENGINE_ALLOC, a long operation (R637, R639, R640). -/
def execDeviceEngineAlloc (c : Cmd) (s : State) : Host.Outcome State Fault Refusal :=
  let m := parBytes c 0 1
  let l := parBytes c 1 1
  .next (s.command 0x0108 onlyM (cleanCmd c [(0, 8), (8, 8), (16, 8), (24, 8)] false && decide (2 ≤ m) && decide (m ≤ 16) && decide (1 ≤ l)
      && decide (l ≤ 32) && parBytes c 2 1 == 1 && parBytes c 3 1 == 1 && decide (36 + 2 + m + l ≤ 88))
    (fun _ => if s.opBusy [0x0D04] (fun _ => true) then .fail stBusy else .long 0 1 0 0 s) c)

/-- The step of DEVICE_ENGINE_ALLOC: engines change group at the step boundary (R639). -/
def State.stepAlloc (s : State) (o : Op) : State :=
  (s.allocEngines (parBytes o.cmd 0 1) (parBytes o.cmd 1 1)).finishOp o.handle stOk 0

/-- DEVICE_ENGINE_RESTART (R681). -/
def execDeviceEngineRestart (c : Cmd) (s : State) : Host.Outcome State Fault Refusal :=
  let e := parBytes c 0 1
  .next (s.command 0x0109 onlyM (cleanCmd c [(0, 8)] false && decide (e < 96))
    (fun _ => firstFail [(!s.engFaulted e, stBadParam), (decide (e < 8), stNotPermitted)]
      (.ok 0 (s.wrs [(PEN_ENG_STATUS_STATE e, 1), (PEN_ENG_STATUS_GROUP e, grpGeneral), (PEN_ENG_STATUS_FAULT_CAUSE e, 0)]).engView)) c)

/-! Checks of a service. -/

/-- The PASID that the transfers for an issuer carry: a gondola's (R741). -/
def State.issuerPasid (s : State) : Issuer → Option Nat
  | .g g => some (s.rd (GND_PASID g))
  | _ => none

/-- The check of a service request for an issuer (R418, R419, R650): a tenant request of its host, with a gondola's PASID,
or an internal one for the management host. -/
def State.svcCheck (s : State) (i : Issuer) (access addr len : Nat) : Check :=
  let f1 := fun h => 256 * s.rd (RTE_HIER_BUS_PRI_BUS h) + 1
  match i with
  | .m => ⟨clsInternal, spPool, access, 3, 0, none, addr, len, 0⟩
  | .h h => ⟨clsTenant, spPool, access, h, f1 h, none, addr, len, 0⟩
  | .g g => ⟨clsTenant, spPool, access, s.rd (GND_HOST g), f1 (s.rd (GND_HOST g)), some (s.rd (GND_PASID g)), addr, len, 0⟩

/-- The lowest page of a pool range that the active table denies to an issuer (R650). A decision changes only where a rule
begins or ends, so those pages and the first decide. -/
def State.firstDenied (s : State) (i : Issuer) (access base len : Nat) : Option Check :=
  let t := s.bridle.active
  let marks := (base / 4096 * 4096) :: (t.valid.flatMap fun r => [t.get (RULE_BASE r), t.get (RULE_LIMIT r) + 1])
  let bad := marks.filter fun a => decide (base / 4096 * 4096 ≤ a) && decide (a < base + len)
    && (s.verdict (s.svcCheck i access a 4096)).isSome
  match bad with
  | [] => none
  | a :: l => some (s.svcCheck i access (l.foldl min a) 4096)

/-- The state after the denial of `c` is recorded. -/
def State.denied (s : State) (c : Check) : State := (s.check c).1

/-- Every byte from `a` to `a + n - 1` lies in valid windows that satisfy `p`, by at most `fuel` windows (R652, R672). -/
def State.covered (s : State) (p : Nat → Bool) (a n : Nat) : Nat → Bool
  | 0 => n == 0
  | fuel + 1 =>
    if n = 0 then true
    else match s.windowAt a with
      | none => false
      | some w => p w && (let m := s.rd (WIN_LIMIT w) + 1 - a
          if n ≤ m then true else s.covered p (a + m) (n - m) fuel)

/-- The range lies wholly within windows (R672). -/
def State.inWindowsAll (s : State) (a n : Nat) : Bool := s.covered (fun _ => true) a n 4096

/-- The whole usable pool, zeroed by the management host while the locks are unknown (R448). -/
def State.wholeZero (s : State) (i : Issuer) (base len : Nat) : Bool :=
  s.on BRD_STATUS_LOCK_UNKNOWN && i == .m && base == 0 && len == s.poolUsable

/-! Lines that a service reads and stores. -/

/-- What a store that the SF256 makes itself to the line at `a` meets: 0 it may be performed, 1 it waits (a close of its domain, R618), 2 a
FAILED channel, 3 a contained window or a mirror target, which discard it (R520, R569, R627). -/
def State.storeMeets (s : State) (a : Nat) : Nat :=
  let w := (s.windowAt a).getD 4096
  if s.contained 4 w then 3
  else match s.winDom w with
    | some d =>
      if s.on (ORD_DOM_CFG_MIRROR_TARGET d) then 3
      else if (s.closeOf d).isSome then 1
      else if s.chDown a then 2 else 0
    | none => if s.chDown a then 2 else 0

/-- The mirror queue that a store to the line at `a` would enter is full (R625). -/
def State.mirrorFull (s : State) (a : Nat) : Bool :=
  match s.winDom ((s.windowAt a).getD 4096) with
  | some d => s.mirrors d && decide (16384 ≤ s.mirrorDepth d)
  | none => false

/-- A store of source `src` to the line at `a` that a contained window, a mirror target or a FAILED channel discards (R520, R569, R627). -/
def State.dropStore (s : State) (src a : Nat) : State :=
  let w := (s.windowAt a).getD 4096
  if s.storeMeets a = 2 then s.discardStore src a
  else if s.contained 4 w then s.bump (DOMX_POSTED (domIdx 4 w))
  else s.inc (ORD_DOM_REJECT_MIRROR_REJECT (s.rd (WIN_DOMAIN w)))

/-- A whole line that an engine of source `src` stores, as an access of the pool. -/
def State.svcAcc (s : State) (src a data : Nat) : PAcc :=
  ⟨s.rd SYS_ORDER, src, .plain, a, .store (leBytes 64 data), 0, none, 0, (s.windowAt a).getD 4096, s.rd SYS_ORDER, 0, 128⟩

/-- What a service's store to the line at `a` meets: 1 also when the engine waits for room in its cluster's buffer, or behind a strict store
(R583, R597). -/
def State.svcStoreMeets (s : State) (src a : Nat) : Nat :=
  if s.storeMeets a = 0 ∧ s.mustWait (s.svcAcc src a 0) = true then 1 else s.storeMeets a

/-- A whole line stored for operation `o`: it enters the buffer of its engine's cluster, or is discarded (R583, R646). -/
def State.svcStore (s : State) (o : Op) (a data : Nat) : State :=
  let src := clusterSrc o.engine
  if s.pastDrain then s.lateStore src a
  else match s.svcStoreMeets src a with
  | 0 =>
    let es := (s.storeEntries (s.svcAcc src a data) (leBytes 64 data)).map fun e => { e with tags := [o.handle] }
    State.bump ((s.putEntries es).bufView (bufOf src)) SYS_ORDER
  | 1 => s
  | _ => s.dropStore src a

/-- A whole line that the control firmware stores before it posts the status of a command: performed at once (R646, R951). -/
def State.fwStore (s : State) (a data : Nat) : State :=
  if s.pastDrain then s.lateStore 48 a
  else if s.storeMeets a ≤ 1 then s.performLine ((s.windowAt a).getD 4096) a fullMask data
  else s.dropStore 48 a

/-- A service cannot read the line at `a`: it is poisoned, its channel FAILED or its window contained (R520, R569, R673). -/
def State.svcBad (s : State) (a : Nat) : Bool :=
  s.poisoned a || s.chDown a || s.contained 4 ((s.windowAt a).getD 4096)

/-- An engine's read of the line at `a` waits for a strict store of its cluster (R596). -/
def State.svcReadWaits (s : State) (src a : Nat) : Bool :=
  s.on (WIN_STRICT ((s.windowAt a).getD 4096)) && s.pool.wb.any fun e => e.src == src && e.strict

/-- The line at `a` as an engine of source `src` reads it: its cluster's buffered stores merged over what is performed (R593). -/
def State.svcRead (s : State) (src a : Nat) : Nat :=
  s.lineSeen src (s.rd SYS_ORDER) a (s.on (WIN_STRICT ((s.windowAt a).getD 4096)))

/-- The operation with a handle changed. -/
def State.setOp (s : State) (h : Nat) (f : Op → Op) : State := { s with ops := updateAll (fun x => x.handle == h) f s.ops }

/-! Zero. -/

/-- The opcodes of the data services. -/
def opZero : Nat := 0x0609
/-- POOL_COPY. -/
def opCopy : Nat := 0x060A
/-- POOL_CRC64. -/
def opCrc : Nat := 0x060B

/-- A range of a data service is aligned, not empty and inside the installed pool (R669). -/
def State.svcRange (s : State) (a n : Nat) : Bool := a % 64 == 0 && n % 64 == 0 && decide (0 < n) && decide (a + n ≤ s.poolUsable)

/-- POOL_ZERO, a long operation (R433, R448, R646, R669, R672, R879). Its pages are checked before its first store. -/
def execPoolZero (c : Cmd) (s : State) : Host.Outcome State Fault Refusal :=
  let base := parBytes c 8 8
  let len := parBytes c 16 8
  .next (s.command opZero anyIssuer (cleanCmd c [(0, 8), (64, 64), (128, 64)] false && decide (parBytes c 0 1 ≤ 16) && s.svcRange base len)
    (fun i => firstFail [(i != .m && !s.inWindowsAll base len, stBadParam), (s.poolBusy, stBusy)] (.long 0 len 0 0 s)) c)

/-- Up to `n` lines of a zero stored for operation `o` from byte `done` on: the state, the bytes done and the lines discarded (R674). -/
def State.zeroLines (s : State) (o : Op) (base len done disc : Nat) : Nat → State × Nat × Nat
  | 0 => (s, done, disc)
  | n + 1 =>
    let m := s.svcStoreMeets (clusterSrc o.engine) (base + done)
    if len ≤ done ∨ m = 1 then (s, done, disc)
    else (s.svcStore o (base + done) 0).zeroLines o base len (done + 64) (if m = 2 then disc + 1 else disc) n

/-- The pages of a service are checked before its first access: none when they pass, else the state after the one denial
that ends it (R650). -/
def State.svcDenied (s : State) (o : Op) (l : List (Nat × Nat × Nat)) : Option State :=
  match l.findSome? fun x => s.firstDenied o.issuer x.1 x.2.1 x.2.2 with
  | none => none
  | some c => some ((s.denied c).finishOp o.handle stNotPermitted 0)

/-- A step of POOL_ZERO of at most `n` lines; `acc` counts discarded lines (R448, R650, R674). -/
def State.stepZero (s : State) (o : Op) (n : Nat) : State :=
  let base := parBytes o.cmd 8 8
  if o.phase = 0 ∧ s.checkerHeld = true then s
  else match (if o.phase = 0 && !s.wholeZero o.issuer base o.total then s.svcDenied o [(1, base, o.total)] else none) with
    | some t => t
    | none =>
      let x := s.zeroLines o base o.total o.done o.acc n
      let t := x.1.setOp o.handle fun p => { p with phase := 1, done := x.2.1, acc := x.2.2 }
      if x.2.1 < o.total then t
      else
        if t.pool.wb.any fun e => e.serves o.handle then t
        else
          let t := if s.wholeZero o.issuer base o.total && x.2.2 == 0 then (t.wr BRD_STATUS_LOCK_UNKNOWN 0) else t
          if x.2.2 = 0 then t.finishOp o.handle stOk 0 else t.finishOp o.handle stHwError x.2.2

/-! Copy. -/

/-- POOL_COPY, a long operation (R433, R646, R669, R670, R672, R879); directions 0 pool to pool, 1 pool to host, 2 host to
pool. -/
def execPoolCopy (c : Cmd) (s : State) : Host.Outcome State Fault Refusal :=
  let dir := parBytes c 1 1
  let src := parBytes c 8 8
  let dst := parBytes c 16 8
  let len := parBytes c 24 8
  .next (s.command opCopy anyIssuer (cleanCmd c [(0, 8), (8, 8), (64, 64), (128, 64), (192, 64)] false && decide (parBytes c 0 1 ≤ 16)
      && decide (dir < 3) && (dir == 2 || s.svcRange src len) && (dir == 1 || s.svcRange dst len)
      && len % 64 == 0 && decide (0 < len) && src % 64 == 0 && dst % 64 == 0)
    (fun i => firstFail
      [((dir != 2 && !s.inWindowsAll src len) || (dir != 1 && !s.inWindowsAll dst len), stBadParam),
       (dir != 0 && (s.issuerHost i).isNone, stBadParam), (s.poolBusy, stBusy)]
      (.long 0 len 0 0 s)) c)

/-- Up to `n` lines of a copy within the pool, or toward host `h`, from byte `done` on; `buf` is the source as it stood
when it overlaps its destination. Answers the state, the bytes done, and the address of a line that could not be read. A read finds what DEBUG_INJECT armed (R731). -/
def State.copyLines (s : State) (o : Op) (src dst len done : Nat) (buf : Option Nat) (h : Option Nat) : Nat → State × Nat × Option Nat
  | 0 => (s, done, none)
  | n + 1 =>
    let c := clusterSrc o.engine
    if len ≤ done ∨ (h.isNone ∧ s.svcStoreMeets c (dst + done) = 1) ∨ (buf.isNone ∧ s.svcReadWaits c (src + done) = true) then (s, done, none)
    else
      let s := if buf.isNone then s.lineEcc (src + done) .clean else s
      if buf.isNone && s.svcBad (src + done) then (s, done, some (src + done))
      else
        let v := match buf with
          | some b => bits b (8 * done) 512
          | none => s.svcRead c (src + done)
        let s := match h with
          | some x => s.writeHost x (dst + done) v 64 (s.issuerPasid o.issuer)
          | none => s.svcStore o (dst + done) v
        s.copyLines o src dst len (done + 64) buf h n

/-- The `n` lines from pool address `a` on as an engine of source `src` reads them. -/
def State.svcReadAll (s : State) (src a : Nat) : Nat → Nat
  | 0 => 0
  | n + 1 => s.svcReadAll src a n + s.svcRead src (a + 64 * n) * 2 ^ (512 * n)

/-- The bytes before the first line of a range that a service cannot read, below `n` lines. -/
def State.goodBytes (s : State) (a : Nat) (n : Nat) : Nat := 64 * ((findFrom (fun k => s.svcBad (a + 64 * k)) 0 n).getD n)

/-- The read of the next part of a copy from host `h`, of at most Max_Read_Request_Size bytes, unless one is outstanding
(R199, R202, R226, R520, R545). -/
def State.copyFetch (s : State) (o : Op) (h : Nat) : State :=
  let at_ := parBytes o.cmd 8 8 + o.done
  let size := min (128 * 2 ^ s.rd (HOSTF_MRRS h)) (min (o.total - o.done) (4096 - at_ % 4096))
  if s.outst.any fun x => x.waiter == o.handle then s
  else if s.contained 2 h then s.finishOp o.handle stHwError 0
  else match s.issue .host h o.handle (issuerSource o.issuer) 0 size (s.rd SYS_ORDER) false none with
    | none => s
    | some (tag, s) => (s.bump SYS_ORDER).readHost h at_ size tag (s.issuerPasid o.issuer)

/-- Up to `n` lines of host data in engine memory stored to the pool from byte `done` on (R669): `acc` holds the data that is left below a
one, or is zero. Answers the state, the bytes done and the data left. -/
def State.copyDrain (s : State) (o : Op) (done acc : Nat) : Nat → State × Nat × Nat
  | 0 => (s, done, acc)
  | n + 1 =>
    let a := parBytes o.cmd 16 8 + done
    if acc = 0 ∨ s.svcStoreMeets (clusterSrc o.engine) a = 1 then (s, done, acc)
    else (s.svcStore o a (acc % 2 ^ 512)).copyDrain o (done + 64) (if acc / 2 ^ 512 ≤ 1 then 0 else acc / 2 ^ 512) n

/-- What is left of a POOL_COPY with a host takes a request toward it: data to write, or data that has not been read yet (R226). -/
def Op.needsHost (o : Op) : Bool :=
  decide (o.done < o.total) && !(parBytes o.cmd 1 1 == 2 && decide (2 ^ (8 * (o.total - o.done)) ≤ o.acc))

/-- A step of POOL_COPY of at most `n` lines (R226, R650, R670, R673). For ranges of the pool of which the destination
begins inside the source, `acc` holds the source as it stood at the first step, and `phase` one more than the lines of it
that could be read. -/
def State.stepCopy (s : State) (o : Op) (n : Nat) : State :=
  let dir := parBytes o.cmd 1 1
  let src := parBytes o.cmd 8 8
  let dst := parBytes o.cmd 16 8
  let h := if dir = 0 then none else s.issuerHost o.issuer
  let checks := (if dir = 2 then [] else [(0, src, o.total)]) ++ (if dir = 1 then [] else [(1, dst, o.total)])
  if o.phase = 0 ∧ s.checkerHeld = true then s
  else match (if o.phase = 0 then s.svcDenied o checks else none) with
    | some t => t
    | none =>
      if (match h with | some x => !s.hostOpen x && o.needsHost | none => false) then s.finishOp o.handle stHostDma 0
      else if dir = 2 then
        let x := s.copyDrain o o.done o.acc n
        let s := x.1.setOp o.handle fun p => { p with phase := 1, done := x.2.1, acc := x.2.2 }
        if o.total ≤ x.2.1 then s.settleOp o.handle stOk 0
        else if o.acc ≠ 0 then s
        else match h with
          | some x => s.copyFetch o x
          | none => s.finishOp o.handle stHwError 0
      else
        let lap := decide (dir = 0) && decide (src < dst) && decide (dst < src + o.total)
        let s := if lap && o.phase == 0 then s.forN (fun k s => s.lineEcc (src + 64 * k) .clean) (o.total / 64) else s
        let lines := if o.phase = 0 then s.goodBytes src (o.total / 64) / 64 else o.phase - 1
        let buf := if o.phase = 0 then s.svcReadAll (clusterSrc o.engine) src lines else o.acc
        let x := if lap then s.copyLines o src dst (64 * lines) o.done (some buf) none n
          else s.copyLines o src dst o.total o.done none h n
        let t := x.1.setOp o.handle fun p => { p with phase := if lap then lines + 1 else 1, done := x.2.1, acc := if lap then buf else 0 }
        match x.2.2 with
        | some a => t.settleOp o.handle stHwError (a * 2 ^ 64)
        | none =>
          if o.total ≤ x.2.1 then t.settleOp o.handle stOk 0
          else if lap && 64 * lines ≤ x.2.1 then t.settleOp o.handle stHwError ((src + 64 * lines) * 2 ^ 64)
          else t

/-- Whole lines that the control firmware stores from pool address `a` on. -/
def State.fwStoreBytes (s : State) (a : Nat) (l : List (BitVec 8)) : Nat → State
  | 0 => s
  | n + 1 => ((s.fwStoreBytes a l n).fwStore (a + 64 * n) (leNat ((l.drop (64 * n)).take 64)))

/-- Host data of a copy arrives in engine memory, from which its lines are stored step by step (R669). -/
def State.copyArrive (s : State) (o : Op) (l : List (BitVec 8)) : State :=
  s.setOp o.handle fun p => { p with acc := leNat l + 2 ^ (8 * l.length) }

/-! CRC-64. -/

/-- One bit of a reflected CRC with polynomial `p`. -/
def crcBit (p v : Nat) : Nat := if v % 2 = 1 then (v / 2) ^^^ p else v / 2

/-- One byte of a reflected CRC. -/
def crcByte (p v b : Nat) : Nat :=
  let v := v ^^^ b
  crcBit p (crcBit p (crcBit p (crcBit p (crcBit p (crcBit p (crcBit p (crcBit p v)))))))

/-- The bit-reversed polynomial of the CRC-64 of R671. -/
def crc64Poly : Nat := 0xC96C5795D7870F42

/-- The CRC-64 of R671 over bytes, from register value `v`. -/
def crc64 (v : Nat) (l : List (BitVec 8)) : Nat := l.foldl (fun v b => crcByte crc64Poly v b.toNat) v

/-- The CRC-32C of bytes: reflected, initial value and final XOR all ones. -/
def crc32c (l : List (BitVec 8)) : Nat := (l.foldl (fun v b => crcByte 0x82F63B78 v b.toNat) 0xFFFFFFFF) ^^^ 0xFFFFFFFF

/-- POOL_CRC64, a long operation (R433, R669, R671, R672, R879); `acc` holds the CRC register. -/
def execPoolCrc64 (c : Cmd) (s : State) : Host.Outcome State Fault Refusal :=
  let base := parBytes c 8 8
  let len := parBytes c 16 8
  .next (s.command opCrc anyIssuer (cleanCmd c [(64, 64), (128, 64)] false && s.svcRange base len)
    (fun _ => firstFail [(!s.inWindowsAll base len, stBadParam), (s.poolBusy, stBusy)] (.long 0 len 0 (2 ^ 64 - 1) s)) c)

/-- Up to `n` lines of a CRC that an engine of source `src` reads from byte `done` on; a read finds what DEBUG_INJECT armed (R731). Answers
the state, the bytes done, the CRC register and the address of a line that could not be read. -/
def State.crcLines (s : State) (src base len done acc : Nat) : Nat → State × Nat × Nat × Option Nat
  | 0 => (s, done, acc, none)
  | n + 1 =>
    if len ≤ done ∨ s.svcReadWaits src (base + done) = true then (s, done, acc, none)
    else
      let s := s.lineEcc (base + done) .clean
      if s.svcBad (base + done) then (s, done, acc, some (base + done))
      else s.crcLines src base len (done + 64) (crc64 acc (leBytes 64 (s.svcRead src (base + done)))) n

/-- A step of POOL_CRC64 of at most `n` lines (R650, R671, R673). -/
def State.stepCrc (s : State) (o : Op) (n : Nat) : State :=
  let base := parBytes o.cmd 8 8
  if o.phase = 0 ∧ s.checkerHeld = true then s
  else match (if o.phase = 0 then s.svcDenied o [(0, base, o.total)] else none) with
    | some t => t
    | none =>
      let x := s.crcLines (clusterSrc o.engine) base o.total o.done o.acc n
      let t := x.1.setOp o.handle fun p => { p with phase := 1, done := x.2.1, acc := x.2.2.1 }
      match x.2.2.2 with
      | some a => t.finishOp o.handle stHwError (a * 2 ^ 64)
      | none => if o.total ≤ x.2.1 then t.finishOp o.handle stOk (x.2.2.1 ^^^ (2 ^ 64 - 1)) else t

/-! Commit logs. -/

/-- RING_SIZE of log `n`. -/
def State.ringSize (s : State) (n : Nat) : Nat := 2 ^ s.rd (PEN_LOG_CFG_RING_LOG2 n)

/-- Pool address of a record (R654). -/
def State.lsnAddr (s : State) (n lsn : Nat) : Nat := s.rd (LOGX_RING_BASE n) + lsn % s.ringSize n

/-- Bytes that a record of `len` payload bytes occupies (R655). -/
def recBytes (len : Nat) : Nat := ceilDiv (16 + len) 64 * 64

/-- The bytes of a record: header, CRC-32C, payload, and zeros to its last line (R655). -/
def recordOf (lsn len : Nat) (payload : List (BitVec 8)) (size : Nat) : List (BitVec 8) :=
  let head := leBytes 8 lsn ++ leBytes 4 len
  let l := head ++ leBytes 4 (crc32c (head ++ payload)) ++ payload
  l ++ List.replicate (size - l.length) 0

/-- The LENGTH of a pad record (R655). -/
def padLength : Nat := 0xFFFFFFFF

/-- The length in bytes of the good record at `lsn` of log `n`, pad records included (R655, R656, R665). -/
def State.goodRecord (s : State) (n lsn : Nat) : Option Nat :=
  let a := s.lsnAddr n lsn
  let len := leNat (s.loadBytes (a + 8) 4)
  let size := if len = padLength then s.ringSize n - lsn % s.ringSize n else recBytes len
  let body := if len = padLength then [] else s.loadBytes (a + 16) len
  if (linesOf a size).any s.svcBad = false ∧ leNat (s.loadBytes a 8) = lsn ∧ (len = padLength ∨ (1 ≤ len ∧ len ≤ 16368))
      ∧ size + lsn % s.ringSize n ≤ s.ringSize n ∧ leNat (s.loadBytes (a + 12) 4) = crc32c (s.loadBytes a 12 ++ body) then some size else none

/-- The first position at or above `lsn` that holds no good record, among `fuel` records (R665). -/
def State.scanLog (s : State) (n lsn : Nat) : Nat → Nat
  | 0 => lsn
  | k + 1 => match s.goodRecord n lsn with
    | some size => s.scanLog n (lsn + size) k
    | none => lsn

/-- Issuer `i` may name log `n`: an H or G issuer only a log in a domain that is granted to its host (R694). -/
def State.logGranted (s : State) (n : Nat) (i : Issuer) : Bool :=
  !s.on (PEN_LOG_CFG_VALID n) || s.granted (s.rd (PEN_LOG_CFG_DOMAIN n)) i

/-- `goal` is a record boundary at or above `lsn` (R657). -/
def State.boundary (s : State) (n lsn goal : Nat) : Nat → Bool
  | 0 => lsn == goal
  | k + 1 => if goal ≤ lsn then lsn == goal else match s.goodRecord n lsn with
    | some size => s.boundary n (lsn + size) goal k
    | none => false

/-- The first line of a log's header page (R661). -/
def headerLine (head committed epoch prev ring : Nat) : List (BitVec 8) :=
  leBytes 8 head ++ leBytes 8 committed ++ leBytes 8 epoch ++ leBytes 8 prev ++ leBytes 8 ring ++ List.replicate 24 0

/-- The ranges of two logs' rings and headers meet (R652). -/
def State.logClash (s : State) (n ring size header : Nat) : Bool :=
  (idxs 64 fun k => k != n && s.on (PEN_LOG_CFG_VALID k)).any fun k =>
    let meets := fun (a la b lb : Nat) => decide (a < b + lb) && decide (b < a + la)
    let r := s.rd (LOGX_RING_BASE k)
    let h := s.rd (LOGX_HEADER k)
    meets ring size r (s.ringSize k) || meets ring size h 4096 || meets header 4096 r (s.ringSize k) || meets header 4096 h 4096

/-- A log's ring and header as POOL_LOG_CREATE sets them, its header page written or, with RECOVER, its tail found
(R651, R654, R661, R665). -/
def State.putLog (s : State) (c : Cmd) : State :=
  let n := parBytes c 0 1
  let head := parBytes c 16 8
  let s := s.wrs [(PEN_LOG_CFG_VALID n, 1), (PEN_LOG_CFG_DOMAIN n, parBytes c 1 1), (PEN_LOG_CFG_RING_LOG2 n, parBytes c 2 1),
    (PEN_LOG_CFG_WINDOW_US n, parBytes c 3 1), (PEN_LOG_CFG_MAX_BATCH n, if parBytes c 4 2 = 0 then 64 else parBytes c 4 2),
    (PEN_LOG_CFG_LAST_DEGRADED n, 0), (LOGX_RING_BASE n, parBytes c 8 8), (LOGX_HEADER n, head), (LOGX_OPEN_AT n, 0), (LOGX_BATCH n, 0), (LOGX_UNCOM n, 0)]
  if opFlag c then
    let w := fun k => leNat (s.loadBytes (head + 8 * k) 8)
    let limit := if w 2 ≤ s.rd (DDX_EPOCH (parBytes c 1 1)) then w 1 else w 3
    s.wrs [(LOGX_HEAD n, w 0), (LOGX_PREV n, limit), (LOGX_HDR n, limit), (LOGX_TAIL n, s.scanLog n limit (s.ringSize n / 64))]
  else
    (s.wrs [(LOGX_HEAD n, 0), (LOGX_PREV n, 0), (LOGX_HDR n, 0), (LOGX_TAIL n, 0)]).fwStoreBytes head
      (headerLine 0 0 0 0 (s.ringSize n) ++ List.replicate 4032 0) 64

/-- POOL_LOG_CREATE (R565, R651 to R653, R665, R879). -/
def execPoolLogCreate (c : Cmd) (s : State) : Host.Outcome State Fault Refusal :=
  let n := parBytes c 0 1
  let d := parBytes c 1 1
  let size := 2 ^ parBytes c 2 1
  let ring := parBytes c 8 8
  let head := parBytes c 16 8
  let weak := fun w => !s.on (WIN_STRICT w) && s.winDom w == some d
  let t := s.putLog c
  .next (s.command 0x060C onlyM (cleanCmd c [(0, 8), (8, 8), (16, 8), (24, 8), (32, 16), (64, 64), (128, 64)] true && decide (n < 64)
      && decide (d < 16) && decide (16 ≤ parBytes c 2 1) && decide (parBytes c 2 1 ≤ 36) && decide (parBytes c 3 1 ≤ 100)
      && decide (parBytes c 4 2 ≤ 1024) && ring % size == 0 && head % 4096 == 0)
    (fun _ => firstFail
      [(!s.covered weak ring size 4096 || !s.covered weak head 4096 4096 || s.on (ORD_DOM_CFG_MIRROR_TARGET d), stBadParam),
       (s.on (PEN_LOG_CFG_VALID n) || s.logClash n ring size head || (decide (ring < head + 4096) && decide (head < ring + size)), stOverlap),
       (s.touchesLock ring size || s.touchesLock head 4096 || (s.firstDenied .m (if opFlag c then 0 else 1) head 4096).isSome, stNotPermitted),
       (s.poolBusy, stBusy), (opFlag c && s.svcBad head, stHwError)]
      (.ok (t.rd (LOGX_TAIL n)) t)) c)

/-- POOL_LOG_DELETE (R666). -/
def execPoolLogDelete (c : Cmd) (s : State) : Host.Outcome State Fault Refusal :=
  let n := parBytes c 0 1
  .next (s.command 0x060D onlyM (cleanCmd c [(0, 8)] false && decide (n < 64))
    (fun _ => firstFail [(!s.on (PEN_LOG_CFG_VALID n), stBadParam), (s.pool.appends.any fun a => a.log == n, stBusy)]
      (.ok 0 (s.wrs [(PEN_LOG_CFG_VALID n, 0), (PEN_LOG_CFG_DOMAIN n, 0), (PEN_LOG_CFG_RING_LOG2 n, 0), (PEN_LOG_CFG_WINDOW_US n, 0),
        (PEN_LOG_CFG_MAX_BATCH n, 0), (PEN_LOG_CFG_LAST_DEGRADED n, 0)]))) c)

/-- POOL_LOG_TRIM: HEAD_LSN advances to a record boundary at or below COMMITTED_LSN (R657). -/
def execPoolLogTrim (c : Cmd) (s : State) : Host.Outcome State Fault Refusal :=
  let n := parBytes c 0 1
  let v := parBytes c 8 8
  .next (s.command 0x060F (fun i => (match i with | .g _ => false | _ => true) && s.logGranted n i) (cleanCmd c [(0, 8), (64, 64)] false && decide (n < 64))
    (fun _ => firstFail
      [(!s.on (PEN_LOG_CFG_VALID n), stBadParam), (decide (s.rd (LOGX_PREV n) < v), stBadParam),
       (decide (v < s.rd (LOGX_HEAD n)) || !s.boundary n (s.rd (LOGX_HEAD n)) v (s.ringSize n / 64), stBadParam)]
      (.ok 0 (s.wr (LOGX_HEAD n) v))) c)

/-- An append changed. -/
def State.setAppend (s : State) (id : Nat) (f : Append → Append) : State :=
  { s with pool := { s.pool with appends := updateAll (fun a => a.id == id) f s.pool.appends } }

/-- The lines of a record stored as accesses of the commit-log engines' cluster (R583, R655). -/
def State.storeLines (s : State) (a : Nat) (l : List (BitVec 8)) : Nat → State
  | 0 => s
  | n + 1 =>
    let s := s.storeLines a l n
    s.submit ⟨0, 49, .plain, a + 64 * n, .store ((l.drop (64 * n)).take 64), 0, none, 0, (s.windowAt (a + 64 * n)).getD 4096, 0, 0, 128⟩

/-- The LSN that a record of `size` bytes takes in log `n`: the tail, or the ring's start in the next lap (R656). -/
def State.nextLsn (s : State) (n size : Nat) : Nat :=
  let t := s.rd (LOGX_TAIL n)
  if t % s.ringSize n + size ≤ s.ringSize n then t else (t / s.ringSize n + 1) * s.ringSize n

/-- A record whose payload is whole receives its LSN and is written; the first of a batch opens it (R650, R655 to R657,
R660). -/
def State.writeRecord (s : State) (a : Append) : State :=
  let n := a.log
  let size := recBytes a.len
  let t := s.rd (LOGX_TAIL n)
  let lsn := s.nextLsn n size
  if s.rd (LOGX_HEAD n) + s.ringSize n < lsn + size then
    ((s.inc (PEN_LOG_COUNT_FULL n)).wr PEN_EVENT_LOG_FULL 1).failAppend a.id stNoResource
  else match (if lsn = t then none else s.firstDenied a.issuer 1 (s.lsnAddr n t) (lsn - t)).or (s.firstDenied a.issuer 1 (s.lsnAddr n lsn) size) with
    | some c => (s.denied c).failAppend a.id stNotPermitted
    | none =>
      let s := if lsn = t then s else
        let pad := lsn - t
        s.storeLines (s.lsnAddr n t) (recordOf t padLength [] pad) (pad / 64)
      let s := s.storeLines (s.lsnAddr n lsn) (recordOf lsn a.len a.payload size) (size / 64)
      let s := if s.rd (LOGX_OPEN_AT n) = 0 then s.wr (LOGX_OPEN_AT n) (s.now + 1) else s
      let s := s.payItem a.issuer (80 * ((lsn + size - t) / 64))
      ((s.wr (LOGX_TAIL n) (lsn + size)).setAppend a.id fun x => { x with lsn := some lsn, batch := s.rd (LOGX_BATCH n) }).restShaper a.issuer

/-- An earlier append of the same path to the same log has no LSN yet (R659). -/
def State.appendBehind (s : State) (a : Append) : Bool :=
  s.pool.appends.any fun x => decide (x.id < a.id) && x.log == a.log && x.cmd.path == a.cmd.path && x.lsn.isNone

/-- The issuer is a gondola that is FREEZING or FROZEN (R751, R761). -/
def State.issuerFrozen (s : State) : Issuer → Bool
  | .g g => s.latches g
  | _ => false

/-- Records of the open batch of log `n`. -/
def State.openBatch (s : State) (n : Nat) : List Append :=
  s.pool.appends.filter fun a => a.log == n && a.lsn.isSome && a.tail.isNone

/-- The batch of log `n` takes a further record: none is open, or the one that is has not ended (R660). -/
def State.batchTakes (s : State) (n : Nat) : Bool :=
  s.rd (LOGX_OPEN_AT n) == 0 || (decide ((s.openBatch n).length < s.rd (PEN_LOG_CFG_MAX_BATCH n))
    && decide (s.now < s.rd (LOGX_OPEN_AT n) - 1 + us * s.rd (PEN_LOG_CFG_WINDOW_US n)))

/-- The payload of append `id` is whole and no earlier append of its path waits: it receives its LSN. A batch that has ended makes it wait
(R660), the checker, in a session (R436), and its gondola's shaper (R488). -/
def State.tryAppend (s : State) (id : Nat) : State :=
  match s.pool.appends.find? fun a => a.id == id with
  | none => s
  | some a =>
    if a.lsn.isNone && a.payload.length == a.len && !s.appendBehind a && !s.checkerHeld && !s.issuerFrozen a.issuer && s.batchTakes a.log then
      let x := s.itemPasses a.issuer
      if x.2 then x.1.writeRecord a else x.1
    else s

/-- Bytes that an item of issuer `i` toward host `h` costs beside its header and payload: the overhead of its port, and a PASID (R307, R490). -/
def State.hostItem (s : State) (i : Issuer) (h : Nat) : Nat := s.hostOverhead h + (if (s.issuerPasid i).isSome then 4 else 0)

/-- The next part of a payload read from the submitter's host, once its gondola's shaper lets the read pass (R199, R226, R488, R658). -/
def State.fetchAppend (s : State) (a : Append) : State :=
  let w := appendWaiter a.id
  match s.issuerHost a.issuer with
  | none => s.failAppend a.id stHwError
  | some h =>
    let at_ := parBytes a.cmd 8 8 + a.payload.length
    let size := min (128 * 2 ^ s.rd (HOSTF_MRRS h)) (min (a.len - a.payload.length) (4096 - at_ % 4096))
    if !s.hostOpen h then s.failAppend a.id stHostDma
    else if s.contained 2 h then s.failAppend a.id stHwError
    else
      let x := s.itemPasses a.issuer
      if !x.2 then x.1
      else match x.1.issue .host h w (issuerSource a.issuer) 0 size (s.rd SYS_ORDER) false none with
        | none => x.1
        | some (tag, s) => ((s.bump SYS_ORDER).payItem a.issuer (16 + s.hostItem a.issuer h)).readHost h at_ size tag (s.issuerPasid a.issuer)

/-- POOL_LOG_APPEND: its one status follows its batch's close (R650, R657 to R659, R712, R879). -/
def execPoolLogAppend (c : Cmd) (s : State) : Host.Outcome State Fault Refusal :=
  let n := parBytes c 0 1
  let inl := parBits c 8 1 == 1
  let len := parBytes c 2 2
  let id := s.rd SYS_ORDER
  let data := if inl then leBytes len (parBytes c 8 len) else []
  let a : Append := ⟨id, n, c, s.issuer c.path, len, data, none, 0, none, none⟩
  let t := s.command 0x060E (s.logGranted n)
    (cleanCmd c ((if inl then [(64, 320)] else [(64, 64)]) ++ [(0, 8), (8, 1), (16, 16)]) false && decide (n < 64) && decide (1 ≤ len)
      && decide (len ≤ 16368) && (!inl || decide (len ≤ 40)))
    (fun _ => firstFail [(!s.on (PEN_LOG_CFG_VALID n), stBadParam), (s.poolBusy, stBusy)]
      (.later id (({ s with pool := { s.pool with appends := s.pool.appends ++ [a] } }).bump SYS_ORDER))) c
  .next (if s.late.length < t.late.length then (if inl then t.tryAppend id else t.fetchAppend a) else t)

/-- Append `a` goes on: its next read, unless one is outstanding or its gondola freezes before the first (R752), or its LSN once its
payload is whole. -/
def State.workAppend (s : State) (a : Append) : State :=
  if a.payload.length < a.len then
    if (s.outst.any fun x => x.waiter == appendWaiter a.id) || (a.payload.isEmpty && s.issuerFrozen a.issuer) then s else s.fetchAppend a
  else s.tryAppend a.id

/-- LOG_PAYLOAD_FETCHED: a whole payload is in engine memory, and its append receives its LSN (R658, R659). An append whose
read waits for a tag asks again. -/
def execLogPayloadFetched (id : Nat) (s : State) : Host.Outcome State Fault Refusal :=
  match s.pool.appends.find? fun a => a.id == id with
  | none => .next s
  | some a => .next (s.workAppend a)

/-- LOG_BATCH_END: COMMIT_WINDOW has passed since the batch opened, or it holds MAX_BATCH records: the header line is stored
and a close of the domain requested; behind a running close the batch's own is the one after it (R660, R661, R664). -/
def execLogBatchEnd (n : Fin 64) (s : State) : Host.Outcome State Fault Refusal :=
  s.event (s.rd (LOGX_OPEN_AT n) != 0 && s.on (PEN_LOG_CFG_VALID n) && !s.checkerHeld) fun s =>
    let full := decide (s.rd (PEN_LOG_CFG_MAX_BATCH n) ≤ (s.openBatch n).length)
    let s := if full then s else s.advTo (s.rd (LOGX_OPEN_AT n) - 1 + us * s.rd (PEN_LOG_CFG_WINDOW_US n))
    let d := s.rd (PEN_LOG_CFG_DOMAIN n)
    let b := s.rd (LOGX_BATCH n)
    let tail := s.rd (LOGX_TAIL n)
    let epoch := s.rd (DDX_EPOCH d) + 1 + b2n (s.closeOf d).isSome
    match s.firstDenied .m 1 (s.rd (LOGX_HEADER n)) 64 with
    | some c => (s.openBatch n).foldl (fun (s : State) a => s.failWaiter (appendWaiter a.id) stNotPermitted)
        ((s.denied c).wrs [(LOGX_OPEN_AT n, 0), (LOGX_BATCH n, b + 1)])
    | none =>
    let s := s.storeLines (s.rd (LOGX_HEADER n)) (headerLine (s.rd (LOGX_HEAD n)) tail epoch (s.rd (LOGX_PREV n)) (s.ringSize n)) 1
    let l := updateAll (fun (a : Append) => a.log == n.val && a.lsn.isSome && a.tail.isNone) (fun (a : Append) => { a with tail := some tail }) s.pool.appends
    let s := { s with pool := { s.pool with appends := l } }
    (s.wrs [(LOGX_OPEN_AT n, 0), (LOGX_BATCH n, b + 1), (LOGX_HDR n, tail)]).requestClose d (.log n b)

/-- The result of an append: LSN, counter after the close, and COMMITTED and DEGRADED (R662). -/
def appendResult (lsn count : Nat) (committed degraded : Bool) : Nat :=
  lsn + count * 2 ^ 64 + (b2n committed + 2 * b2n degraded) * 2 ^ 128

/-- The status of one record after its batch's close (R662, R663). -/
def State.postAppend (s : State) (a : Append) : State :=
  match a.closed with
  | none => s
  | some (deg, ref, count) =>
    let s := { s with pool := { s.pool with appends := s.pool.appends.filter fun x => x.id != a.id } }
    let s := if ref then s else s.inc (PEN_LOG_COUNT_APPENDS a.log)
    s.finishLates 0x060E a.id (if deg then stDegraded else stOk) (appendResult (a.lsn.getD 0) count (!ref) deg)

/-- Appends in LSN order. -/
def byLsn (a : Append) : List Append → List Append
  | [] => [a]
  | x :: t => if a.lsn.getD 0 < x.lsn.getD 0 then a :: x :: t else x :: byLsn a t

/-- LOG_BATCH_STATUS: after the close of the oldest batch of log `n`, one status per record in LSN order (R662, R663). -/
def execLogBatchStatus (n : Fin 64) (s : State) : Host.Outcome State Fault Refusal :=
  match s.pool.appends.find? fun a => a.log == n.val && a.closed.isSome with
  | none => .next s
  | some a =>
    let batch := s.pool.appends.filter fun x => x.log == n.val && x.batch == a.batch && x.closed.isSome
    let deg := (a.closed.getD (false, false, 0)).1
    .next ((batch.foldl (fun l x => byLsn x l) []).foldl (fun s x => s.postAppend x) (s.wr (PEN_LOG_CFG_LAST_DEGRADED n) (b2n deg)))

/-- A read of the LO half of the tail (0), the committed tail (1) or HEAD_LSN (2) of log `n` (R686). -/
def State.readLogLo (s : State) (n which : Nat) : State × Nat :=
  if which = 0 then s.latch (PEN_LOG_TAIL_LO_LSN n) (PEN_LOG_TAIL_HI_LSN n) (s.rd (LOGX_TAIL n))
  else if which = 1 then s.latch (PEN_LOG_COMMIT_LO_LSN n) (PEN_LOG_COMMIT_HI_LSN n) (s.rd (LOGX_PREV n))
  else s.latch (PEN_LOG_HEAD_LO_LSN n) (PEN_LOG_HEAD_HI_LSN n) (s.rd (LOGX_HEAD n))

/-- PEN_LOG_LO_READ (R686). -/
def execPenLogLoRead (n : Fin 64) (which : Fin 3) (s : State) : Host.Outcome State Fault Refusal := giveRead (s.readLogLo n which)

end Sys2Proof.Machine
end

