-- ==== Sys2Proof/Machine/Contain.lean ====
section
/-! DEFINITION. Ripcord containment, the error log, the hosts' error rings and DPC (chapter 11; R901, R902). -/

namespace Sys2Proof.Machine

/-! Domains. -/

/-- Domains of each level (R520): ports, hierarchies, gondolas, windows, nodes. -/
def domCount (level : Nat) : Nat :=
  if level = 1 then 128 else if level = 2 then 48 else if level = 3 then 1024 else if level = 4 then 4096 else if level = 5 then 64 else 0

/-- The count of domains of a level that are not NORMAL. -/
def activeFld (level : Nat) : Fld :=
  if level = 1 then ERR_ACTIVE0_PORT else if level = 2 then ERR_ACTIVE0_HIER else if level = 3 then ERR_ACTIVE0_GONDOLA
  else if level = 4 then ERR_ACTIVE1_WINDOW else ERR_ACTIVE1_NODE

/-- A domain that a command may contain (R520, R950). -/
def State.domExists (s : State) (level i : Nat) : Bool :=
  if level = 1 then s.rd (PRT_CFG_MODE i) == 2 || s.rd (PRT_CFG_MODE i) == 3
  else if level = 2 then (s.hostPort i).isSome
  else if level = 3 then s.on (GND_VALID i)
  else if level = 4 then s.on (WIN_VALID i)
  else s.on MGT_NODE_ID_NODE_VALID && s.rd MGT_NODE_ID_NODE_ID != i

/-- The hosts that a domain names (R517). -/
def State.domHosts (s : State) (level i : Nat) : List Nat :=
  if level = 1 then (s.boundHost i).toList else if level = 2 then [i] else if level = 3 then [s.rd (GND_HOST i)] else []

/-- Window `w` uses a FAILED channel (R568, R570). -/
def State.windowFailed (s : State) (w : Nat) : Bool := s.on (WIN_VALID w) && (s.rd (WIN_CHANNELS w) &&& s.failedMask) != 0

/-! What becomes of traffic (R520). -/

/-- A TLP that the part made discarded by the containment `f`: what is posted is counted, and a request is answered with those that await
completions (R520). -/
def State.fenceOwn (s : State) (t : Tlp) (f : Nat × Nat) : State := if t.kind = .posted then s.bump (DOMX_POSTED (domIdx f.1 f.2)) else s

/-- TLPs that wait for admission and meet `sel` refused by the containment `f`, oldest first; their ingress has its credit back (R317, R323,
R520). -/
def State.fenceWait (s : State) (f : Nat × Nat) (sel : Nat × Tlp → Bool) : State :=
  let l := s.switch.wait.filter sel
  let s := { s with switch := { s.switch with
    wait := s.switch.wait.filter fun w => !sel w
    mcast := s.switch.mcast.filter fun x => !l.any fun w => w.1 == x.1 } }
  (l.foldl (fun (s : State) w => (s.fcReturn w.2.ingress (kindIdx w.2.kind) w.2.payload).fenceTlp w.2 f) s).settleAll

/-- A TLP with place `w.1` waits for admission to an egress queue of port `p`. -/
def State.waitsToward (s : State) (p : Nat) (w : Nat × Tlp) : Bool := w.2.egress.val == p && (s.waitGroup w.1).isNone

/-- Traffic that waits toward port `p`, or at it for its queue, refused by the containment `f`; what has started goes on (R520,
R523). -/
def State.dropToward (s : State) (p : Nat) (f : Nat × Nat) : State :=
  let qs := s.switch.txq.filter fun x => x.queue / 24 == p && !x.started
  let ms := s.switch.made.filter fun m => m.2.1.egress.val == p
  let s := { s with switch := { s.switch with made := s.switch.made.filter fun m => m.2.1.egress.val != p } }
  let s := qs.foldl (fun s x => (if x.own.isSome then s.fenceOwn x.tlp f else s.fenceTlp x.tlp f).dequeue x) s
  let s := ms.foldl (fun (s : State) m => s.fenceOwn m.2.1 f) s
  s.fenceWait f (s.waitsToward p)

/-- Pool accesses that wait unaccepted refused by a containment (R520). -/
def State.dropWaiting (s : State) (level i : Nat) (p : PAcc → Bool) : State :=
  let l := s.pool.waiting.filter p
  let s := { s with pool := { s.pool with waiting := s.pool.waiting.filter fun a => !p a } }
  l.foldl (fun s a => (s.bump (if postedOp a.op then DOMX_POSTED (domIdx level i) else DOMX_NP (domIdx level i))).refuseAcc a cplCA) s

/-- Requests of the SF256 that a containment answers at once, counted (R520). -/
def State.fenceAsked (s : State) (level i : Nat) (p : Outst → Bool) : State :=
  let n := (s.outst.filter fun o => !o.quarantined && p o).length
  (s.wr (DOMX_NP (domIdx level i)) (s.rd (DOMX_NP (domIdx level i)) + n)).abortAll p stHwError

/-- Port level: the link enters Disabled, or the tether DISABLED (R520). -/
def State.fencePort (s : State) (p : Nat) : State :=
  if s.rd (PRT_CFG_MODE p) = 3 then (s.disableTether p).fenceWait (1, p) (s.waitsToward p)
  else ((s.pcieDown p 8).dropToward p (1, p)).fenceAsked 1 p fun o => o.kind == .port && o.target == p

/-- Hierarchy level (R520). -/
def State.fenceHost (s : State) (h : Nat) : State :=
  let s : State := match s.hostPort h with
    | some p =>
      (s.dropToward p (2, h)).fenceWait (2, h) fun w => w.2.ingress.val == p
    | none => s
  (s.dropWaiting 2 h fun a => a.src == h).fenceAsked 2 h fun o => o.kind == .host && o.target == h

/-- Gondola level: a command that waits for its status or stands paused ends with HW_ERROR; the others end at their next step
boundary (R520). -/
def State.fenceGond (s : State) (g : Nat) : State :=
  let s := s.wr (GND_CONTAINED g) 1
  let lates := s.late.filter fun l => s.issuer l.cmd.path == Issuer.g g
  let s := { s with pool := { s.pool with appends := s.pool.appends.filter fun (a : Append) => a.issuer != Issuer.g g } }
  let s := lates.foldl (fun s l => s.finishLate l stHwError 0) s
  (s.ops.filter fun o => o.issuer == .g g && o.paused && o.final.isNone).foldl (fun s o => s.endOp o.handle stHwError 0) s

/-- Window level: reservations cleared, and what waits refused (R520). -/
def State.fenceWindow (s : State) (w : Nat) : State :=
  let keep := s.pool.resv.filter fun r => !s.inWindow w r.line 1
  ({ s with pool := { s.pool with resv := keep } }.wr ORD_STATUS_RESV_USED keep.length).dropWaiting 4 w fun a => a.window == w

/-- Whole TLPs toward node `n` that wait on a tether's transmit stage leave it. -/
def State.dropUnits (s : State) (n : Nat) : State :=
  let begun := fun (u : Staged) => s.tether.unacked.any fun v => v.port == u.port && v.segs.any fun x =>
    x.order == u.unit.order && x.body == u.unit.body && x.dst == u.unit.dst && !x.eop
  let gone := s.tether.sendq.filter fun u => u.unit.dst == n && !begun u
  let s := { s with tether := { s.tether with sendq := s.tether.sendq.filter fun u => !gone.contains u } }
  gone.foldl (fun s u => s.dropUnit u.port u.unit) s

/-- Node level: traffic held toward the node is handled as at a grace expiry, and its route is not valid (R289, R413, R520). -/
def State.fenceNode (s : State) (n : Nat) : State :=
  let qs := s.switch.txq.filter fun x => x.tlp.dest.map (fun (d : Node) => d.val) == some n && !x.started
  let s := qs.foldl (fun s x => s.dropQueued (x.queue / 24) x) s
  let s := s.dropMade fun t => t.dest.map (fun (d : Node) => d.val) == some n
  let s := s.fenceWait (5, n) fun w => w.2.dest.map (fun (d : Node) => d.val) == some n
  let s := (s.dropUnits n).dropWaiting 5 n fun a => a.src == 64 + n
  let stores := s.outst.filter fun o => o.kind == .node && o.target == n && o.store
  let s := stores.foldl (fun s o => (s.countDiscard o.src 0).endReq o) s
  ((s.fenceAsked 5 n fun o => o.kind == .node && o.target == n).wr (NRT_VALID n) 0).breakPeer n

/-- What a containment of a domain does to its traffic (R520). -/
def State.fence (s : State) (level i : Nat) : State :=
  if level = 1 then s.fencePort i else if level = 2 then s.fenceHost i else if level = 3 then s.fenceGond i
  else if level = 4 then s.fenceWindow i else s.fenceNode i

/-! The states of a domain (R525). -/

/-- A trigger on a domain in NORMAL: CONTAINED, and with AUTO at once RELEASING (R525, R529). -/
def State.startContain (s : State) (level i sev : Nat) (dpc : Bool) : State :=
  let k := domIdx level i
  let auto := sev == 2 && bitSet (s.rd ERR_CFG_AUTO_RELEASE) (level - 1)
  let s := s.wrs [(DOM_STATE k, if auto then 2 else 1), (DOM_SEV k, sev), (DOM_ESCALATED k, 0), (DOM_AUTO k, b2n auto), (DOM_DPC k, b2n dpc),
    (DOM_EXTEND_COUNT k, 0), (DOM_TRIGGER_TIME k, s.ft), (DOMX_HOLD_END k, s.now + ms * s.rd ERR_CFG_HOLD_MS), (DOMX_CUT k, s.rd SYS_ORDER),
    (DOMX_POSTED k, 0), (DOMX_NP k, 0), (DOMX_RELREQ k, 0), (ERR_EVENT_CONTAIN_START, 1)]
  ((s.bump (activeFld level)).record 173 0x0801 level i 0 0 []).fence level i

/-- Escalation: a FATAL event on a domain whose SEV is NONFATAL (R528). -/
def State.escalate (s : State) (level i : Nat) : State :=
  let k := domIdx level i
  let req := s.rd (DOMX_RELREQ k)
  let s := s.wrs [(DOM_SEV k, 3), (DOM_ESCALATED k, 1), (DOM_AUTO k, 0), (DOM_STATE k, 1), (DOMX_RELREQ k, 0), (ERR_EVENT_ESCALATED, 1)]
  let s := s.record 173 0x0803 level i 0 0 []
  if req = 0 then s else s.finishOp req stBusy 0

/-- An extension of the containment of a domain by an event of severity `sev` (R527, R528). -/
def State.extend (s : State) (level i sev : Nat) : State :=
  let k := domIdx level i
  let s := (s.inc (DOM_EXTEND_COUNT k)).record 173 0x0802 level i 0 0 []
  if sev = 3 ∧ s.rd (DOM_SEV k) = 2 then s.escalate level i else s

/-- A code starts the containment of a domain of a level (R519). -/
def codeStarts (code level : Nat) : Bool :=
  (code == 0x0204 && level == 2) || (code == 0x0304 && level == 5) || (code == 0x0903 && level == 4) || (code == 0x0B01 && level == 3)

/-- The domains that a record concerns: for a failed channel every window that uses it (R519, R568). -/
def State.recDomains (s : State) (r : Rec) : List (Nat × Nat) :=
  if r.code = 0x0903 then
    ((s.listed (WIN_VALID 0).key 256 4096).filter fun w => bitSet (s.rd (WIN_CHANNELS w)) (r.detail % 256)).map fun w => (4, w)
  else [(r.level, r.dom)]

/-- DPC is enabled at port `p` and may trigger (R532, R535). -/
def State.dpcArmed (s : State) (p : Nat) : Bool := s.rd (PRT_CFG_MODE p) == 2 && s.on (PRTX_DPC_EN p) && !s.contained 1 p

/-- The DPC of port `p` triggers on an uncorrectable error of severity `sev` whose AER status bits are `v`: at a position that binds the port, the
error is not masked and DPC Trigger Enable covers its severity, 1 ERR_FATAL alone and 2 ERR_NONFATAL as well (R195, R519, R532). -/
def State.dpcCovers (s : State) (p sev v : Nat) : Bool :=
  s.boundPos.any fun k => s.rd (POS_PORT k) == p && s.rd (BFX_UNCMASK (vbBank k)) &&& v == 0
    && (s.rd (POSX_DPCCTL k) % 4 == 2 || (s.rd (POSX_DPCCTL k) % 4 == 1 && sev == 3))

/-- A record acts on one domain: it extends a containment, or starts one, by DPC for an error that the port itself detects (R519, R525, R527,
R532, R536, R538). -/
def State.actOn (s : State) (r : Rec) (x : Nat × Nat) : State :=
  let s := if r.code = 0x0903 then s.captureFirst { r with level := x.1, dom := x.2 } else s
  if s.contained x.1 x.2 then s.extend x.1 x.2 r.sev
  else if codeStarts r.code x.1 then s.startContain x.1 x.2 r.sev false
  else if r.code = 0x0202 ∧ x.1 = 1 ∧ s.dpcArmed x.2 = true ∧ s.dpcCovers x.2 r.sev (r.detail / 2 ^ 288 % 2 ^ 32) = true then
    (s.wrs [(PRTX_DPC_STATUS x.2, 1), (PRTX_DPC_REASON x.2, 0), (PRT_EVENT_DPC_TRIGGERED x.2, 1)]).startContain 1 x.2 r.sev true
  else s

/-- The error unit acts on every record created so far that may contain, in their order (R513, R524). -/
def State.settle (s : State) : State :=
  s.trig.foldl (fun s r => (s.recDomains r).foldl (fun s x => s.actOn r x) s) { s with trig := [] }

/-- Containment of a domain asked for, with severity `sev` (R525, R531). -/
def State.contain (s : State) (level i sev : Nat) (dpc : Bool) : State :=
  let s := s.settle
  if s.contained level i then s.extend level i sev else s.startContain level i sev dpc

/-- A release request (R525, R526). -/
def State.requestRelease (s : State) (level i : Nat) : State :=
  if s.domState level i = 1 then s.wr (DOM_STATE (domIdx level i)) 2 else s

/-- The ERROR_RELEASE of a domain is withdrawn (R950). -/
def State.withdrawRelease (s : State) (level i : Nat) : State :=
  let k := domIdx level i
  let s := s.wr (DOMX_RELREQ k) 0
  if s.rd (DOM_STATE k) = 2 ∧ s.rd (DOM_AUTO k) = 0 then s.wr (DOM_STATE k) 1 else s

/-- OLD_COUNT of a domain (R523): requests admitted before the containment that have not finished. -/
def State.oldCount (s : State) (level i : Nat) : Nat :=
  let cut := s.rd (DOMX_CUT (domIdx level i))
  let no := fun (_ : Nat) => false
  let wb := fun (p : WbEnt → Bool) => (s.pool.wb.filter fun e => decide (e.seq < cut) && p e).length
  let accs := fun (p : PAcc → Bool) => ((s.pool.queue ++ s.pool.waiting).filter fun a => decide (a.seq < cut) && p a).length
  if level = 1 then s.unfinished false cut no (fun p => p == i) no
  else if level = 2 then s.unfinished false cut (fun h => h == i) no no + wb fun e => e.src == i
  else if level = 3 then
    (accs fun a => a.src == s.rd (GND_HOST i) && a.pasid == some (s.rd (GND_PASID i)))
      + (s.outst.filter fun o => !o.quarantined && decide (o.seq < cut) && (o.src == 1024 + i
          || (o.src == s.rd (GND_HOST i) && o.pasid == some (s.rd (GND_PASID i))))).length
      + (s.switch.txq.filter fun x => decide (x.order < cut) && x.own.isNone && x.tlp.host == s.rd (GND_HOST i)
          && x.tlp.pasid == some (s.rd (GND_PASID i))).length
  else if level = 4 then (wb fun e => e.window == i) + accs fun a => a.window == i
  else s.unfinished false cut no no (fun n => n == i) + wb fun e => e.src == 64 + i

/-- What release does at its level: a tether trains from DETECT, and a link leaves Disabled (R520, R534). -/
def State.unfence (s : State) (level i : Nat) : State :=
  if level = 1 then
    if s.rd (PRT_CFG_MODE i) = 3 then (if s.on (PRTX_OFF i) then s else s.trainAnew i)
    else
      let s := s.wrs [(PRTX_DPC_STATUS i, 0), (PRTX_DPC_REASON i, 0)]
      if s.on (PRTX_OFF i) then s.linkView i else s.pcieDown i 0
  else if level = 3 then s.wr (GND_CONTAINED i) 0
  else s

/-- A domain returns to NORMAL (R525, R531). -/
def State.releaseDom (s : State) (level i : Nat) : State :=
  let k := domIdx level i
  let req := s.rd (DOMX_RELREQ k)
  let s := s.wrs [(DOM_STATE k, 0), (DOM_AUTO k, 0), (DOM_SEV k, 0), (DOM_ESCALATED k, 0), (DOM_DPC k, 0), (DOMX_RELREQ k, 0),
    (DOM_CGEN k, s.rd (DOM_CGEN k) + 1), (ERR_EVENT_CONTAIN_RELEASE, 1)]
  let s := (s.dec (activeFld level)).record 173 0x0804 level i 0 (detG (s.rd (DOMX_POSTED k)) (s.rd (DOMX_NP k))) []
  let s := s.unfence level i
  (if req = 0 then s else s.finishOp req stOk 0).retryHeld.release

/-- CONTAINMENT_HOLD_EXPIRE: the hold timer of a contained domain ends (R525). -/
def execContainmentHoldExpire (level : Fin 6) (i : Fin 4096) (s : State) : Host.Outcome State Fault Refusal :=
  s.event (s.contained level i && decide (i.val < domCount level)) fun s => s.advTo (s.rd (DOMX_HOLD_END (domIdx level i)))

/-- CONTAINMENT_RELEASE: a domain in RELEASING whose hold timer has expired, whose OLD_COUNT is 0 and, for a window, none of whose
channels is FAILED (R525, R547, R570). -/
def execContainmentRelease (level : Fin 6) (i : Fin 4096) (s : State) : Host.Outcome State Fault Refusal :=
  s.event (decide (i.val < domCount level) && s.domState level i == 2 && decide (s.rd (DOMX_HOLD_END (domIdx level i)) ≤ s.now)
      && s.oldCount level i == 0 && !(level.val == 4 && s.windowFailed i)) fun s => s.releaseDom level i

/-! ERROR commands. -/

/-- The parameters of a command name a domain. -/
def domOk (c : Cmd) : Bool := decide (parBytes c 2 2 < domCount (parBytes c 0 1))

/-- ERROR_CONTAIN (R525, R527, R528, R531, R950). -/
def execErrorContain (c : Cmd) (s : State) : Host.Outcome State Fault Refusal :=
  let l := parBytes c 0 1
  let i := parBytes c 2 2
  .next (s.command 0x0A01 onlyM (cleanCmd c [(0, 8), (16, 16)] true && domOk c)
    (fun _ => if s.domExists l i then .ok 0 (s.contain l i (if opFlag c then 3 else 2) false) else .fail stBadParam) c)

/-- The opcode of ERROR_RELEASE. -/
def opRelease : Nat := 0x0A02

/-- ERROR_RELEASE, a long operation whose handle the domain keeps (R525, R526, R531, R570). -/
def execErrorRelease (c : Cmd) (s : State) : Host.Outcome State Fault Refusal :=
  let l := parBytes c 0 1
  let i := parBytes c 2 2
  let k := domIdx l i
  .next (s.command opRelease onlyM (cleanCmd c [(0, 8), (16, 16)] false && domOk c)
    (fun _ => firstFail
      [(!s.contained l i, stBadParam), (s.rd (DOMX_RELREQ k) != 0, stBusy), (l == 4 && s.windowFailed i, stBusy)]
      (.long 0 1 0 0 ((s.requestRelease l i).wr (DOMX_RELREQ k) s.nextHandle))) c)

/-- ERROR_CFG_SET (R529, R539). -/
def execErrorCfgSet (c : Cmd) (s : State) : Host.Outcome State Fault Refusal :=
  let hold := parBytes c 0 2
  let fab := parBytes c 4 2
  .next (s.command 0x0A03 onlyM (cleanCmd c [(0, 16), (16, 5), (32, 16)] false && decide (1 ≤ hold) && decide (hold ≤ 1000) && decide (1 ≤ fab)
      && decide (fab ≤ 1000))
    (fun _ => .ok 0 (s.wrs [(ERR_CFG_HOLD_MS, hold), (ERR_CFG_AUTO_RELEASE, parBits c 16 5), (ERR_CFG_FABRIC_TIMEOUT_MS, fab)])) c)

/-- ERROR_TIMEOUT_SET (R539). -/
def execErrorTimeoutSet (c : Cmd) (s : State) : Host.Outcome State Fault Refusal :=
  let p := parBytes c 0 1
  .next (s.command 0x0A04 onlyM (cleanCmd c [(0, 8), (8, 8)] false && decide (p < 128) && decide (parBytes c 1 1 < 16))
    (fun _ => .ok 0 (s.wr (ERR_PORT_CTO_DS_TIMEOUT p) (parBytes c 1 1))) c)

/-- ERROR_FIRST_CLEAR (R537). -/
def execErrorFirstClear (c : Cmd) (s : State) : Host.Outcome State Fault Refusal :=
  let k := domIdx (parBytes c 0 1) (parBytes c 2 2)
  .next (s.command 0x0A05 onlyM (cleanCmd c [(0, 8), (16, 16)] false && domOk c)
    (fun _ => .ok 0 ((s.wr (DOM_FIRST k) 0).wr (DOM_FIRST_VALID k) 0)) c)

/-- The error log emptied (R516). -/
def State.clearLog (s : State) : State :=
  (s.clearRange 0x390000 0x10000).wrs [(ERR_STATUS_LOG_WR, 0), (ERR_LOG_RD_LOG_RD, 0), (ERRL_UNREAD, 0)]

/-- ERROR_LOG_CLEAR (R516). -/
def execErrorLogClear (c : Cmd) (s : State) : Host.Outcome State Fault Refusal :=
  .next (s.command 0x0A06 onlyM (cleanCmd c [] false) (fun _ => .ok 0 s.clearLog) c)

/-! The log and the host rings. -/

/-- The 64 bytes of a record, in the layout of R507, written to the error log, over the oldest unread one when the ring is full (R514). -/
def State.logRaw (s : State) (enc : Nat) : State :=
  let w := s.rd ERR_STATUS_LOG_WR
  let s := if s.rd ERRL_UNREAD = 1024 then ((s.inc ERR_LOG_LOST_LOG_LOST).wr ERR_STATUS_LOG_WRAP 1).wr ERR_LOG_RD_LOG_RD (w + 1)
    else s.bump ERRL_UNREAD
  (s.wr (ERR_LOG_RECORD w) enc).wr ERR_STATUS_LOG_WR (w + 1)

/-- A record written to the error log (R514). -/
def State.logWrite (s : State) (r : Rec) : State := s.logRaw r.enc

/-- The codes whose detail layout is T (R519). -/
def layoutT (code : Nat) : Bool :=
  code ∈ [0x0201, 0x0202, 0x0203, 0x0204, 0x0205, 0x0206, 0x0207, 0x0303, 0x0402, 0x0403, 0x0404, 0x0407, 0x0501, 0x0502, 0x0503, 0x0504, 0x0A03]

/-- AER bits of function 1: Corrected Internal Error and Uncorrectable Internal Error. -/
def aerCorInternal : Nat := 14
/-- Uncorrectable Internal Error. -/
def aerUncInternal : Nat := 22

/-- A record written to host `h`'s error ring and reported in the AER of its function 1 (R505, R506, R518, R902). -/
def State.hostRecord (s : State) (h : Nat) (r : Rec) : State :=
  let w := s.rd (HV_ERR_INDEX_WR h)
  let s := (s.wr (HV_ERR_RING h (w % 32)) r.enc).wr (HV_ERR_INDEX_WR h) (w + 1)
  if r.sev = 1 then s.aerCor h aerCorInternal
  else if 2 ≤ r.sev then s.aerUnc h aerUncInternal (if layoutT r.code then bits r.detail 160 128 else 0)
  else s

/-- The hosts that a record concerns (R517). -/
def State.recHosts (s : State) (r : Rec) : List Nat := (s.domHosts r.level r.dom ++ r.hosts).foldl (fun l h => insertNat h l) []

/-- The `i`-th waiting record leaves its queue. -/
def State.dequeueRec (s : State) (i : Nat) (r : Rec) : State :=
  let s := { s with errq := s.errq.eraseIdx i }
  (s.wr (ERR_SRC_DEPTH r.source) (s.srcDepth r.source)).wr ERR_STATUS_BACKLOG (b2n (!s.errq.isEmpty))

/-- ERROR_RECORD_TAKE: the error unit acts on the records created (R524), and the error firmware takes the `i`-th waiting one, the
first of its source and of its domain, into the log and the rings of the hosts it concerns (R513, R514, R518). -/
def execErrorRecordTake (i : Nat) (s : State) : Host.Outcome State Fault Refusal :=
  let s := s.settle
  match s.errq[i]? with
  | none => .next s
  | some r => s.event ((s.errq.take i).all fun x => x.source != r.source && (x.level != r.level || x.dom != r.dom)) fun s =>
      (s.recHosts r).foldl (fun s h => s.hostRecord h r) ((s.dequeueRec i r).logWrite r)

/-- ERR_DOM_GO: a snapshot of a containment domain (R525, R536). -/
def execErrDomGo (v : BitVec 31) (s : State) : Host.Outcome State Fault Refusal :=
  let l := v.toNat % 8
  let i := v.toNat / 8 % 4096
  let s := s.wrs [(ERR_DOM_SEL_LEVEL, l), (ERR_DOM_SEL_INDEX, i), (ERR_DOM_STATUS_DONE, 0), (SNAPX_DUE, setBit (s.rd SNAPX_DUE) 3)]
  .next (if domCount l ≤ i then (s.forN (fun k s => s.wr (ERR_DOM_DATA_WORD k) 0) 20).wr ERR_DOM_STATUS_BAD_INDEX 1
    else ((s.wr ERR_DOM_STATUS_BAD_INDEX 0).wr (DOM_OLD_COUNT (domIdx l i)) (if s.contained l i then s.oldCount l i else 0)).snapshot domLayout
      (domAddr (domIdx l i)) ERR_DOM_DATA_WORD 20)

/-! DPC. -/

/-- DPC triggers on port `p`, with a Trigger Reason of the standard: 0 an uncorrectable error, 1 ERR_NONFATAL and 2 ERR_FATAL received,
3 software; `fatal` is the severity of what triggers it. A received message is itself recorded (R525, R532, R533, R535). -/
def State.dpc (s : State) (p reason : Nat) (fatal : Bool) (rec_ : State → State) : State :=
  let s := s.settle
  let s := { rec_ s with trig := [] }
  let s := s.wrs [(PRTX_DPC_STATUS p, 1), (PRTX_DPC_REASON p, reason), (PRT_EVENT_DPC_TRIGGERED p, 1)]
  s.startContain 1 p (if fatal then 3 else 2) true

/-- DPC_TRIGGER (R532, R533). -/
def execDpcTrigger (p : Port) (reason : Fin 4) (fatal : Bool) (s : State) : Host.Outcome State Fault Refusal :=
  s.event (s.dpcArmed p) fun s => s.dpc p reason (reason == 2 || reason != 1 && fatal) fun s =>
    if reason = 1 then s.recSev 2 p 0x0202 1 p 0 0 [] else if reason = 2 then s.recSev 3 p 0x0202 1 p 0 0 [] else s

/-- DPC_TRIGGER_STATUS_WRITE: host `h` writes 1 to DPC Trigger Status at its position of port `p`; on an exclusive port that DPC
contained this requests release (R526, R533, R534). -/
def execDpcTriggerStatusWrite (h : Host) (p : Port) (s : State) : Host.Outcome State Fault Refusal :=
  s.event (s.boundHost p == some h.val && s.on (DOM_DPC (domIdx 1 p))) fun s => s.requestRelease 1 p

end Sys2Proof.Machine
end

