-- ==== Sys2Proof/Machine/Gondola.lean ====
section
/-! DEFINITION. Gondolas (chapter 16): creation and quotas, freeze and thaw, the migration image, reset and removal, and the
copies of the gondola table. -/

namespace Sys2Proof.Machine

/-! Creation (R733 to R735). -/

/-- What a creation or a restore draws: host, number or 0xFFFF, PASID, quotas, share, limit, shaper and pool quota in bytes. -/
structure Draw where
  host : Nat
  gond : Nat
  pasid : Nat
  spools : Nat
  rules : Nat
  share : Nat
  ops : Nat
  shaped : Bool
  rate : Nat
  burst : Nat
  pool : Nat
  deriving DecidableEq, Repr

/-- Every gondola that is not FREE. -/
def State.gonds (s : State) : List Nat := s.listed (GND_VALID 0).key 256 1024

/-- Each value lies in its range (R733, R734). -/
def State.drawInRange (s : State) (d : Draw) : Bool :=
  decide (d.host < 48) && (d.gond == 0xFFFF || decide (d.gond < 1024)) && decide (d.pasid < 2 ^ 20) && decide (d.spools ≤ 512)
    && decide (d.rules ≤ 8192) && decide (1 ≤ d.share) && decide (d.share ≤ 1024) && decide (1 ≤ d.ops) && decide (d.ops ≤ 64)
    && (!d.shaped || decide (1 ≤ d.rate) && decide (d.rate ≤ 512000)) && d.pool % 4096 == 0 && decide (d.pool ≤ s.poolUsable)

/-- The number that a draw takes: the named one, or the lowest free one. -/
def State.drawNumber (s : State) (d : Draw) : Option Nat :=
  if d.gond = 0xFFFF then findFrom (fun g => !s.on (GND_VALID g)) 0 1024 else some d.gond

/-- The lowest free BAR4 slot of host `h` (R733). -/
def State.freeSlot (s : State) (h : Nat) : Option Nat := findFrom (fun j => s.rd (HB4_GOND h j) == 0) 0 512

/-- The checks of R734 on a draw: host, number and PASID, then the pools it draws from. -/
def State.drawChecks (s : State) (d : Draw) : List (Bool × Nat) :=
  [(!s.drawInRange d || (s.hostPort d.host).isNone, stBadParam),
   ((d.gond != 0xFFFF && s.on (GND_VALID d.gond)) || (s.gondOf d.host d.pasid).isSome, stOverlap),
   ((s.drawNumber d).isNone || (s.freeSlot d.host).isNone, stNoResource),
   (decide (32768 < s.rd QUOTA_SPOOLS + s.rd QUOTA_HOSTSPOOLS + d.spools), stNoResource),
   (decide (8192 < s.rd QUOTA_RULES + d.rules), stNoResource),
   (decide (s.poolUsable < 4096 * s.rd QUOTA_POOL + d.pool), stNoResource),
   (d.shaped && s.spareShaper.isNone, stNoResource)]

/-- Gondola `g` made in BAR4 slot `slot` from a draw, in state `st`. -/
def State.makeGondAt (s : State) (d : Draw) (g st slot : Nat) : State :=
  let sh := if d.shaped then s.spareShaper else none
  let s := s.wrs [(GND_VALID g, 1), (GND_STATE g, st), (GND_HOST g, d.host), (GND_SLOT g, slot), (GND_SHAPER_VALID g, b2n sh.isSome),
    (GND_SHAPER g, sh.getD 0), (GND_PASID g, d.pasid), (GND_OP_LIMIT g, d.ops), (GND_CONTAINED g, b2n (s.contained 3 g)),
    (GND_SPOOL_QUOTA g, d.spools), (GND_RULE_QUOTA g, d.rules), (GND_ENG_SHARE g, d.share), (GND_POOL_QUOTA g, d.pool / 4096),
    (HB4_GOND d.host slot, g + 1), (QUOTA_SPOOLS, s.rd QUOTA_SPOOLS + d.spools), (QUOTA_RULES, s.rd QUOTA_RULES + d.rules),
    (QUOTA_POOL, s.rd QUOTA_POOL + d.pool / 4096)]
  let s := (s.bump YCP_GND_COUNT_USED).resetMailbox (49 + g)
  match sh with
  | some i => s.allotShaper i 3 0 0 g d.rate d.burst
  | none => s

/-- Gondola `g` made from a draw that passed its checks, in the lowest free slot. -/
def State.makeGond (s : State) (d : Draw) (g st : Nat) : State := s.makeGondAt d g st ((s.freeSlot d.host).getD 0)

/-! The copies of the gondola table (R769). -/

/-- The newer valid copy, when there is one (R447, R769). -/
def State.lastGond (s : State) : Option Tables :=
  let a := s.bridle.gondA
  let b := s.bridle.gondB
  if a.ok && b.ok then some (if newer b.gen a.gen then b else a) else if a.ok then some a else if b.ok then some b else none

/-- A bit address belongs to the gondola table or to a gondola's shaper. -/
def State.gondKey (s : State) (k : Nat) : Bool :=
  (decide (8 * gndAddr 0 ≤ k) && decide (k < 8 * gndAddr 1024))
    || (decide (8 * shpAddr 0 ≤ k) && decide (k < 8 * shpAddr 4096) && s.rd (SHP_KIND ((k / 8 - shpAddr 0) / 32)) == 3)
    || ((List.range 1024).any fun g => s.on (GND_SHAPER_VALID g) && k == (SHPX_RATE (s.rd (GND_SHAPER g))).key)

/-- The gondola table written to the copy that is older or not valid, unless no copy may be written (R445, R769, R947). -/
def State.saveGond (s : State) : State :=
  if s.noSave then s
  else
    let gen := match s.lastGond with
      | some t => (t.gen + 1) % 65536
      | none => 0
    let t : Tables := ⟨gen, 0, s.regs.filter fun e => s.gondKey e.1, true⟩
    let toA := !s.bridle.gondA.ok || (s.bridle.gondB.ok && newer s.bridle.gondB.gen s.bridle.gondA.gen)
    { s with bridle := if toA then { s.bridle with gondA := t } else { s.bridle with gondB := t } }

/-- The draw that GONDOLA_CREATE asks for. -/
def drawOfCmd (c : Cmd) : Draw :=
  ⟨parBytes c 0 1, parBytes c 2 2, parBits c 32 20, parBytes c 8 2, parBytes c 10 2, parBytes c 12 2, parBytes c 14 1, parBits c 120 1 == 1,
    parBytes c 16 4, parBytes c 20 2, parBytes c 24 8⟩

/-- GONDOLA_CREATE (R733 to R735, R769). -/
def execGondolaCreate (c : Cmd) (s : State) : Host.Outcome State Fault Refusal :=
  let d := drawOfCmd c
  let g := (s.drawNumber d).getD 0
  .next (s.command 0x0701 onlyM
    (cleanCmd c [(0, 8), (16, 16), (32, 20), (64, 16), (80, 16), (96, 16), (112, 8), (120, 1), (128, 32), (160, 16), (192, 64)] false)
    (fun _ => firstFail (s.drawChecks d)
      (.ok (g + (if d.shaped then (s.spareShaper.getD 0) * 2 ^ 16 else 0)) (s.makeGond d g 1).saveGond)) c)

/-! Freeze and thaw. -/

/-- Opcodes of the long GONDOLA commands. -/
def opDestroy : Nat := 0x0702
/-- GONDOLA_RESET. -/
def opReset : Nat := 0x0703
/-- GONDOLA_FREEZE. -/
def opFreeze : Nat := 0x0704
/-- GONDOLA_SAVE. -/
def opSave : Nat := 0x0706
/-- GONDOLA_RESTORE. -/
def opRestore : Nat := 0x0707

/-- The running operation of one of the opcodes `l` on gondola `g`. -/
def State.gondOp (s : State) (l : List Nat) (g : Nat) : Option Op :=
  s.ops.find? fun o => o.final.isNone && l.contains o.opcode && parBytes o.cmd 0 2 == g

/-- A gondola's state is one of `l`. -/
def State.gondIn (s : State) (g : Nat) (l : List Nat) : Bool := l.contains (s.rd (GND_STATE g))

/-- GONDOLA_FREEZE, a long operation (R749, R751). -/
def execGondolaFreeze (c : Cmd) (s : State) : Host.Outcome State Fault Refusal :=
  let g := parBytes c 0 2
  .next (s.command opFreeze onlyM (cleanCmd c [(0, 16)] false && decide (g < 1024))
    (fun _ => if s.gondIn g [1] then .long 0 1 0 0 (s.wr (GND_STATE g) 2) else .fail stBusy) c)

/-- Long operations of gondola `g` without a final status, but for a reset of it. -/
def State.opsOf (s : State) (g : Nat) : List Op :=
  s.ops.filter fun o => o.final.isNone && o.issuer == Issuer.g g && !(o.opcode == opReset && parBytes o.cmd 0 2 == g)

/-- Commands of gondola `g` that wait to post their one status. -/
def State.latesOf (s : State) (g : Nat) : List Late := s.late.filter fun l => s.issuer l.cmd.path == Issuer.g g

/-- Requests that the SF256 issued for gondola `g` and that have not ended (R752, R764). -/
def State.asksOf (s : State) (g : Nat) : List Outst := s.outst.filter fun o => !o.quarantined && o.src == 1024 + g

/-- The appends of gondola `g` without an LSN. -/
def State.stoppedAppends (s : State) (g : Nat) : List Append :=
  s.pool.appends.filter fun (a : Append) => a.issuer == Issuer.g g && a.lsn.isNone

/-- FREEZING may end (R752): an item at the shaper is part of a step that has not begun, and an append without an LSN stands before its
payload fetch or with it complete. -/
def State.quiesced (s : State) (g : Nat) : Bool :=
  ((s.stoppedAppends g).all fun a => a.payload.length == 0 || a.payload.length == a.len) && ((s.latesOf g).all fun l => l.opcode == 0x060E && (s.stoppedAppends g).any fun a => a.id == l.obj)
    && ((s.opsOf g).all fun o => o.paused) && (s.asksOf g).isEmpty

/-- GONDOLA_QUIESCED (R749, R752, R769). -/
def execGondolaQuiesced (g : Gond) (s : State) : Host.Outcome State Fault Refusal :=
  s.event (s.gondIn g [2] && s.quiesced g) fun s =>
    let s := (s.wr (GND_STATE g) 3).saveGond
    match s.gondOp [opFreeze] g with
    | some o => s.finishOp o.handle stOk 0
    | none => s

/-- The latched doorbells of gondola `g` act (R750, R751). -/
def State.applyLatches (s : State) (g : Nat) : State :=
  s.forN (fun d s =>
    if s.on (GDB_LATCHED g d) then
      let v := s.rd (GDB_LATCH g d)
      let s := s.wrs [(GDB_LATCH g d, 0), (GDB_LATCHED g d, 0)]
      if s.rd (GDB_SPOOL g d) = 0 then s else s.ringDoorbell (s.rd (GDB_SPOOL g d) - 1) v
    else s) 512

/-- The paused operations of gondola `g` resume. -/
def State.resumeOps (s : State) (g : Nat) : State :=
  { s with ops := updateAll (fun o => o.issuer == Issuer.g g) (fun o => { o with paused := false }) s.ops }

/-- Gondola `g`'s stopped appends go on. -/
def State.resumeAppends (s : State) (g : Nat) : State := (s.stoppedAppends g).foldl (fun s a => s.workAppend a) s

/-- GONDOLA_THAW (R749 to R751, R761, R763, R769). -/
def execGondolaThaw (c : Cmd) (s : State) : Host.Outcome State Fault Refusal :=
  let g := parBytes c 0 2
  .next (s.command 0x0705 onlyM (cleanCmd c [(0, 16)] false && decide (g < 1024))
    (fun _ =>
      if !s.gondIn g [3] then .fail stBadParam
      else if (s.gondOp [opSave] g).isSome then .fail stBusy
      else
        let h := s.rd (GND_HOST g)
        let t := s.wr (GND_STATE g) 1
        let t := if t.hostOpen h then t.deliverHeld h else t
        .ok 0 ((((t.applyLatches g).resumeOps g).resumeAppends g).saveGond)) c)

/-! The migration image (R755 to R761). -/

/-- The CRC-64 of R671 of bytes. -/
def crc64Of (l : List (BitVec 8)) : Nat := crc64 (2 ^ 64 - 1) l ^^^ (2 ^ 64 - 1)

/-- The 64 bytes of a command packet (R687). -/
def cmdBytes (opcode : Nat) (c : Cmd) : List (BitVec 8) :=
  leBytes 2 opcode ++ leBytes 2 c.tag.toNat ++ leBytes 4 c.flags.toNat ++ leBytes 56 c.params.toNat

/-- The opcode and command that 64 bytes of a packet spell (R687). -/
def cmdOfBytes (p : Path) (l : List (BitVec 8)) : Nat × Cmd :=
  (leNat (l.take 2), ⟨p, BitVec.ofNat 16 (leNat ((l.drop 2).take 2)), BitVec.ofNat 32 (leNat ((l.drop 4).take 4)),
    BitVec.ofNat 448 (leNat ((l.drop 8).take 56))⟩)

/-- A record of the image, with its header (R757). -/
def imgRec (typ arg : Nat) (body : List (BitVec 8)) : List (BitVec 8) :=
  leBytes 1 typ ++ leBytes 1 0 ++ leBytes 2 (8 + body.length) ++ leBytes 4 arg ++ body

/-- The path of a command in an image record: 0xFFFF for the mailbox, otherwise its spool's doorbell slot (R757). -/
def State.imgPath (s : State) : Path → Nat
  | .spool n => s.rd (SPL_DB_SLOT n)
  | _ => 0xFFFF

/-- The mailbox record (R757). -/
def State.imgMailbox (s : State) (g : Nat) : List (BitVec 8) :=
  let m := 49 + g
  let b := mbxBase m
  imgRec 1 0 (leBytes 4 (s.readWord (b + 0xC00)) ++ leBytes 4 (s.readWord (b + 0xC04)) ++ leBytes 4 (s.readWord (b + 0xC08))
    ++ leBytes 4 (s.readWord (b + 0xC0C)) ++ ((List.range 32).flatMap fun k => leBytes 64 (s.rd (YCP_MBX_REQ_SLOT m k)))
    ++ ((List.range 32).flatMap fun k => leBytes 32 (s.rd (YCP_MBX_RSP_SLOT m k))))

/-- The record of spool `n` (R757). -/
def State.imgSpool (s : State) (n : Nat) : List (BitVec 8) :=
  imgRec 2 0 (leBytes 1 (s.rd (SPL_KIND n)) ++ leBytes 1 (s.rd (SPL_SIZE_LOG2 n)) ++ leBytes 2 (s.rd (SPL_DB_SLOT n))
    ++ leBytes 2 (if s.rd (SPL_KIND n) = 0 then s.rd (SPL_DB_SLOT (s.rd (SPL_PAIRED n))) else 0) ++ leBytes 2 (s.rd (SPL_VECTOR n))
    ++ leBytes 2 (s.rd (SPL_COALESCE_US n)) ++ leBytes 1 (s.rd (SPL_OUT_MAX n)) ++ leBytes 1 (1 - s.rd (SPLX_PASS n))
    ++ leBytes 2 (s.rd (SPL_HEAD n)) ++ leBytes 2 (s.rd (SPL_TAIL n)) ++ leBytes 8 (s.rd (SPL_BASE n)))

/-- The record of an operation; the saved engine state is the model's TOTAL, phase and `acc` (R757). -/
def State.imgOp (s : State) (o : Op) : List (BitVec 8) :=
  imgRec 3 (s.imgPath o.cmd.path) (cmdBytes o.opcode o.cmd ++ leBytes 8 o.done ++ leBytes 8 o.total ++ leBytes 8 o.phase ++ leBytes 168 o.acc)

/-- The record of an append that has no LSN: an operation none of whose work is done. -/
def State.imgAppend (s : State) (a : Append) : List (BitVec 8) :=
  imgRec 3 (s.imgPath a.cmd.path) (cmdBytes 0x060E a.cmd ++ leBytes 192 0)

/-- The record of a held status (R757). -/
def State.imgHeld (s : State) (x : Held) : List (BitVec 8) := imgRec 5 (s.rd (SPL_DB_SLOT x.source)) (leBytes 32 x.status)

/-- The records of gondola `g`'s image: mailbox, spools with latched doorbells applied, operations, held statuses. -/
def State.imgRecords (s : State) (g : Nat) : List (List (BitVec 8)) :=
  let t := s.applyLatches g
  let spools := ((List.range 512).filter fun d => t.rd (GDB_SPOOL g d) != 0).map fun d => t.rd (GDB_SPOOL g d) - 1
  let held := s.held.filter fun x => s.on (SPL_GONDOLA_OWNED x.spool) && s.rd (SPL_GONDOLA x.spool) == g
  s.imgMailbox g :: (spools.map t.imgSpool ++ (s.opsOf g).map s.imgOp ++ (s.stoppedAppends g).map s.imgAppend ++ held.map s.imgHeld)

/-- The image of gondola `g` (R755, R756). -/
def State.image (s : State) (g : Nat) : List (BitVec 8) :=
  let recs := s.imgRecords g
  let body := recs.flatten
  let sh := s.rd (GND_SHAPER g)
  let shaped := s.on (GND_SHAPER_VALID g)
  let head := leBytes 4 0x474E4447 ++ leBytes 2 1 ++ leBytes 1 (s.rd PEN_FW_VERSION_MAJOR) ++ leBytes 1 (s.rd PEN_FW_VERSION_MINOR)
    ++ leBytes 8 Config.serial.toNat ++ leBytes 8 s.ft ++ leBytes 4 (64 + body.length + 8) ++ leBytes 2 recs.length ++ leBytes 2 g
    ++ leBytes 4 (s.rd (GND_PASID g)) ++ leBytes 2 (s.rd (GND_SPOOL_QUOTA g)) ++ leBytes 2 (s.rd (GND_RULE_QUOTA g))
    ++ leBytes 2 (s.rd (GND_ENG_SHARE g)) ++ leBytes 1 (s.rd (GND_OP_LIMIT g)) ++ leBytes 1 (b2n shaped)
    ++ leBytes 4 (if shaped then s.rd (SHPX_RATE sh) else 0) ++ leBytes 2 (if shaped then s.rd (SHP_BURST sh) else 0) ++ leBytes 2 0
    ++ leBytes 8 (4096 * s.rd (GND_POOL_QUOTA g)) ++ leBytes 4 0
  let l := head ++ body
  l ++ leBytes 8 (crc64Of l)

/-- GONDOLA_SAVE, a long operation (R749, R750, R758). -/
def execGondolaSave (c : Cmd) (s : State) : Host.Outcome State Fault Refusal :=
  let g := parBytes c 0 2
  .next (s.command opSave onlyM (cleanCmd c [(0, 16), (64, 64), (128, 32)] false && decide (g < 1024))
    (fun _ => firstFail [(!s.gondIn g [3], stBadParam), (s.mgmtHost.isNone, stBadParam), ((s.gondOp [opSave] g).isSome, stBusy)]
      (.long 0 0 0 0 s)) c)

/-- The step of GONDOLA_SAVE: the whole image is written to the management host's memory, or nothing (R758). -/
def State.stepSave (s : State) (o : Op) : State :=
  let g := parBytes o.cmd 0 2
  let l := s.image g
  let n := (s.imgRecords g).length
  match s.mgmtHost with
  | none => s.finishOp o.handle stHwError 0
  | some h =>
    if parBytes o.cmd 16 4 < l.length then s.finishOp o.handle stNoResource l.length
    else if !s.hostOpen h then s.finishOp o.handle stHostDma 0
    else if s.contained 2 h then s.finishOp o.handle stHwError 0
    else
      let s := (s.writeHost h (parBytes o.cmd 8 8) (leNat l) l.length).setOp o.handle fun p => { p with done := n, total := n }
      s.finishOp o.handle stOk l.length

/-- GONDOLA_RESTORE, a long operation: `phase` counts the bytes of the image read so far and `acc` holds them (R759). -/
def execGondolaRestore (c : Cmd) (s : State) : Host.Outcome State Fault Refusal :=
  .next (s.command opRestore onlyM (cleanCmd c [(0, 8), (16, 16), (32, 20), (64, 64), (128, 32)] false)
    (fun _ => if s.mgmtHost.isNone then .fail stBadParam else .long 0 0 0 0 s) c)

/-- The records that bytes spell, at most `fuel` of them; none when a length does not fit (R757). -/
def imgParse : Nat → List (BitVec 8) → Option (List (List (BitVec 8)))
  | 0, l => if l.isEmpty then some [] else none
  | k + 1, l =>
    if l.isEmpty then some []
    else
      let n := leNat ((l.drop 2).take 2)
      if n < 8 ∨ l.length < n ∨ n % 8 ≠ 0 then none else (imgParse k (l.drop n)).map fun t => l.take n :: t

/-- Bytes `b` to `b + n - 1` of a list, as a number. -/
def at_ (l : List (BitVec 8)) (b n : Nat) : Nat := leNat ((l.drop b).take n)

/-- The first check of R759: magic, length, CRC-64, format and records. -/
def imgOk (l : List (BitVec 8)) : Bool :=
  let recs := (imgParse 65536 ((l.take (l.length - 8)).drop 64)).getD []
  decide (72 ≤ l.length) && at_ l 0 4 == 0x474E4447 && at_ l 24 4 == l.length && at_ l (l.length - 8) 8 == crc64Of (l.take (l.length - 8))
    && decide (at_ l 4 2 ≤ 1) && at_ l 28 2 == recs.length && (recs.filter fun r => at_ r 0 1 == 1).length == 1

/-- The draw that a restore of image `l` makes (R756, R760). -/
def drawOfImage (c : Cmd) (l : List (BitVec 8)) : Draw :=
  ⟨parBytes c 0 1, parBytes c 2 2, parBits c 32 20, at_ l 36 2, at_ l 38 2, at_ l 40 2, at_ l 42 1, at_ l 43 1 % 2 == 1, at_ l 44 4, at_ l 48 2,
    at_ l 52 8⟩

/-- The mailbox of gondola `g` from its record (R757, R760). -/
def State.loadMailbox (s : State) (g : Nat) (r : List (BitVec 8)) : State :=
  let m := 49 + g
  let s := s.wrs [(YCP_MBX_REQ_TAIL m, at_ r 8 2), (YCP_MBX_REQ_HEAD m, at_ r 10 2), (YCP_MBX_RSP_TAIL m, at_ r 12 2), (YCP_MBX_RSP_HEAD m, at_ r 14 2),
    (YCP_MBX_CTRL_VECTOR m, at_ r 16 4), (YCP_MBX_CTRL_INT_EN m, at_ r 16 4 / 2 ^ 11), (YCP_MBX_STATUS_OVERRUN m, at_ r 20 4),
    (YCP_MBX_STATUS_BAD_HEAD m, at_ r 20 4 / 2), (YCP_MBX_STATUS_NOT_FINAL m, at_ r 20 4 / 2 ^ 8)]
  let s := s.forN (fun k s => s.wr (YCP_MBX_REQ_SLOT m k) (at_ r (24 + 64 * k) 64)) 32
  s.forN (fun k s => s.wr (YCP_MBX_RSP_SLOT m k) (at_ r (2072 + 32 * k) 32)) 32

/-- A spool of gondola `g` from its record, under a new number and at its saved doorbell slot; a status spool must exist before the
command spools paired with it (R757, R760). -/
def State.loadSpool (s : State) (g : Nat) (r : List (BitVec 8)) : State :=
  match s.freeSpool with
  | none => s
  | some n =>
    let kind := at_ r 8 1
    let d := at_ r 10 2 % 512
    let q := s.rd (GDB_SPOOL g (at_ r 12 2 % 512)) - 1
    let s := s.wrs [(SPL_VALID n, 1), (SPL_KIND n, kind), (SPL_GONDOLA_OWNED n, 1), (SPL_HOST n, s.rd (GND_HOST g)), (SPL_GONDOLA n, g),
      (SPL_SIZE_LOG2 n, at_ r 9 1), (SPL_PAIRED n, if kind = 0 then q else 0), (SPL_VECTOR n, at_ r 14 2), (SPL_COALESCE_US n, at_ r 16 2),
      (SPL_OUT_MAX n, at_ r 18 1), (SPL_DB_SLOT n, d), (SPL_BASE n, at_ r 24 8), (SPL_HEAD n, at_ r 20 2), (SPL_TAIL n, at_ r 22 2),
      (SPLX_PASS n, 1 - at_ r 19 1 % 2), (GDB_SPOOL g d, n + 1)]
    ((s.bump (GND_SPOOLS_USED g)).bump YCP_STATUS_SPOOLS_USED).when (kind == 0) fun s => s.bump (SPLX_CMDS q)

/-- The path that a record's path field names in gondola `g` (R757). -/
def State.loadPath (s : State) (g v : Nat) : Path :=
  if v = 0xFFFF then .gond (Fin.ofNat 1024 g) else .spool (Fin.ofNat 32768 (s.rd (GDB_SPOOL g (v % 512)) - 1))

/-- An operation of gondola `g` from its record: paused, under a new handle (R761); a record of an append waits again. -/
def State.loadOp (s : State) (g : Nat) (r : List (BitVec 8)) : State :=
  let x := cmdOfBytes (s.loadPath g (at_ r 4 2)) ((r.drop 8).take 64)
  let s := match x.2.path with
    | .spool n => s.bump (SPL_NOT_FINAL n)
    | _ => s
  if x.1 = 0x060E then
    let id := s.rd SYS_ORDER
    let len := parBytes x.2 2 2
    let data := if parBits x.2 8 1 = 1 then leBytes len (parBytes x.2 8 len) else []
    let a : Append := ⟨id, parBytes x.2 0 1, x.2, .g g, len, data, none, 0, none, none⟩
    { s.bump SYS_ORDER with late := s.late ++ [⟨x.1, x.2, id, false⟩], pool := { s.pool with appends := s.pool.appends ++ [a] } }
  else
    let h := s.nextHandle
    let o : Op := ⟨h, x.1, x.2, .g g, 128, at_ r 72 8, at_ r 80 8, at_ r 88 8, at_ r 96 168, false, none, 0, false, false, true, false⟩
    ((s.joinTurns (.g g)).setOps (s.ops ++ [o])).wr SYS_NEXT_HANDLE (if h = 65535 then 1 else h + 1)

/-- A held status of gondola `g` from its record; `final` is bit 24 of the status (R689, R757, R763). -/
def State.loadHeld (s : State) (g : Nat) (r : List (BitVec 8)) : State :=
  let n := s.rd (GDB_SPOOL g (at_ r 4 2 % 512)) - 1
  { s with held := s.held ++ [⟨s.rd (SPL_PAIRED n), n, at_ r 8 32, bitSet (at_ r 8 32) 24⟩] }

/-- Gondola `g` restored from the records of its image (R760, R761, R763). -/
def State.loadGond (s : State) (g : Nat) (recs : List (List (BitVec 8))) : State :=
  let typ := fun (k : Nat) => recs.filter fun r => at_ r 0 1 == k
  let spools := fun (k : Nat) => (typ 2).filter fun r => at_ r 8 1 == k
  let s := (typ 1).foldl (fun s r => s.loadMailbox g r) s
  let s := (spools 1 ++ spools 0).foldl (fun s r => s.loadSpool g r) s
  let s := (typ 3).foldl (fun s r => s.loadOp g r) s
  (typ 5).foldl (fun s r => s.loadHeld g r) s

/-- The image of a restore is whole: the checks of R759, and the gondola in FROZEN (R759, R760, R769). -/
def State.finishRestore (s : State) (o : Op) (l : List (BitVec 8)) : State :=
  let d := drawOfImage o.cmd l
  let recs := (imgParse 65536 ((l.take (l.length - 8)).drop 64)).getD []
  let g := (s.drawNumber d).getD 0
  let checks := [(!imgOk l, stBadParam), (at_ l 6 1 != s.rd PEN_FW_VERSION_MAJOR, stNotPermitted)] ++ s.drawChecks d
  match checks.find? fun x => x.1 with
  | some x => s.finishOp o.handle x.2 0
  | none =>
    let s := (((s.makeGond d g 3).loadGond g recs).saveGond).setOp o.handle fun p => { p with done := recs.length, total := recs.length }
    s.finishOp o.handle stOk g

/-- A step of GONDOLA_RESTORE: the next part of the image is read from the management host (R199, R226, R759). -/
def State.stepRestore (s : State) (o : Op) : State :=
  let len := parBytes o.cmd 16 4
  let at' := parBytes o.cmd 8 8 + o.phase
  match s.mgmtHost with
  | none => s.finishOp o.handle stHwError 0
  | some h =>
    let size := min (128 * 2 ^ s.rd (HOSTF_MRRS h)) (min (len - o.phase) (4096 - at' % 4096))
    if len ≤ o.phase then s.finishRestore o (leBytes len o.acc)
    else if s.outst.any fun x => x.waiter == o.handle then s
    else if !s.hostOpen h then s.finishOp o.handle stHostDma 0
    else if s.contained 2 h then s.finishOp o.handle stHwError 0
    else match s.issue .host h o.handle noSource 0 size (s.rd SYS_ORDER) false none with
      | none => s
      | some (tag, s) => (s.bump SYS_ORDER).readHost h at' size tag

/-- A part of an image arrives (R759). -/
def State.restoreArrive (s : State) (o : Op) (l : List (BitVec 8)) : State :=
  s.setOp o.handle fun p => { p with phase := o.phase + l.length, acc := o.acc + leNat l * 2 ^ (8 * o.phase) }

/-! Reset (R764 to R766). -/

/-- Every accepted command of gondola `g` ends: with final status SQUASHED and its DONE, or without a status (R764, R766, R768). -/
def State.squashGond (s : State) (g : Nat) (silent : Bool) : State :=
  let stopped := s.stoppedAppends g
  let s := { s with pool := { s.pool with appends := s.pool.appends.filter fun (a : Append) => !stopped.contains a } }
  let s := (s.latesOf g).foldl (fun s l => if silent then { s with late := removeFirst (fun x => x == l) s.late }
    else (s.inc (GND_SQUASHED g)).finishLate l stSquashed 0) s
  (s.opsOf g).foldl (fun s o => if silent then (s.idleEngine o.engine).setOps (s.ops.filter fun x => x.handle != o.handle)
    else (s.inc (GND_SQUASHED g)).endOp o.handle stSquashed o.done) s

/-- A reset or a removal of gondola `g` begins (R764 steps 1 and 2, R768). -/
def State.beginReset (s : State) (g : Nat) (squash destroy frozen : Bool) : State :=
  let s := s.wr (GND_STATE g) (if destroy then 5 else 4)
  if destroy && frozen then s.squashGond g true
  else if squash then s.squashGond g false
  else (s.resumeOps g).resumeAppends g

/-- GONDOLA_RESET, a long operation (R748, R749, R764). -/
def execGondolaReset (c : Cmd) (s : State) : Host.Outcome State Fault Refusal :=
  let g := parBytes c 0 2
  let t := s.command opReset (fun i => i == .m || i == .g g) (cleanCmd c [(0, 16)] true && decide (g < 1024))
    (fun _ => firstFail [(!s.gondIn g [1, 3], stBusy), ((s.gondOp [opSave] g).isSome, stBusy)] (.long 0 1 0 0 s)) c
  .next (if s.ops.length < t.ops.length then t.beginReset g (opFlag c) false (s.gondIn g [3]) else t)

/-- GONDOLA_DESTROY, a long operation (R749, R767, R768). -/
def execGondolaDestroy (c : Cmd) (s : State) : Host.Outcome State Fault Refusal :=
  let g := parBytes c 0 2
  let owned := (findFrom (fun w => s.on (WIN_VALID w) && s.on (WIN_OWNER_VALID w) && s.rd (WIN_OWNER w) == g) 0 4096).isSome
  let t := s.command opDestroy onlyM (cleanCmd c [(0, 16)] true && decide (g < 1024))
    (fun _ => firstFail [(!s.gondIn g [1, 3], stBusy), (owned || s.releasing 3 g, stBusy), ((s.gondOp [opSave] g).isSome, stBusy)] (.long 0 0 0 0 s)) c
  .next (if s.ops.length < t.ops.length then t.beginReset g (opFlag c) true (s.gondIn g [3]) else t)

/-- Steps 4 and 5 of a reset: spools, mailbox, shaper, reservations, and the release of a containment requested (R526, R764). -/
def State.clearGond (s : State) (g : Nat) : State :=
  let s := (s.deleteGondSpools g).resetMailbox (49 + g)
  let s := s.when (s.on (GND_SHAPER_VALID g)) fun s => s.wr (SHPX_E (s.rd (GND_SHAPER g))) (s.now * 524288)
  let keep := s.pool.resv.filter fun r => !(r.src == s.rd (GND_HOST g) && r.pasid == some (s.rd (GND_PASID g)))
  ({ s with pool := { s.pool with resv := keep } }.wr ORD_STATUS_RESV_USED keep.length).requestRelease 3 g

/-- Everything that a reset of gondola `g` waits for has ended (R764 steps 2 and 3). -/
def State.resetDrained (s : State) (g : Nat) : Bool := (s.opsOf g).isEmpty && (s.latesOf g).isEmpty && (s.asksOf g).isEmpty

/-- GONDOLA_RESET_DONE: what the reset waits for has ended; its steps 4 and 5 are done, and once the gondola is not contained the
final status of a reset is posted, and the removal of a gondola goes on (R749, R764, R765, R768). -/
def execGondolaResetDone (g : Gond) (s : State) : Host.Outcome State Fault Refusal :=
  s.event (s.gondIn g [4, 5] && s.resetDrained g) fun s =>
    let s := s.clearGond g
    match s.gondOp [opReset, opDestroy] g with
    | none => s.wr (GND_STATE g) 1
    | some o =>
      if s.contained 3 g then s
      else if o.opcode = opReset then (s.wr (GND_STATE g) 1).finishOp o.handle stOk 0
      else s.setOp o.handle fun p => { p with phase := max 1 p.phase, done := max 1 p.done }

/-- At a reset of host `h`'s hierarchy its gondolas are reset with SQUASH, and what ran on them ends CANCELLED (R747). -/
def State.resetGonds (s : State) (h : Nat) : State :=
  (s.gonds.filter fun g => s.rd (GND_HOST g) == h && s.rd (GND_STATE g) != 5).foldl (fun s g =>
    let s := match s.gondOp [opFreeze, opSave, opReset] g with
      | some o => s.endOp o.handle stCancelled 0
      | none => s
    ((s.squashGond g false).clearGond g).wr (GND_STATE g) 1) s

/-! Removal (R768). -/

/-- The ranges of the usable pool that LOCK rules of gondola `g` cover in space POOL. -/
def State.lockRanges (s : State) (g : Nat) : List (Nat × Nat) :=
  let t := s.bridle.active
  ((t.ownedBy g).filter fun i => t.get (RULE_LOCK i) == 1 && t.get (RULE_SPACE i) == spPool).map fun i =>
    (t.get (RULE_BASE i), min (t.get (RULE_LIMIT i) + 1) s.poolUsable - t.get (RULE_BASE i))

/-- Gondola `g` leaves the table, and what it drew returns to its pools (R768). -/
def State.freeGond (s : State) (g : Nat) : State :=
  let sh := s.rd (GND_SHAPER g)
  let s := s.when (s.on (GND_SHAPER_VALID g)) fun s => s.freeShaper sh
  let s := s.wrs [(QUOTA_SPOOLS, s.rd QUOTA_SPOOLS - s.rd (GND_SPOOL_QUOTA g)), (QUOTA_RULES, s.rd QUOTA_RULES - s.rd (GND_RULE_QUOTA g)),
    (QUOTA_POOL, s.rd QUOTA_POOL - s.rd (GND_POOL_QUOTA g)), (HB4_GOND (s.rd (GND_HOST g)) (s.rd (GND_SLOT g)), 0)]
  (s.dec YCP_GND_COUNT_USED).clearRange (gndAddr g) 32

/-- A step of GONDOLA_DESTROY of at most `n` lines: it zeroes one range after another, `phase` − 1 counting the ranges done and `acc`
the bytes of the next; once no session is open it removes the rules in one of its own, and after that the gondola (R442, R768, R769). -/
def State.stepDestroy (s : State) (o : Op) (n : Nat) : State :=
  let g := parBytes o.cmd 0 2
  if o.phase = 0 then s
  else match (s.lockRanges g)[o.phase - 1]? with
    | some (base, len) =>
      let x := s.zeroLines o base len o.acc 0 n
      if x.2.1 < len then x.1.setOp o.handle fun p => { p with acc := x.2.1 }
      else x.1.setOp o.handle fun p => { p with acc := 0, phase := o.phase + 1, done := o.done + 1 }
    | none =>
      if s.rd BRD_STATUS_STATE ≠ 0 || (s.pool.wb.any fun e => e.serves o.handle) then s
      else if (s.bridle.active.ownedBy g).isEmpty && (s.bridle.staged.ownedBy g).isEmpty then ((s.freeGond g).saveGond).finishOp o.handle stOk 0
      else s.dropRules g

/-- YCP_GND_GO: a snapshot of a gondola (R749). -/
def execYcpGndGo (v : BitVec 31) (s : State) : Host.Outcome State Fault Refusal :=
  let g := v.toNat % 1024
  .next (((s.wr YCP_GND_SEL_GONDOLA g).wrs [(YCP_GND_STATUS_DONE, 0), (SNAPX_DUE, setBit (s.rd SNAPX_DUE) 6)]).snapshot gndLayout (gndAddr g) YCP_GND_DATA_WORD 8)

end Sys2Proof.Machine
end

