-- ==== Sys2Proof/Machine/Vote.lean ====
section
/-! DEFINITION. Votes on the 31 domains of power, and which domain is on (R772 to R778). -/

namespace Sys2Proof.Machine

/-- An unbind of port `p` is in progress (R380). -/
def State.unbindBusy (s : State) (p : Nat) : Bool := s.opBusy [0x0303] fun o => parBytes o.cmd 0 1 == p

/-! Votes (R772 to R778). The views of PWR_DOM_VOTES and PWR_DOM_ON are computed when a register of the block is read. -/

/-- The domain numbers of the switch core and the pool. -/
def domCore : Nat := 16
/-- The pool. -/
def domPool : Nat := 17

/-- Host `h` holds its vote: PERST_N is high and function 1 in D0, or in D3hot with its write buffer not yet empty (R776, R777). -/
def State.hostVote (s : State) (h : Nat) : Bool :=
  s.rd (HOSTF_PORT h) != 0 && !s.on (HOSTF_PERST h) && (s.rd (HOSTF_PM h) == 0 || s.on (HOSTF_D3EMPTY h))

/-- The vote of host `h` names domain `d`. -/
def State.hostNames (s : State) (h d : Nat) : Bool :=
  d == domCore || d == domPool || d == (s.rd (HOSTF_PORT h) - 1) / 8
    || s.boundPos.any fun k => k / 32 == h && s.rd (POS_PORT k) / 8 == d

/-- The management host's vote names domain `d`; a vote on a lane group, the pool or a cluster counts for the switch core, but for bits 18
and 30, which PWR_DOM_VOTES shows and which have no effect (R774, R778). Log entry 47. -/
def State.mgmtNames (s : State) (d : Nat) : Bool :=
  let m := s.rd PWR_MGMT_VOTE_MASK
  s.on PWR_MGMT_VOTE_HELD && (if d = domCore then m % 2 ^ 18 != 0 || m / 2 ^ 19 % 2 ^ 11 != 0
    else bitSet m d)

/-- Gondola `g` holds its vote (R746). -/
def State.gondVote (s : State) (g : Nat) : Bool :=
  s.rd (GND_STATE g) == 1 && s.rd (HOSTF_PM (s.rd (GND_HOST g))) == 0 && !s.on (HOSTF_PERST (s.rd (GND_HOST g)))

/-- Tether `p` holds its vote (R776). -/
def State.tetherVote (s : State) (p : Nat) : Bool :=
  s.rd (PRT_CFG_MODE p) == 3 && s.cyState p != cyDisabled && s.cyState p != cyFailed && s.cyState p != cyLeft

/-- An internal service has work (R776). -/
def State.serviceVote (s : State) : Bool :=
  s.ops.any (fun o => o.final.isNone) || !s.late.isEmpty || !s.pool.closes.isEmpty || !s.pool.mirror.isEmpty
    || (List.range 64).any (fun n => s.rd (LOGX_OPEN_AT n) != 0) || s.rd BRD_STATUS_STATE != 0
    || (List.range 32).any (fun c => s.rd (SCX_BUSY c) != 0) || [1, 2, 3, 4, 5].any fun l => s.rd (activeFld l) != 0

/-- An engine of group `g` stands in cluster `k` and is in service. -/
def State.groupIn (s : State) (g k : Nat) : Bool := (s.inGroup g).any fun e => e / 8 == k

/-- An engine of cluster `k` has work: it runs an operation, or stands in the group of a service that has work; cluster 0, which runs the control
firmware, with any of it. Which engines of the mirror and commit-log groups work the spec does not say, so all of them count: DESIGN CHOICE, log
entry 47. -/
def State.clusterWork (s : State) (k : Nat) : Bool :=
  (k == 0 && s.serviceVote) || (s.ops.any fun o => o.final.isNone && decide (o.engine < 96) && o.engine / 8 == k)
    || (!s.pool.mirror.isEmpty && s.groupIn grpMirror k) || (!s.pool.appends.isEmpty && s.groupIn grpLog k)
    || ((List.range 32).any (fun c => s.rd (SCX_BUSY c) != 0) && s.groupIn grpHotPlug k)

/-- Votes on domain `d`, by hosts, the management host, gondolas, tethers and services (R774, R776). -/
def State.votes (s : State) (d : Nat) : Nat × Nat × Nat × Nat × Nat :=
  (countN 48 (fun h => s.hostVote h && s.hostNames h d), b2n (s.mgmtNames d),
    if d = domCore ∨ d = domPool then (s.gonds.filter fun g => s.gondVote g).length else 0,
    countN 128 (fun p => s.tetherVote p && (d == domCore || d == domPool || d == p / 8)),
    b2n (s.serviceVote && (d == domCore || d == domPool || (decide (18 ≤ d) && decide (d < 30) && s.clusterWork (d - 18)))))

/-- How many votes a domain has. -/
def State.voteCount (s : State) (d : Nat) : Nat :=
  let v := s.votes d
  v.1 + v.2.1 + v.2.2.1 + v.2.2.2.1 + v.2.2.2.2

/-- The ports of lane group `g`. -/
def State.groupPorts (g : Nat) : List Nat := (List.range 8).map fun i => 8 * g + i

/-- Every port of lane group `g` is down, so the group may be powered down (R773). -/
def State.groupDown (s : State) (g : Nat) : Bool :=
  (State.groupPorts g).all fun p =>
    let m := s.rd (PRT_CFG_MODE p)
    let l := s.rd (PRT_LINK_STATUS_LTSSM p)
    m == 0 || (if m = 3 then !s.tetherVote p else l == 0 || l == 7 || l == 8)

/-- Domain `d` is ON (R773). -/
def State.domOn (s : State) (d : Nat) : Bool :=
  let st := s.rd PWR_STATUS_STATE
  if s.on SYS_OFF || s.rd GLB_BOOT_STATUS_STAGE == 0 then false
  else if st = 3 then s.rd MOR_STATUS_STATE == 3
    && (d == domCore || d == domPool || d == 18 || d == 19 || d == s.rd MOR_CFG_PORT0 / 8 || d == s.rd MOR_CFG_PORT1 / 8)
  else if d < 16 then decide (0 < s.voteCount d) || !s.groupDown d
  else if d = 30 then true
  else if st = 2 then false
  else if d ≤ 18 then true
  else s.clusterWork (d - 18)

/-- LAN_GRP_STATUS of lane group `g`: while its domain is off, its lanes in test alone keep it powered (R147, R180, R773). -/
def State.groupStatus (s : State) (g : Nat) : State := s.groupPlls g (s.domOn g)

/-- RATE and PWR of lane `l` as they are: a lane of a port is off while the domain of its group is (R184, R773). -/
def State.laneStatus (s : State) (l : Nat) : State := match s.ownerOf l with
  | some p =>
    let x := if s.domOn (l / 16) then s.lanePower p l else (15, 0)
    s.wrs [(LAN_STATUS_RATE l, x.1), (LAN_STATUS_PWR l, x.2)]
  | none => s

end Sys2Proof.Machine
end

