-- ==== Sys2Proof/Machine/Ports.lean ====
section
/-! DEFINITION. Ports (chapters 04 and 05): the PORT commands but for the slot, link events, Windsock and reference events,
and the resets of a host's hierarchy (R108, R119 to R121). -/

namespace Sys2Proof.Machine

/-! Reset of a hierarchy. -/

/-- VB_COUNT and the size of BAR2 of host `h` take the values set last (R214, R359). -/
def State.takeNext (s : State) (h : Nat) : State :=
  s.wrs [(RTE_HIER_CFG_VB_COUNT h, s.rd (RTE_HIER_CFG_VB_COUNT_NEXT h)), (BAL_APERTURE_SIZE_LOG2 h, s.rd (BAL_APERTURE_SIZE_LOG2_NEXT h))]

/-- The bridges of host `h`'s hierarchy and the fields of its functions take their reset values; PME_En and PME_Status stay, as R222
needs (PRESUMED: they are sticky), and so do the device's own records of stores discarded. VB_COUNT and the size of BAR2 take
the value set last (R108, R214, R359). Log entry 17. -/
def State.resetConfig (s : State) (h : Nat) : State :=
  let keep := [HOSTF_PORT h, HOSTF_PMEEN h, HOSTF_PMESTAT h, HOSTF_IN_RESET h, HOSTF_PERST h, HOSTF_DISC_NODE h, HOSTF_DISC_PORT h,
    HOSTF_DISC_CH h].map fun f => (f, s.rd f)
  let s := (s.clearRange ((HOSTF_PORT h).key / 8) 0x80).wrs keep
  let s := s.clearRange ((HF0_MEMW h).key / 8) 0x20
  let s := (s.clearRange ((BFX_PM (f0Bank h)).key / 8) 0x80).clearRange ((BFX_PM (f1Bank h)).key / 8) 0x80
  let s := (s.wrs [(RTE_HIER_BUS_PRI_BUS h, 0), (RTE_HIER_BUS_SEC_BUS h, 0), (RTE_HIER_BUS_SUB_BUS h, 0)]).takeNext h
  let s := s.forN (fun v s => (((s.clearRange ((POSX_MEMW (posIdx h v)).key / 8) 0x40).clearRange ((BFX_PM (vbBank (posIdx h v))).key / 8) 0x80).wr
    (POS_SEC_BUS (posIdx h v)) 0).wr (POS_SUB_BUS (posIdx h v)) 0) 32
  let s := (s.boundPos.filter fun k => k / 32 == h).foldl (fun s k => s.dpcView (s.rd (POS_PORT k))) s
  let s := match s.hostPort h with
    | some p => s.wrs [(PRTX_MPS p, (PRTX_MPS p).rst), (PRTX_PTM p, (PRTX_PTM p).rst), (PRTX_ASPM p, (PRTX_ASPM p).rst)]
    | none => s
  s.hostView h

/-- The host-view page's registers take their reset values (R108); the epochs that it shows are the device's. -/
def State.resetPage (s : State) (h : Nat) : State :=
  let b := 0x1000000 + 0x10000 * h
  ((s.clearRange (b + 0x1000) 0x2110).clearRange (b + 0x4000) 0xC000).resetMailbox (1 + h)

/-- Commands accepted from host `h` itself run on, and their statuses are discarded (R120, R706). -/
def State.silenceHost (s : State) (h : Nat) : State :=
  let mine := fun (p : Path) => match p with
    | .host k => k.val == h
    | .spool n => !s.on (SPL_GONDOLA_OWNED n) && s.rd (SPL_HOST n) == h
    | _ => false
  { s with
    ops := updateAll (fun (o : Op) => mine o.cmd.path) (fun (o : Op) => { o with silent := true }) s.ops
    late := updateAll (fun (l : Late) => mine l.cmd.path) (fun (l : Late) => { l with silent := true }) s.late }

/-- Non-posted requests from host `h` that have not completed are dropped without completion, and so is what the part made for its port; stores
in its write buffer are performed (R120). -/
def State.dropAsks (s : State) (h : Nat) : State :=
  let mine := fun (t : Tlp) => t.kind == .nonPosted && t.host == h && s.rd (HOSTF_PORT h) == t.ingress.val + 1
  let out := fun (t : Tlp) => s.rd (HOSTF_PORT h) == t.egress.val + 1
  let gone := s.switch.txq.filter fun x => (mine x.tlp || (x.own.isSome && out x.tlp)) && !x.started
  let s := gone.foldl (fun s x => (match x.own with | some o => s.failOwn o | none => s).dequeue x) s
  let s := (s.switch.made.filter fun m => out m.2.1).foldl (fun (s : State) m => s.failOwn m.2.2) s
  let sw := { s.switch with
    made := s.switch.made.filter fun m => !out m.2.1
    wait := s.switch.wait.filter fun w => !mine w.2
    asked := s.switch.asked.filter fun x => !mine x.tlp }
  let pl := { s.pool with
    waiting := s.pool.waiting.filter fun a => a.src != h
    queue := s.pool.queue.filter fun a => a.src != h
    barriers := updateAll (fun b => b.host == h) (fun b => { b with dead := true }) s.pool.barriers }
  let br := { s.bridle with held := s.bridle.held.filter fun x => match x.2 with
    | .pool k _ | .regs k _ => k != h
    | .bar k _ _ _ _ _ => k != h
    | .peer t _ _ => !mine t
    | _ => true }
  { s with
    switch := sw
    pool := pl
    bridle := br
    outst := updateAll (fun (o : Outst) => o.src == h && !o.store) (fun (o : Outst) => { o with src := noSource }) s.outst }

/-- PERST_N or a hot reset of host `h`'s hierarchy (R108, R120, R214, R359, R363, R526, R706, R747): `hold` tells that the reset stays
asserted on the downstream links. -/
def State.resetHier (s : State) (h : Nat) (hold : Bool) : State :=
  let s := s.silenceHost h
  let s := (s.dropAsks h).deleteHostSpools h
  let s := (s.resetPage h).resetConfig h
  let s := s.forN (fun v s =>
    let s := s.resetPos (posIdx h v) true
    if hold then s else s.resetPos (posIdx h v) false) 32
  (s.resetGonds h).requestRelease 2 h

/-- The hierarchy of host `h` is held in reset: PERST_N is low, or start-up has not reached READY (R121, R214). -/
def State.holdView (s : State) (h : Nat) : State :=
  s.wr (HOSTF_IN_RESET h) (b2n (s.on (HOSTF_PERST h) || s.rd GLB_BOOT_STATUS_STAGE != 6))

/-- HOT_RESET_RECEIVED: an in-band hot reset on host `h`'s upstream port (R108). -/
def execHotResetReceived (h : Host) (s : State) : Host.Outcome State Fault Refusal :=
  match s.hostPort h with
  | none => .next s
  | some p => s.event (!s.on (HOSTF_PERST h)) fun s => ((s.wr (PRT_EVENT_HOT_RESET_RX p) 1).pcieDown p 10).resetHier h false

/-- PERST_N_FALL: PERST_N of host `h` falls (R108, R119 to R121); without an upstream port only the level is known. -/
def execPerstNFall (h : Host) (s : State) : Host.Outcome State Fault Refusal :=
  s.event (!s.on (HOSTF_PERST h)) fun s =>
    let s := (s.wr (HOSTF_PERST h) 1).holdView h
    match s.hostPort h with
    | none => s
    | some p => ((s.wrs [(PRT_EVENT_PERST p, 1), (PRT_HOST_STATUS_PERST_ACTIVE p, 1)]).pcieDown p 0).resetHier h true

/-- PERST_N_RISE: the upstream port leaves Detect, WAKE_N is released and the downstream links leave their reset (R121, R222). -/
def execPerstNRise (h : Host) (s : State) : Host.Outcome State Fault Refusal :=
  s.event (s.on (HOSTF_PERST h)) fun s =>
    let s := ((s.wr (HOSTF_PERST h) 0).holdView h).takeNext h
    match s.hostPort h with
    | none => s
    | some p =>
      let s := (s.releaseWake h).wr (PRT_HOST_STATUS_PERST_ACTIVE p) 0
      let s := if s.on (PRTX_OFF p) then s.pcieDown p 8 else s
      s.forN (fun v s => s.resetPos (posIdx h v) false) 32

/-- SECONDARY_BUS_RESET on function 0 of host `h`, or on its virtual bridge `v`: the bit is set or cleared (R363, R364). -/
def execSecondaryBusReset (h : Host) (v : Option (Fin 32)) (on : Bool) (s : State) : Host.Outcome State Fault Refusal :=
  let put := fun (b : Nat) => if on then setBit b 6 else clrBit b 6
  match v with
  | none => .next ((s.wr (HF0_BCTL h) (put (s.rd (HF0_BCTL h)))).forN (fun v s => s.resetPos (posIdx h v) on) 32)
  | some v => .next ((s.wr (POSX_BCTL (posIdx h v)) (put (s.rd (POSX_BCTL (posIdx h v))))).resetPos (posIdx h v) on)

/-! Links of PCI Express ports. -/

/-- The slot of a port holds its link back: its channel is not on, or SLOT_PERST_N is low (R207). -/
def State.slotHolds (s : State) (p : Nat) : Bool :=
  s.rd (PRT_CFG_MODE p) == 2 && s.on (PRT_CFG_SLOT_VALID p)
    && (s.rd (PDI_SC_STATUS_STATE (s.rd (PRT_CFG_SLOT_CH p))) != 3 || s.on (PDI_SC_STATUS_PERST_LOW (s.rd (PRT_CFG_SLOT_CH p))))

/-- The link of a port may train: it is a PCI Express port that no PORT class command has disabled, that is not contained or triggered by
DPC, whose group has its reference, whose host does not hold PERST_N low, whose slot is powered and out of reset, and which no Secondary Bus
Reset holds (R121, R153, R207, R363, R532). -/
def State.mayTrain (s : State) (p : Nat) : Bool :=
  (s.rd (PRT_CFG_MODE p) == 1 || s.rd (PRT_CFG_MODE p) == 2) && !s.on (PRTX_OFF p) && !s.contained 1 p && !s.on (PRTX_DPC_STATUS p)
    && bitSet (s.rd GLB_CLK_STATUS_CLKREF_DET) (p / 8)
    && (match s.portHost p with
        | some h => !s.on (HOSTF_PERST h)
        | none => true) && !s.slotHolds p && !s.busHeld p

/-- DL_ACTIVE of port `p` rises: LINK_UP, Data Link Layer State Changed and Link Active of its positions, but for one under unbind (R207, R377,
R378). -/
def State.dlRise (s : State) (p : Nat) : State :=
  if s.on (PRT_LINK_STATUS_DL_ACTIVE p) then s
  else
    let s := (s.wr (PRT_LINK_STATUS_DL_ACTIVE p) 1).wr (PRT_EVENT_LINK_UP p) 1
    if s.rd (PRT_CFG_MODE p) = 2 then ((s.posOf p).filter fun k => !s.on (POS_UNBINDING k)).foldl (fun s k => s.wr (POS_LINK_ACTIVE k) 1) (s.dlChanged p)
    else s

/-- The link of port `p` has been up since it was last in Detect: it is in L0, Recovery, L0s or L1. -/
def State.pastDetect (s : State) (p : Nat) : Bool := decide (3 ≤ s.rd (PRT_LINK_STATUS_LTSSM p)) && decide (s.rd (PRT_LINK_STATUS_LTSSM p) ≤ 6)

/-- Flit mode `flit` is possible at `rate`: required at 64 GT/s, below it where FLIT_ALLOWED lets it be negotiated, and unchanged until the
next Detect (R194, R195). -/
def State.flitFits (s : State) (p rate : Nat) (flit : Bool) : Bool :=
  (!flit || rate == 5 || s.on (PRT_CFG_FLIT_ALLOWED p)) && (flit || rate != 5) && (!s.pastDetect p || s.on (PRT_LINK_STATUS_FLIT_ACTIVE p) == flit)

/-- The lane that carries logical lane `i` of port `p`: the `i`-th of its span from the lowest, or from the highest with reversed order
(R170). -/
def State.physLane (s : State) (p : Nat) (reversed : Bool) (i : Nat) : Nat :=
  16 * (p / 8) + s.rd (PRT_CFG_FIRST_OFFSET p) + if reversed then 2 ^ s.rd (PRT_CFG_WIDTH p) - 1 - i else i

/-- The polarity of lane `l` as its receiver has found it in Polling, or as RX_INVERT_FORCE says (R169, R171). -/
def State.polarity (s : State) (l : Nat) (inverted : Bool) : State :=
  s.wr (LAN_STATUS_RX_INVERTED l) (b2n (inverted || s.on (LAN_CFG_RX_INVERT_FORCE l)))

/-- PCIE_LINK_UP: port `p` reaches L0 with rate, width `2 ^ width` lanes and flit mode, from training or from Recovery or a low-power
state; `inverted` names by logical lane the pairs found inverted, and `eq` the last request of each lane in the equalisation at 8 GT/s and above,
which a free one stands for where a rate is new and `eq` names none (R155, R156, R169 to R171, R194, R195, R377). Log entries 18 and 62. -/
def execPcieLinkUp (p : Port) (rate : Fin 6) (width : Fin 5) (flit reversed eqFail : Bool) (inverted : BitVec 16) (eq : List LaneEq) (s : State) :
    Host.Outcome State Fault Refusal :=
  let w := 2 ^ width.val
  s.event (s.mayTrain p && decide (rate.val ≤ s.rd (PRT_CFG_MAX_RATE p)) && decide (width.val ≤ s.rd (PRT_CFG_WIDTH p))
      && s.flitFits p rate flit && !(reversed && s.rd (PRT_CFG_WIDTH p) == 0)) fun s =>
    let fresh := !s.pastDetect p
    let changed := fresh || s.rd (PRT_LINK_STATUS_RATE p) != rate
    let s := s.when (s.rd (PRT_LINK_STATUS_RATE p) != rate) fun s => s.wr (PRT_EVENT_RATE_CHANGE p) 1
    let s := s.when (s.rd (PRT_LINK_STATUS_WIDTH p) != w) fun s => s.wr (PRT_EVENT_WIDTH_CHANGE p) 1
    let s := s.when eqFail fun s => s.wr (PRT_EVENT_EQ_FAIL p) 1
    let s := s.wrs [(PRT_LINK_STATUS_LTSSM p, 3), (PRT_LINK_STATUS_RATE p, rate), (PRT_LINK_STATUS_WIDTH p, w),
      (PRT_LINK_STATUS_FLIT_ACTIVE p, b2n flit), (PRT_LINK_STATUS_REVERSED p, b2n reversed),
      (PRT_LINK_STATUS_SRIS_ACTIVE p, s.rd (PRT_CFG_CLK_INDEP p)), (PRT_LINK_STATUS_DEEP_LEVEL p, 0)]
    let s := s.numberLanes p reversed
    let s := s.when fresh fun s => (s.portLanes p).foldl State.takePolarity s
    let s := s.forN (fun i s =>
      let l := s.physLane p reversed i
      let s := if fresh then s.polarity l (bitSet inverted.toNat i) else s
      let s := if rate.val < 2 then s.deEmphasis l rate
        else match eq[i]? with
          | some e => s.equalise l rate e
          | none => if changed then s.takeFree.equalise l rate ⟨Fin.ofNat 11 s.freeVal, none, BitVec.ofNat 12 (s.freeVal / 16)⟩ else s
      s.adapted l) w
    ((s.dlRise p).laneView p).linkView p

/-- Port `p` enters Recovery from L0, L0s or L1 (R177, R722); the exit to L0 is a PCIE_LINK_UP. -/
def State.recovery (s : State) (p : Nat) : State :=
  let l := s.rd (PRT_LINK_STATUS_LTSSM p)
  if l = 3 ∨ l = 5 ∨ l = 6 then
    let s := if l = 3 then s.inc (PRT_PHY_COUNT_RECOVERY_ENTRY p) else s
    (((s.wr (PRT_LINK_STATUS_LTSSM p) 4).wr (PRT_LINK_STATUS_DEEP_LEVEL p) 0).laneView p).linkView p
  else s

/-- An upstream port loses its link: the effect of a hot reset (R193). `st` is the state it enters. -/
def State.upstreamDown (s : State) (p st : Nat) : State :=
  match s.portHost p with
  | none => s
  | some h => ((s.pcieDown p (if s.on (HOSTF_PERST h) then 0 else st)).laneView p).resetHier h (s.on (HOSTF_PERST h))

/-- LINK_DOWN_UPSTREAM: link-down or entry into Disabled on an upstream port (R193). -/
def execLinkDownUpstream (p : Port) (disabled : Bool) (s : State) : Host.Outcome State Fault Refusal :=
  .next (s.upstreamDown p (if disabled then 8 else 0))

/-- A surprise link-down on downstream port `p`: AER, code 0x0203 and DPC when it is armed (R519, R532, R535). -/
def State.surpriseDown (s : State) (p : Nat) : State :=
  if s.rd (PRT_CFG_MODE p) = 2 ∧ s.on (PRT_LINK_STATUS_DL_ACTIVE p) then
    let hs := ((s.posOf p).map fun k => k / 32)
    let armed := s.dpcArmed p
    let s := (s.pcieDown p 0).laneView p
    let s := match s.boundHost p with
      | some h => s.bankUnc h (vbBank (posIdx h (s.rd (BINDX_POS p)))) 5 0
      | none => s
    let rec_ := fun (s : State) => s.recSev 3 p 0x0203 1 p 0 0 hs
    if armed then s.dpc p 0 true rec_ else rec_ s
  else s

/-- SURPRISE_LINK_DOWN (R535). -/
def execSurpriseLinkDown (p : Port) (s : State) : Host.Outcome State Fault Refusal := .next (s.surpriseDown p)

/-- L1_DEEP_ENTRY: a port with L1_DEEP has been in L1 for 100 µs, or for 1 ms (R200). The entry to L1 has no row of its own: it is
part of this one. Log entry 18. -/
def execL1DeepEntry (p : Port) (second : Bool) (s : State) : Host.Outcome State Fault Refusal :=
  s.event ((s.rd (PRT_CFG_MODE p) == 1 || s.rd (PRT_CFG_MODE p) == 2) && s.on (PRT_CFG_L1_DEEP p)
      && (s.rd (PRT_LINK_STATUS_LTSSM p) == 3 || s.rd (PRT_LINK_STATUS_LTSSM p) == 6)) fun s =>
    ((s.wrs [(PRT_LINK_STATUS_LTSSM p, 6), (PRT_LINK_STATUS_DEEP_LEVEL p, if second then 2 else 1)]).laneView p).linkView p

/-- PTM_REQUEST: fabric time answers as PTM Master Time, with a granularity of 2 ns (R105, R106). -/
def execPtmRequest (p : Port) (s : State) : Host.Outcome State Fault Refusal :=
  (s.arrive p).event (s.on (PRTX_PTM p) && s.on (PRT_LINK_STATUS_DL_ACTIVE p)) fun s => s.emit (.ptmResponse p (s.ft / 2 * 2) (s.ft / 2 * 2))

/-! Windsock and references. -/

/-- The port of a lane meets an unmasked LOS or LOL: Recovery, or a tether's loss of its link (R177, R283). -/
def State.wsReact (s : State) (l : Nat) : State :=
  match s.ownerOf l with
  | none => s
  | some p =>
    if s.rd (PRT_CFG_MODE p) = 3 then s.loseLink p 1
    else if s.rd (PRT_LINK_STATUS_LTSSM p) = 3 then s.recovery p else s

/-- LOS_ASSERT (R172, R175 to R178). -/
def execLosAssert (l : Lane) (s : State) : Host.Outcome State Fault Refusal :=
  s.event (!s.on (LAN_STATUS_LOS l)) fun s =>
    let s := (s.wr (LAN_STATUS_LOS l) 1).wrs [(LANX_LOS_AT l, s.now), (LANX_QUIET l, b2n (s.quietMask l))]
    if s.wsMasked l then s else (s.wsEvent l true).wsReact l

/-- LOL_ASSERT (R173, R175 to R178, R283). -/
def execLolAssert (l : Lane) (s : State) : Host.Outcome State Fault Refusal :=
  s.event (!s.on (LAN_STATUS_LOL l)) fun s =>
    if s.wsMasked l then s.lolAssert l else (s.lolAssert l).wsReact l

/-- Port `p` loses its reference (R153). -/
def State.refLost (s : State) (p : Nat) : State :=
  let m := s.rd (PRT_CFG_MODE p)
  if m = 3 then s.loseLink p 1
  else if m = 2 then s.surpriseDown p
  else if m = 1 ∧ s.on (PRT_LINK_STATUS_DL_ACTIVE p) then s.upstreamDown p 0 else s

/-- REF_LOST: the clock on CLKREF of lane group `g` is lost; when a PLL of the group runs, REF_LOST, code 0x0104 and the loss of every
link of the group (R153). -/
def execRefLost (g : Fin 16) (s : State) : Host.Outcome State Fault Refusal :=
  s.event (bitSet (s.rd GLB_CLK_STATUS_CLKREF_DET) g) fun s =>
    let s := s.groupStatus g
    let runs := s.on (LAN_GRP_STATUS_PLL_P_ON g) || s.on (LAN_GRP_STATUS_PLL_C_ON g)
    let s := (s.wr GLB_CLK_STATUS_CLKREF_DET (clrBit (s.rd GLB_CLK_STATUS_CLKREF_DET) g)).groupView g
    if runs then
      let s := (s.wr (LAN_GRP_STATUS_REF_LOST g) 1).log (128 + g) 0x0104 0 (detG g 0)
      (State.groupPorts g).foldl State.refLost s
    else s

/-- REF_RETURN: the clock returns and the PLLs of the group relock; the ports retrain under their own rules (R154). -/
def execRefReturn (g : Fin 16) (s : State) : Host.Outcome State Fault Refusal :=
  .next ((s.wr GLB_CLK_STATUS_CLKREF_DET (setBit (s.rd GLB_CLK_STATUS_CLKREF_DET) g)).groupView g)

/-! PORT commands. -/

/-- What PORT_CONFIG sets of a port. -/
structure PortCfg where
  mode : Nat
  offset : Nat
  width : Nat
  rate : Nat
  flit : Nat
  indep : Nat
  deep : Nat
  host : Nat
  slot : Nat
  slotValid : Nat
  deriving DecidableEq, Repr

/-- The parameters of PORT_CONFIG (R722). -/
def portCfgOf (c : Cmd) : PortCfg :=
  ⟨parBytes c 1 1, parBytes c 3 1, parBytes c 4 1, parBytes c 5 1, parBits c 48 1, parBits c 49 1, parBits c 50 1, parBytes c 7 1,
    parBits c 64 5, parBits c 71 1⟩

/-- The parameters name a port that the lane rules allow (R142 to R144, R184 to R186); a port that is switched off takes no lane. -/
def PortCfg.ok (a : PortCfg) (p g : Nat) : Bool :=
  decide (p < 128) && decide (a.mode ≤ 3) && (a.mode == 0
    || decide (g < 16) && decide (a.offset < 16) && decide (a.width ≤ 4) && a.offset % 2 ^ a.width == 0
      && (a.width != 0 || a.offset % 2 == 0) && p == 8 * g + a.offset / 2
      && (if a.mode = 3 then decide (8 ≤ a.rate) && decide (a.rate ≤ 11) && (a.rate != 11 || decide (g < 8)) else decide (a.rate ≤ 5))
      && (a.mode != 1 || decide (a.host < 48)))

/-- A lane that the port would take belongs to another port (R187). -/
def State.laneClash (s : State) (p : Nat) (a : PortCfg) : Bool :=
  a.mode != 0 && (List.range (2 ^ a.width)).any fun i =>
    match s.ownerOf (16 * (p / 8) + a.offset + i) with
    | some q => q != p
    | none => false

/-- PORT_CONFIG changes the role, width, lanes or host of a port (R191, R192). -/
def State.portMoves (s : State) (p : Nat) (a : PortCfg) : Bool :=
  s.rd (PRT_CFG_MODE p) != a.mode || s.rd (PRT_CFG_WIDTH p) != a.width || s.rd (PRT_CFG_FIRST_OFFSET p) != a.offset
    || (a.mode == 1 && s.rd (PRT_CFG_HOST p) != a.host)

/-- Port `p` gives up its role, its links and its lanes (R191, R289). -/
def State.leaveRole (s : State) (p : Nat) : State :=
  let m := s.rd (PRT_CFG_MODE p)
  if m = 0 then s
  else
    let s := if m = 1 then
        (match s.portHost p with
         | some h => ((s.pcieDown p 0).resetHier h false).wr (HOSTF_PORT h) 0
         | none => s)
      else if m = 2 then s.pcieDown p 0
      else (s.disableTether p).usableAll p
    (((s.dropLanes p).clearRange ((PRT_CFG_MODE p).key / 8) 0x24).clearRange ((PRTX_MPS p).key / 8) 0x10).linkView p

/-- The fields of PRT_CFG written; a tether always runs in independent-reference mode (R151). -/
def State.putPortCfg (s : State) (p : Nat) (a : PortCfg) : State :=
  s.wrs [(PRT_CFG_MODE p, a.mode), (PRT_CFG_FIRST_OFFSET p, a.offset), (PRT_CFG_WIDTH p, a.width), (PRT_CFG_MAX_RATE p, a.rate),
    (PRT_CFG_FLIT_ALLOWED p, a.flit), (PRT_CFG_CLK_INDEP p, if a.mode = 3 then 1 else a.indep), (PRT_CFG_L1_DEEP p, a.deep),
    (PRT_CFG_HOST p, if a.mode = 1 then a.host else 0), (PRT_CFG_SLOT_CH p, if a.mode = 2 then a.slot else 0),
    (PRT_CFG_SLOT_VALID p, if a.mode = 2 then a.slotValid else 0), (PRT_CYT_CFG_MAX_RATE p, if a.mode = 3 then a.rate else 11)]

/-- Port `p` tied to slot channel `c` takes the slot's presence (R204). -/
def State.slotPresence (s : State) (p c : Nat) : State := s.wr (SLTX_STS p) (bit (s.rd (PDI_SC_STATUS_PRSNT c)) 0 * 2 ^ 6)

/-- Port `p` takes up the role, the lanes and the host of `a`: a host's hierarchy comes out of reset once READY has been reached (R214), a slot
shows its qualified presence (R204), and a tether starts to train (R188, R278). -/
def State.takeRole (s : State) (p : Nat) (a : PortCfg) : State :=
  if a.mode = 0 then s
  else
    let s := s.putPortCfg p a
    let s := if a.mode = 1 then
        ((((s.wr (HOSTF_PORT a.host) (p + 1)).wr (PRT_HOST_STATUS_PERST_ACTIVE p) (s.rd (HOSTF_PERST a.host))).resetConfig a.host).holdView
          a.host).hostView a.host
      else if a.mode = 2 ∧ a.slotValid = 1 then s.slotPresence p a.slot
      else s
    let s := s.takeLanes p
    (if a.mode = 3 then (s.joinAgain p).trainAnew p else s).linkView p

/-- A port configured anew; a change of rate limits or of the slot alone leaves the link as it is, and takes effect when it next trains
(R191). -/
def State.configPort (s : State) (p : Nat) (a : PortCfg) : State :=
  if s.portMoves p a then (s.leaveRole p).takeRole p a
  else if a.mode = 0 then s
  else
    let tied := a.mode == 2 && a.slotValid == 1 && !(s.on (PRT_CFG_SLOT_VALID p) && s.rd (PRT_CFG_SLOT_CH p) == a.slot)
    (s.putPortCfg p a).when tied fun s => s.slotPresence p a.slot

/-- Port `p` is the management host's. -/
def State.mgmtPort (s : State) (p : Nat) : Bool := (s.portHost p).isSome && s.portHost p == s.mgmtHost

/-- The number of upstream ports. -/
def State.upstreams (s : State) : Nat := countN 128 fun q => s.rd (PRT_CFG_MODE q) == 1

/-- PORT_CONFIG (R143, R144, R181, R185 to R192, R380, R722). -/
def execPortConfig (c : Cmd) (s : State) : Host.Outcome State Fault Refusal :=
  let p := parBytes c 0 1
  let a := portCfgOf c
  let up := s.rd (PRT_CFG_MODE p) == 1
  .next (s.command 0x0201 onlyM
    (cleanCmd c [(0, 8), (8, 8), (16, 8), (24, 8), (32, 8), (40, 8), (48, 3), (56, 8), (64, 5), (71, 1)] false && a.ok p (parBytes c 2 1))
    (fun _ => firstFail
      [(s.laneClash p a, stOverlap),
       (a.mode == 1 && s.rd (HOSTF_PORT a.host) != 0 && s.rd (HOSTF_PORT a.host) != p + 1, stOverlap),
       (a.mode == 1 && !up && decide (48 ≤ s.upstreams), stNoResource),
       (up && s.portMoves p a && s.mgmtPort p, stNotPermitted),
       (s.rd (PRT_CFG_MODE p) == 2 && decide (0 < s.rd (BINDX_COUNT p)), stBusy),
       (s.portBusy p, stBusy)]
      (.ok 0 (s.configPort p a))) c)

/-- PORT_FWD_SET (R329, R339, R343, R380). -/
def execPortFwdSet (c : Cmd) (s : State) : Host.Outcome State Fault Refusal :=
  let p := parBytes c 0 1
  .next (s.command 0x0202 onlyM (cleanCmd c [(0, 8), (8, 8), (16, 1), (32, 32)] false && decide (p < 128)
      && decide (1 ≤ parBytes c 4 4) && decide (parBytes c 4 4 ≤ 1000000))
    (fun _ => firstFail [(s.portBusy p, stBusy)] (.ok 0 (s.wrs [(SWC_PORT_CFG_STOMP_LIMIT p, parBytes c 1 1),
      (SWC_PORT_CFG_CT_ENABLE p, parBits c 16 1), (SWC_PORT_CFG_AGE_LIMIT p, parBytes c 4 4)]))) c)

/-- PORT_LINK with action `act` that names no width: its parameters, and its effect on a port in use. -/
def State.portLink (s : State) (c : Cmd) (act : Nat) (fails : List (Bool × Nat)) (f : Nat → State → State) : State :=
  let p := parBytes c 0 1
  s.command 0x0204 onlyM (cleanCmd c [(0, 8), (8, 8)] false && parBytes c 1 1 == act && decide (p < 128))
    (fun _ => firstFail ((s.rd (PRT_CFG_MODE p) == 0, stBadParam) :: (s.portBusy p, stBusy) :: fails) (.ok 0 (f p s))) c

/-- PORT_LINK with action 0: a PCI Express link goes through Recovery; a tether in UP requests a retrain, and one in FAILED starts
again (R278, R295, R722). -/
def execPortLinkRetrain (c : Cmd) (s : State) : Host.Outcome State Fault Refusal :=
  let p := parBytes c 0 1
  .next (s.portLink c 0 [(s.rd (PRT_CFG_MODE p) == 3 && s.rd (CYTX_REQ p) != 0, stBusy)] fun p s =>
    if s.rd (PRT_CFG_MODE p) = 3 then
      let s := s.joinAgain p
      if s.tetherUp p then ((s.wrs [(CYTX_REQ p, 1), (CYTX_REQ_ARG p, 0)]).linkMgmt p 2 0).startRetrain p
      else if (s.cyState p = cyFailed ∨ s.cyState p = cyLeft) ∧ ¬ s.contained 1 p then s.trainAnew p else s
    else s.recovery p)

/-- PORT_LINK with action 2 (R193, R722): refused on the management host's port. -/
def execPortLinkDisable (c : Cmd) (s : State) : Host.Outcome State Fault Refusal :=
  let p := parBytes c 0 1
  .next (s.portLink c 2 [(s.mgmtPort p, stNotPermitted)] fun p s =>
    let s := s.wr (PRTX_OFF p) 1
    let m := s.rd (PRT_CFG_MODE p)
    if m = 3 then (if s.cyState p = cyDisabled then s else (s.disableTether p).usableAll p)
    else if m = 1 then s.upstreamDown p (if s.on (PRT_HOST_STATUS_PERST_ACTIVE p) then 0 else 8) else (s.pcieDown p 8).laneView p)

/-- PORT_LINK with action 3: the link trains again, unless its port is contained (R278, R532, R722). -/
def execPortLinkEnable (c : Cmd) (s : State) : Host.Outcome State Fault Refusal :=
  .next (s.portLink c 3 [] fun p s =>
    let s := s.wr (PRTX_OFF p) 0
    if s.contained 1 p then s
    else if s.rd (PRT_CFG_MODE p) = 3 then
      (if s.cyState p = cyDisabled ∨ s.cyState p = cyLeft ∨ s.cyState p = cyFailed then (s.joinAgain p).trainAnew p else s)
    else if s.rd (PRT_LINK_STATUS_LTSSM p) = 8 then (s.pcieDown p 0).laneView p else s)

end Sys2Proof.Machine
end

