-- ==== Sys2Proof/Machine/Power.lean ====
section
/-! DEFINITION. Power states (chapter 17): what shows the votes, PS-IDLE and PS-SLEEP, wakes, and the POWER_VOTE command. States are
numbered as in PWR_STATUS: 0 PS-RUN, 1 PS-IDLE, 2 PS-SLEEP, 3 PS-DEEP; PS-OFF is 4. -/

namespace Sys2Proof.Machine

/-- The sleep delay runs: no vote on the switch core in PS-RUN or PS-IDLE (R779). -/
def State.delayRuns (s : State) : Bool :=
  decide (s.rd PWR_STATUS_STATE ≤ 1) && !s.on PWR_STATUS_ENTERING && s.voteCount domCore == 0 && s.rd MOR_STATUS_STATE == 0
    && s.rd GLB_BOOT_STATUS_STAGE == 6

/-- The registers of the power block that show the votes. -/
def State.powerView (s : State) : State :=
  let t := s.forN (fun d t =>
    let v := s.votes d
    t.wrs [(PWR_DOM_VOTES_COUNT d, min 0xFFF (s.voteCount d)), (PWR_DOM_VOTES_HOST d, b2n (v.1 != 0)), (PWR_DOM_VOTES_MGMT d, v.2.1),
      (PWR_DOM_VOTES_GONDOLA d, b2n (v.2.2.1 != 0)), (PWR_DOM_VOTES_TETHER d, b2n (v.2.2.2.1 != 0)), (PWR_DOM_VOTES_INTERNAL d, v.2.2.2.2)]) 31
  (t.wr PWR_DOM_ON_ON ((List.range 31).foldl (fun n d => n + b2n (s.domOn d) * 2 ^ d) 0)).wr PWR_STATUS_DELAY (b2n s.delayRuns)

/-- POWER_VOTE (R778). -/
def execPowerVote (c : Cmd) (s : State) : Host.Outcome State Fault Refusal :=
  .next (s.command 0x0801 onlyM (cleanCmd c [(0, 31), (32, 1)] false)
    (fun _ => .ok 0 ((s.wr PWR_MGMT_VOTE_MASK (parBits c 0 31)).wr PWR_MGMT_VOTE_HELD (parBits c 32 1))) c)

/-! Device states (R779 to R787). -/

/-- No TLP is queued, no pool access runs and nothing waits in a write buffer or for a mirror. -/
def State.quietCore (s : State) : Bool :=
  s.switch.txq.isEmpty && s.switch.wait.isEmpty && s.switch.made.isEmpty && s.pool.wb.isEmpty && s.pool.mirror.isEmpty && s.pool.queue.isEmpty
    && s.pool.waiting.isEmpty

/-- WAKE (R785, R786, R792): `src` as PWR_LAST_WAKE codes it. -/
def execWake (src : Fin 16) (idx : Fin 128) (s : State) : Host.Outcome State Fault Refusal :=
  s.event (s.rd PWR_STATUS_STATE == 2) fun s => s.wake src idx

/-- SLEEP_ABANDONED (R782). -/
def execSleepAbandoned (src : Fin 16) (idx : Fin 128) (s : State) : Host.Outcome State Fault Refusal :=
  s.event (s.on PWR_STATUS_ENTERING) fun s => s.wake src idx

/-- ASPM of an idle link: L1 where it is enabled, else L0s in non-flit mode (R194, R195). The spec gives the time at which a link idles no row;
the model takes the device's idle. Log entry 18. -/
def State.aspmEnter (s : State) (p : Nat) : State :=
  if (s.rd (PRT_CFG_MODE p) = 1 ∨ s.rd (PRT_CFG_MODE p) = 2) ∧ s.rd (PRT_LINK_STATUS_LTSSM p) = 3 then
    if 2 ≤ s.rd (PRTX_ASPM p) then (s.wr (PRT_LINK_STATUS_LTSSM p) 6).laneView p
    else if s.rd (PRTX_ASPM p) = 1 ∧ s.on (PRT_LINK_STATUS_FLIT_ACTIVE p) = false then (s.wr (PRT_LINK_STATUS_LTSSM p) 5).laneView p else s
  else s

/-- IDLE_ENTRY: nothing has been queued, accessed or stepped for 20 µs (R779). -/
def execIdleEntry (s : State) : Host.Outcome State Fault Refusal :=
  s.event (s.rd PWR_STATUS_STATE == 0 && !s.on PWR_STATUS_ENTERING && s.rd GLB_BOOT_STATUS_STAGE == 6 && s.quietCore
      && s.ops.all (fun o => o.final.isSome)) fun s => (s.wr PWR_STATUS_STATE 1).forN (fun p s => s.aspmEnter p) 128

/-- IDLE_EXIT: traffic or work arrives (R775, R779). -/
def execIdleExit (s : State) : Host.Outcome State Fault Refusal :=
  s.event (s.rd PWR_STATUS_STATE == 1) fun s => (s.wr PWR_STATUS_STATE 0).forN (fun p s => s.aspmLeave p) 128

/-- SLEEP_DELAY_END: there has been no vote on the switch core for 1 ms, and the entry begins (R779 to R781). -/
def execSleepDelayEnd (s : State) : Host.Outcome State Fault Refusal :=
  s.event s.delayRuns fun s => s.wr PWR_STATUS_ENTERING 1

/-- SLEEP_ENTRY_DONE: the queues and buffers are empty, DDR4 is in self-refresh and the core gated (R773, R781). -/
def execSleepEntryDone (s : State) : Host.Outcome State Fault Refusal :=
  s.event (s.on PWR_STATUS_ENTERING && s.quietCore) fun s =>
    ((s.wrs [(PWR_STATUS_STATE, 2), (PWR_STATUS_ENTERING, 0), (PWR_EVENT_SLEEP, 1)]).inc PWR_COUNT_SLEEPS).channelsTo 2 3

end Sys2Proof.Machine
end

