-- ==== Sys2Proof/Machine/Slot.lean ====
section
/-! DEFINITION. Slots: the 32 slot power channels (chapter 18, R812 to R825), the hot-plug sequencer (R204 to R209, R675, R676), and the
PORT_SLOT, POWER_SC_SET and POWER_SC_REARM commands. -/

namespace Sys2Proof.Machine

/-! States of a channel: 0 OFF, 1 PRECHARGE, 2 RAMP, 3 ON, 4 COOLDOWN, 5 LATCHED (PDI_SC_STATUS). -/

/-- The state of channel `c`. -/
def State.scState (s : State) (c : Nat) : Nat := s.rd (PDI_SC_STATUS_STATE c)

/-- Channel `c` enters state `st` now. -/
def State.setSc (s : State) (c st : Nat) : State := (s.wr (PDI_SC_STATUS_STATE c) st).wr (SCX_ST_AT c) s.now

/-- An event bit of channel `c`. -/
def State.scEvent (s : State) (f : Fld) : State := (s.wr f 1).wr PDI_EVENT_SC_ANY 1

/-- The downstream port tied to channel `c` (R205). -/
def State.slotPort (s : State) (c : Nat) : Option Nat :=
  findFrom (fun p => s.rd (PRT_CFG_MODE p) == 2 && s.on (PRT_CFG_SLOT_VALID p) && s.rd (PRT_CFG_SLOT_CH p) == c) 0 128

/-- That port as a domain (R509). -/
def State.slotDoms (s : State) (c : Nat) : List (Nat × Nat) := (s.slotPort c).toList.map fun p => (1, p)

/-- Bit `k` of the Slot Status of the port tied to channel `c` set. -/
def State.slotStatus (s : State) (c k : Nat) : State :=
  match s.slotPort c with
  | none => s
  | some p => s.wr (SLTX_STS p) (setBit (s.rd (SLTX_STS p)) k)

/-- PGOOD of channel `c` released, when it is asserted (R812). -/
def State.scPgoodDown (s : State) (c : Nat) : State :=
  if s.on (PDI_SC_STATUS_PGOOD c) then (s.wr (PDI_SC_STATUS_PGOOD c) 0).scEvent (PDI_SC_EVENT_PGOOD_DOWN c) else s

/-- PGOOD, SLOT_PERST_N, SC_EN_3V3 and the gate of channel `c` go low; SC_VOUT stays up until it has discharged when the channel had
raised it (R817 to R819). -/
def State.scDrop (s : State) (c : Nat) : State :=
  let up := s.scState c == 2 || s.scState c == 3
  let s := (s.scPgoodDown c).wrs [(PDI_SC_STATUS_PERST_LOW c, 1), (PDI_SC_STATUS_EN_3V3 c, 0), (PDI_SC_STATUS_TIMER_RUNNING c, 0), (SCX_TCNT c, 0),
    (SCX_TON c, 0), (SCX_TLOW c, 0), (SCX_WAIT c, 0)]
  if s.scState c = 0 ∨ s.scState c = 4 ∨ s.scState c = 5 then s
  else (s.wr (SCX_LOW_AT c) s.now).when up fun s => s.wr (SCX_VOUT_HI c) 1

/-- Precharge of channel `c` starts (R822). -/
def State.scPrecharge (s : State) (c : Nat) : State :=
  (s.wrs [(SCX_WAIT c, 0), (PDI_SC_STATUS_EN_3V3 c, 1)]).setSc c 1

/-- Channel `c` proceeds to PRECHARGE, or waits for SC_VOUT (R819): `w` is 1 from OFF and 2 from COOLDOWN. -/
def State.scProceed (s : State) (c w : Nat) : State :=
  if s.on (SCX_VOUT_HI c) then s.wr (SCX_WAIT c) w else s.scPrecharge c

/-! The sequencer. -/

/-- The request that a slot command makes of channel `c`, 1 power on or 2 power off, and whether it is complete at once: with the channel
already as asked, with ENABLE 0, or with a latch that it does not clear; the last two are faults (R207 to R209, R822). -/
def State.scRequest (s : State) (c kind : Nat) : State × Option Bool :=
  let st := s.scState c
  if kind = 1 then
    let cleared := st == 5 && s.on (SCX_OFFSEEN c) && decide (s.rd (PDI_SC_STATUS_LAST_CAUSE c) ≤ 4)
    if st = 0 ∨ cleared = true then
      if !s.on (PDI_SC_CFG_ENABLE c) then (s.slotStatus c 1, some false)
      else
        let s := (s.wrs [(PDI_SC_STATUS_RETRIES_LEFT c, s.rd (PDI_SC_CFG_RETRIES c)), (SCX_OFFSEEN c, 0)]).setSc c 0
        (s.scProceed c 1, none)
    else if st = 3 then (s, if s.on (PDI_SC_STATUS_PERST_LOW c) then none else some true)
    else if st = 5 then (s.slotStatus c 1, some false)
    else (s, none)
  else if st = 0 then ((s.wr (SCX_WAIT c) 0).wr (PDI_SC_STATUS_PERST_LOW c) 1, some true)
  else if st = 5 then (s.wr (SCX_OFFSEEN c) 1, some true)
  else (s.wrs [(PDI_SC_STATUS_PERST_LOW c, 1), (SCX_OFF_AT c, s.now + 1)], none)

/-- A slot command ends: Command Completed, and the final status of a PORT_SLOT (R207 to R209, R722). -/
def State.slotEnd (s : State) (c : Nat) (ok : Bool) : State :=
  let h := s.rd (SCX_OP c)
  let s := (s.slotStatus c 4).wrs [(SCX_BUSY c, 0), (SCX_OP c, 0)]
  if h = 0 then s else s.finishOp h (if ok then stOk else stHwError) 0

/-- A slot command starts on a free slot. -/
def State.slotStart (s : State) (c kind : Nat) : State :=
  let x := (s.wr (SCX_BUSY c) kind).scRequest c kind
  match x.2 with
  | none => x.1
  | some ok => x.1.slotEnd c ok

/-- The command that runs on slot `c` completes, and the one that waits starts (R675). -/
def State.slotDone (s : State) (c : Nat) (ok : Bool) : State :=
  if s.rd (SCX_BUSY c) = 0 then s
  else
    let s := s.slotEnd c ok
    let k := s.rd (SCX_NEXT c)
    if k = 0 then s else (s.wr (SCX_NEXT c) 0).slotStart c k

/-- A slot command asked for outside PORT_SLOT: it starts, or waits for the one that runs (R675). -/
def State.slotCmd (s : State) (c kind : Nat) : State :=
  if s.rd (SCX_BUSY c) = 0 then s.slotStart c kind else s.wr (SCX_NEXT c) kind

/-- A fault of channel `c`: Power Fault Detected, and Command Completed of the command that runs (R208, R824). -/
def State.slotFault (s : State) (c : Nat) : State := (s.slotStatus c 1).slotDone c false

/-! Events of a channel. -/

/-- SC_POWER_ON_REQUEST (R207, R822). While the part is moored, in PS-DEEP or in PS-OFF the gate stays low: the mooring alone powers SC30 and
SC31 (R63). -/
def execScPowerOnRequest (c : Slot) (s : State) : Host.Outcome State Fault Refusal :=
  s.event (!s.on MORX_DEAD && !s.on SYS_OFF && !s.moored && s.rd PWR_STATUS_STATE != 3) fun s => s.slotCmd c 1

/-- SC_POWER_OFF_REQUEST (R209, R822). -/
def execScPowerOffRequest (c : Slot) (s : State) : Host.Outcome State Fault Refusal := .next (s.slotCmd c 2)

/-- SC_VOUT_DISCHARGED: SC_VOUT falls below 1.2 V (R819). -/
def execScVoutDischarged (c : Slot) (s : State) : Host.Outcome State Fault Refusal :=
  s.event (s.on (SCX_VOUT_HI c)) fun s =>
    let s := s.wr (SCX_VOUT_HI c) 0
    if s.rd (SCX_WAIT c) = 0 then s else s.scPrecharge c

/-- SC_PRECHARGE_DONE (R822). -/
def execScPrechargeDone (c : Slot) (s : State) : Host.Outcome State Fault Refusal :=
  s.event (s.scState c == 1) fun s => s.setSc c 2

/-- GATE_STUCK: precharge has lasted 1 ms (R822, R823). -/
def execGateStuck (c : Slot) (s : State) : Host.Outcome State Fault Refusal :=
  s.event (s.scState c == 1) fun s =>
    let s := s.advTo (s.rd (SCX_ST_AT c) + ms)
    let s := ((s.scDrop c).setSc c 5).wr (PDI_SC_STATUS_LAST_CAUSE c) 5
    let s := (s.scEvent (PDI_SC_EVENT_GATE_STUCK c)).scEvent (PDI_SC_EVENT_LATCHED c)
    (s.recordNear 172 0x0F02 (s.slotDoms c) 0 (detG c 5) []).slotFault c

/-- SC_PGOOD: the second of two good samples in RAMP; no sample is good while the fault timer is not idle (R815, R820, R821). -/
def execScPgood (c : Slot) (s : State) : Host.Outcome State Fault Refusal :=
  s.event (s.scState c == 2 && !s.on (PDI_SC_STATUS_TIMER_RUNNING c)) fun s =>
    let s := (s.setSc c 3).wrs [(PDI_SC_STATUS_PGOOD c, 1), (SCX_PG_AT c, s.now)]
    s.scEvent (PDI_SC_EVENT_PGOOD_UP c)

/-- A fault under R816 with its cause: COOLDOWN while retries remain, otherwise LATCHED (R817, R818, R822, R825). -/
def State.scFault (s : State) (c cause : Nat) : State :=
  let s := s.wake wakeFault c
  let s := (s.scDrop c).wr (PDI_SC_STATUS_LAST_CAUSE c) cause
  let s := (s.scEvent (PDI_SC_EVENT_FAULT c)).inc (PDI_SC_COUNT_TRIPS c)
  let s := if s.on (SCX_NEWRETRY c) then
      s.wrs [(SCX_NEWRETRY c, 0), (PDI_SC_STATUS_RETRIES_LEFT c, s.rd (PDI_SC_CFG_RETRIES c))] else s
  let s := if s.rd (PDI_SC_STATUS_RETRIES_LEFT c) = 0 then (s.setSc c 5).scEvent (PDI_SC_EVENT_LATCHED c) else s.setSc c 4
  (s.recordNear 172 0x0F01 (s.slotDoms c) 0 (detG c cause) []).slotFault c

/-- Channel `c` is in PRECHARGE, RAMP or ON. -/
def State.scLive (s : State) (c : Nat) : Bool := s.scState c == 1 || s.scState c == 2 || s.scState c == 3

/-- Slot channel `c` is frozen: from the drain point of a mooring until the next READY unless it is a spill slot, and in PS-OFF (R76).
MOORING_SPILL_SET names spill slots while its enable is 1: DESIGN CHOICE, log entry 60. -/
def State.slotFrozen (s : State) (c : Nat) : Bool :=
  s.on SYS_OFF || (s.on RETX_FROZEN && !(decide (30 ≤ c) && s.on MOR_CFG_TARGET_EN))

/-- Time in µs that the fault timer of channel `c` has counted (R815). -/
def State.scTimer (s : State) (c : Nat) : Nat :=
  s.rd (SCX_TCNT c) + (if s.rd (SCX_TON c) = 0 then 0 else (s.now - (s.rd (SCX_TON c) - 1)) / us)

/-- A sample of channel `c`'s current, in mA as two's complement: at or above the trip current the fault timer counts, and is a fault once it
reaches its setting; below it the timer stops, and it returns to zero when the sample before lay below 90 % of the trip current as well
(R815, R816). -/
def State.scSample (s : State) (c ma : Nat) : State :=
  if !s.scLive c then s
  else
    let trip := s.rd (PDI_SC_CFG_TRIP_MA c)
    let t := s.scTimer c
    if ma < 32768 ∧ trip ≤ ma then
      if s.rd (SCX_TON c) = 0 then s.wrs [(PDI_SC_STATUS_TIMER_RUNNING c, 1), (SCX_TON c, s.now + 1), (SCX_TLOW c, 0)]
      else if 100 * s.rd (PDI_SC_CFG_TIMER c) ≤ t then s.scFault c 1 else s
    else
      let low := decide (32768 ≤ ma) || decide (10 * ma < 9 * trip)
      let t := if low && s.on (SCX_TLOW c) then 0 else t
      s.wrs [(PDI_SC_STATUS_TIMER_RUNNING c, b2n (decide (0 < t))), (SCX_TCNT c, t), (SCX_TON c, 0), (SCX_TLOW c, b2n low)]

/-- The fault timer of channel `c` reaches its setting: at the time that this takes when it counts (R815, R816). -/
def State.scExpire (s : State) (c : Nat) : State :=
  let t := 100 * s.rd (PDI_SC_CFG_TIMER c) - s.rd (SCX_TCNT c)
  ((if s.rd (SCX_TON c) = 0 then s else s.advTo (s.rd (SCX_TON c) - 1 + t * us))).scFault c 1

/-- SC_FAULT: the fault timer expires (0), the 3.3 V switch reports a fault (1), or RAMP has lasted 100 ms (2) (R816, R818). -/
def execScFault (c : Slot) (cause : Fin 3) (s : State) : Host.Outcome State Fault Refusal :=
  s.event (s.scLive c && !s.on SYS_OFF && (cause != 2 || s.scState c == 2) && !(cause == 1 && s.slotFrozen c)) fun s =>
    if cause = 0 then s.scExpire c
    else if cause = 1 then s.scFault c 3
    else (s.advTo (s.rd (SCX_ST_AT c) + 100 * ms)).scFault c 4

/-- FAST_TRIP: the current has reached twice the trip current (R816, R817). -/
def execFastTrip (c : Slot) (s : State) : Host.Outcome State Fault Refusal :=
  s.event (s.scLive c) fun s => (s.inc (PDI_SC_COUNT_FAST_TRIPS c)).scFault c 2

/-- SC_COOLDOWN_END: 1 s of cooldown has passed, and the channel tries again (R822). -/
def execScCooldownEnd (c : Slot) (s : State) : Host.Outcome State Fault Refusal :=
  s.event (s.scState c == 4 && s.rd (SCX_WAIT c) == 0 && s.rd (SCX_OFF_AT c) == 0) fun s =>
    let s := s.advTo (s.rd (SCX_ST_AT c) + sec)
    (s.dec (PDI_SC_STATUS_RETRIES_LEFT c)).scProceed c 2

/-- SC_PGOOD_HELD: PGOOD has been held for 1 s (R822). -/
def execScPgoodHeld (c : Slot) (s : State) : Host.Outcome State Fault Refusal :=
  s.event (s.scState c == 3) fun s =>
    (s.advTo (s.rd (SCX_PG_AT c) + sec)).wr (PDI_SC_STATUS_RETRIES_LEFT c) (s.rd (PDI_SC_CFG_RETRIES c))

/-- FET_SHORT: SC_VOUT is still at or above 1.2 V 5 s after the gate went low (R819, R822, R823). -/
def execFetShort (c : Slot) (s : State) : Host.Outcome State Fault Refusal :=
  s.event ((s.scState c == 0 || s.scState c == 4) && s.on (SCX_VOUT_HI c)) fun s =>
    let s := s.advTo (s.rd (SCX_LOW_AT c) + 5 * sec)
    let s := (s.setSc c 5).wrs [(PDI_SC_STATUS_LAST_CAUSE c, 6), (SCX_WAIT c, 0), (SCX_OFF_AT c, 0)]
    let s := (s.scEvent (PDI_SC_EVENT_FET_SHORT c)).scEvent (PDI_SC_EVENT_LATCHED c)
    (s.recordNear 172 0x0F03 (s.slotDoms c) 0 (detG c 6) []).slotFault c

/-- SLOT_PERST_RELEASE: 100 ms after PGOOD; Command Completed follows 20 µs later (R207, R824). -/
def execSlotPerstRelease (c : Slot) (s : State) : Host.Outcome State Fault Refusal :=
  s.event (s.scState c == 3 && s.on (PDI_SC_STATUS_PERST_LOW c) && s.rd (SCX_OFF_AT c) == 0) fun s =>
    let s := (s.advTo (s.rd (SCX_PG_AT c) + 100 * ms)).wr (PDI_SC_STATUS_PERST_LOW c) 0
    if s.rd (SCX_BUSY c) = 1 then (s.advTo (s.now + 20 * us)).slotDone c true else s

/-- SLOT_CHANNEL_OPEN: 1 ms after SLOT_PERST_N went low the channel opens, PGOOD is released and Command Completed set (R209). -/
def execSlotChannelOpen (c : Slot) (s : State) : Host.Outcome State Fault Refusal :=
  s.event (s.rd (SCX_OFF_AT c) != 0) fun s =>
    let s := (s.advTo (s.rd (SCX_OFF_AT c) - 1 + ms)).wr (SCX_OFF_AT c) 0
    let s := if s.scState c = 5 then (s.scDrop c).wr (SCX_OFFSEEN c) 1 else (s.scDrop c).setSc c 0
    if s.rd (SCX_BUSY c) = 2 then s.slotDone c true else s

/-- The mooring trigger opens channel `c` at once, and the slot command that ran there ends (R822). -/
def State.scMoor (s : State) (c : Nat) : State :=
  let s := (s.scDrop c).wrs [(SCX_OFF_AT c, 0), (SCX_BUSY c, 0), (SCX_NEXT c, 0), (SCX_OP c, 0), (SCX_OFFSEEN c, 0)]
  s.setSc c 0

/-! Slot Control and Slot Status. -/

/-- A host's Slot Control write of Power Controller Control, `off` its new value: the owner's alone (R205, R207, R209). -/
def State.slotControl (s : State) (h p : Nat) (off : Bool) : State :=
  if s.slotOwned p && s.boundHost p == some h then
    let s := s.wr (SLTX_CTL p) (if off then setBit (s.rd (SLTX_CTL p)) 10 else clrBit (s.rd (SLTX_CTL p)) 10)
    s.slotCmd (s.rd (PRT_CFG_SLOT_CH p)) (if off then 2 else 1)
  else s

/-- SLOT_POWER_ON_WRITE (R205, R207, R675). -/
def execSlotPowerOnWrite (h : Host) (p : Port) (s : State) : Host.Outcome State Fault Refusal := .next (s.slotControl h p false)

/-- SLOT_POWER_OFF_WRITE (R205, R209, R675). -/
def execSlotPowerOffWrite (h : Host) (p : Port) (s : State) : Host.Outcome State Fault Refusal := .next (s.slotControl h p true)

/-- A qualified presence change (`btn` false) or button press of slot `c` (R204, R676): the bits of its host's Slot Status, or a record for
the management host, whose code the spec does not give. Log entry 19. -/
def State.slotInput (s : State) (c : Nat) (btn present : Bool) : State :=
  let s := s.wake wakeSlot c
  let owned := match s.slotPort c with
    | some p => s.slotOwned p
    | none => false
  let s := match s.slotPort c with
    | some p => s.when (!btn) fun s => s.wr (SLTX_STS p) (if present then setBit (s.rd (SLTX_STS p)) 6 else clrBit (s.rd (SLTX_STS p)) 6)
    | none => s
  if owned then s.slotStatus c (if btn then 0 else 3)
  else s.takeFree.recSev 0 172 (s.freeVal % 65536) 0 0 c (detG c (b2n present)) s.mgmtHost.toList

/-! Commands. -/

/-- The code of an indicator in Slot Control (1 on, 2 blink, 3 off) from that of PORT_SLOT (R722). -/
def indicatorCode (v : Nat) : Nat := if v = 0 then 3 else v

/-- Indicators of port `p` written: `pw` and `at_` in PORT_SLOT's code, 3 leaving one unchanged. -/
def State.setIndicators (s : State) (p pw att : Nat) : State :=
  let v := s.rd (SLTX_CTL p)
  let v := if pw = 3 then v else putBits v 8 2 (indicatorCode pw)
  s.wr (SLTX_CTL p) (if att = 3 then v else putBits v 6 2 (indicatorCode att))

/-- The OPCODE of PORT_SLOT. -/
def opSlot : Nat := 0x0205

/-- PORT_SLOT: the management host drives the slot of a port that no host drives (R205, R675, R722). -/
def execPortSlot (c : Cmd) (s : State) : Host.Outcome State Fault Refusal :=
  let p := parBytes c 0 1
  .next (s.command opSlot onlyM (cleanCmd c [(0, 8), (8, 8), (16, 4)] false && decide (p < 128) && decide (parBytes c 1 1 ≤ 2))
    (fun _ => firstFail
      [(s.rd (PRT_CFG_MODE p) != 2 || !s.on (PRT_CFG_SLOT_VALID p), stBadParam),
       (s.slotOwned p, stNotPermitted),
       (s.unbindBusy p, stBusy)]
      (.long grpHotPlug 1 0 0 s)) c)

/-- A step of a PORT_SLOT: it starts once the slot is free, and its end comes from the channel's events (R675). -/
def State.stepSlot (s : State) (o : Op) : State :=
  let p := parBytes o.cmd 0 1
  let c := s.rd (PRT_CFG_SLOT_CH p)
  if o.phase ≠ 0 ∨ s.rd (SCX_BUSY c) ≠ 0 then s
  else
    let s := s.setIndicators p (parBits o.cmd 16 2) (parBits o.cmd 18 2)
    let k := parBytes o.cmd 1 1
    let s := s.setOp o.handle fun x => { x with phase := 1 }
    if k = 2 then s.finishOp o.handle stOk 0
    else
      let v := s.rd (SLTX_CTL p)
      let s := s.wr (SLTX_CTL p) (if k = 1 then clrBit v 10 else setBit v 10)
      (s.wr (SCX_OP c) o.handle).slotStart c (if k = 1 then 1 else 2)

/-- POWER_SC_SET (R822, R825). -/
def execPowerScSet (c : Cmd) (s : State) : Host.Outcome State Fault Refusal :=
  let k := parBytes c 0 1
  let en := parBits c 8 1
  .next (s.command 0x0803 onlyM (cleanCmd c [(0, 8), (8, 1), (16, 16), (32, 16), (48, 8)] false && decide (k < 32)
      && decide (500 ≤ parBytes c 2 2) && decide (parBytes c 2 2 ≤ 8000) && decide (1 ≤ parBytes c 4 2) && decide (parBytes c 4 2 ≤ 200)
      && decide (parBytes c 6 1 ≤ 7))
    (fun _ =>
      let t := s.when (s.rd (PDI_SC_CFG_RETRIES k) != parBytes c 6 1) fun s => s.wr (SCX_NEWRETRY k) 1
      let t := t.wrs [(PDI_SC_CFG_ENABLE k, en), (PDI_SC_CFG_TRIP_MA k, parBytes c 2 2), (PDI_SC_CFG_TIMER k, parBytes c 4 2),
        (PDI_SC_CFG_RETRIES k, parBytes c 6 1)]
      .ok 0 (match t.slotPort k with
        | none => t.slotCmd k (if en = 1 then 1 else 2)
        | some p => if en = 0 ∧ t.slotOwned p then t.slotCmd k 2 else t)) c)

/-- POWER_SC_REARM: a latched channel returns to OFF (R822, R823). -/
def execPowerScRearm (c : Cmd) (s : State) : Host.Outcome State Fault Refusal :=
  let k := parBytes c 0 1
  .next (s.command 0x0804 onlyM (cleanCmd c [(0, 8)] false && decide (k < 32)) (fun _ =>
    .ok 0 (if s.scState k = 5 then
      (s.wrs [(PDI_SC_STATUS_RETRIES_LEFT k, s.rd (PDI_SC_CFG_RETRIES k)), (SCX_OFFSEEN k, 0)]).setSc k 0 else s)) c)

end Sys2Proof.Machine
end

