-- ==== Sys2Proof/Machine/Reset.lean ====
section
/-! DEFINITION. RESET_N (R108 to R118): the drain that a reset and a mooring share, what a reset of the logic keeps, and the beginning of
a start-up. -/

namespace Sys2Proof.Machine

/-! The first-error area (R515, R855, R892). -/

/-- The bit of a record that says OVERFLOW (R507). -/
def overflowBit : Nat := 83

/-- An element put before the first that is later by `k`. -/
def insertBy (k : Nat → Nat) (x : Nat) : List Nat → List Nat
  | [] => [x]
  | y :: t => if k x < k y then x :: y :: t else y :: insertBy k x t

/-- The first-error records of the contained domains written to the first-error area: the 256 with the earliest TRIGGER_TIME, the first
of them with OVERFLOW when there are more. -/
def State.saveFirst (s : State) : State :=
  let k0 := (DOM_STATE 0).key
  let live := (s.listed k0 1024 24576).filter fun i => s.on (DOM_FIRST_VALID i)
  let sorted := live.foldl (fun l i => insertBy (fun j => s.rd (DOM_TRIGGER_TIME j)) i l) []
  let recs := s.mooring.firstErr ++ sorted.map fun i => s.rd (DOM_FIRST i)
  let recs := if 256 < recs.length then (match recs with
      | r :: t => setBit r overflowBit :: t
      | [] => []) else recs
  { s with mooring := { s.mooring with firstErr := recs.take 256 } }

/-! The drain (R29, R30, R111 to R113, R853, R854). -/

/-- Every entry of a write buffer, and every store that has passed window translation and waits at the head of its source's ingress. -/
def State.drainEntries (s : State) : List WbEnt :=
  s.pool.wb ++ s.pool.waiting.flatMap fun a => match a.op with
    | .store l => s.storeEntries a l
    | _ => []

/-- An entry is performed, or discarded at a FAILED channel; in a reset drain that counts in DRAIN_DISCARDS too (R112, R569). -/
def State.drainEntry (s : State) (e : WbEnt) : State :=
  if s.chDown e.line then
    let s := s.discardStore e.src e.line
    if s.on SYS_DRAINING then s.inc GLB_RESET_CAUSE_DRAIN_DISCARDS else s
  else s.performWb e

/-- The pool with its contents alone. -/
def Pool.contents (p : Pool) : Pool := ⟨p.cells, p.poison, [], [], [], [], [], [], [], [], [], []⟩

/-- Content `o` is mirror traffic of this node: KIND 2 or 3 (R258). -/
def OwnTlp.isMirror : OwnTlp → Bool
  | .unit u => u.kind == 2 || u.kind == 3
  | _ => false

/-- Mirror traffic in flight is dropped: what waits for an egress queue, stands in one or on a transmit stage is not sent (R113, R854). -/
def State.dropMirror (s : State) : State :=
  let s := { s with switch := { s.switch with made := s.switch.made.filter fun m => !m.2.2.isMirror } }
  let l := s.switch.txq.filter fun x => x.own.any OwnTlp.isMirror
  let s := l.foldl (fun s x => s.dequeue x) s
  { s with tether := { s.tether with sendq := s.tether.sendq.filter fun u => u.unit.kind != 2 && u.unit.kind != 3 } }

/-- The drain: a Bridle session stops, every store that has reached the pool is performed, closes are abandoned, and mirror traffic is dropped
(R29, R30, R113, R854). What waits at the checker is checked under the active tables in a mooring (R435); in a reset drain its stores, which
have not passed translation, are discarded and counted (R111). -/
def State.drain (s : State) : State :=
  let s := s.stopSession
  let s := (if s.on SYS_DRAINING then s else s.retryHeld).discardHeld.dropMirror
  let s := s.drainEntries.foldl (fun s e => s.drainEntry e) s
  let s := { s with pool := s.pool.contents }
  s.forN (fun d s => s.wrs [(ORD_DOM_STATUS_CLOSING d, 0), (ORD_DOM_STATUS_PENDING d, 0)]) 16

/-! The retention domain and the power die. -/

/-- The bit ranges, from and length, that a reset of the logic keeps: straps and reset cause, clock detectors, the qualifiers of the power
die's inputs, the power die's registers, power events, mooring registers, the fabric time unit, the firmware choice, the
address map, the durable domains, and the internal state of these (R20, R108, R556, R561, R830, R920). -/
def retainedBits : List (Nat × Nat) :=
  [(8 * 0x40, 64), (8 * 0x4C, 16), (8 * 0x50, 12), (8 * 0x10000, 8 * 0x2000), (8 * 0x700018, 64), (8 * 0x740000, 8 * 0x48),
    (8 * 0x780100, 8 * 0x14), (MGT_FLASH_STATUS_SELECT.key, 2), (8 * 0x400000, 32), (8 * 0x440100, 8 * 0x400),
    ((DDX_EPOCH 0).key, (DDX_EPOCH 16).key - (DDX_EPOCH 0).key), ((CHX_LOST 0).key, (CHX_LOST 8).key - (CHX_LOST 0).key),
    ((SCX_WAIT 0).key, (SCX_WAIT 32).key - (SCX_WAIT 0).key), (RETX_KEPT.key, (MTRX_E 36).key - RETX_KEPT.key), (SYS_OFF.key, 1)]

/-- The field at bit address `k` is kept by a reset of the logic; the level of PERST_N of a host is a pin's. -/
def retained (k : Nat) : Bool :=
  retainedBits.any (fun r => decide (r.1 ≤ k) && decide (k < r.1 + r.2)) || (List.range 48).any fun h => k == (HOSTF_PERST h).key

/-- WAKE_N of host `h` is driven (R222). -/
def State.wakeDriven (s : State) (h : Nat) : Bool :=
  match s.hostPort h with
  | some p => s.on (PRT_HOST_STATUS_WAKE_DRIVEN p)
  | none => false

/-- The pins that the logic drives are released: ALERT_N (pin 2), DBG_ACTIVE (pin 7) and WAKE_N (pin 1), where it drove them; CHAIN_OUT
(pin 3) is low (R52, R63, R945). -/
def State.releaseLogic (s : State) : State :=
  let s := s.when (s.on MGT_SMB_STATUS_ALERT) fun s => s.emit (.pin 2 0 true)
  let s := s.when (s.on DBG_CTRL_DEBUG_OVERRIDE) fun s => s.emit (.pin 7 0 false)
  let s := s.forN (fun h s => s.when (s.wakeDriven h) fun s => s.emit (.pin 1 h true)) 48
  s.emit (.pin 3 0 false)

/-- The save area, the last MiB of the pool, has lines on channel `c` (R443, R554). -/
def State.savesOn (s : State) (c : Nat) : Bool := (List.range (s.rd BAL_STATUS_W)).any fun k => (s.mapAddr (s.poolUsable + 256 * k)).1 == c

/-- The copies of the save area are lost: none is valid. -/
def State.loseSave (s : State) : State :=
  let b := { s.bridle with saveA := Tables.invalid, saveB := Tables.invalid, gondA := Tables.invalid, gondB := Tables.invalid }
  { s with bridle := b }

/-- The logic outside the retention domain resets (R108): nothing but the retained state, the contents of the pool with the Bridle save
area, and the flash stays. A FAILED channel has lost its contents, and with them the save copies that reach over it (R571). The tethers are down, so the role is taken anew, and with no
gate list left no step is pending (R84, R101). -/
def State.resetLogic (s : State) : State :=
  let lost := (List.range 8).filter fun c => s.rd (BAL_CH_STATUS_STATE c) == chFailed
  let s := s.saveFirst.releaseLogic
  let s := s.when (lost.any s.savesOn) State.loseSave
  let t : State := { State.reset with
    regs := s.regs.filter fun e => retained e.1
    clk := s.clk
    pool := s.pool.contents
    bridle := { State.reset.bridle with
      saveA := s.bridle.saveA
      saveB := s.bridle.saveB
      gondA := s.bridle.gondA
      gondB := s.bridle.gondB }
    mooring := s.mooring
    mgmt := { State.reset.mgmt with
      flash := s.mgmt.flash
      edges := s.mgmt.edges }
    out := s.out
    free := s.free
    pending := s.pending }
  let t := lost.foldl (fun t c => t.wrs [(CHX_LOST c, 1), (CHX_SAVED c, 0)]) t
  let t := { t with pool := { t.pool with poison := t.pool.poison.filter fun l => !lost.contains (l / 2 ^ 31) } }
  (t.wr MGT_FT_STATUS_STEP_PENDING 0).ftRole

/-- The source, the state left and the time of the event that a start-up follows (R792). -/
def State.startEvent (s : State) (cause src from_ : Nat) : State :=
  s.wrs [(RETX_CAUSE, cause), (RETX_SOURCE, src), (RETX_FROM, from_), (RETX_EVENT_AT, s.ft)]

/-- A RESET_N that meets a mooring: recorded, and the start-up becomes that of R116. -/
def morLogCode (code arg v1 v2 ft : Nat) : Nat :=
  ft % 2 ^ 64 + code % 256 * 2 ^ 64 + arg % 65536 * 2 ^ 80 + v1 % 2 ^ 64 * 2 ^ 96 + v2 % 2 ^ 32 * 2 ^ 160

/-- A record in the event ring of the mooring log, over the oldest of 256 (R891, R893, R894). -/
def State.morLog (s : State) (code arg v1 v2 : Nat) : State :=
  let l := (morLogCode code arg v1 v2 s.ft :: s.mooring.log).take 256
  { s with mooring := { s.mooring with log := l } }.wr MOR_LOG_COUNT_RECORDS l.length

/-- A RESET_N in PS-DEEP or after the mooring trigger (R116); CHAIN_OUT, which is high impedance in PS-DEEP, goes low before (R63, R945). -/
def State.resetInDeep (s : State) : State :=
  let s := s.when (s.rd PWR_STATUS_STATE != 3) fun s => s.emit (.pin 3 0 false)
  (((s.morLog 0x0B 0 0 0).wr GLB_RESET_CAUSE_RESET_IN_DEEP 1).startEvent 4 wakeReset 3)

/-- The reset drain begins: everything that has reached the pool is performed, and CHAIN_OUT is low (R111, R945). -/
def State.resetDrain (s : State) : State :=
  (((s.wrs [(SYS_DRAINING, 1), (GLB_RESET_CAUSE_DRAIN_DISCARDS, 0), (RETX_DRAINED, 1), (RETX_ROSE, 0)]).startEvent 1 wakeReset
    (s.rd PWR_STATUS_STATE)).drain).emit (.pin 3 0 false)

/-- RESET_N_FALL: RESET_N has been low for 1 µs (R109, R111, R115 to R118, R783, R791, R890). At STAGE 5, where DDR4 has left self-refresh,
the pool is kept as it stands without a drain: DESIGN CHOICE, log entry 59. -/
def execResetNFall (s : State) : Host.Outcome State Fault Refusal :=
  let stage := s.rd GLB_BOOT_STATUS_STAGE
  .next (
    if s.on SYS_OFF || s.on MORX_DEAD then s
    else if s.moored then s.resetInDeep
    else if stage = 0 then
      (if s.rd MOR_STATUS_STATE = 5 ∧ 3 ≤ s.rd RETX_CAUSE then s.resetInDeep else s)
    else if s.on SYS_DRAINING then s.wr RETX_ROSE 0
    else if stage ≠ 6 then
      (s.startEvent (if s.rd RETX_CAUSE = 4 then 4 else 1) wakeReset 0).resetLogic
    else if s.rd PWR_STATUS_STATE = 2 then (s.startEvent 1 wakeReset 2).resetLogic
    else s.resetDrain)

/-- The straps as STARTUP_BEGIN samples them: MGMT_PORT_SEL, BOOT_SEL, LANE_PROFILE and CHAIN_HEAD (R55). -/
def State.sampleStraps (s : State) (mgmt boot profile head : Nat) : State :=
  s.wrs [(GLB_STRAPS_MGMT_PORT_SEL, mgmt), (GLB_STRAPS_BOOT_SEL, boot), (GLB_STRAPS_LANE_PROFILE, profile), (GLB_STRAPS_CHAIN_HEAD, head)]

/-- A start-up begins (R122, R792, R944): the cause is reported, CHAIN_OUT is low (R945), and the clock step follows. -/
def State.beginStart (s : State) : State :=
  let c := s.rd RETX_CAUSE
  let drained := s.on RETX_DRAINED
  let d := if drained then s.rd GLB_RESET_CAUSE_DRAIN_DISCARDS else 0
  let s := (s.emit (.pin 3 0 false)).wrs [(GLB_RESET_CAUSE_COLD, b2n (c == 0)), (GLB_RESET_CAUSE_RESET_N, b2n (c == 1 || c == 4)),
    (GLB_RESET_CAUSE_PS_OFF_EXIT, b2n (c == 2)), (GLB_RESET_CAUSE_MOOR_RESUME, b2n (c == 3)), (GLB_RESET_CAUSE_RESET_IN_DEEP, b2n (c == 4)),
    (GLB_RESET_CAUSE_DRAIN_LOSS, b2n (d != 0)), (GLB_RESET_CAUSE_DRAIN_DISCARDS, d), (RETX_DRAINED, 0), (GLB_BOOT_STATUS_STAGE, 1)]
  let s := if c = 0 ∨ c = 2 then s.wrs [(RETX_RESTORE_DUE, 1), (MGT_FLASH_STATUS_SELECT, 0)] else s
  if c = 2 then s
  else s.wrs [(PWR_LAST_WAKE_SOURCE, s.rd RETX_SOURCE), (PWR_LAST_WAKE_FROM_STATE, if c = 0 then 0 else s.rd RETX_FROM), (PWR_LAST_WAKE_INDEX, 0),
    (PWR_LAST_WAKE_TIME_LO_TIME, s.rd RETX_EVENT_AT % 2 ^ 32), (PWR_LAST_WAKE_TIME_HI_TIME, s.rd RETX_EVENT_AT / 2 ^ 32)]

/-- The start-up after RESET_N has risen with the rails in tolerance, from PS-RUN (R55, R122). -/
def State.startUp (s : State) : State := (s.wrs [(PWR_STATUS_STATE, 0), (READYX_START_AT, s.now), (RETX_ROSE, 0)]).beginStart

/-- RESET_DRAIN_DONE: DDR4 is in self-refresh on every channel that has not failed, and the logic resets; when RESET_N has already risen,
the start-up follows (R111, R114). -/
def execResetDrainDone (s : State) : Host.Outcome State Fault Refusal :=
  s.event (s.on SYS_DRAINING && !s.moored) fun s =>
    let rose := s.on RETX_ROSE
    s.resetLogic.when rose fun s => s.startUp

end Sys2Proof.Machine
end

