-- ==== Sys2Proof/Machine/Lift.lean ====
section
/-! DEFINITION. The power die's pack and meters (chapter 18, R827 to R849): the identity EEPROM, health, charging, the health test, and the
meter tick. -/

namespace Sys2Proof.Machine

/-! The pack's EEPROM (R831 to R833, R844). -/

/-- Word `n` of the identity: bytes 4n to 4n + 3. -/
def State.eeprom (s : State) (n : Nat) : Nat := s.rd (PDI_LIFT_EEPROM_BYTES n)

/-- The first `4 n` bytes of the identity. -/
def State.eepromBytes (s : State) : Nat → List (BitVec 8)
  | 0 => []
  | n + 1 => s.eepromBytes n ++ leBytes 4 (s.eeprom n)

/-- The identity is valid (R832). -/
def State.idValid (s : State) : Bool :=
  s.eeprom 31 == crc32c (s.eepromBytes 31) && bits (s.eeprom 0) 0 8 == 1 && bits (s.eeprom 0) 8 8 == 8

/-- Words of the EEPROM written, and the CRC-32C with them (R833). -/
def State.writeEeprom (s : State) (l : List (Nat × Nat)) : State :=
  let s := l.foldl (fun s x => (s.wr (PDI_LIFT_EEPROM_BYTES x.1) x.2).emit (.eeprom (4 * x.1) x.2)) s
  let c := crc32c (s.eepromBytes 31)
  (s.wr (PDI_LIFT_EEPROM_BYTES 31) c).emit (.eeprom 124 c)

/-- One more cycle: a mooring in which the pack discharged, or a health test (R833). -/
def State.countCycle (s : State) : State :=
  if s.on PDI_LIFT_STATUS_ID_VALID then s.writeEeprom [(7, s.eeprom 7 + 1)] else s

/-! Health (R834 to R839). -/

/-- The pack's temperature lies within 0 °C and `hi`. -/
def State.tempWithin (s : State) (hi : Nat) : Bool := decide (s.rd PDI_LIFT_STATUS_TEMP_C ≤ hi)

/-- The pack's voltage in mV as last metered. -/
def State.packMv (s : State) : Nat := s.rd (PDI_MTR_VI_VOLT_MV 2)

/-- AVAIL_J for a capacitance in mF and a voltage in mV (R838). -/
def availOf (c mv : Nat) : Nat := if mv ≤ 9000 then 0 else c * (mv * mv - 81000000) / 2000000000

/-- A feed in use is OK. -/
def State.feedOk (s : State) : Bool :=
  (s.on PDI_STATUS_FEED_A_OK && bitSet (s.rd LIFTX_MASK) 0) || (s.on PDI_STATUS_FEED_B_OK && bitSet (s.rd LIFTX_MASK) 1)

/-- BKP_GATE_L conducts: fully on while charging, and as an ideal diode in DISCHARGE with no feed OK and in TEST (R802, R805). -/
def State.gateView (s : State) : State :=
  let m := s.rd PDI_STATUS_CONV_MODE
  s.wr PDI_STATUS_BKP_L (b2n (m == 1 || m == 2 || m == 4 || (m == 3 && !s.feedOk)))

/-- The converter enters a mode. -/
def State.convert (s : State) (m : Nat) : State := (s.wr PDI_STATUS_CONV_MODE m).gateView

/-- HEALTHY, AVAIL_J and RESERVE_OK follow the pack; each change of RESERVE_OK is an event, and degrades or restores every valid durable
domain (R632, R835, R838, R839). -/
def State.packView (s : State) : State :=
  let healthy := s.on PDI_LIFT_STATUS_PRESENT && s.on PDI_LIFT_STATUS_ID_VALID && !s.on PDI_LIFT_STATUS_EOL && s.tempWithin 60
  let avail := min 65535 (if s.on PDI_LIFT_STATUS_PRESENT then availOf (s.rd PDI_LIFT_HEALTH_CAP_MF) s.packMv else 0)
  let was := s.on PDI_LIFT_STATUS_RESERVE_OK
  let ok := healthy && decide (s.rd MOR_CFG_RESERVE_J ≤ avail)
  let s := s.wrs [(PDI_LIFT_STATUS_HEALTHY, b2n healthy), (PDI_LIFT_ENERGY_AVAIL_J, avail), (PDI_LIFT_STATUS_RESERVE_OK, b2n ok)]
  if was = ok then s
  else
    let s := if ok then s.wr PDI_EVENT_RESERVE_REACHED 1 else (s.wr PDI_EVENT_RESERVE_LOST 1).log 172 0x0F05 0 (detG avail 0)
    s.forN (fun d s => s.degView d) 16

/-- EOL is set when the capacitance in use or the last measured ESR passes its end-of-life limit (R836). -/
def State.eolCheck (s : State) : State :=
  let low := decide (100 * s.rd PDI_LIFT_HEALTH_CAP_MF < bits (s.eeprom 6) 0 8 * s.eeprom 4)
  let high := decide (bits (s.eeprom 6) 8 8 * s.eeprom 5 < 10 * s.eeprom 17)
  if s.on PDI_LIFT_STATUS_ID_VALID && (low || high) then
    (if s.on PDI_LIFT_STATUS_EOL then s else (s.wrs [(PDI_LIFT_STATUS_EOL, 1), (PDI_EVENT_LIFT_EOL, 1)]).log 172 0x0F05 0 (detG 0 0))
  else s.wr PDI_LIFT_STATUS_EOL 0

/-- The capacitance in use and the ESR: as last measured, or the rated capacitance (R837). -/
def State.capView (s : State) : State :=
  (s.wrs [(PDI_LIFT_HEALTH_CAP_MF, min 65535 (if s.eeprom 16 = 0 then s.eeprom 4 else s.eeprom 16)),
    (PDI_LIFT_HEALTH_ESR_10UOHM, min 65535 (s.eeprom 17 / 10))]).eolCheck

/-! Charging (R803, R840, R841). -/

/-- The converter may charge: not moored, a feed OK, and the pack healthy and not held (R803, R840). -/
def State.mayCharge (s : State) : Bool :=
  !s.moored && !s.on SYS_OFF && s.feedOk && s.on PDI_LIFT_STATUS_HEALTHY && s.on PDI_LIFT_STATUS_FET_CLOSED && s.tempWithin 55

/-- Charging starts, or starts again; DISCHARGE ends with the mooring alone (R803, R805, R842). -/
def State.startCharge (s : State) : State :=
  if s.mayCharge && !s.on LIFTX_FULL then s.convert 1 else if s.rd PDI_STATUS_CONV_MODE = 3 ∧ s.moored = false then s.convert 0 else s

/-- Charging stops when it may not go on. -/
def State.stopCharge (s : State) : State :=
  let m := s.rd PDI_STATUS_CONV_MODE
  if (m = 1 ∨ m = 2) ∧ s.mayCharge = false then s.convert 0 else s

/-- CHARGE_CC_DONE: the pack reaches 21.0 V (R802). -/
def execChargeCcDone (s : State) : Host.Outcome State Fault Refusal :=
  s.event (s.rd PDI_STATUS_CONV_MODE == 1) fun s => s.convert 2

/-- CHARGE_BAL_DONE: the pack reaches 21.6 V, and a newly inserted pack's first test falls due (R802, R803, R845). -/
def execChargeBalDone (s : State) : Host.Outcome State Fault Refusal :=
  s.event (s.rd PDI_STATUS_CONV_MODE == 2) fun s =>
    let s := (s.convert 0).wr LIFTX_FULL 1
    if s.on LIFTX_FIRST then s.wrs [(LIFTX_FIRST, 0), (LIFTX_DUE, 1)] else s

/-- CHARGE_RESTART: the pack falls to 21.2 V (R803). -/
def execChargeRestart (s : State) : Host.Outcome State Fault Refusal :=
  s.event (s.rd PDI_STATUS_CONV_MODE == 0 && s.on LIFTX_FULL) fun s => (s.wr LIFTX_FULL 0).startCharge

/-- CHARGE_HOLD: the pack's temperature, in °C as two's complement, leaves 0–55 °C (R840, R842). -/
def execChargeHold (t : BitVec 8) (s : State) : Host.Outcome State Fault Refusal :=
  s.event (s.on PDI_LIFT_STATUS_PRESENT && decide (55 < t.toNat)) fun s =>
    (((s.wrs [(PDI_LIFT_STATUS_TEMP_C, t.toNat), (PDI_LIFT_STATUS_CHARGE_HOLD, 1), (PDI_EVENT_CHARGE_HOLD, 1)]).packView).stopCharge).wake
      wakeLift 0

/-- CHARGE_HOLD_CLEAR: it returns within 0–55 °C (R840). -/
def execChargeHoldClear (t : BitVec 8) (s : State) : Host.Outcome State Fault Refusal :=
  s.event (s.on PDI_LIFT_STATUS_CHARGE_HOLD && decide (t.toNat ≤ 55)) fun s =>
    (((s.wrs [(PDI_LIFT_STATUS_TEMP_C, t.toNat), (PDI_LIFT_STATUS_CHARGE_HOLD, 0)]).packView).startCharge).wake wakeLift 0

/-! The health test (R843 to R846). -/

/-- The opcode of MOORING_LIFT_TEST. -/
def opLiftTest : Nat := 0x0903

/-- HEALTH_TEST_DUE: 168 hours since the last completed test (R785, R845). -/
def execHealthTestDue (s : State) : Host.Outcome State Fault Refusal :=
  s.event (s.on PDI_LIFT_STATUS_ID_VALID && !s.on LIFTX_DUE && !s.on LIFTX_FIRST) fun s =>
    ((s.advTo (s.rd LIFTX_TEST_AT + 168 * 3600 * sec)).wr LIFTX_DUE 1).wake wakeLift 0

/-- The conditions of step 1 of R843, and a test that waits for them. -/
def State.testReady (s : State) : Bool :=
  (s.on LIFTX_DUE || s.opBusy [opLiftTest] fun _ => true) && s.rd PDI_STATUS_CONV_MODE == 0 && s.on LIFTX_FULL && s.rd MOR_STATUS_STATE == 0
    && s.on PDI_LIFT_STATUS_HEALTHY && s.on PDI_LIFT_STATUS_FET_CLOSED && !s.on SYS_OFF

/-- HEALTH_TEST_START: `v` is the pack's voltage in mV before the step to 4 A (R843). -/
def execHealthTestStart (v : BitVec 16) (s : State) : Host.Outcome State Fault Refusal :=
  s.event s.testReady fun s =>
    (s.wrs [(PDI_LIFT_STATUS_TEST_RUNNING, 1), (LIFTX_TEST_T0, s.now), (LIFTX_TEST_V0, v.toNat)]).convert 4

/-- HEALTH_TEST_END: `v` is the voltage in mV 1 ms after the step, and the pack has fallen by a further 2.16 V `t` µs after the test began
(R833, R836, R837, R843, R844). -/
def execHealthTestEnd (v : BitVec 16) (t : BitVec 32) (s : State) : Host.Outcome State Fault Refusal :=
  s.event (s.on PDI_LIFT_STATUS_TEST_RUNNING && s.rd PDI_STATUS_CONV_MODE == 4) fun s =>
    let s := s.advTo (s.rd LIFTX_TEST_T0 + t.toNat * us)
    let cap := t.toNat / 540
    let esr := 250 * (s.rd LIFTX_TEST_V0 - v.toNat)
    let s := s.writeEeprom [(7, s.eeprom 7 + 1), (16, cap), (17, esr), (18, s.ft % 2 ^ 32), (19, s.ft / 2 ^ 32)]
    let s := s.wrs [(PDI_LIFT_STATUS_TEST_RUNNING, 0), (PDI_EVENT_LIFT_TEST_DONE, 1), (PDI_LIFT_STATUS_HOURS_SINCE_TEST, 0), (LIFTX_DUE, 0),
      (LIFTX_FIRST, 0), (LIFTX_TEST_AT, s.now), (LIFTX_FULL, 0)]
    let s := ((s.convert 0).capView.packView).startCharge
    (s.ops.filter fun o => o.opcode == opLiftTest && o.final.isNone).foldl (fun s o => s.finishOp o.handle stOk (cap % 2 ^ 32 + esr % 2 ^ 32 * 2 ^ 32)) s

/-- A test that runs is abandoned, and falls due again (R804, R846). -/
def State.abandonTest (s : State) : State :=
  if s.on PDI_LIFT_STATUS_TEST_RUNNING then s.wrs [(PDI_LIFT_STATUS_TEST_RUNNING, 0), (LIFTX_DUE, 1)] else s

/-- MOORING_LIFT_TEST, a long operation (R711, R729, R845). -/
def execMooringLiftTest (c : Cmd) (s : State) : Host.Outcome State Fault Refusal :=
  .next (s.command opLiftTest onlyM (cleanCmd c [] false)
    (fun _ => firstFail [(s.opBusy [opLiftTest] (fun _ => true), stBusy)] (.long 0 1 0 0 s)) c)

/-- A cancelled test on demand returns the converter to charging, unless the test was due as well (R845). -/
def State.cancelLiftTest (s : State) (o : Op) : State :=
  let s := if s.on PDI_LIFT_STATUS_TEST_RUNNING && !s.on LIFTX_DUE then
      ((s.wrs [(PDI_LIFT_STATUS_TEST_RUNNING, 0), (LIFTX_FULL, 0)]).convert 0).startCharge
    else s
  s.finishOp o.handle stCancelled 0

/-! Insertion and removal (R847, R848). -/

/-- Pack presence has qualified active: the identity `id`, of 128 bytes with byte 0 lowest, is read, with the pack at `v` mV and
temperature `t` (R832, R836, R837, R848). -/
def State.packIn (s : State) (id : Nat) (v t : Nat) : State :=
  let s := s.forN (fun n s => s.wr (PDI_LIFT_EEPROM_BYTES n) (bits id (32 * n) 32)) 32
  let s := s.wrs [(PDI_LIFT_STATUS_PRESENT, 1), (PDI_EVENT_LIFT_INSERTED, 1), (PDI_LIFT_STATUS_TEMP_C, t), (PDI_MTR_VI_VOLT_MV 2, v),
    (LIFTX_FULL, 0), (LIFTX_HOUR_AT, s.now), (LIFTX_TEST_AT, s.now), (LIFTX_DUE, 0), (LIFTX_FIRST, 1), (PDI_LIFT_STATUS_CHARGE_HOLD, b2n (decide (55 < t)))]
  let s := s.when (decide (55 < t)) fun s => s.wr PDI_EVENT_CHARGE_HOLD 1
  let s := if s.idValid then ((s.wrs [(PDI_LIFT_STATUS_ID_VALID, 1), (PDI_LIFT_STATUS_FET_CLOSED, 1)]).capView.packView).startCharge
    else (s.wrs [(PDI_LIFT_STATUS_ID_VALID, 0), (PDI_EVENT_LIFT_BAD_ID, 1)]).packView
  s.wake wakeLift 0

/-- Pack presence has qualified inactive (R847). -/
def State.packOut (s : State) : State :=
  let s := s.forN (fun n s => s.wr (PDI_LIFT_EEPROM_BYTES n) 0) 32
  let s := s.wrs [(PDI_LIFT_STATUS_PRESENT, 0), (PDI_LIFT_STATUS_ID_VALID, 0), (PDI_LIFT_STATUS_FET_CLOSED, 0), (PDI_EVENT_LIFT_REMOVED, 1),
    (PDI_LIFT_STATUS_TEST_RUNNING, 0), (PDI_LIFT_STATUS_CHARGE_HOLD, 0), (PDI_LIFT_STATUS_EOL, 0), (LIFTX_DUE, 0), (LIFTX_FIRST, 0),
    (LIFTX_FULL, 0), (PDI_LIFT_HEALTH_CAP_MF, 0), (PDI_LIFT_HEALTH_ESR_10UOHM, 0), (PDI_LIFT_STATUS_HOURS_SINCE_TEST, 0)]
  ((s.convert 0).packView).wake wakeLift 0

/-- LIFT_HOURLY_LOG (R831, R833): the counter of the pack's temperature and voltage bands, and the hours since the last test. -/
def execLiftHourlyLog (s : State) : Host.Outcome State Fault Refusal :=
  s.event (s.on PDI_LIFT_STATUS_ID_VALID) fun s =>
    let s := s.advTo (s.rd LIFTX_HOUR_AT + 3600 * sec)
    let v := s.packMv
    let t := s.rd PDI_LIFT_STATUS_TEMP_C
    let n := 8 + (if 40 ≤ t ∧ t < 128 then 4 else 0) + (if v < 16000 then 0 else if v < 19000 then 1 else if v < 21000 then 2 else 3)
    ((s.wr LIFTX_HOUR_AT s.now).inc PDI_LIFT_STATUS_HOURS_SINCE_TEST).writeEeprom [(n, s.eeprom n + 1)]

/-! Meters (R827 to R830). -/

/-- An accumulator of energy in mJ modulo 2^48, with its fraction in nJ, `p` µW more for 1 ms. -/
def State.addEnergy (s : State) (e fr : Fld) (p : Nat) : State :=
  let x := s.rd fr + p
  s.wrs [(e, s.rd e + x / 1000000), (fr, x % 1000000)]

/-- Meter `m` takes its sample: voltage in mV and current in mA, two's complement. -/
def State.meter (s : State) (m v i : Nat) : State :=
  if m = 3 then s
  else
    let mag := if i < 32768 then i else 65536 - i
    let mw := v * mag / 1000
    let s := s.wrs [(PDI_MTR_VI_VOLT_MV m, v), (PDI_MTR_VI_CURR_MA m, i), (PDI_MTR_POWER_POWER_MW m, if i < 32768 then mw else 2 ^ 32 - mw),
      (PDI_MTR_PEAK_PEAK_MA m, max (s.rd (PDI_MTR_PEAK_PEAK_MA m)) mag)]
    if i < 32768 then s.addEnergy (MTRX_E m) (MTRX_FR m) (v * mag)
    else if m = 2 then s.addEnergy (MTRX_E2 m) (MTRX_FR2 m) (v * mag) else s

/-- BKP_GATE_A or BKP_GATE_B as an ideal diode: on from 50 mV forward, off from 10 mV reverse, and off above 14.0 V or on an unused feed
(R794, R795, R797, R799, R801). -/
def State.diode (s : State) (x : Nat) (g over_ : Fld) : State :=
  let v := s.rd (PDI_MTR_VI_VOLT_MV x)
  let b := s.rd PDI_STATUS_BKP_MV
  if !bitSet (s.rd LIFTX_MASK) x || s.on over_ || decide (v + 10 ≤ b) then s.wr g 0 else if b + 50 ≤ v then s.wr g 1 else s

/-- FEED_x_GATE driven on or off. -/
def State.setFeedGate (s : State) (x : Nat) (on : Bool) : State :=
  let g := s.rd LIFTX_GATE
  if bitSet g x = on then s else (s.wr LIFTX_GATE (if on then setBit g x else clrBit g x)).emit (.pin 6 x on)

/-- FEED_x_GATE as an ideal diode between FEED_x_VIN and the 12 V bus, at `bus` mV on FEED_x_VOUT: on from 50 mV forward, off from 10 mV reverse,
`v` mV on FEED_x_VIN, and held off above 14.0 V and on an unused feed (R794, R795, R797, R799). -/
def State.feedGate (s : State) (x v bus : Nat) : State :=
  if !bitSet (s.rd LIFTX_MASK) x || s.on (if x = 0 then PDI_STATUS_FEED_A_OV else PDI_STATUS_FEED_B_OV) || decide (v + 10 ≤ bus) then
    s.setFeedGate x false
  else if bus + 50 ≤ v then s.setFeedGate x true else s

/-- The pack's temperature, in °C as two's complement: outside 0–55 °C CHARGE_HOLD stands and charging stops, and within it goes on (R840, R842). -/
def State.packTemp (s : State) (t : Nat) : State :=
  let s := s.wr PDI_LIFT_STATUS_TEMP_C t
  if s.on PDI_LIFT_STATUS_PRESENT && decide (55 < t) && !s.on PDI_LIFT_STATUS_CHARGE_HOLD then
    (s.wrs [(PDI_LIFT_STATUS_CHARGE_HOLD, 1), (PDI_EVENT_CHARGE_HOLD, 1)]).wake wakeLift 0
  else if s.on PDI_LIFT_STATUS_CHARGE_HOLD && decide (t ≤ 55) then (((s.wr PDI_LIFT_STATUS_CHARGE_HOLD 0).packView).startCharge).wake wakeLift 0
  else s

/-- FEED_x_GATE at the sample of its feed in `l`, meter `x`. -/
def State.feedAt (s : State) (x : Nat) (l : List (BitVec 16 × BitVec 16)) (bus : Nat) : State :=
  match l[x]? with
  | some v => s.feedGate x v.1.toNat bus
  | none => s

/-- METER_TICK: the samples of each 1 ms, voltage and current of meter 0 on, the 12 V bus and BKP_BUS voltages in mV and the pack temperature
(R794, R815, R827, R829, R834, R838 to R840, R859). In PS-OFF the feed monitor alone runs, from FEED_x_VIN (R63, R789). -/
def execMeterTick (l : List (BitVec 16 × BitVec 16)) (bus bkp : BitVec 16) (t : BitVec 8) (s : State) : Host.Outcome State Fault Refusal :=
  s.event (!s.on MORX_DEAD) fun s =>
    if s.on SYS_OFF then ((s.feedAt 0 l bus.toNat).feedAt 1 l bus.toNat) else
    let s := s.advTo (s.rd LIFTX_TICK_AT + ms)
    let s := (s.wr LIFTX_TICK_AT s.now).forN (fun m s => match l[m]? with
      | some x => s.meter m x.1.toNat x.2.toNat
      | none => s) 36
    let s := (s.wr PDI_STATUS_BKP_MV bkp.toNat).packTemp t.toNat
    let s := (s.diode 0 PDI_STATUS_BKP_A PDI_STATUS_FEED_A_OV).diode 1 PDI_STATUS_BKP_B PDI_STATUS_FEED_B_OV
    let s := (s.feedGate 0 (s.rd (PDI_MTR_VI_VOLT_MV 0)) bus.toNat).feedGate 1 (s.rd (PDI_MTR_VI_VOLT_MV 1)) bus.toNat
    let s := s.forN (fun c s => match l[4 + c]? with
      | some x => s.scSample c x.2.toNat
      | none => s) 32
    s.packView.stopCharge

/-- A read of the ENERGY, or with `second` the ENERGY2, low register of meter `m` (R850). -/
def State.readMtrLo (s : State) (m : Nat) (second : Bool) : State × Nat :=
  let e := if m = 3 then 0 else if second then (if m = 2 then s.rd (MTRX_E2 2) else 0) else s.rd (MTRX_E m)
  if second then s.latch (PDI_MTR_ENERGY2_LO_ENERGY m) (PDI_MTR_ENERGY2_HI_ENERGY m) e
  else s.latch (PDI_MTR_ENERGY_LO_ENERGY m) (PDI_MTR_ENERGY_HI_ENERGY m) e

/-- PDI_MTR_LO_READ (R850). -/
def execPdiMtrLoRead (m : Fin 36) (second : Bool) (s : State) : Host.Outcome State Fault Refusal := giveRead (s.readMtrLo m second)

end Sys2Proof.Machine
end

