-- ==== Sys2Proof/Machine/Mooring.lean ====
section
/-! DEFINITION. Feeds and the early warning (R794 to R811), mooring, retention and the warm resume (chapter 19), POWER_OFF (R788 to R790), and
the power-up of the power die (R878, R928, R929). Mooring states are numbered as in MOR_STATUS: 0 NONE, 1 DRAINING, 2 RETAINING,
3 SPILLING, 4 SPILLED, 5 UNMOORING, 6 RESTORING. -/

namespace Sys2Proof.Machine

/-! Feed return (R874). -/

/-- PWR_FAIL_IN is qualified active. -/
def State.pwrFail (s : State) : Bool := bitSet (s.rd GLB_INPUT_STATUS_PWR_FAIL_IN) 0

/-- The 500 ms count of R874 runs: in RETAINING, SPILLING and SPILLED, and after a power-up until BKP_RAIL_EN rises (R874, R878). -/
def State.qualifies (s : State) : Bool :=
  (decide (2 ≤ s.rd MOR_STATUS_STATE) && decide (s.rd MOR_STATUS_STATE ≤ 4))
    || (s.rd MOR_STATUS_STATE == 0 && s.rd GLB_BOOT_STATUS_STAGE == 0 && !s.on MORX_RAIL_EN && !s.on SYS_OFF && !s.on MORX_DEAD)

/-- The 500 ms count of feed return starts, or restarts on a break (R874, R878). -/
def State.qualView (s : State) : State :=
  if s.qualifies = true then
    let stable := s.feedOk && !s.pwrFail
    if stable then (if s.rd MORX_QUAL_AT = 0 then s.wr MORX_QUAL_AT (s.now + 1) else s)
    else if s.rd MORX_QUAL_AT = 0 then s
    else (s.wr MORX_QUAL_AT 0).morLog 8 0 0 0
  else s.wr MORX_QUAL_AT 0

/-! Spill eligibility (R861, R863). -/

/-- A SPILL window exists: in the window table, or while moored in the spill list. -/
def State.anySpill (s : State) : Bool := if s.moored then !s.mooring.spill.isEmpty else s.rd QUOTA_SPILL != 0

/-- Why a spill is not eligible, as the ARG of NO_SPILL; 0 when it is (R861, R894). -/
def State.noSpill (s : State) : Nat :=
  b2n (!s.on MOR_CFG_SPILL_EN) + 2 * b2n (!s.on MOR_CFG_TARGET_EN) + 4 * b2n (!s.anySpill) + 8 * b2n (s.on MOR_STATUS_RESTORE_INCOMPLETE)

/-- AVAIL_J. -/
def State.avail (s : State) : Nat := s.rd PDI_LIFT_ENERGY_AVAIL_J

/-- A spill starts now: it is eligible, none has started in this mooring, and AVAIL_J is at or below the reserve (R861, R862). -/
def State.spillDue (s : State) : Bool :=
  s.noSpill == 0 && !s.on RETX_SPILLED && decide (s.avail ≤ s.rd MOR_CFG_RESERVE_J)

/-- SPILL_ELIGIBLE as a read of MOR_STATUS shows it. -/
def State.mooringView (s : State) : State := s.wr MOR_STATUS_SPILL_ELIGIBLE (b2n (s.noSpill == 0))

/-- Length of the spill image in bytes: the save area and every SPILL window (R870, R871). -/
def State.imageLen (s : State) : Nat := s.mooring.spill.foldl (fun n w => n + (w.limit + 1 - w.base)) (2 ^ 20)

/-- Clusters 0 and 1, which alone run the spill: the state and the group of their engines (R641). -/
def State.spillEngines (s : State) (state group : Nat) : State :=
  (s.forN (fun e s => s.wrs [(PEN_ENG_STATUS_STATE e, state), (PEN_ENG_STATUS_GROUP e, group)]) 16).wr PEN_STATUS_ENG_ACTIVE (if state = 0 then 0 else 16)

/-- The spill starts: the executor runs on clusters 0 and 1 (R641), BKP_RAIL_EN rises, and SC30 and SC31 enter PRECHARGE (R862, R867). -/
def State.startSpill (s : State) : State :=
  let s := s.wrs [(MOR_STATUS_STATE, 3), (RETX_SPILLED, 1), (RETX_SPILLING, 1), (RETX_SPILL_AT, s.now + 1), (RETX_IMAGE_LEN, s.imageLen), (MORX_RAIL_EN, 1)]
  let s := ((s.morLog 5 0 s.imageLen s.avail).emit (.pin 5 0 true))
  (((s.spillEngines 2 6).scRequest 30 1).1.scRequest 31 1).1

/-! The mooring trigger (R852 to R856). -/

/-- The SPILL windows in ascending base, with their domains (R855, R870). -/
def State.spillList (s : State) : List SpillWin :=
  let l := (s.listed (WIN_VALID 0).key 256 4096).filter fun w => s.on (WIN_SPILL w)
  (l.foldl (fun l w => insertBy (fun k => s.rd (WIN_BASE k)) w l) []).map fun w =>
    SpillWin.mk (s.rd (WIN_BASE w)) (s.rd (WIN_LIMIT w)) (if s.on (WIN_DOMAIN_VALID w) then s.rd (WIN_DOMAIN w) else 0xFF)

/-- The handle area: every valid handle, and those that no start-up has read yet (R718, R892). -/
def State.handleArea (s : State) : List MorHandle :=
  let old := if s.rd GLB_BOOT_STATUS_STAGE = 6 then [] else s.mooring.handles
  (old ++ s.ops.map fun o => MorHandle.mk o.handle o.opcode o.issuer).take 1024

/-- What the drain writes to the mooring log at the drain point: the spill list, the slot area and the handles (R855). -/
def State.saveAreas (s : State) : State :=
  let up := s.rd GLB_BOOT_STATUS_STAGE == 6
  let slots := (List.range 32).map fun c => (s.scState c, b2n (s.scState c == 3))
  let hs := s.handleArea
  let m := { s.mooring with
    spill := if up then s.spillList else s.mooring.spill
    slots := if up then slots else s.mooring.slots
    handles := hs
    energy := [] }
  let s := { s with mooring := m }
  s.when (!hs.isEmpty) fun s => s.morLog 12 0 hs.length 0

/-- The pack discharges in this mooring: one more cycle, once (R833). That the count is written as the discharge begins is the model's: DESIGN
CHOICE, log entry 49. -/
def State.packDrains (s : State) : State :=
  if s.on PDI_STATUS_BKP_L && !s.on MORX_DISCHARGED then (s.wr MORX_DISCHARGED 1).countCycle else s

/-- The converter enters DISCHARGE, when the pack is connected, and abandons a test (R804, R833, R846, R857). -/
def State.discharge (s : State) : State :=
  let s := s.abandonTest
  (if s.on PDI_LIFT_STATUS_FET_CLOSED then s.convert 3 else s.convert 0).packDrains

/-- Back to RETAINING from an unmooring that has not yet brought DDR4 out of self-refresh (R882). -/
def State.remoor (s : State) (arg : Nat) : State :=
  let s := (s.morLog 1 arg s.avail (s.rd MOR_COUNT_MOORINGS)).resetLogic
  let s := { s with mooring := { s.mooring with energy := [] } }
  (((s.retentionClock.wrs [(MOR_STATUS_STATE, 2), (PWR_STATUS_STATE, 3), (MORX_RAIL_EN, 0), (RETX_RETAIN_AT, s.now), (RETX_EST_AT, s.now),
    (RETX_SAMPLES, 0)]).emit (.pin 5 0 false)).discharge).qualView

/-- The mooring trigger fires, from the feeds (`arg` 0) or PWR_FAIL_IN (1) (R30, R117, R718, R784, R790, R851 to R856, R882, R889). -/
def State.moor (s : State) (arg : Nat) : State :=
  let st := s.rd MOR_STATUS_STATE
  if s.moored then s
  else if st = 5 ∧ s.rd GLB_BOOT_STATUS_STAGE < 5 then s.remoor arg
  else
    let cause := if s.on SYS_DRAINING || (st == 5 && s.rd RETX_CAUSE == 4) then 4 else 3
    let deep := s.on SYS_DRAINING
    let s := if deep then (s.wr SYS_DRAINING 0).resetInDeep else s
    let s := s.inc MOR_COUNT_MOORINGS
    let s := s.wrs [(MOR_STATUS_STATE, 1), (MOR_EVENT_MOORED, 1), (MOR_DRAIN_DISCARDS, 0), (RETX_DRAIN_FT, s.ft), (RETX_DRAIN_AT, s.now),
      (MORX_TRIG, arg), (MORX_DISCHARGED, 0), (RETX_SPILLED, 0), (RETX_SPILLING, 0), (RETX_FROZEN, 1), (SYS_OFFING, 0), (PWR_STATUS_ENTERING, 0), (PWR_EVENT_FORCED_DEEP, 1)]
    let s := (s.startEvent cause (if cause = 4 then wakeReset else wakeFeed) 3).morLog 1 arg s.avail (s.rd MOR_COUNT_MOORINGS)
    let s := s.saveAreas.discharge
    s.drain.forN (fun c s => s.scMoor c) 30

/-- The early warning fires: PFAIL_N goes low and the mooring trigger fires at the same instant; in PS-OFF only PFAIL_N is asserted (R790,
R808, R809). Pin 4 is PFAIL_N. -/
def State.earlyWarning (s : State) (arg : Nat) : State :=
  if s.on PDI_STATUS_EW then s
  else if s.on SYS_OFF then s.emit (.pin 4 0 false)
  else ((s.wrs [(PDI_STATUS_EW, 1), (PDI_EVENT_EW_FIRED, 1)]).emit (.pin 4 0 false)).moor arg

/-! Feeds (R795 to R799, R808, R811). -/

/-- The fields of feed `x`: OK, above 14.0 V, lost, returned, and its gate into BKP_BUS. -/
def feedFlds (x : Nat) : Fld × Fld × Fld × Fld × Fld :=
  if x = 0 then (PDI_STATUS_FEED_A_OK, PDI_STATUS_FEED_A_OV, PDI_EVENT_FEED_A_LOST, PDI_EVENT_FEED_A_RETURN, PDI_STATUS_BKP_A)
  else (PDI_STATUS_FEED_B_OK, PDI_STATUS_FEED_B_OV, PDI_EVENT_FEED_B_LOST, PDI_EVENT_FEED_B_RETURN, PDI_STATUS_BKP_B)

/-- Every feed in use is lost below 11.0 V (R808). -/
def State.feedsDown (s : State) : Bool :=
  (List.range 2).all fun x => !bitSet (s.rd LIFTX_MASK) x || bitSet (s.rd LIFTX_LOST) x

/-- The transition of the comparator of feed `x` is the 32nd within 1 s: it is declared CHATTER, and its level freezes (R139). The number that
the record gives it, 4 + x, and that nothing re-arms it but power, are the model's: DESIGN CHOICE, log entry 59. -/
def State.feedChatter (s : State) (x : Nat) : State :=
  let k := 336 + x
  let s := { s with mgmt := { s.mgmt with
    edges := (s.mgmt.edges.filter fun (e : Nat × Nat) => e.1 != k || decide (s.now < e.2 + sec)) ++ [(k, s.now)] } }
  if 32 ≤ (recent s.mgmt.edges k s.now sec).length then
    (s.wr LIFTX_CHAT (setBit (s.rd LIFTX_CHAT) x)).log 171 0x0E01 (4 + x) (detG (4 + x) 0)
  else s

/-- The comparator of feed `x` works: the feed is in use, and it is not declared CHATTER. -/
def State.feedLive (s : State) (x : Nat) : Bool :=
  !s.on MORX_DEAD && bitSet (s.rd LIFTX_MASK) x && !bitSet (s.rd LIFTX_CHAT) x

/-- FEED_LOST: feed `x` qualifies below 11.0 V, or above 14.0 V with `high` (R796 to R799, R808, R811). -/
def execFeedLost (x : Fin 2) (high : Bool) (s : State) : Host.Outcome State Fault Refusal :=
  let f := feedFlds x.val
  s.event (s.feedLive x.val && (s.on f.1 || s.on f.2.1 != high || !bitSet (s.rd LIFTX_LOST) x.val)) fun s =>
    let lost := if high then clrBit (s.rd LIFTX_LOST) x.val else setBit (s.rd LIFTX_LOST) x.val
    let s := s.wrs [(f.1, 0), (f.2.1, b2n high), (f.2.2.1, 1), (f.2.2.2.2, 0), (LIFTX_LOST, lost)]
    let s := if s.feedOk then s.log 172 0x0F04 0 (detG x.val 0) else s
    let s := ((s.stopCharge.gateView).qualView).when high fun s => s.setFeedGate x.val false
    let s := s.when s.moored State.packDrains
    (if s.feedsDown then s.earlyWarning 0 else s).feedChatter x.val

/-- FEED_RETURN: a lost feed qualifies within 11.3–13.6 V (R796, R803, R805, R810, R874). In PS-OFF the gates into BKP_BUS stay open (R789). -/
def execFeedReturn (x : Fin 2) (s : State) : Host.Outcome State Fault Refusal :=
  let f := feedFlds x.val
  s.event (s.feedLive x.val && !s.on f.1) fun s =>
    let s := s.wrs [(f.1, 1), (f.2.1, 0), (f.2.2.2.1, 1), (f.2.2.2.2, b2n (!s.on SYS_OFF)), (LIFTX_LOST, clrBit (s.rd LIFTX_LOST) x.val)]
    let s := (s.gateView).qualView
    (if s.rd PDI_STATUS_CONV_MODE = 0 then s.startCharge else s).feedChatter x.val

/-- FEED_REVERSE: VOUT exceeds VIN of feed `x` by 10 mV, and its gate goes off: FEED_x_GATE (pin 6), or BKP_GATE_x with `bkp` (R795, R801). -/
def execFeedReverse (x : Fin 2) (bkp : Bool) (s : State) : Host.Outcome State Fault Refusal :=
  .next (if bkp then s.wr (feedFlds x.val).2.2.2.2 0 else s.setFeedGate x.val false)

/-! DRAINING, RETAINING and the loss of BKP_BUS. -/

/-- MOORING_DRAIN_DONE: DDR4 is in self-refresh and every domain outside retention switches off (R851, R855, R856, R861 to R863). -/
def execMooringDrainDone (s : State) : Host.Outcome State Fault Refusal :=
  s.event (s.rd MOR_STATUS_STATE == 1) fun s =>
    let dt := s.now - s.rd RETX_DRAIN_AT
    let s := (s.wr MOR_DRAIN_DRAIN_US (min 65535 (dt / us))).morLog 2 0 dt (s.rd MOR_DRAIN_DISCARDS)
    let go := s.spillDue
    let s := if s.noSpill = 0 then s else s.morLog 3 s.noSpill 0 0
    let s := if go then s else (s.scMoor 30).scMoor 31
    let s := s.resetLogic
    let s := (s.wrs [(MOR_STATUS_STATE, 2), (PWR_STATUS_STATE, 3), (MORX_RAIL_EN, 0), (RETX_RETAIN_AT, s.now), (RETX_EST_AT, s.now),
      (RETX_SAMPLES, 0)]).retentionClock
    let s := s.emit (.pin 5 0 false)
    (if go then s.startSpill else s).qualView

/-- RETAIN_ESTIMATE: each 1 s of retention; every 60 s a SAMPLE record (R860). With no power drawn the estimate is a free value. -/
def execRetainEstimate (s : State) : Host.Outcome State Fault Refusal :=
  s.event (s.rd MOR_STATUS_STATE == 2 || s.rd MOR_STATUS_STATE == 4) fun s =>
    let s := s.advTo (s.rd RETX_EST_AT + sec)
    let s := s.wr RETX_EST_AT s.now
    let e := s.rd (MTRX_E 2)
    let l := (e :: s.mooring.energy).take 61
    let n := l.length - 1
    let p := if n = 0 then (if s.rd (PDI_MTR_POWER_POWER_MW 2) < 2 ^ 31 then s.rd (PDI_MTR_POWER_POWER_MW 2) else 0)
      else (e + 2 ^ 48 - l.getLastD e) % 2 ^ 48 / n
    let above := s.avail - s.rd MOR_CFG_RESERVE_J
    let est := if above = 0 then s.ft else if p = 0 then s.freeVal else s.ft + above * 1000000000000 / p
    let s := if above ≠ 0 ∧ p = 0 then s.takeFree else s
    let k := s.rd RETX_SAMPLES + 1
    let s := { s with mooring := { s.mooring with energy := l } }.wrs [(RETX_EST, est), (RETX_SAMPLES, k % 60)]
    if k = 60 then s.morLog 4 0 est (s.avail + p / 100 % 65536 * 65536) else s

/-- The power die and the switch die lose their supply: the state of a part to which power is first applied, but for what is outside it, and
for the clock of the model. The contents of the pool and of the retention SRAM are lost (R830, R851, R891, R928). -/
def State.lose (s : State) : State :=
  { State.reset with
    clk := { State.reset.clk with now := s.clk.now }
    mgmt := { State.reset.mgmt with flash := s.mgmt.flash }
    out := s.out
    free := s.free
    pending := s.pending }

/-- The pins that the part drives are released as it loses its supply: those of a reset of the logic, and BKP_RAIL_EN (pin 5) is low
(R52, R63). -/
def State.releasePins (s : State) : State := (s.releaseLogic).emit (.pin 5 0 false)

/-- BKP_BUS collapses (R851, R928). -/
def State.collapse (s : State) : State := (s.releasePins.lose).wr MORX_DEAD 1

/-- BKP_BUS_COLLAPSE: BKP_VIN falls below 7.5 V (R857, R928). -/
def execBkpBusCollapse (s : State) : Host.Outcome State Fault Refusal :=
  s.event (!s.on MORX_DEAD && !s.on SYS_OFF) fun s => s.collapse

/-- BKP_BUS_RESTORE: BKP_VIN exceeds 8.0 V and the power die starts (R928, R929). -/
def execBkpBusRestore (s : State) : Host.Outcome State Fault Refusal := s.event (s.on MORX_DEAD) fun s => s.wr MORX_DEAD 0

/-- BKP_RAIL_EN_RISE: a feed has been OK, and PWR_FAIL_IN inactive, for 500 ms after power-up; the times of R888 and RESUME_MS run from here
(R874, R878, R929). Pin 5 is BKP_RAIL_EN. -/
def execBkpRailEnRise (s : State) : Host.Outcome State Fault Refusal :=
  s.event (!s.on MORX_DEAD && !s.on SYS_OFF && !s.on MORX_RAIL_EN && s.rd MOR_STATUS_STATE == 0 && s.rd MORX_QUAL_AT != 0) fun s =>
    let s := s.advTo (s.rd MORX_QUAL_AT - 1 + 500 * ms)
    (s.wrs [(MORX_RAIL_EN, 1), (MORX_QUAL_AT, 0), (RETX_UNMOOR_AT, s.now)]).emit (.pin 5 0 true)

/-- PACK_EMPTY: the pack falls to 9.0 V in DISCHARGE or TEST and the converter stops; while moored with no feed OK, BKP_BUS collapses (R806,
R851, R863). -/
def execPackEmpty (s : State) : Host.Outcome State Fault Refusal :=
  s.event (s.rd PDI_STATUS_CONV_MODE == 3 || s.rd PDI_STATUS_CONV_MODE == 4) fun s =>
    if s.moored && !s.feedOk then s.collapse else s.abandonTest.convert 0

/-! Unmooring and the warm resume (R874 to R884). -/

/-- FEED_QUALIFIED: the feeds have been stable for 500 ms (R57, R116, R810, R874, R875, R880). -/
def execFeedQualified (s : State) : Host.Outcome State Fault Refusal :=
  s.event ((s.rd MOR_STATUS_STATE == 2 || s.rd MOR_STATUS_STATE == 4) && s.rd MORX_QUAL_AT != 0) fun s =>
    let s := s.advTo (s.rd MORX_QUAL_AT - 1 + 500 * ms)
    let held := s.now - s.rd RETX_RETAIN_AT
    let s := s.wrs [(MOR_STATUS_STATE, 5), (PDI_STATUS_EW, 0), (MORX_RAIL_EN, 1), (MORX_QUAL_AT, 0), (RETX_UNMOOR_AT, s.now),
      (MOR_RESUME_RETAINED_S, min 65535 (held / sec)), (RETX_EVENT_AT, s.ft), (RETX_GROUPS, 0)]
    let s := ((s.emit (.pin 4 0 true)).emit (.pin 5 0 true)).morLog 9 0 (held / ms) s.avail
    (s.wr LIFTX_FULL 0).startCharge

/-- RAILS_SETTLED: the start-up of the warm resume, or that of R116, begins; the straps are those kept (R55, R57, R877, R880). -/
def execRailsSettled (s : State) : Host.Outcome State Fault Refusal :=
  s.event (s.rd MOR_STATUS_STATE == 5 && s.rd GLB_BOOT_STATUS_STAGE == 0 && s.rd PWR_STATUS_STATE == 3 && decide (3 ≤ s.rd RETX_CAUSE)) fun s =>
    ((s.advTo (s.rd RETX_UNMOOR_AT + 10 * ms)).timeClock.wr PWR_STATUS_STATE 0).beginStart

/-- The channels still to be powered after READY, in ascending order: those that were ON at the drain point (R881). -/
def State.slotsToPower (s : State) : List Nat := (List.range 32).filter fun c => (s.mooring.slots[c]?.getD (0, 0)).2 == 1

/-- SLOT_GROUP_POWER_ON: the next eight channels, 100 ms after READY or the group before (R880, R881). -/
def execSlotGroupPowerOn (s : State) : Host.Outcome State Fault Refusal :=
  s.event (s.rd GLB_BOOT_STATUS_STAGE == 6 && !s.moored && !s.slotsToPower.isEmpty) fun s =>
    let k := s.rd RETX_GROUPS + 1
    let l := s.slotsToPower.take 8
    let s := (s.advTo (s.rd READYX_AT + 100 * ms * k)).wr RETX_GROUPS k
    let slots := (List.range 32).map fun c => if l.contains c then (0, 0) else s.mooring.slots[c]?.getD (0, 0)
    l.foldl (fun s c => (s.scRequest c 1).1) { s with mooring := { s.mooring with slots := slots } }

/-- Requests to the pool are released, and the resume ends with LAST_RESUME `r` (R851, R880, R887). -/
def State.endResume (s : State) (r : Nat) : State :=
  let dt := min 65535 ((s.now - s.rd RETX_UNMOOR_AT) / ms)
  let s := s.wrs [(MOR_STATUS_STATE, 0), (MOR_STATUS_LAST_RESUME, r), (MOR_EVENT_RESUMED, 1), (MOR_RESUME_RESUME_MS, dt)]
  (s.morLog 10 r dt 0).retryHeld

/-- RESUME_COMPLETE: READY is reached, the last group of slots has started, and the headers are SUPERSEDED, or 2 s have passed without it
and the image is stale (R851, R880, R883). -/
def execResumeComplete (s : State) : Host.Outcome State Fault Refusal :=
  s.event (s.rd MOR_STATUS_STATE == 5 && s.rd GLB_BOOT_STATUS_STAGE == 6 && s.slotsToPower.isEmpty && !s.on MOR_STATUS_RESTORE_INCOMPLETE) fun s =>
    let stale := s.on RETX_SPILLED
    let s := if stale then (((s.advTo (s.rd RETX_UNMOOR_AT + 2 * sec)).wr MOR_STATUS_IMAGE_STALE 1).wr RETX_SPILLED 0).logUncoded 170 0 0 else s
    s.endResume (if s.rd RETX_CAUSE = 4 then 3 else 1)

/-! The MOORING commands (R729, R864, R891). -/

/-- Port `p` is a downstream PCI Express port with the slot of channel `c` (R864). -/
def State.spillPort (s : State) (p c : Nat) : Bool :=
  decide (p < 128) && s.rd (PRT_CFG_MODE p) == 2 && s.on (PRT_CFG_SLOT_VALID p) && s.rd (PRT_CFG_SLOT_CH p) == c

/-- MOORING_SPILL_SET (R864). -/
def execMooringSpillSet (c : Cmd) (s : State) : Host.Outcome State Fault Refusal :=
  let p0 := parBytes c 0 1
  let p1 := parBytes c 1 1
  .next (s.command 0x0901 onlyM (cleanCmd c [(0, 8), (8, 8), (16, 1), (32, 32), (64, 32), (128, 64), (192, 64)] false)
    (fun _ => firstFail
      [(!s.spillPort p0 30 || !s.spillPort p1 31, stBadParam),
       (decide (0 < s.rd (BINDX_COUNT p0)) || decide (0 < s.rd (BINDX_COUNT p1)), stBusy)]
      (.ok 0 (s.wrs [(MOR_CFG_TARGET_EN, parBits c 16 1), (MOR_CFG_PORT0, p0), (MOR_CFG_PORT1, p1), (MOR_SPILL_NS0_NSID, parBytes c 4 4),
        (MOR_SPILL_NS1_NSID, parBytes c 8 4), (MOR_SPILL_LBA0_LO_LBA, parBytes c 16 4), (MOR_SPILL_LBA0_HI_LBA, parBytes c 20 4),
        (MOR_SPILL_LBA1_LO_LBA, parBytes c 24 4), (MOR_SPILL_LBA1_HI_LBA, parBytes c 28 4)]))) c)

/-- MOORING_POLICY_SET (R729, R839). -/
def execMooringPolicySet (c : Cmd) (s : State) : Host.Outcome State Fault Refusal :=
  let j := parBytes c 0 4
  .next (s.command 0x0902 onlyM (cleanCmd c [(0, 32), (32, 1)] false && decide (1200 ≤ j) && decide (j ≤ 4000))
    (fun _ => .ok 0 (s.wrs [(MOR_CFG_RESERVE_J, j), (PDI_LIFT_ENERGY_RESERVE_J, j), (MOR_CFG_SPILL_EN, parBits c 32 1)]).packView) c)

/-- MOORING_LOG_READ: index 0 is the newest record of the event ring (R891). -/
def execMooringLogRead (c : Cmd) (s : State) : Host.Outcome State Fault Refusal :=
  .next (s.command 0x0904 onlyM (cleanCmd c [(0, 16)] false)
    (fun _ => match s.mooring.log[parBytes c 0 2]? with
      | some r => .ok r s
      | none => .fail stBadParam) c)

/-- A read of MOR_DRAIN_TIME_LO, or with `est` of MOR_RETAIN_EST_LO (R895). -/
def State.readMorLo (s : State) (est : Bool) : State × Nat :=
  if est then s.latch MOR_RETAIN_EST_LO_TIME MOR_RETAIN_EST_HI_TIME (s.rd RETX_EST)
  else s.latch MOR_DRAIN_TIME_LO_TIME MOR_DRAIN_TIME_HI_TIME (s.rd RETX_DRAIN_FT)

/-- MOR_TIME_LO_READ (R895). -/
def execMorTimeLoRead (est : Bool) (s : State) : Host.Outcome State Fault Refusal := giveRead (s.readMorLo est)

/-! POWER_OFF (R788 to R791). -/

/-- POWER_OFF (R788, R789). -/
def execPowerOff (c : Cmd) (s : State) : Host.Outcome State Fault Refusal :=
  let held := !(s.listed (WIN_VALID 0).key 256 4096).isEmpty || (List.range 16).any fun d => s.on (ORD_DOM_CFG_VALID d)
  .next (s.command 0x0802 onlyM (cleanCmd c [] true)
    (fun _ => firstFail
      [(held && !opFlag c, stNotPermitted),
       (s.opBusy (s.ops.map fun o => o.opcode) (fun _ => true), stBusy), (!s.pool.closes.isEmpty, stBusy), (s.rd BRD_STATUS_STATE != 0, stBusy)]
      (.ok 0 (s.wr SYS_OFFING 1))) c)

/-- POWER_OFF_ENTRY: every buffer is drained, the slots lose power, the charger stops, and the gates into BKP_BUS open, so that all but the
power die's feed monitor and the WAKE_IN qualifier loses its supply (R63, R789, R830). -/
def execPowerOffEntry (s : State) : Host.Outcome State Fault Refusal :=
  s.event (s.on SYS_OFFING) fun s =>
    let keep := [PDI_STATUS_FEED_A_OK, PDI_STATUS_FEED_B_OK, PDI_STATUS_FEED_A_OV, PDI_STATUS_FEED_B_OV, GLB_INPUT_STATUS_PWR_FAIL_IN,
      GLB_INPUT_STATUS_WAKE_IN, LIFTX_MASK, LIFTX_LOST, LIFTX_GATE].map fun f => (f, s.rd f)
    let s := (s.drain.forN (fun c s => s.scDrop c) 32).convert 0
    (((s.releasePins).lose).wrs keep).wrs [(SYS_OFF, 1), (RETX_CAUSE, 2), (RETX_FROM, 4), (RETX_SOURCE, wakePin)]

end Sys2Proof.Machine
end

