-- ==== Sys2Proof/Machine/Spill.lean ====
section
/-! DEFINITION. The spill image and its restore (R443, R447, R769, R770, R861 to R873, R880, R883 to R890). The drives are outside the part:
what is written to them is an output, and what is read from them comes with the command. -/

namespace Sys2Proof.Machine

/-! The Bridle save area as bytes (R443, R769). -/

/-- A list of bytes filled with zeros to length `n`. -/
def padTo (n : Nat) (l : List (BitVec 8)) : List (BitVec 8) := l ++ List.replicate (n - l.length) 0

/-- The bytes that a save copy's CRC-64 covers: the rules, the policy and the generation (R443). -/
def ruleCopyBody (t : Tables) : List (BitVec 8) :=
  (List.range 8192).flatMap (fun i => leBytes 32 (t.packed i)) ++ leBytes 4 t.policy ++ leBytes 4 t.gen

/-- A save copy of 260 KiB; one that is not valid holds zero for its CRC-64 (R435, R443). -/
def ruleCopy (t : Tables) : List (BitVec 8) :=
  let b := ruleCopyBody t
  padTo 0x41000 (b ++ leBytes 8 (if t.ok then crc64Of b else 0))

/-- The save copy that 260 KiB hold (R443, R447). -/
def ruleCopyOf (l : List (BitVec 8)) : Tables :=
  if at_ l 0x40008 8 = crc64Of (l.take 0x40008) then
    (List.range 8192).foldl (fun t i => if at_ l (32 * i) 32 = 0 then t else t.write i (at_ l (32 * i) 32))
      ⟨at_ l 0x40004 2, at_ l 0x40000 4, [], true⟩
  else Tables.invalid

/-- The fields that a gondola table copy keeps of gondola `g`, and their sizes in bytes (R769); the places of the fields are the model's,
log entry 20. -/
def gondFlds (t : Tables) (g : Nat) : List (Fld × Nat) :=
  let sh := t.get (GND_SHAPER g)
  [(GND_VALID g, 1), (GND_STATE g, 1), (GND_HOST g, 1), (GND_SHAPER_VALID g, 1), (GND_SLOT g, 2), (GND_OP_LIMIT g, 2), (GND_PASID g, 4),
    (GND_SPOOL_QUOTA g, 2), (GND_RULE_QUOTA g, 2), (GND_ENG_SHARE g, 2), (SHP_BURST sh, 2), (SHPX_RATE sh, 4), (GND_POOL_QUOTA g, 4),
    (GND_SHAPER g, 2), (SHP_VALID sh, 1), (SHP_KIND sh, 1)]

/-- Bytes of a gondola in a copy. -/
def gondBytes : Nat := 32

/-- The bytes that the CRC-64 of a gondola table copy covers. -/
def gondCopyBody (t : Tables) : List (BitVec 8) :=
  padTo 0xFFF8 ((List.range 1024).flatMap (fun g => padTo gondBytes ((gondFlds t g).flatMap fun f => leBytes f.2 (t.get f.1))) ++ leBytes 2 t.gen)

/-- A gondola table copy of 64 KiB. -/
def gondCopy (t : Tables) : List (BitVec 8) :=
  let b := gondCopyBody t
  b ++ leBytes 8 (if t.ok then crc64Of b else 0)

/-- The fields of gondola `g`, read one after another from its bytes into the table. -/
def readGond (l : List (BitVec 8)) (t : Tables) : List (Fld × Nat) → Nat → Tables
  | [], _ => t
  | (f, n) :: r, b => readGond l (t.put f (at_ l b n)) r (b + n)

/-- The gondola table copy that 64 KiB hold. -/
def gondCopyOf (l : List (BitVec 8)) : Tables :=
  if at_ l 0xFFF8 8 = crc64Of (l.take 0xFFF8) then
    (List.range 1024).foldl (fun t g =>
      let e := (l.drop (gondBytes * g)).take gondBytes
      if at_ e 0 1 = 1 then
        let t := t.put (GND_SHAPER g) (at_ e 28 2)
        readGond e t (gondFlds t g) 0
      else t) ⟨at_ l (gondBytes * 1024) 2, 0, [], true⟩
  else Tables.invalid

/-- The save area of 1 MiB (R443). -/
def saveArea (b : Bridle) : List (BitVec 8) :=
  padTo (2 ^ 20) (ruleCopy b.saveA ++ padTo 0x41000 (ruleCopy b.saveB) ++ gondCopy b.gondA ++ gondCopy b.gondB)

/-- The copies that a save area holds, its lines of the mask `bad` poisoned: a copy with such a line cannot be read (R571, R886). -/
def State.loadSaveArea (s : State) (l : List (BitVec 8)) (bad : Nat) : State :=
  let whole (a n : Nat) : Bool := bad / 2 ^ (a / 64) % 2 ^ (n / 64) == 0
  { s with bridle := { s.bridle with
    saveA := if whole 0 0x41000 then ruleCopyOf (l.take 0x41000) else Tables.invalid
    saveB := if whole 0x41000 0x41000 then ruleCopyOf ((l.drop 0x41000).take 0x41000) else Tables.invalid
    gondA := if whole 0x82000 0x10000 then gondCopyOf ((l.drop 0x82000).take 0x10000) else Tables.invalid
    gondB := if whole 0x92000 0x10000 then gondCopyOf ((l.drop 0x92000).take 0x10000) else Tables.invalid } }

/-! Tables restored at a start-up (R447, R448, R770). -/

/-- The save copy that is newer and valid becomes active; with none, the locks are unknown (R447, R448). -/
def State.activateSaved (s : State) : State :=
  let a := s.bridle.saveA
  let b := s.bridle.saveB
  let t := if a.ok && b.ok then (if newer b.gen a.gen then b else a) else if a.ok then a else if b.ok then b else Tables.empty
  let s := { s with bridle := { s.bridle with
    active := t
    staged := t } }
  (s.wrs [(BRD_STATUS_LOCK_UNKNOWN, b2n (!a.ok && !b.ok)), (BRD_EVENT_SAVE_ERR, b2n (!a.ok || !b.ok))]).bridleView

/-- The draw of gondola `g` as a copy recorded it. -/
def Tables.drawOf (t : Tables) (g : Nat) : Draw :=
  let sh := t.get (GND_SHAPER g)
  ⟨t.get (GND_HOST g), g, t.get (GND_PASID g), t.get (GND_SPOOL_QUOTA g), t.get (GND_RULE_QUOTA g), t.get (GND_ENG_SHARE g),
    t.get (GND_OP_LIMIT g), t.get (GND_SHAPER_VALID g) == 1, t.get (SHPX_RATE sh), t.get (SHP_BURST sh), 4096 * t.get (GND_POOL_QUOTA g)⟩

/-- Size in 4 KiB units of the windows that gondola `g` owns (R573). -/
def State.ownedUnits (s : State) (g : Nat) : Nat :=
  ((s.listed (WIN_VALID 0).key 256 4096).filter fun w => s.on (WIN_OWNER_VALID w) && s.rd (WIN_OWNER w) == g).foldl
    (fun n w => n + (s.rd (WIN_LIMIT w) + 1 - s.rd (WIN_BASE w)) / 4096) 0

/-- The gondola table of the newer valid copy restored, each gondola RUNNING or FROZEN as recorded (R770). -/
def State.restoreGonds (s : State) : State :=
  let s := s.gonds.foldl (fun s g => s.freeGond g) s
  match s.lastGond with
  | none => s
  | some t =>
    let s := s.wr YCP_GND_COUNT_TABLE_RESTORED 1
    ((idxs 1024 fun g => t.get (GND_VALID g) == 1).foldl (fun s g =>
      (s.makeGondAt (t.drawOf g) g (if t.get (GND_STATE g) = 3 then 3 else 1) (t.get (GND_SLOT g))).wr (GND_POOL_USED g) (s.ownedUnits g)) s).bridleView

/-- Origin domains start SYNCING, and their resync starts by itself once there is a route (R113, R884). -/
def State.restoreMirrors (s : State) : State :=
  s.forN (fun d s =>
    if s.on (ORD_DOM_CFG_MIRRORED d) ∧ s.rd (ORD_DOM_STATUS_MIRROR_STATE d) = 2 then
      (s.wrs [(ORD_DOM_STATUS_MIRROR_STATE d, 1), (DDX_AUTO d, 1), (DDX_STARTED d, 0)]).degView d
    else s.degView d) 16

/-- The hosts' pages show the domains and epochs that the retention SRAM kept (R20, R614, R615). -/
def State.restoreDomains (s : State) : State :=
  s.forN (fun d s =>
    let hosts := s.rd (ORD_DOM_HOSTS_LO_HOSTS d) + s.rd (ORD_DOM_HOSTS_HI_HOSTS d) * 2 ^ 32
    (s.grantHosts d (if s.on (ORD_DOM_CFG_VALID d) then hosts else 0)).setEpoch d (s.rd (DDX_EPOCH d))) 16

/-! The image (R869 to R873). -/

/-- Regions of the stream: pool base, length, and domain, in order; the save area first (R870, R872). -/
def State.regions (s : State) : List (Nat × Nat × Nat) :=
  (s.poolUsable, 2 ^ 20, 0xFF) :: s.mooring.spill.map fun w => (w.base, w.limit + 1 - w.base, w.dom)

/-- The directory (R872): entries from stream offset `o` on. -/
def dirBytes : List (Nat × Nat × Nat) → Nat → List (BitVec 8)
  | [], _ => []
  | (b, n, d) :: t, o => leBytes 8 b ++ leBytes 8 n ++ leBytes 8 o ++ leBytes 8 d ++ dirBytes t (o + n)

/-- The regions that a directory of `n` entries names, after the first. -/
def dirRegions (l : List (BitVec 8)) (n : Nat) : List (Nat × Nat × Nat) :=
  ((List.range n).drop 1).map fun i => (at_ l (32 * i) 8, at_ l (32 * i + 8) 8, at_ l (32 * i + 16) 8)

/-- Chunks of an image of `n` bytes (R870). -/
def chunksOf (n : Nat) : Nat := ceilDiv n (2 ^ 20)

/-- The pool lines of chunk `k`, in the order of the stream, of regions given by base, length and stream offset. -/
def chunkLines (l : List (Nat × Nat × Nat)) (k : Nat) : List Nat :=
  l.flatMap fun r =>
    let lo := max (k * 2 ^ 20) r.2.2
    let hi := min ((k + 1) * 2 ^ 20) (r.2.2 + r.2.1)
    (List.range ((hi - lo) / 64)).map fun i => r.1 + (lo - r.2.2) + 64 * i

/-- The stream offset of each window of the spill list, from `o` on. -/
def placed : List SpillWin → Nat → List (Nat × Nat × Nat)
  | [], _ => []
  | w :: t, o => (w.base, w.limit + 1 - w.base, o) :: placed t (o + (w.limit + 1 - w.base))

/-- Domain `d` as parameter bytes 0 to 31 of its last POOL_DOMAIN_SET (R723, R871). -/
def State.domainBytes (s : State) (d : Nat) : List (BitVec 8) :=
  padTo 32 (leBytes 1 d ++ leBytes 1 (s.rd (ORD_DOM_CFG_VALID d) + 2 * s.rd (ORD_DOM_CFG_MIRRORED d) + 4 * s.rd (ORD_DOM_CFG_MIRROR_TARGET d)
      + 8 * s.rd (ORD_DOM_CFG_POLICY d))
    ++ leBytes 1 (s.rd (ORD_DOM_CFG_PEER_NODE d)) ++ leBytes 1 (s.rd (ORD_DOM_CFG_PEER_DOMAIN d)) ++ leBytes 4 (s.rd (ORD_DOM_CFG_MIRROR_TC d))
    ++ leBytes 4 (s.rd (ORD_DOM_OFFSET_LO_OFFSET d)) ++ leBytes 4 (s.rd (ORD_DOM_OFFSET_HI_OFFSET d)) ++ leBytes 4 (s.rd (ORD_DOM_HOSTS_LO_HOSTS d))
    ++ leBytes 2 (s.rd (ORD_DOM_HOSTS_HI_HOSTS d)))

/-- The header of drive `x` with state `st`: 1 WRITING, 2 COMPLETE, 3 SUPERSEDED, 4 RESTORED; `done` is the time at which the image became
COMPLETE, 0 before (R871). -/
def State.headerBytes (s : State) (x st done : Nat) : List (BitVec 8) :=
  let n := s.rd RETX_IMAGE_LEN
  let b := leBytes 4 0x4C495053 ++ leBytes 2 1 ++ leBytes 1 x ++ leBytes 1 st ++ leBytes 8 Config.serial.toNat ++ leBytes 8 (s.rd MOR_COUNT_MOORINGS)
    ++ leBytes 8 (s.rd RETX_DRAIN_FT) ++ leBytes 8 n ++ leBytes 4 (chunksOf n) ++ leBytes 4 (s.mooring.spill.length + 1) ++ leBytes 8 done
    ++ leBytes 8 (s.rd MOR_DRAIN_DISCARDS) ++ (List.range 16).flatMap (fun d => leBytes 8 (s.rd (DDX_EPOCH d)))
    ++ (List.range 16).flatMap (fun d => s.domainBytes d) ++ leBytes 8 s.poolC
  b ++ leBytes 8 (crc64Of b)

/-- Both headers written with state `st` (R867, R880, R887). -/
def State.putHeaders (s : State) (st done : Nat) : State :=
  (s.emit (.nvme 0 0 (s.headerBytes 0 st done))).emit (.nvme 1 0 (s.headerBytes 1 st done))

/-- The lines of the save area that a spill cannot read: those on a FAILED channel, and lost ones that no copy has filled again (R571, R949). -/
def State.savePoison (s : State) : Nat :=
  let kept (i : Nat) : Bool :=
    if i < 0x1040 then s.bridle.saveA.ok
    else if i < 0x2080 then s.bridle.saveB.ok
    else if i < 0x2480 then s.bridle.gondA.ok
    else if i < 0x2880 then s.bridle.gondB.ok
    else true
  (List.range (2 ^ 14)).foldl (fun n i =>
    let c := (s.mapAddr (s.poolUsable + 64 * i)).1
    if s.rd (BAL_CH_STATUS_STATE c) = chFailed || (s.poisoned (s.poolUsable + 64 * i) && !kept i) then n + 2 ^ i else n) 0

/-- Bytes with every line of the mask `bad` zero. -/
def blankLines (l : List (BitVec 8)) (bad : Nat) : List (BitVec 8) :=
  if bad = 0 then l
  else (List.range (l.length / 64)).flatMap fun i => if bitSet bad i then List.replicate 64 0 else (l.drop (64 * i)).take 64

/-- Chunk `k` with its trailer (R571, R870, R873): a poisoned line goes as zeros with its bit set. -/
def State.chunkBytes (s : State) (k : Nat) : List (BitVec 8) :=
  let lines := chunkLines (placed s.mooring.spill (2 ^ 20)) k
  let bad := if k = 0 then s.savePoison
    else (List.range lines.length).foldl (fun n i => match lines[i]? with
      | some a => if s.poisoned a then n + 2 ^ i else n
      | none => n) 0
  let data := if k = 0 then blankLines (saveArea s.bridle) bad
    else padTo (2 ^ 20) (lines.flatMap fun a => if s.poisoned a then List.replicate 64 0 else s.loadBytes a 64)
  let b := data ++ leBytes 2048 bad
  padTo 0x101000 (b ++ leBytes 8 (crc64Of b) ++ leBytes 8 (k * 2 ^ 20) ++ leBytes 8 (s.rd MOR_COUNT_MOORINGS))

/-- The directory and every chunk written to the drives (R867, R870). -/
def State.putImage (s : State) : State :=
  let d := padTo 0x21000 (dirBytes s.regions 0)
  let s := (s.emit (.nvme 0 0x1000 d)).emit (.nvme 1 0x1000 d)
  (List.range (chunksOf (s.rd RETX_IMAGE_LEN))).foldl (fun s k => s.emit (.nvme (k % 2) (0x22000 + 0x101000 * (k / 2)) (s.chunkBytes k))) s

/-- The spill drives are turned off, and DDR4 is back in self-refresh (R867, R868). -/
def State.endSpill (s : State) : State :=
  let s := (s.wrs [(MOR_STATUS_STATE, 4), (RETX_SPILLING, 0), (MORX_RAIL_EN, 0)]).emit (.pin 5 0 false)
  (((s.spillEngines 0 0).scMoor 30).scMoor 31).qualView

/-- SPILL_START: AVAIL_J has reached the reserve in retention (R851, R862). -/
def execSpillStart (s : State) : Host.Outcome State Fault Refusal :=
  s.event (s.rd MOR_STATUS_STATE == 2 && s.spillDue) fun s => s.startSpill

/-- Slot channel `c` feeds its drive: it is ON, with SLOT_PERST_N released (R867). -/
def State.driveUp (s : State) (c : Nat) : Bool := s.scState c == 3 && !s.on (PDI_SC_STATUS_PERST_LOW c)

/-- SPILL_DRIVES_READY: the queues are created and both headers written WRITING (R866, R867). -/
def execSpillDrivesReady (s : State) : Host.Outcome State Fault Refusal :=
  s.event (s.rd MOR_STATUS_STATE == 3 && s.rd RETX_SPILLING == 1 && s.driveUp 30 && s.driveUp 31) fun s => ((s.wr RETX_SPILLING 2).wr MOR_STATUS_IMAGE_VALID 0).putHeaders 1 0

/-- SPILL_DONE: every chunk is written and the headers are COMPLETE (R446, R851, R867 to R873). -/
def execSpillDone (s : State) : Host.Outcome State Fault Refusal :=
  s.event (s.rd MOR_STATUS_STATE == 3 && s.rd RETX_SPILLING == 2 && s.driveUp 30 && s.driveUp 31) fun s =>
    let s := s.putImage.putHeaders 2 s.ft
    let s := ((s.inc MOR_COUNT_SPILLS).wrs [(MOR_EVENT_SPILL_DONE, 1), (MOR_STATUS_IMAGE_VALID, 1)]).morLog 6 0 s.ft s.avail
    s.endSpill

/-- Slot channel `c` has faulted: it is in COOLDOWN or LATCHED (R822). -/
def State.faulted (s : State) (c : Nat) : Bool := s.scState c == 4 || s.scState c == 5

/-- What R868 asks for each cause of a failed spill: 0 an NVMe error status, 1 a command of more than 2 s, 2 a fault on SC30 or SC31, 3 a drive
that is not ready at 1.5 s. -/
def State.spillFails (s : State) (cause : Nat) : Bool :=
  s.rd MOR_STATUS_STATE == 3 && (if cause = 2 then s.faulted 30 || s.faulted 31 else if cause = 3 then s.rd RETX_SPILLING == 1 else true)

/-- SPILL_FAIL: for cause 0 to 3 in the order of R868, after `n` chunks (R851, R868, R894). -/
def execSpillFail (cause : Fin 4) (n : BitVec 32) (s : State) : Host.Outcome State Fault Refusal :=
  s.event (s.spillFails cause) fun s =>
    let s := s.when (cause.val == 3) fun s => s.advTo (s.rd RETX_SPILL_AT - 1 + 1500 * ms)
    ((s.wr MOR_EVENT_SPILL_FAIL 1).morLog 7 (cause.val + 1) n.toNat 0).endSpill

/-! The headers after a warm resume (R880, R883). -/

/-- SUPERSEDED_WRITE: the headers are rewritten during the resume (R880). -/
def execSupersededWrite (s : State) : Host.Outcome State Fault Refusal :=
  s.event (s.rd MOR_STATUS_STATE == 5 && s.rd GLB_BOOT_STATUS_STAGE == 6 && s.on RETX_SPILLED) fun s =>
    (s.wrs [(RETX_SPILLED, 0), (MOR_STATUS_IMAGE_VALID, 0)]).putHeaders 3 0

/-- IMAGE_STALE_RETRY: the headers are tried again, and `ok` says that the drives took them (R883). -/
def execImageStaleRetry (ok : Bool) (s : State) : Host.Outcome State Fault Refusal :=
  s.event (s.on MOR_STATUS_IMAGE_STALE && decide (s.rd PWR_STATUS_STATE ≤ 1) && s.rd GLB_BOOT_STATUS_STAGE == 6) fun s =>
    if ok then (s.wrs [(MOR_STATUS_IMAGE_STALE, 0), (MOR_STATUS_IMAGE_VALID, 0)]).putHeaders 3 0 else s

/-! Restore (R885 to R890). -/

/-- The number of the first check of R885 that a header fails: 1 CRC-64, 2 MAGIC or FORMAT, 3 STATE, 4 serial number, 5 SEQ against the
other drive's, 6 C. -/
def State.headerFails (s : State) (h other : List (BitVec 8)) : Nat :=
  if crc64Of (h.take 712) ≠ at_ h 712 8 then 1
  else if at_ h 0 4 ≠ 0x4C495053 ∨ at_ h 4 2 ≠ 1 then 2
  else if at_ h 7 1 ≠ 2 then 3
  else if at_ h 8 8 ≠ Config.serial.toNat then 4
  else if at_ h 16 8 ≠ at_ other 16 8 then 5
  else if at_ h 704 8 ≠ s.poolC then 6
  else 0

/-- The pool's contents are not kept: every line is zero, written in the background (R561). -/
def State.zeroPool (s : State) : State :=
  ({ s.loseSave with pool := { s.pool with cells := [], poison := [] } }.forN (fun c s => s.wr (CHX_LOST c) 0) 8).wr BAL_STATUS_INIT_BUSY 1

/-- No restore: the pool starts empty, also one that an incomplete restore left in part, requests to it are released, and LAST_RESUME says why
(R885). -/
def State.noRestore (s : State) (r check : Nat) : State :=
  let s := s.when (s.on GLB_RESET_CAUSE_POOL_PRESERVED) State.zeroPool
  let s := s.wrs [(RETX_RESTORE_DUE, 0), (MOR_STATUS_RESTORE_INCOMPLETE, 0), (MOR_STATUS_LAST_RESUME, r),
    (MOR_STATUS_STATE, if s.rd MOR_STATUS_STATE = 5 then 5 else 0)]
  let s := if r = 5 then (s.wr MOR_EVENT_IMAGE_BAD 1).logUncoded 170 check 0 else s
  s.retryHeld

/-- RESTORE_START: the headers that the drives give, none for a drive without one, are checked; the restore begins, or the pool stays as it
is (R851, R885, R889, R890). -/
def execRestoreStart (h0 h1 : Option (List (BitVec 8))) (s : State) : Host.Outcome State Fault Refusal :=
  s.event (s.rd GLB_BOOT_STATUS_STAGE == 6 && (s.rd MOR_STATUS_STATE == 6
      || (s.rd MOR_STATUS_STATE == 5 && s.on MOR_STATUS_RESTORE_INCOMPLETE))) fun s =>
    match h0, h1 with
    | none, none => s.noRestore 4 0
    | some a, some b =>
      let f := max (s.headerFails a b) (s.headerFails b a)
      if f = 0 then
        { s.wrs [(MOR_STATUS_STATE, 6), (MOR_STATUS_RESTORE_INCOMPLETE, 1), (MOR_STATUS_IMAGE_VALID, 1), (RETX_RESTORE_DUE, 0),
            (MOR_RESTORE_CHUNKS_LEFT, at_ a 40 4), (MOR_RESTORE_BAD_CHUNKS, 0)] with
          mooring := { s.mooring with header := a } }
      else s.noRestore 5 f
    | _, _ => s.noRestore 5 0

/-- Chunk `k` stored at the lines of its regions; a chunk that is missing or fails its CRC-64 leaves its lines poisoned (R886). -/
def State.restoreChunk (s : State) (l : List (Nat × Nat × Nat)) (k : Nat) (c : Option SpillChunk) : State :=
  let good := match c with
    | some x => crc64Of (padTo (2 ^ 20) x.data ++ leBytes 2048 x.poison.toNat) == x.crc.toNat
    | none => false
  let data := if good then (match c with | some x => x.data | none => []) else []
  let bad := match c with
    | some x => x.poison.toNat
    | none => 0
  let s := if good then s else (s.inc MOR_RESTORE_BAD_CHUNKS).wr MOR_EVENT_CHUNK_BAD 1
  if k = 0 then (if good then s.loadSaveArea data bad else s.loseSave)
  else
    let lines := chunkLines l k
    s.forN (fun i s => match lines[i]? with
      | some a => (s.storeMasked a fullMask (at_ data (64 * i) 64) 64).setPoison a (!good || bitSet bad i)
      | none => s) lines.length

/-- The domains and counters of an image's header (R871, R887 step 1). -/
def State.restoreHeader (s : State) (h : List (BitVec 8)) : State :=
  s.forN (fun d s =>
    let c : Cmd := ⟨.flash, 0, 0, BitVec.ofNat 448 (at_ h (192 + 32 * d) 32)⟩
    (s.putDomain c d).setEpoch d (at_ h (64 + 8 * d) 8)) 16

/-- A header for drive `x` with another STATE and the CRC-64 that follows (R871). -/
def reHeader (h : List (BitVec 8)) (x st : Nat) : List (BitVec 8) :=
  let b := h.take 6 ++ leBytes 1 x ++ leBytes 1 st ++ (h.drop 8).take 704
  b ++ leBytes 8 (crc64Of b)

/-- RESTORE_COMPLETE: the chunks in stream order, none for one on a drive that failed, and the directory, as read from the drives (R447,
R770, R851, R886, R887, R890). -/
def execRestoreComplete (dir : List (BitVec 8)) (chunks : List (Option SpillChunk)) (s : State) : Host.Outcome State Fault Refusal :=
  let h := s.mooring.header
  s.event (s.rd MOR_STATUS_STATE == 6 && !h.isEmpty && chunks.length == at_ h 40 4) fun s =>
    let l := dirRegions dir (at_ h 44 2)
    let s := (List.range chunks.length).foldl (fun s k => s.restoreChunk l k (chunks[k]?.getD none)) s
    let s := (s.restoreHeader h).activateSaved.restoreGonds
    let s := s.wrs [(MOR_RESTORE_CHUNKS_LEFT, 0), (MOR_STATUS_IMAGE_VALID, 0), (MOR_STATUS_RESTORE_INCOMPLETE, 0), (RETX_SPILLED, 0), (RETX_KEPT, 1)]
    let s := (s.emit (.nvme 0 0 (reHeader h 0 4))).emit (.nvme 1 0 (reHeader h 1 4))
    { s with mooring := { s.mooring with header := [] } }.endResume 2

end Sys2Proof.Machine
end

