-- ==== Sys2Proof/Machine/Time.lean ====
section
/-! DEFINITION. The system PLL's reference (R82, R83) and fabric time: roles, the exchange over tethers, FT_PPS, holdover and steps
(R84 to R107, R252 to R254). -/

namespace Sys2Proof.Machine

/-! The system PLL. -/

/-- The lowest-numbered pair of the mask `m` that carries a clock. -/
def lowPair (m : Nat) : Option Nat := findFrom (bitSet m) 0 16

/-- The PLL takes pair `g`: a switch, logged (R82, R83). -/
def State.switchRef (s : State) (g : Nat) : State :=
  (s.wrs [(GLB_CLK_STATUS_SYS_REF, g), (GLB_CLK_STATUS_SYS_REF_SWITCHED, 1), (GLB_CLK_STATUS_SYS_REF_LOST, 0)]).log 171 0x0E02 0 0

/-- SYS_REF_SWITCH: the detector of the PLL's pair has deasserted; the switch goes ahead although the pair's clock may have returned
(R82, R83). -/
def execSysRefSwitch (s : State) : Host.Outcome State Fault Refusal :=
  s.event (s.on GLB_CLK_STATUS_SYS_PLL_LOCK && !s.on GLB_CLK_STATUS_SYS_REF_LOST) fun s =>
    match lowPair (clrBit (s.rd GLB_CLK_STATUS_CLKREF_DET) (s.rd GLB_CLK_STATUS_SYS_REF)) with
    | some g => s.switchRef g
    | none => (s.wr GLB_CLK_STATUS_SYS_REF_LOST 1).log 171 0x0E03 0 0

/-- SYS_REF_RECOVERED: a clock is detected on some pair while SYS_REF_LOST is 1 (R83). -/
def execSysRefRecovered (s : State) : Host.Outcome State Fault Refusal :=
  s.event (s.on GLB_CLK_STATUS_SYS_REF_LOST) fun s =>
    match lowPair (s.rd GLB_CLK_STATUS_CLKREF_DET) with
    | some g => s.switchRef g
    | none => s

/-! Steps. -/

/-- The count changes at once by `d`; each active gate list keeps its gate time up to its next cycle boundary (R101, R483);
a port without an active list takes the step at once, and a pending list whose time it passes takes over at the step (R103, R485). -/
def State.ftJump (s : State) (d : Int) : State :=
  let s := { s with clk := { s.clk with ft := s.clk.ft + BitVec.ofInt 64 d } }
  let s := s.forN (fun p s => if s.on (SCH_GATE_STATUS_LIST_VALID p) then
    s.wrs [(SCHX_OFFS p, ((s.rd (SCHX_OFFS p) : Int) + d).emod (2 ^ 64) |>.toNat), (SCH_GATE_STATUS_REANCHOR_PENDING p, 1)] else s) 128
  ((s.wr MGT_FT_STATUS_STEP_PENDING 1).stepSettled).forN (fun p s => s.takeoverAtOnce p) 128

/-- A step under R101, logged with its signed size (R104); it ends PS-SLEEP (R785). -/
def State.ftStep (s : State) (d : Int) : State :=
  let s := (s.ftJump d).wr MGT_FT_STATUS_STEP_DONE 1
  (s.log 171 0x0E04 0 (detG (BitVec.ofInt 64 d).toNat 0)).wake wakeTime 0

/-- LAST_OFFSET saturates at the limits of 32 bits. -/
def offset32 (d : Int) : Nat := (BitVec.ofInt 32 (max (-2147483648) (min 2147483647 d))).toNat

/-- The increment of the count is disciplined to a free value within 500 ppm of nominal (R85). Log entry 3. -/
def State.ftTrim (s : State) : State :=
  { s.takeFree with clk := { s.clk with ftInc := 4292819813 + s.freeVal % 4294967 } }

/-- A slew toward an offset `d`: the rate changes by a free amount of at most 100 ppm in its direction, within 500 ppm of nominal (R94). -/
def State.ftSlew (s : State) (d : Int) : State :=
  let x := s.freeVal % 429497
  let inc := if d < 0 then s.clk.ftInc - x else if 0 < d then s.clk.ftInc + x else s.clk.ftInc
  { s.takeFree with clk := { s.clk with ftInc := max 4292819813 (min 4297114779 inc) } }

/-! Changes of role (R84, R88, R90, R98). -/

/-- FT_REF_CHANGE (R63, R84, R88): the pin acts in every state but PS-OFF. In PS-DEEP the count goes on the retention clock while FT_REF is
absent (R77, R104). -/
def execFtRefChange (present : Bool) (s : State) : Host.Outcome State Fault Refusal :=
  s.event (!s.on SYS_OFF && !s.on MORX_DEAD) fun s => 
    let s := (s.wr MGT_FT_STATUS_REF_PRESENT (b2n present)).ftRole
    s.when (s.rd PWR_STATUS_STATE == 3) fun s => if present then s.timeClock else s.retentionClock

/-- PARENT_CHANGE: the parent advertises 15 or has missed ten exchanges, and another tether leads to a root (R90). -/
def execParentChange (s : State) : Host.Outcome State Fault Refusal :=
  let p := s.rd MGT_FT_STATUS_PARENT_PORT
  match s.bestParent p with
  | none => .next s
  | some q => s.event (s.rd MGT_FT_STATUS_ROLE == ftFollower && (s.rd (CYTX_HOPS p) == 15 || decide (10 ≤ s.rd (CYTX_MISSED p)))) fun s =>
      s.follow q

/-- FT_HOLDOVER_ENTRY (R98): a root 1.5 s after its last qualified FT_PPS edge; a follower 10 ms after its last valid exchange with no other
tether toward a root. The loss of FT_REF is FT_REF_CHANGE. LOCKED stays as it was, which the spec leaves open: DESIGN CHOICE, log entry 25. -/
def execFtHoldoverEntry (s : State) : Host.Outcome State Fault Refusal :=
  let role := s.rd MGT_FT_STATUS_ROLE
  if role = ftRoot then
    .next (((s.advTo (max (s.rd FTX_PPS_AT) (s.rd FTX_ROOT_AT) + 1500 * ms)).wr MGT_FT_STATUS_PPS_PRESENT 0).wr MGT_FT_STATUS_FT_HOLDOVER 1)
  else s.event (role == ftFollower && (s.bestParent (s.rd MGT_FT_STATUS_PARENT_PORT)).isNone) fun s =>
    (s.advTo (s.rd FTX_EXCH_AT + 10 * ms)).wrs [(MGT_FT_STATUS_FT_HOLDOVER, 1), (FTX_BIG, 0)]

/-! The exchange (R93 to R95, R252 to R254). -/

/-- The difference of two 64-bit times, signed. -/
def ftDiff (a b : Nat) : Int := (BitVec.ofNat 64 a - BitVec.ofNat 64 b).toInt

/-- A whole number of nanoseconds for `x` sixteenths; the spec gives no rounding, so `r` is free. -/
def sixteenths (x : Int) (r : Nat) : Int := Int.fdiv (x + (r % 16 : Nat)) 16

/-- Tether `p` is the one to the parent of a follower (R90). -/
def State.parentPort (s : State) (p : Nat) : Bool :=
  s.rd MGT_FT_STATUS_ROLE == ftFollower && s.on MGT_FT_STATUS_PARENT_VALID && s.rd MGT_FT_STATUS_PARENT_PORT == p

/-- TIME_EXCHANGE_TICK (R90, R254): a TIME request on a tether that is UP; a request still open counts as missed. An exchange with the parent
that its tether, being down, cannot carry is missed too. -/
def execTimeExchangeTick (p : Port) (s : State) : Host.Outcome State Fault Refusal :=
  s.event (s.tetherUp p || s.parentPort p) fun s =>
    let s := if s.rd (CYTX_TIME_AT p) = 0 then s else s.advTo (s.rd (CYTX_TIME_AT p) - 1 + ms)
    let s := s.when (s.on (CYTX_EXCH_OPEN p) || !s.tetherUp p) fun s => s.inc (CYTX_MISSED p)
    if !s.tetherUp p then s.wrs [(CYTX_TIME_AT p, s.now + 1), (CYTX_EXCH_OPEN p, 0)]
    else
    let n := (s.rd (CYTX_EXCH p) + 1) % 256
    (s.wrs [(CYTX_TIME_AT p, s.now + 1), (CYTX_EXCH p, n), (CYTX_EXCH_T1 p, s.ft), (CYTX_EXCH_OPEN p, 1)]).timeRow p
      (0x55 + s.rd MGT_FT_STATUS_HOPS * 2 ^ 12 + n * 2 ^ 16)

/-- TIME_REQUEST_RECEIVED (R252 to R254): the response carries t2 and a t3 at most 2 µs later, a free delay. -/
def execTimeRequestReceived (p : Port) (parityOk : Bool) (exch : BitVec 8) (hops : BitVec 4) (s : State) :
    Host.Outcome State Fault Refusal :=
  s.event (s.tetherUp p) fun s =>
    let x := s.blockParity p parityOk
    if !x.2 then x.1.loseLink p 3
    else
      let s := x.1.heardHops p hops.toNat
      let t3 := (s.clk.after (s.freeVal % 2001)).ft.toNat
      s.takeFree.timeRow p (0x55 + 2 ^ 8 + s.rd MGT_FT_STATUS_HOPS * 2 ^ 12 + exch.toNat * 2 ^ 16 + s.ft * 2 ^ 128 + t3 * 2 ^ 192)

/-- A follower takes the offset `d` measured with its parent (R94, R95, R101). -/
def State.discipline (s : State) (d : Int) : State :=
  let big := decide (1000 < d.natAbs)
  let hold := s.on MGT_FT_STATUS_FT_HOLDOVER
  let n := s.rd FTX_BIG + 1
  let s := s.wrs [(MGT_FT_OFFSET_LAST_OFFSET, offset32 d), (FTX_EXCH_AT, s.now), (MGT_FT_STATUS_FT_HOLDOVER, 0)]
  if !big then (s.ftSlew d).wrs [(MGT_FT_STATUS_LOCKED, 1), (FTX_BIG, 0)]
  else if hold || !s.on MGT_FT_STATUS_LOCKED || n == 3 then (s.ftStep d).wr FTX_BIG 0
  else s.wr FTX_BIG n

/-- TIME_RESPONSE_RECEIVED (R93, R254): the response of the parent disciplines the count. ASYM is in units of 0.125 ns. -/
def execTimeResponseReceived (p : Port) (parityOk : Bool) (exch : BitVec 8) (hops : BitVec 4) (t2 t3 : BitVec 64) (s : State) :
    Host.Outcome State Fault Refusal :=
  s.event (s.tetherUp p) fun s =>
    let x := s.blockParity p parityOk
    if !x.2 then x.1.loseLink p 3
    else
      let s := x.1.heardHops p hops.toNat
      if !s.on (CYTX_EXCH_OPEN p) || s.rd (CYTX_EXCH p) != exch.toNat then s
      else
        let a := (BitVec.ofNat 16 (s.rd (PRT_CYT_ASYM_ASYM p))).toInt
        let d1 := ftDiff t2.toNat (s.rd (CYTX_EXCH_T1 p))
        let d2 := ftDiff s.ft t3.toNat
        let off := sixteenths (8 * d1 - 8 * d2 - 2 * a) s.freeVal
        let delay := sixteenths (8 * (d1 + d2)) s.takeFree.freeVal
        let dl := if 0 ≤ delay ∧ delay < 65536 then delay.toNat else s.takeFree.takeFree.freeVal % 65536
        let s := s.takeFree.takeFree.takeFree.wrs [(CYTX_EXCH_OPEN p, 0), (CYTX_MISSED p, 0), (CYTX_PATH_DELAY p, dl)]
        if s.rd MGT_FT_STATUS_ROLE = ftFollower ∧ s.on MGT_FT_STATUS_PARENT_VALID ∧ s.rd MGT_FT_STATUS_PARENT_PORT = p.val ∧ hops.toNat < 15 then
          (s.wr MGT_FT_DELAY_PATH_DELAY dl).discipline off
        else s

/-! FT_PPS (R85, R86, R91). -/

/-- The distance of the count from the nearest multiple of 10^9, the count being behind by a positive distance. -/
def State.ppsError (s : State) : Int :=
  let x := s.ft % 1000000000
  if x ≤ 500000000 then -(x : Int) else 1000000000 - (x : Int)

/-- The count is at the edge, which its disciplined rate has brought it to: a multiple of 10^9, `e` away (R85). The gate time of an active
list runs on to its next cycle boundary, so that no list is re-phased in mid-cycle (R100). DESIGN CHOICE, log entry 25. -/
def State.ppsAlign (s : State) (e : Int) : State :=
  let s := { s with clk := { s.clk with
      ft := s.clk.ft + BitVec.ofInt 64 e
      ftFrac := 0 } }
  (s.forN (fun p s => s.when (s.on (SCH_GATE_STATUS_LIST_VALID p)) fun s =>
    s.wr (SCHX_OFFS p) (((s.rd (SCHX_OFFS p) : Int) + e).emod (2 ^ 64) |>.toNat)) 128).ftTrim

/-- A qualified FT_PPS edge of the root: a set time is loaded, the count of a cold start begins at 0, and otherwise the count is
disciplined to the edge; leaving FT_HOLDOVER it steps by more than 1 µs, and slews over less (R85, R86, R91, R101, R487). -/
def State.ppsTake (s : State) : State :=
  let e := s.ppsError
  let s := s.wrs [(FTX_PPS_AT, s.now), (FTX_HAD_PPS, 1), (MGT_FT_STATUS_PPS_PRESENT, 1)]
  let left := s.on MGT_FT_STATUS_FT_HOLDOVER
  let hold := left || !s.on MGT_FT_STATUS_LOCKED
  let s := s.wrs [(MGT_FT_STATUS_FT_HOLDOVER, 0), (MGT_FT_STATUS_LOCKED, 1)]
  if s.on FTX_SET_VALID then
    ((s.wrs [(FTX_SET_VALID, 0), (FTX_STARTED, 1), (MGT_FT_OFFSET_LAST_OFFSET, offset32 e)]).ftStep (ftDiff (s.rd FTX_SET_VAL) s.ft)).ftTrim
  else if s.on FTX_STARTED then
    let s := s.wr MGT_FT_OFFSET_LAST_OFFSET (offset32 e)
    if hold && decide (1000 < e.natAbs) then (s.ftStep e).ftTrim else if left then s.ftSlew e else s.ppsAlign e
  else ((s.wr FTX_STARTED 1).ftJump (-(s.ft : Int))).ftTrim

/-- FT_PPS_EDGE (R86): the pin was low for `low` ns before and stays high for `high` ns after the edge, `gap` ns of FT_REF after the last
qualified edge. Only the root disciplines its count to FT_PPS; it goes on in PS-DEEP (R104), where the system PLL is off. -/
def execFtPpsEdge (low high gap : BitVec 32) (s : State) : Host.Outcome State Fault Refusal :=
  s.event (s.rd MGT_FT_STATUS_ROLE == ftRoot && s.on MGT_FT_STATUS_REF_PRESENT && (s.on GLB_CLK_STATUS_SYS_PLL_LOCK || s.rd PWR_STATUS_STATE == 3) && decide (100 ≤ low.toNat) && decide (50 ≤ high.toNat)
      && (!s.on FTX_HAD_PPS || decide (900 * ms ≤ gap.toNat))) fun s =>
    if !s.on MGT_FT_STATUS_FT_HOLDOVER && s.on MGT_FT_STATUS_LOCKED && decide (1000 < s.ppsError.natAbs) then
      (s.inc FTX_BAD_PPS).logUncoded 171 (BitVec.ofInt 64 s.ppsError).toNat 0
    else s.ppsTake

/-- FABRIC_TIME_SET (R91, R731): it loads at the next qualified FT_PPS edge. -/
def execFabricTimeSet (c : Cmd) (s : State) : Host.Outcome State Fault Refusal :=
  .next (s.command 0x0B01 onlyM (cleanCmd c [(0, 64)] false && parBytes c 0 8 % 1000000000 == 0)
    (fun _ => firstFail [(s.rd MGT_FT_STATUS_ROLE != ftRoot, stNotPermitted)]
      (.ok 0 (s.wrs [(FTX_SET_VALID, 1), (FTX_SET_VAL, parBytes c 0 8)]))) c)

/-- A read of MGT_FT_TIME_LO latches the upper half of the same sample (R107). -/
def State.readFtLo (s : State) : State × Nat := s.latch MGT_FT_TIME_LO_TIME_LO MGT_FT_TIME_HI_TIME_HI s.ft

/-- MGT_FT_TIME_LO_READ (R107). -/
def execMgtFtTimeLoRead (s : State) : Host.Outcome State Fault Refusal := giveRead s.readFtLo

end Sys2Proof.Machine
end

