-- ==== Sys2Proof/Machine/Inputs.lean ====
section
/-! DEFINITION. The common input qualifier and the events of its inputs (R136 to R140, R204, R676, R779, R790, R808, R847, R848), and the
identity of the unit: the String chain, and the fabric's first node (R129 to R133, R303, R909 to R912, R945). -/

namespace Sys2Proof.Machine

/-! The identity (R129 to R133, R303, R945). -/

/-- The unit holds an identity. -/
def State.hasIdentity (s : State) : Bool := s.rd MGT_NODE_ID_SOURCE != 0

/-- The unit takes SMBus address 0x20 + v and node ID v from the chain, with the Address Resolved flag set (R129, R130, R903). -/
def State.takeIdentity (s : State) (v source : Nat) : State :=
  (s.wrs [(MGT_NODE_ID_SMB_ADDR, 0x20 + v), (MGT_NODE_ID_NODE_ID, v), (MGT_NODE_ID_NODE_VALID, 1), (MGT_NODE_ID_SOURCE, source),
    (MGT_SMB_STATUS_AR, 1)]).tellNode

/-- R132 applies from now on. -/
def State.fallback (s : State) : State := if s.rd CHNX_FB_AT = 0 then s.wr CHNX_FB_AT (s.now + 1) else s

/-- One cell of 12 ms driven on CHAIN_OUT: cell 0 the start, 1 to 7 the data bits, 8 the stop cell (R909). Pin 3 is CHAIN_OUT. -/
def State.cell (s : State) (k : Nat) (high : Bool) : State := s.emit (.pin 3 k high)

/-- TX_DONE of MGT_CHAIN_STATUS: nine cells after the token started (R909). -/
def State.chainView (s : State) : State :=
  s.wr MGT_CHAIN_STATUS_TX_DONE (b2n (s.on CHNX_TX_OK && decide (s.rd CHNX_TX_AT - 1 + 108 * ms ≤ s.now)))

/-- The unit takes part in the String chain: from READY to the fall of RESET_N, in a mooring as well (R129, R130, R945). -/
def State.chainUp (s : State) : Bool :=
  s.rd GLB_BOOT_STATUS_STAGE == 6 && !s.on SYS_DRAINING && !(s.moored && s.rd RETX_CAUSE == 4)

/-- CHAIN_HEAD_START: the head's token with value 1, at READY and not before 1 s after the start-up began (R129, R909, R911). -/
def execChainHeadStart (s : State) : Host.Outcome State Fault Refusal :=
  s.event (s.on GLB_STRAPS_CHAIN_HEAD && s.chainUp && s.rd CHNX_TX_AT == 0) fun s =>
    let s := s.advTo (max (s.rd READYX_AT) (s.rd READYX_START_AT + sec))
    let s := s.wrs [(CHNX_TX_AT, s.now + 1), (CHNX_TX_OK, 1), (MGT_CHAIN_STATUS_TX_VALUE, 1)]
    (List.range 9).foldl (fun s k => s.cell k (k < 2 || k == 8)) s

/-- A qualified rising edge on CHAIN_IN, not the first level: a unit that holds an identity logs it and otherwise ignores it (R133); in
another unit a token begins, unless the part is not yet READY or treats the chain as already enumerated; further edges are those of
the token (R130, R131, R912). -/
def State.tokenEdge (s : State) : State :=
  if s.on CHNX_EDGE ∨ s.chainUp = false then s
  else if s.hasIdentity then (s.wr MGT_CHAIN_STATUS_LATE 1).log 171 0x0E05 0 0
  else if s.on GLB_INPUT_STATUS_CHAIN_INITIAL then s
  else (s.wrs [(CHNX_EDGE, 1), (CHNX_EDGE_AT, s.now), (CHNX_NBIT, 0), (CHNX_VAL, 0), (CHNX_CARRY, 1), (CHNX_TX_AT, s.now + 12 * ms + 1),
    (CHNX_TX_OK, 0)]).cell 0 true

/-- CHAIN_BIT_SAMPLE: data bit `k` is the qualified level 18 + 12k ms after the edge, and the bit of v + 1 goes out (R910, R912). -/
def execChainBitSample (k : Fin 7) (s : State) : Host.Outcome State Fault Refusal :=
  s.event (s.on CHNX_EDGE && s.chainUp && s.rd CHNX_NBIT == k.val) fun s =>
    let s := s.advTo (s.rd CHNX_EDGE_AT + (18 + 12 * k.val) * ms)
    let b := bit (s.rd GLB_INPUT_STATUS_CHAIN_IN) 0
    let c := s.rd CHNX_CARRY
    (s.wrs [(CHNX_NBIT, k.val + 1), (CHNX_VAL, s.rd CHNX_VAL + b * 2 ^ k.val), (CHNX_CARRY, b * c)]).cell (k.val + 1) (b != c)

/-- CHAIN_STOP_SAMPLE: with a high stop sample and v at most 63 the unit takes its identity; otherwise its own stop cell is low and R132
applies (R130, R132, R910, R912). -/
def execChainStopSample (s : State) : Host.Outcome State Fault Refusal :=
  s.event (s.on CHNX_EDGE && s.chainUp && s.rd CHNX_NBIT == 7) fun s =>
    let s := (s.advTo (s.rd CHNX_EDGE_AT + 102 * ms)).wr CHNX_EDGE 0
    let v := s.rd CHNX_VAL
    let stop := bitSet (s.rd GLB_INPUT_STATUS_CHAIN_IN) 0
    let s := s.wrs [(MGT_CHAIN_STATUS_RX_VALUE, v), (MGT_CHAIN_STATUS_TX_VALUE, v + 1)]
    if stop && decide (v ≤ 63) then
      ((s.wrs [(MGT_CHAIN_STATUS_RX_VALID, 1), (CHNX_TX_OK, 1)]).takeIdentity v 2).cell 8 true
    else ((s.when (!stop) fun s => s.wr MGT_CHAIN_STATUS_INVALID 1).cell 8 false).fallback

/-- CHAIN_TIMEOUT: no qualified token within 5 s of READY (R132). -/
def execChainTimeout (s : State) : Host.Outcome State Fault Refusal :=
  s.event (s.rd GLB_BOOT_STATUS_STAGE == 6 && !s.hasIdentity && !s.on CHNX_EDGE && s.rd CHNX_FB_AT == 0) fun s =>
    (s.advTo (s.rd READYX_AT + 5 * sec)).fallback

/-- SELF_NODE_ID: 1 s after R132 has come to apply, a unit with a management host and no tether to a node with an ID takes node ID 0 and
becomes the fabric manager (R303). -/
def execSelfNodeId (s : State) : Host.Outcome State Fault Refusal :=
  s.event (s.rd GLB_BOOT_STATUS_STAGE == 6 && s.rd CHNX_FB_AT != 0 && !s.on MGT_NODE_ID_NODE_VALID) fun s =>
    let s := s.advTo (s.rd CHNX_FB_AT - 1 + sec)
    if s.mgmtHost.isSome && (idxs 128 fun q => s.tetherUp q && s.on (PRT_CYT_STATUS_PEER_VALID q)).isEmpty then
      (s.wrs [(MGT_NODE_ID_NODE_ID, 0), (MGT_NODE_ID_NODE_VALID, 1), (MGT_NODE_ID_SOURCE, 3)]).tellNode
    else s

/-! The qualifier (R136 to R140). -/

/-- Input `i` as DEVICE_INPUT_REARM numbers it: LEVEL, VALID, CHATTER and RAW at bits 0 to 3 (R721). -/
def inputFld (i : Nat) : Fld :=
  if i = 0 then GLB_INPUT_STATUS_PWR_FAIL_IN else if i = 1 then GLB_INPUT_STATUS_WAKE_IN else if i = 2 then GLB_INPUT_STATUS_LIFT_PRES_N
  else if i < 16 then GLB_INPUT_STATUS_CHAIN_IN else if i < 48 then PDI_SC_STATUS_PRSNT (i - 16) else PDI_SC_STATUS_BTN (i - 48)

/-- Number `i` names an input. -/
def isInput (i : Nat) : Bool := decide (i < 4) || (decide (16 ≤ i) && decide (i < 80))

/-- The qualifier of input `i` works: with no power none does, in PS-OFF those of PWR_FAIL_IN and WAKE_IN (R76, R789); CHAIN_IN is high
impedance in PS-DEEP (R63). -/
def State.inputLive (s : State) (i : Nat) : Bool :=
  !s.on MORX_DEAD && (!s.on SYS_OFF || decide (i < 2)) && !(i == 3 && s.rd PWR_STATUS_STATE == 3)
    && !(decide (16 ≤ i) && s.slotFrozen ((i - 16) % 32))

/-- The event of input `i` at its new qualified level; `first` for its first level. A pack's identity, voltage and temperature are read
as `id`, `mv` and `t` (R131, R137, R204, R676, R779, R790, R808, R847, R848, R878). -/
def State.inputEvent (s : State) (i : Nat) (level first : Bool) (id mv t : Nat) : State :=
  if i = 0 then (if level then s.earlyWarning 1 else s).qualView
  else if i = 1 then
    (if level && s.on SYS_OFF then ((s.wr SYS_OFF 0).startEvent 2 wakePin 4).qualView else s)
  else if i = 2 then (if level then s.packIn id mv t else if first then s else s.packOut)
  else if i = 3 then
    (if !level then s else if first then s.wr GLB_INPUT_STATUS_CHAIN_INITIAL 1 else s.tokenEdge)
  else if first ∧ !level then s
  else if i < 48 then s.slotInput (i - 16) false level
  else if level then s.slotInput (i - 48) true true else s.wake wakeSlot (i - 48)

/-- The transition of input `i` is the 32nd within 1 s: the input is declared CHATTER and its level freezes (R132, R139). -/
def State.chatter (s : State) (i : Nat) : State :=
  let k := 256 + i
  let s := { s with mgmt := { s.mgmt with
    edges := (s.mgmt.edges.filter fun (x : Nat × Nat) => x.1 != k || decide (s.now < x.2 + sec)) ++ [(k, s.now)] } }
  if 32 ≤ (recent s.mgmt.edges k s.now sec).length then
    let s := (s.wr (inputFld i) (setBit (s.rd (inputFld i)) 2)).log 171 0x0E01 i (detG i 0)
    if i = 3 then s.fallback else s
  else s

/-- Input `i` is qualified at `level`: a new level becomes its state and raises its event; a masked input shows its unqualified level in
RAW alone, and a frozen one does nothing (R136 to R141). -/
def State.qualify (s : State) (i : Nat) (level : Bool) (id mv t : Nat) : State :=
  let v := s.rd (inputFld i)
  let first := !bitSet v 1
  if !s.inputLive i then s
  else if bitSet v 2 then s.wr (inputFld i) (v % 8 + 8 * b2n level)
  else if !first && bitSet v 0 == level then s.wr (inputFld i) (v % 8 + 8 * b2n level)
  else
    let s := (s.wr (inputFld i) (2 + b2n level * 9)).inputEvent i level first id mv t
    if first then s else s.chatter i

/-- INPUT_QUALIFIED: one of the four inputs of the part or the 64 of the slots, numbered as R721 numbers them. -/
def execInputQualified (i : Fin 80) (level : Bool) (id : BitVec 1024) (mv : BitVec 16) (t : BitVec 8) (s : State) :
    Host.Outcome State Fault Refusal :=
  s.event (isInput i) fun s => s.qualify i level id.toNat mv.toNat t.toNat

/-- SLOT_PRESENCE_CHANGE (R204, R676). -/
def execSlotPresenceChange (c : Slot) (present : Bool) (s : State) : Host.Outcome State Fault Refusal :=
  .next (s.qualify (16 + c) present 0 0 0)

/-- ATTENTION_BUTTON: a press (R204, R676). -/
def execAttentionButton (c : Slot) (s : State) : Host.Outcome State Fault Refusal := .next (s.qualify (48 + c) true 0 0 0)

/-- WAKE_IN qualifies active (R108, R779). -/
def execWakeIn (s : State) : Host.Outcome State Fault Refusal := .next (s.qualify 1 true 0 0 0)

/-- PWR_FAIL_IN qualifies active (R790, R808). -/
def execPwrFailIn (s : State) : Host.Outcome State Fault Refusal := .next (s.qualify 0 true 0 0 0)

/-- LIFT_INSERTED: pack presence qualifies active (R848). -/
def execLiftInserted (id : BitVec 1024) (mv : BitVec 16) (t : BitVec 8) (s : State) : Host.Outcome State Fault Refusal :=
  .next (s.qualify 2 true id.toNat mv.toNat t.toNat)

/-- LIFT_REMOVED: pack presence qualifies inactive (R847). -/
def execLiftRemoved (s : State) : Host.Outcome State Fault Refusal := .next (s.qualify 2 false 0 0 0)

/-- CHAIN_TOKEN_EDGE: CHAIN_IN qualifies active (R133, R912). -/
def execChainTokenEdge (s : State) : Host.Outcome State Fault Refusal := .next (s.qualify 3 true 0 0 0)

/-- DEVICE_INPUT_REARM: the input is qualified again; its next level raises an event only when it differs (R140, R721). -/
def execDeviceInputRearm (c : Cmd) (s : State) : Host.Outcome State Fault Refusal :=
  let i := parBytes c 0 1
  .next (s.command 0x0107 onlyM (cleanCmd c [(0, 8)] false && isInput i) (fun _ =>
    .ok 0 { s.wr (inputFld i) (clrBit (s.rd (inputFld i)) 2) with
      mgmt := { s.mgmt with edges := s.mgmt.edges.filter fun (x : Nat × Nat) => x.1 != 256 + i } }) c)

end Sys2Proof.Machine
end

