-- ==== Sys2Proof/Machine/Regs.lean ====
section
/-! DEFINITION. A read and a write of a register with all they bring about (R7 to R12, R107, R417, R457, R943), and the requests of a
host to BAR0 and BAR4 (R213, R216, R217, R418, R737, R740, R899 to R901). -/

namespace Sys2Proof.Machine

/-! Reads. -/

/-- HV_ID of host `h` follows the identity, the management host and the firmware (R901). -/
def State.hvView (s : State) (h : Nat) : State :=
  s.wrs [(HV_ID_HOST h, h), (HV_ID_NODE_ID h, s.rd MGT_NODE_ID_NODE_ID), (HV_ID_NODE_VALID h, s.rd MGT_NODE_ID_NODE_VALID),
    (HV_ID_IS_MGMT h, b2n (s.mgmtHost == some h)), (HV_ID_FW_MAJOR h, s.rd PEN_FW_VERSION_MAJOR)]

/-- PPS_PRESENT of MGT_FT_STATUS: a qualified FT_PPS edge within the last 1.5 s (R107). -/
def State.ppsView (s : State) : State :=
  s.when (s.on MGT_FT_STATUS_PPS_PRESENT && decide (s.rd FTX_PPS_AT + 1500 * ms < s.now)) fun s => s.wr MGT_FT_STATUS_PPS_PRESENT 0

/-- What a lane's registers show at a read of offset `o`: LAN_STATUS and the PLLs as the power domain leaves them, WS_MASKED and the time in LOS as
they are now, and the errors that a locked PRBS checker has counted (R147, R175, R182, R184). -/
def State.laneRefresh (s : State) (l o : Nat) : State :=
  if o = 4 then (s.laneStatus l).wr (LAN_STATUS_WS_MASKED l) (b2n (s.wsMasked l))
  else if o = 0x1C then s.losTick l
  else if o = 0x300 ∧ l % 16 = 0 then s.groupStatus (l / 16)
  else if o = 0x28 then s.prbsCount l
  else s

/-- Registers that show what other state holds are brought up to date before they are read. -/
def State.refresh (s : State) (a : Nat) : State :=
  if a / 0x40000 = 6 then s.laneRefresh (a % 0x40000 / 0x400) (a % 0x400)
  else if a / 0x40000 = 0x1C then s.powerView
  else if a / 0x40000 = 0x1D then s.mooringView
  else if a = 0x78000C then s.chainView
  else if a = 0x780108 then s.ppsView
  else if a = 0x300004 then s.wr BRD_OLD_INFLIGHT_OLD_COUNT s.oldInflight
  else if a = 0x780200 then s.wr MGT_FLASH_STATUS_WRITE_BUSY (b2n (s.opBusy [0x0D01] fun _ => true))
  else if a = 0x500000 then s.wr PEN_STATUS_LIVE_UPDATE (b2n (s.opBusy [0x0D04] fun _ => true))
  else if 0x1000000 ≤ a ∧ a < 0x1300000 ∧ a % 0x10000 = 0 then s.hvView ((a - 0x1000000) / 0x10000)
  else s

/-- Offset `d` is one of `n` offsets `k0`, `k0 + step` and so on. -/
def inRow (d k0 step n : Nat) : Bool := decide (k0 ≤ d) && decide (d < k0 + step * n) && (d - k0) % step == 0

/-- A read of the register word at BAR0 offset `a`, a multiple of 4: its value, with what the read clears or latches (R7, R12, R107, R636,
R686, R850, R895). A barrier register reads zero to any reader but its own host's BAR0 (R900). -/
def State.regRead (s : State) (a : Nat) : State × Nat :=
  let s := s.refresh a
  if a = 0x780100 then s.readFtLo
  else if inRow a 0x440108 0x40 16 then s.readEpochLo ((a - 0x440108) / 0x40)
  else if inRow a 0x504008 0x40 64 then s.readLogLo ((a - 0x504008) / 0x40) 0
  else if inRow a 0x504010 0x40 64 then s.readLogLo ((a - 0x504010) / 0x40) 1
  else if inRow a 0x504018 0x40 64 then s.readLogLo ((a - 0x504018) / 0x40) 2
  else if inRow a 0x11008 0x20 36 then s.readMtrLo ((a - 0x11008) / 0x20) false
  else if inRow a 0x11014 0x20 36 then s.readMtrLo ((a - 0x11014) / 0x20) true
  else if a = 0x74002C then s.readMorLo false
  else if a = 0x740040 then s.readMorLo true
  else if a = 0x54 then ((s.readClear a).wr THRMX_SEEN 0, s.readWord a)
  else if 0x1000000 ≤ a ∧ a < 0x1300000 ∧ 0x3000 ≤ a % 0x10000 ∧ a % 0x10000 < 0x3018 then (s, 0)
  else (s.readClear a, s.readWord a)

/-- A read of `n` register words from word number `w` on: their bytes. -/
def State.regWords (s : State) (w : Nat) : Nat → State × List (BitVec 8)
  | 0 => (s, [])
  | n + 1 =>
    let x := s.regRead (4 * w)
    let y := State.regWords x.1 (w + 1) n
    (y.1, leBytes 4 x.2 ++ y.2)

/-- A read of `n` bytes from offset `a` on. A read of part of a word clears every RC field of the word, also one whose bytes are not read
(R7): DESIGN CHOICE, log entry 45. -/
def State.regLoad (s : State) (a n : Nat) : State × List (BitVec 8) :=
  let x := s.regWords (a / 4) ((a + n + 3) / 4 - a / 4)
  (x.1, (x.2.drop (a % 4)).take n)

/-! Writes. Writers are numbered 0 to 47 for the hosts, 48 for SMBus and 49 for the debug access port. -/

/-- The debug access port. -/
def byDap : Nat := 49

/-- The state that a meaning goes on with. -/
def stateOf (s : State) : Host.Outcome State Fault Refusal → State
  | .next t => t
  | _ => s

/-- The index registers of mailbox `m`: REQ TAIL and RSP HEAD act, the rest is stored (R697). `w` is the whole word. -/
def State.writeMbx (s : State) (m o w v mask a : Nat) : State :=
  if o = 0xC00 then (if mask % 65536 = 0 then s else stateOf s (execMbxReqTailWrite (Fin.ofNat 1073 m) (BitVec.ofNat 16 w) s))
  else if o = 0xC04 then (if mask / 65536 = 0 then s else stateOf s (execMbxRspHeadWrite (Fin.ofNat 1073 m) (BitVec.ofNat 16 (w / 65536)) s))
  else s.writeWord a v mask

/-- A write to offset `o` of host `h`'s page: doorbells, an epoch close, the mailbox, the MSI-X table, whose unmasked entry sends what is
pending (R211, R616, R697, R703). -/
def State.writePage (s : State) (h o w v mask : Nat) : State :=
  let a := 0x1000000 + 0x10000 * h + o
  let hh : Sys2Proof.Host := Fin.ofNat 48 h
  if 0x1000 ≤ o ∧ o < 0x2000 then s.writeMbx (1 + h) (o - 0x1000) w v mask a
  else if 0x4000 ≤ o ∧ o < 0x5000 then
    (if o % 8 = 0 ∧ mask % 65536 ≠ 0 then stateOf s (execSpoolDoorbellWrite hh none (Fin.ofNat 512 ((o - 0x4000) / 8)) (BitVec.ofNat 16 w) s) else s)
  else if o = 0x3100 then
    stateOf s (execOrdEpochClose hh (Fin.ofNat 16 (bits w 0 4)) (bitSet w 4) (BitVec.ofNat 11 (bits w 16 11)) s)
  else if 0x8000 ≤ o then (s.writeWord a v mask).flushMsix h
  else s.writeWord a v mask

/-- A write to offset `o` of lane `l`'s block (R171, R178 to R182). -/
def State.writeLane (s : State) (l o w v mask a : Nat) : State :=
  if o = 0 then s.writeLanCfg l w
  else if o = 0x14 then (s.when (bitSet (v &&& mask) 2) fun s => s.rearmFlap l).writeWord a v mask
  else if o = 0x20 then
    let s := s.writePrbsCfg l w
    if bitSet (v &&& mask) 6 then stateOf s (execPrbsInject (Fin.ofNat 256 l) s) else s
  else s.writeWord a v mask

/-- The selector registers of the indirect tables, by offset: a write of 1 to GO takes a snapshot (R417, R457). -/
def State.goWrite (s : State) (a w : Nat) : Option State :=
  let v := BitVec.ofNat 31 w
  if a = 0x200000 then some (stateOf s (execRteIndGo v s))
  else if a = 0x300040 then some (stateOf s (execBrdIndGo v s))
  else if a = 0x340010 then some (stateOf s (execSchIndGo v s))
  else if a = 0x380100 then some (stateOf s (execErrDomGo v s))
  else if a = 0x403000 then some (stateOf s (execBalWinGo v s))
  else if a = 0x601010 then some (stateOf s (execYcpIndGo v s))
  else if a = 0x602004 then some (stateOf s (execYcpGndGo v s))
  else none

/-- Bytes of a log record replaced by the debug access port (R456). -/
def State.overwriteLog (s : State) (a v mask : Nat) : State :=
  let i := (a - 0x390000) / 0x40
  let lo := 8 * (a % 0x40)
  let old := bits (s.rd (ERR_LOG_RECORD i)) lo 32
  s.wr (ERR_LOG_RECORD i) (putBits (s.rd (ERR_LOG_RECORD i)) lo 32 (old - (old &&& mask) + (v &&& mask)))

/-- LOG_RD written by software: the records from it to LOG_WR are unread (R514). -/
def State.logRead (s : State) : State :=
  let n := (s.rd ERR_STATUS_LOG_WR + 1024 - s.rd ERR_LOG_RD_LOG_RD) % 1024
  if n = 0 ∧ s.rd ERRL_UNREAD = 1024 then s else s.wr ERRL_UNREAD n

/-- DEBUG_OVERRIDE, from the debug access port only; it drives DBG_ACTIVE, pin 7 (R455, R924). -/
def State.setOverride (s : State) (b : Bool) : State := (s.wrs [(DBG_CTRL_DEBUG_OVERRIDE, b2n b), (BRD_STATUS_OVERRIDE, b2n b)]).emit (.pin 7 0 b)

/-- A write of value `v` under the bit mask `mask` to the register word at offset `a`, by writer `who` (R7, R10, R456, R900, R924). -/
def State.regWrite (s : State) (who a v mask : Nat) : State :=
  let w := (s.readWord a &&& (0xFFFFFFFF - mask % 2 ^ 32)) + (v &&& mask)
  if 0x1000000 ≤ a ∧ a < 0x1300000 then
    let h := (a - 0x1000000) / 0x10000
    if who = h ∨ who = byDap then s.writePage h (a % 0x10000) w v mask else s
  else if 0x14000000 ≤ a then s.writeMbx (49 + (a - 0x14000000) / 0x1000) (a % 0x1000) w v mask a
  else if 0x600000 ≤ a ∧ a < 0x601000 then s.writeMbx 0 (a % 0x1000) w v mask a
  else if 0x180000 ≤ a ∧ a < 0x1C0000 then s.writeLane ((a - 0x180000) / 0x400) (a % 0x400) w v mask a
  else if a = 0x380004 then (s.writeWord a v mask).logRead
  else if 0x1C1004 ≤ a ∧ a < 0x1C2004 ∧ a % 0x20 = 4 then
    (s.writeWord a v mask).when (bitSet (v &&& mask) 17) fun s => s.rearmFallback ((a - 0x1C1004) / 0x20)
  else if 0x390000 ≤ a ∧ a < 0x3A0000 then (if who = byDap then s.overwriteLog a v mask else s)
  else if a = 0x7C0000 then (if who = byDap ∧ bitSet mask 0 then s.setOverride (bitSet v 0) else s)
  else match (if bitSet (v &&& mask) 31 then s.goWrite a w else none) with
    | some t => t
    | none => s.writeWord a v mask

/-- The value and the bit mask that the bytes `l`, from offset `a` on, give to the word at `b`. -/
def wordOf (a : Nat) (l : List (BitVec 8)) (b : Nat) : Nat × Nat :=
  (List.range 4).foldr (fun i x =>
    if a ≤ b + i ∧ b + i < a + l.length then ((l[b + i - a]?.getD 0).toNat + 256 * x.1, 255 + 256 * x.2) else (256 * x.1, 256 * x.2)) (0, 0)

/-- Bytes written from offset `a` on, word by word. -/
def State.regStore (s : State) (who a : Nat) (l : List (BitVec 8)) : State :=
  (List.range ((a + l.length + 3) / 4 - a / 4)).foldl (fun s k =>
    let b := 4 * (a / 4 + k)
    let x := wordOf a l b
    s.regWrite who b x.1 x.2) s

/-- REGISTER_WRITE: a write by writer `who` (0 to 47 a host, 48 SMBus, 49 the debug access port) that reaches the register at offset `a`
(R7 to R11, R21, R943). -/
def execRegisterWrite (who : Fin 50) (a v : BitVec 32) (s : State) : Host.Outcome State Fault Refusal :=
  .next (s.regWrite who (a.toNat / 4 * 4) v.toNat 0xFFFFFFFF)

/-- READ_CLEAR: a read of the register at offset `a` returns it and clears its RC fields (R7, R12). -/
def execReadClear (a : BitVec 32) (s : State) : Host.Outcome State Fault Refusal := giveRead (s.regRead (a.toNat / 4 * 4))

/-- The DONE bit of snapshot `k`: routing, Bridle, scheduler, domain, window, spool, gondola. -/
def doneFld (k : Nat) : Fld :=
  if k = 0 then RTE_IND_STATUS_DONE else if k = 1 then BRD_IND_STATUS_DONE else if k = 2 then SCH_IND_STATUS_DONE
  else if k = 3 then ERR_DOM_STATUS_DONE else if k = 4 then BAL_WIN_STATUS_DONE else if k = 5 then YCP_IND_STATUS_DONE else YCP_GND_STATUS_DONE

/-- SNAPSHOT_DONE: the snapshot of table `k` is complete (R417, R457). -/
def execSnapshotDone (k : Fin 7) (s : State) : Host.Outcome State Fault Refusal :=
  s.event (bitSet (s.rd SNAPX_DUE) k) fun s => s.wrs [(SNAPX_DUE, clrBit (s.rd SNAPX_DUE) k), (doneFld k, 1)]

/-! BAR0 and BAR4 (R213, R737, R899, R900). -/

/-- Host `h`'s BAR0 decodes offset `o`: the management host's all, another's its own page (R213, R899, R900). -/
def State.bar0Takes (s : State) (h o : Nat) : Bool := s.mgmtHost == some h || o / 0x10000 == 0x100 + h

/-- The gondola whose pages offset `o` of host `h`'s BAR4 lies in (R737). -/
def State.bar4Gond (s : State) (h o : Nat) : Option Nat :=
  if s.rd (HB4_GOND h (o / 0x2000)) = 0 then none else some (s.rd (HB4_GOND h (o / 0x2000)) - 1)

/-- A checked request of host `h`, with place `n`, to the registers from `a` on is performed, and a read answered in completions split as R197
and R199 have it; one of 4 or 8 bytes from the start of a barrier register of its own page asks for a barrier, whose completion follows (R599, R600, R900). -/
def State.regAccess (s : State) (n h a : Nat) (r : MemReq) : State :=
  match r.op with
  | .store l => s.regStore h a l
  | .read l =>
    let o := a % 0x10000
    if a / 0x10000 = 0x100 + h ∧ 0x3000 ≤ o ∧ o < 0x3018 ∧ o % 8 = 0 ∧ (l = 4 ∨ l = 8) then s.barrier n h ((o - 0x3000) / 8) r.requester.toNat r.tag.toNat r.tc l
    else
      let x := s.regLoad a l
      x.1.completeRead h r.tc.val r.addr.toNat r.requester.toNat r.tag.toNat 0 x.2 false
  | .atomic .. => s.unsupported h r

/-- A write or read of a gondola's doorbell page at offset `o` (R520, R739). -/
def State.doorbells (s : State) (h g o : Nat) (r : MemReq) : State :=
  match r.op with
  | .store l =>
    if o % 8 = 0 then stateOf s (execSpoolDoorbellWrite (Fin.ofNat 48 h) (some (Fin.ofNat 1024 g)) (Fin.ofNat 512 (o / 8)) (BitVec.ofNat 16 (leNat (l.take 2))) s)
    else s
  | .read n =>
    if s.contained 3 g then (s.bump (DOMX_NP (domIdx 3 g))).answerHost h r cplCA
    else s.completeRead h r.tc.val r.addr.toNat r.requester.toNat r.tag.toNat 0 (List.replicate n 0) false
  | .atomic .. => s.unsupported h r

/-- A request to BAR0 or BAR4 with place `k` at its checker: it waits during a session's hold, behind an earlier one of its type, and a write
while the host's buffer is full (R26); a denied one is answered with Completer Abort (R216, R418, R436, R450). -/
def State.barRequest (s : State) (k h : Nat) (r : MemReq) : State :=
  let a := r.addr.toNat
  let n := accLen r.op
  let in0 := decide (s.rd (HOSTF_BAR0 h) ≤ a) && decide (a + n ≤ s.rd (HOSTF_BAR0 h) + 2 ^ 25)
  let in4 := decide (s.rd (HOSTF_BAR4 h) ≤ a) && decide (a + n ≤ s.rd (HOSTF_BAR4 h) + 2 ^ 22)
  let o := if in0 then a - s.rd (HOSTF_BAR0 h) else a - s.rd (HOSTF_BAR4 h)
  let g := s.bar4Gond h o
  let isAtomic := match r.op with | .atomic .. => true | _ => false
  if s.on (HOSTF_IN_RESET h) || s.contained 2 h then s
  else if !s.f1Takes h || r.ide || isAtomic || !(in0 && s.bar0Takes h o || !in0 && in4 && g.isSome) then s.unsupported h r
  else if s.checkerHeld || s.heldBefore k (.regs h r) || (postedOp r.op && s.bufFull h) then s.holdAs k (.regs h r)
  else
    let c : Check := ⟨clsTenant, if in0 then spMgmt else spDoorbell, accessOf r.op, h, r.requester.toNat, r.pasid.map fun (x : BitVec 20) => x.toNat, o, n, 0⟩
    let x := s.check c
    if !x.2 then x.1.answerHost h r cplCA
    else if in0 then x.1.regAccess k h o r
    else
      let g := g.getD 0
      if o % 0x2000 < 0x1000 then x.1.regAccess k h (mbxBase (49 + g) + o % 0x1000) r else x.1.doorbells h g (o % 0x1000) r

/-- Every request that waits at the checker tried in order, one to BAR0 or BAR4 among them. -/
def State.retryAll (s : State) : State :=
  if s.bridle.held.isEmpty then s
  else s.retryBy fun s n b => match b with
    | .regs h r => s.barRequest n h r
    | b => s.retry n b

/-- BAR0_BAR4_REQUEST of host `h` (R17, R213, R216, R217, R418, R737, R740, R899, R900). -/
def execBar0Bar4Request (h : Host) (r : MemReq) (s : State) : Host.Outcome State Fault Refusal :=
  let s := s.arriveHost h
  let s := s.retryAll
  .next ((s.barRequest (s.rd SYS_ORDER) h r).settleIngress s ((s.hostPort h).getD 128) r.op)

end Sys2Proof.Machine
end

