-- ==== Sys2Proof/Machine/Mgmt.lean ====
section
/-! DEFINITION. SMBus with its address resolution (R135, R903 to R908), JTAG and the debug access port (R921 to R925, R951), the FIRMWARE
commands (R683 to R685, R732, R919, R920), FABRIC_LEAVE (R304), DEBUG_INJECT (R731), the indicator frame (R73, R74) and the
temperature sample (R941). -/

namespace Sys2Proof.Machine

/-- The switch die is powered and out of reset, as SMBus and JTAG need (R63, R925). -/
def State.sideUp (s : State) : Bool :=
  !s.on MORX_DEAD && !s.on SYS_OFF && !s.on SYS_DRAINING && !s.moored && s.rd GLB_BOOT_STATUS_STAGE != 0

/-! SMBus. -/

/-- One bit of the PEC, a CRC-8 with polynomial 0x07 as the SMBus standard defines it. -/
def pecBit (v : Nat) : Nat := if 128 ≤ v then ((v * 2) % 256) ^^^ 7 else v * 2

/-- The PEC over bytes. -/
def pec (l : List Nat) : Nat :=
  l.foldl (fun v b => pecBit (pecBit (pecBit (pecBit (pecBit (pecBit (pecBit (pecBit (v ^^^ b))))))))) 0

/-- A read answered: the bytes, with the PEC over the whole transaction behind them (R904). -/
def State.smbRead (s : State) (code : Nat) (l : List Nat) : State :=
  let a := 2 * s.rd MGT_NODE_ID_SMB_ADDR
  s.emit (.smbus (l ++ [pec ([a, code, a + 1] ++ l)]))

/-- A write refused by NACK: an output of no byte. -/
def State.smbNack (s : State) : State := s.emit (.smbus [])

/-- A write discarded and counted (R904, R905). -/
def State.pecErr (s : State) : State := s.inc MGT_SMB_STATUS_PEC_ERR

/-- `n` bytes of a number, lowest first, as numbers. -/
def natBytes (n v : Nat) : List Nat := (List.range n).map fun k => bits v (8 * k) 8

/-- SMB_IDENTIFY (R210, R905). -/
def execSmbIdentify (s : State) : Host.Outcome State Fault Refusal :=
  s.event s.sideUp fun s =>
    s.smbRead 0x01 (16 :: (natBytes 2 0x1F3C ++ natBytes 2 0x5256 ++ [0x11, s.rd MGT_NODE_ID_NODE_ID + 128 * s.rd MGT_NODE_ID_NODE_VALID, 0, 0]
      ++ natBytes 8 Config.serial.toNat))

/-- SMB_REG_ADDR (R905). -/
def execSmbRegAddr (a : BitVec 32) (s : State) : Host.Outcome State Fault Refusal :=
  s.event s.sideUp fun s => s.wr SYS_SMB_ADDR a.toNat

/-- A register access of `who` as an internal-class request in space MGMT: 1 the debug master, 2 the control firmware (R418, R423). -/
def regCheck (who access a n : Nat) : Check := ⟨clsInternal, spMgmt, access, who, 0, none, a, n, 0⟩

/-- A read of registers, zero beyond the 32 MiB of BAR0. -/
def State.barLoad (s : State) (a n : Nat) : State × List (BitVec 8) :=
  if a + n ≤ 2 ^ 25 then s.regLoad a n else (s, List.replicate n 0)

/-- A write of registers, without effect beyond the 32 MiB of BAR0. -/
def State.barStore (s : State) (who a : Nat) (l : List (BitVec 8)) : State :=
  if a + l.length ≤ 2 ^ 25 then s.regStore who a l else s

/-- The waiting REG_DATA access is made, unless the checker holds it, and the read or write is answered (R436, R905, R907). -/
def State.smbRun (s : State) : State :=
  let op := s.rd SMBX_OP
  let a := s.rd SMBX_AT
  if op = 0 ∨ s.checkerHeld then s
  else
    let x := (s.wr SMBX_OP 0).check (regCheck 2 (op - 1) a 4)
    if op = 1 then
      let y := if x.2 then x.1.barLoad a 4 else (x.1, [0, 0, 0, 0])
      y.1.smbRead 0x11 (y.2.map fun b => b.toNat)
    else if x.2 then x.1.barStore 48 a (leBytes 4 (s.rd SMBX_DATA)) else x.1.smbNack

/-- A REG_DATA access starts at REG_ADDR, which advances by 4 (R905). While one waits, SCL is stretched and none starts. -/
def State.smbAccess (s : State) (op v : Nat) : State :=
  let a := s.rd SYS_SMB_ADDR
  (s.wrs [(SMBX_OP, op), (SMBX_AT, a), (SMBX_DATA, v), (SYS_SMB_ADDR, a + 4)]).smbRun

/-- SMB_REG_DATA_READ (R436, R905, R907). -/
def execSmbRegDataRead (s : State) : Host.Outcome State Fault Refusal := s.event (s.sideUp && s.rd SMBX_OP == 0) fun s => s.smbAccess 1 0

/-- SMB_REG_DATA_WRITE: a wrong PEC discards it (R436, R904, R905, R907). -/
def execSmbRegDataWrite (v : BitVec 32) (pecOk : Bool) (s : State) : Host.Outcome State Fault Refusal :=
  s.event (s.sideUp && s.rd SMBX_OP == 0) fun s => if !pecOk then s.pecErr else s.smbAccess 2 v.toNat

/-- SMB_STATUS: the oldest status, or a byte count of 0 (R905). -/
def execSmbStatus (s : State) : Host.Outcome State Fault Refusal :=
  s.event s.sideUp fun s => match s.mgmt.smbq with
    | [] => s.smbRead 0x21 [0]
    | w :: l => (State.alert { s with mgmt := { s.mgmt with smbq := l } }).smbRead 0x21 (32 :: natBytes 32 w)

/-- SMB_RECOVERY_DATA: appended in recovery, otherwise discarded and counted (R904, R905). -/
def execSmbRecoveryData (l : List (BitVec 8)) (pecOk : Bool) (s : State) : Host.Outcome State Fault Refusal :=
  s.event s.sideUp fun s =>
    if !pecOk || !s.on SYS_RECOVERY then s.pecErr
    else { s with mgmt := { s.mgmt with recovery := s.mgmt.recovery ++ l.take 128 } }

/-- ALERT_RESPONSE: the answer is the part's own address while it asserts ALERT_N, which it releases when no condition holds (R908). -/
def execAlertResponse (s : State) : Host.Outcome State Fault Refusal :=
  s.event s.sideUp fun s =>
    (if s.on MGT_SMB_STATUS_ALERT then s.emit (.smbus [2 * s.rd MGT_NODE_ID_SMB_ADDR]) else s.smbNack).alert

/-- ARP_PREPARE_TO_ARP: the Address Resolved flag falls, as the SMBus standard defines the command (R135). -/
def execArpPrepareToArp (s : State) : Host.Outcome State Fault Refusal := s.event s.sideUp fun s => s.wr MGT_SMB_STATUS_AR 0

/-- ARP_RESET_DEVICE clears the Address Resolved flag (R903). -/
def execArpResetDevice (s : State) : Host.Outcome State Fault Refusal := s.event s.sideUp fun s => s.wr MGT_SMB_STATUS_AR 0

/-- The UDID (R135): dynamic and volatile address, PEC supported; its version, interface and subsystem bytes the spec does not give. -/
def udid : List Nat :=
  [0x81, bits Config.udidOther.toNat 0 8, 0x1F, 0x3C, 0x52, 0x56] ++ natBytes 6 (Config.udidOther.toNat / 256)
    ++ (natBytes 4 Config.serial.toNat).reverse

/-- ARP_GET_UDID: the UDID and the address, at the default address; a general one is answered until the address is resolved
(R135). While no address is assigned the address byte is 0x01: DESIGN CHOICE, log entry 60. -/
def execArpGetUdid (directed : Bool) (s : State) : Host.Outcome State Fault Refusal :=
  s.event s.sideUp fun s =>
    if directed || !s.on MGT_SMB_STATUS_AR then
      let l := 17 :: udid ++ [2 * s.rd MGT_NODE_ID_SMB_ADDR + 1]
      s.emit (.smbus (l ++ [pec ([0xC2, 0x03, 0xC3] ++ l)]))
    else s.smbNack

/-- ARP_ASSIGN_ADDRESS replaces SMB_ADDR without changing the node ID or SOURCE; `mine` tells that its UDID is the part's (R903). -/
def execArpAssignAddress (mine : Bool) (a : BitVec 7) (s : State) : Host.Outcome State Fault Refusal :=
  s.event (s.sideUp && mine) fun s => s.wrs [(MGT_NODE_ID_SMB_ADDR, a.toNat), (MGT_SMB_STATUS_AR, 1)]

/-! JTAG (R921, R922). -/

/-- An instruction of the test access port: it leaves Test-Logic-Reset. -/
def State.tap (s : State) (ir : Nat) : State := s.wrs [(JTGX_IR, ir), (DBG_STATUS_TAP_ACTIVE, 1)]

/-- EXTEST: the boundary-scan register, loaded with `v`, drives the pins (R921, R922). -/
def execExtest (v : BitVec 1024) (s : State) : Host.Outcome State Fault Refusal :=
  s.event s.sideUp fun s => ((s.tap 0).wr JTGX_BSR v.toNat).emit (.jtag v.toNat 1024)

/-- SAMPLE_PRELOAD: the register captures the pins, whose levels are a free value here, and then holds `v` (R921, R922). -/
def execSamplePreload (v : BitVec 1024) (s : State) : Host.Outcome State Fault Refusal :=
  s.event s.sideUp fun s => (((s.tap 1).emit (.jtag (s.freeVal % 2 ^ 1024) 1024)).takeFree).wr JTGX_BSR v.toNat

/-- IDCODE (R921). -/
def execIdcode (s : State) : Host.Outcome State Fault Refusal := s.event s.sideUp fun s => (s.tap 2).emit (.jtag 0x152560FF 32)

/-- BYPASS, which every other code selects (R921). -/
def execBypass (s : State) : Host.Outcome State Fault Refusal := s.event s.sideUp fun s => (s.tap 0xFF).emit (.jtag 0 1)

/-! The debug access port (R923 to R925, R951). -/

/-- A waiting access ends: what a read returns, ERROR, and whether it passed under DEBUG_OVERRIDE. -/
def State.dapEnd (s : State) (data : Nat) (error over_ : Bool) : State :=
  let s := if s.rd DAPX_OP = 1 then s.wr DAPX_DATA data else s
  let s := s.wrs [(DAPX_OP, 0), (DAPX_ERROR, b2n error), (DAPX_OVER, b2n over_)]
  (s.emit (.jtag (s.rd DAPX_DATA) 64)).emit (.jtag (2 * b2n error + 4 * b2n over_) 8)

/-- The lines of a store of the debug access port performed in order; one to a FAILED channel, a contained window or a mirror target is
discarded (R520, R569, R627, R951). -/
def State.dapStore (s : State) (a : Nat) (l : List (BitVec 8)) : State :=
  (linesOf a l.length).foldl (fun s line =>
    let w := (s.windowAt line).getD 4096
    if s.pastDrain then s.lateStore 128 line
    else if s.storeMeets line = 0 then (s.lineEcc line .clean).performLine w line (maskIn a l.length line) (dataIn a l line)
    else s.dropStore 128 line) s

/-- The waiting access of the debug access port is made, unless the checker holds it, or its store waits for a close or a mirror (R429,
R436, R923). An address in no window is not served (R577). Of a line that cannot be read, the data and ERROR are free values. -/
def State.dapRun (s : State) : State :=
  let op := s.rd DAPX_OP
  let a := s.rd DAPX_AT
  let n := if s.on DAPX_WIDE then 8 else 4
  let sp := s.rd DAPX_ASP
  let data := leBytes n (s.rd DAPX_WDATA)
  let waits := sp == 1 && op == 2 && (linesOf a n).any fun x => s.storeMeets x == 1 || s.mirrorFull x
  if op = 0 ∨ s.checkerHeld ∨ waits then s
  else if 2 ≤ sp ∨ (sp = 1 ∧ !s.inWindowsAll a n) then s.dapEnd 0 true false
  else
    let c : Check := ⟨clsInternal, if sp = 0 then spMgmt else spPool, op - 1, 1, 0, none, a, n, 0⟩
    let over_ := (s.verdict c).isSome
    let x := s.check c
    if !x.2 then x.1.dapEnd 0 true false
    else if sp = 0 then
      if op = 1 then
        let y := x.1.barLoad a n
        y.1.dapEnd (leNat y.2) false over_
      else (x.1.barStore byDap a data).dapEnd 0 false over_
    else if op = 2 then (x.1.dapStore a data).dapEnd 0 false over_
    else if (linesOf a n).any fun l => x.1.svcBad l then
      x.1.takeFree.takeFree.dapEnd (x.1.freeVal % 2 ^ (8 * n)) (bitSet x.1.takeFree.freeVal 0) over_
    else x.1.dapEnd (leNat (x.1.loadBytes a n)) false over_

/-- An access starts at DAP_ADDR, shifted in before as `at_` or advanced from the last access; in PS-SLEEP it is a wake event (R923,
R925). -/
def State.dapStart (s : State) (op : Nat) (at_ : Option (BitVec 66)) (wide : Bool) (data : Nat) : State :=
  if s.rd DAPX_OP ≠ 0 then s
  else
    let s := match at_ with
      | some v => s.wrs [(DAPX_ADDR, v.toNat), (DAPX_SPACE, v.toNat / 2 ^ 64)]
      | none => s
    let s := s.wrs [(DAPX_OP, op), (DAPX_AT, s.rd DAPX_ADDR), (DAPX_ASP, s.rd DAPX_SPACE), (DAPX_WIDE, b2n wide), (DAPX_WDATA, data),
      (DAPX_ADDR, s.rd DAPX_ADDR + if wide then 8 else 4)]
    (((s.tap 0x22).inc DBG_STATUS_DAP_ACCESSES).wake wakeDebug 0).dapRun

/-- DAP_READ (R923). -/
def execDapRead (at_ : Option (BitVec 66)) (wide : Bool) (s : State) : Host.Outcome State Fault Refusal :=
  s.event s.sideUp fun s => s.dapStart 1 at_ wide 0

/-- DAP_WRITE (R456, R923). -/
def execDapWrite (at_ : Option (BitVec 66)) (wide : Bool) (data : BitVec 64) (s : State) : Host.Outcome State Fault Refusal :=
  s.event s.sideUp fun s => s.dapStart 2 at_ wide data.toNat

/-- DEBUG_OVERRIDE_WRITE by writer `who`: without effect but from the debug access port (R924). -/
def execDebugOverrideWrite (who : Fin 50) (v : Bool) (s : State) : Host.Outcome State Fault Refusal :=
  .next (s.regWrite who 0x7C0000 (b2n v) 1)

/-! DEBUG_INJECT (R731). -/

/-- DEBUG_INJECT arms one fault of its kind. -/
def execDebugInject (c : Cmd) (s : State) : Host.Outcome State Fault Refusal :=
  let k := parBytes c 0 1
  let w := parBytes c 1 1
  let a := parBytes c 8 8
  .next (s.command 0x0C01 onlyM (cleanCmd c [(0, 8), (8, 8), (64, 64)] false && decide (1 ≤ k) && decide (k ≤ 6)
      && (if k = 3 ∨ k = 4 then decide (a < s.poolC) && (s.mapAddr a).1 == w else decide (w < 128)))
    (fun _ => .ok 0 { s with mgmt := { s.mgmt with inject := s.mgmt.inject ++ [(k, w, a)] } }) c)

/-! Firmware images (R126, R914, R915). -/

/-- A byte of flash device `d`. -/
def State.flashBytes (s : State) (d off n : Nat) : List (BitVec 8) := (List.range n).map fun i => cellGet s.mgmt.flash (d * 2 ^ 26 + off + i)

/-- Bytes programmed into flash device `d` from `off` on. -/
def State.programFlash (s : State) (d off : Nat) (l : List (BitVec 8)) : State :=
  let cells := (List.range l.length).foldl (fun m i => cellPut m (d * 2 ^ 26 + off + i) (l[i]?.getD 0)) s.mgmt.flash
  { s with mgmt := { s.mgmt with flash := cells } }.emit (.spi d off l.length)

/-- The fields of an image header: magic, body length, version and CRC-32C. -/
def headerOf (l : List (BitVec 8)) : Nat × Nat × Nat × Nat := (at_ l 0 4, at_ l 4 4, at_ l 8 4, at_ l 12 4)

/-- The result of the check of an image with header `l` and body `body`, as A_FAIL codes it (R126). -/
def imageCode (l body : List (BitVec 8)) : Nat :=
  let h := headerOf l
  if h.1 ≠ 0x57465753 then 1 else if 6 * 2 ^ 20 < h.2.1 then 2 else if crc32c body ≠ h.2.2.2 then 3 else 0

/-- The check of the image in flash device `d`. -/
def State.checkFlash (s : State) (d : Nat) : Nat :=
  let l := s.flashBytes d 0 16
  imageCode l (s.flashBytes d 0x1000 (min (6 * 2 ^ 20) (headerOf l).2.1))

/-- Opcodes of the long FIRMWARE commands. -/
def opFwWrite : Nat := 0x0D01
/-- FIRMWARE_VERIFY. -/
def opFwVerify : Nat := 0x0D02
/-- FIRMWARE_ACTIVATE. -/
def opFwActivate : Nat := 0x0D04

/-- A running long operation names image `d` (R711). -/
def State.imageBusy (s : State) (d : Nat) : Bool := s.opBusy [opFwWrite, opFwVerify, opFwActivate] fun o => parBytes o.cmd 0 1 == d

/-- FIRMWARE_WRITE (R711, R732, R919). -/
def execFirmwareWrite (c : Cmd) (s : State) : Host.Outcome State Fault Refusal :=
  let d := parBytes c 0 1
  let off := parBytes c 4 4
  let len := parBytes c 16 4
  .next (s.command opFwWrite onlyM (cleanCmd c [(0, 8), (32, 32), (64, 64), (128, 32)] false && decide (d < 2) && off % 4096 == 0 && len % 4096 == 0
      && decide (0 < len) && decide (off + len ≤ 0x1100000))
    (fun _ => firstFail
      [(s.mgmtHost.isNone, stBadParam), (decide (off < 0x1000000) && s.rd BOOTX_FROM == d, stNotPermitted), (s.imageBusy d, stBusy)]
      (.long 0 len 0 0 s)) c)

/-- A step of FIRMWARE_WRITE: the next part of a sector is read from the management host, or the whole sector is erased and programmed
(R199, R226, R919). `phase` counts the bytes of the sector that `acc` holds. -/
def State.stepFwWrite (s : State) (o : Op) (ok : Bool) : State :=
  let base := parBytes o.cmd 8 8 + o.done
  if o.phase = 4096 then
    if ok then
      let s := s.programFlash (parBytes o.cmd 0 1) (parBytes o.cmd 4 4 + o.done) (leBytes 4096 o.acc)
      let s := s.setOp o.handle fun p => { p with phase := 0, acc := 0, done := o.done + 4096 }
      if o.total ≤ o.done + 4096 then s.finishOp o.handle stOk 0 else s
    else s.finishOp o.handle stHwError 0
  else match s.mgmtHost with
    | none => s.finishOp o.handle stHwError 0
    | some h =>
      let a := base + o.phase
      let size := min (128 * 2 ^ s.rd (HOSTF_MRRS h)) (min (4096 - o.phase) (4096 - a % 4096))
      if s.outst.any fun x => x.waiter == o.handle then s
      else if !s.hostOpen h then s.finishOp o.handle stHostDma 0
      else if s.contained 2 h then s.finishOp o.handle stHwError 0
      else match s.issue .host h o.handle noSource 0 size (s.rd SYS_ORDER) false none with
        | none => s
        | some (tag, s) => (s.bump SYS_ORDER).readHost h a size tag

/-- FIRMWARE_VERIFY (R732). -/
def execFirmwareVerify (c : Cmd) (s : State) : Host.Outcome State Fault Refusal :=
  let d := parBytes c 0 1
  .next (s.command opFwVerify onlyM (cleanCmd c [(0, 8)] false && decide (d < 2))
    (fun _ => .long 0 (headerOf (s.flashBytes d 0 16)).2.1 0 0 s) c)

/-- A step of FIRMWARE_VERIFY of `n` units of 64 bytes: `done` counts the bytes of the body that are in the CRC so far, `acc` (R732). -/
def State.stepFwVerify (s : State) (o : Op) (n : Nat) : State :=
  let d := parBytes o.cmd 0 1
  let h := headerOf (s.flashBytes d 0 16)
  let result := fun (code : Nat) => code + if h.1 = 0x57465753 then h.2.2.1 * 2 ^ 32 else 0
  if h.1 ≠ 0x57465753 then s.finishOp o.handle stOk (result 1)
  else if 6 * 2 ^ 20 < h.2.1 then s.finishOp o.handle stOk (result 2)
  else
    let k := min (64 * n) (h.2.1 - o.done)
    let v := (s.flashBytes d (0x1000 + o.done) k).foldl (fun v b => crcByte 0x82F63B78 v b.toNat) (if o.done = 0 then 0xFFFFFFFF else o.acc)
    let s := s.setOp o.handle fun p => { p with done := o.done + k, acc := v }
    if h.2.1 ≤ o.done + k then s.finishOp o.handle stOk (result (if (v ^^^ 0xFFFFFFFF) = h.2.2.2 then 0 else 3)) else s

/-- FIRMWARE_SELECT (R732, R920). -/
def execFirmwareSelect (c : Cmd) (s : State) : Host.Outcome State Fault Refusal :=
  let d := parBytes c 0 1
  .next (s.command 0x0D03 onlyM (cleanCmd c [(0, 8)] false && (decide (d < 2) || d == 0xFF))
    (fun _ => .ok 0 (s.wr MGT_FLASH_STATUS_SELECT (if d = 0xFF then 0 else d + 1))) c)

/-- FIRMWARE_ACTIVATE: LIVE must be 1, and the image's major version that of the running control firmware (R684, R732). -/
def execFirmwareActivate (c : Cmd) (s : State) : Host.Outcome State Fault Refusal :=
  let d := parBytes c 0 1
  let v := (headerOf (s.flashBytes d 0 16)).2.2.1
  .next (s.command opFwActivate onlyM (cleanCmd c [(0, 8)] true && decide (d < 2) && opFlag c)
    (fun _ => firstFail [(bits v 16 8 != s.rd PEN_FW_VERSION_MAJOR, stNotPermitted), (s.opBusy [opFwActivate] (fun _ => true) || s.imageBusy d, stBusy)]
      (.long 0 (countN 96 fun e => decide (8 ≤ e) && !s.engFaulted e) 0 0 s)) c)

/-- The service engines in the order of a live activation: general, patrol, hot-plug, commit log, mirror (R683). -/
def State.reloadOrder (s : State) : List Nat :=
  [grpGeneral, grpPatrol, grpHotPlug, grpLog, grpMirror].flatMap fun g => (s.inGroup g).filter fun e => decide (8 ≤ e)

/-- A step of FIRMWARE_ACTIVATE: the image is checked, then one engine after another reloads; `ok` tells whether the next one does. One
that fails is faulted (R683, R685). `done` counts the engines reloaded. -/
def State.stepFwActivate (s : State) (o : Op) (ok : Bool) : State :=
  let d := parBytes o.cmd 0 1
  if o.phase = 0 then
    if s.checkFlash d = 0 then s.setOp o.handle fun p => { p with phase := 1 } else s.finishOp o.handle stHwError 0
  else match (s.reloadOrder.drop o.done).head? with
    | some e =>
      if ok then s.setOp o.handle fun p => { p with done := o.done + 1 }
      else (s.finishOp o.handle stHwError 0).faultEngine e 3
    | none =>
      let v := (headerOf (s.flashBytes d 0 16)).2.2.1
      (s.wrs [(PEN_SVC_VERSION_PATCH, bits v 0 8), (PEN_SVC_VERSION_MINOR, bits v 8 8), (PEN_SVC_VERSION_MAJOR, bits v 16 8),
        (PEN_EVENT_LIVE_DONE, 1)]).finishOp o.handle stOk 0

/-! FABRIC_LEAVE (R304). -/

/-- Its opcode. -/
def opLeave : Nat := 0x0B02

/-- FABRIC_LEAVE: refused while a durable domain is mirrored to or from this node, unless FORCE is set, which breaks its mirror. -/
def execFabricLeave (c : Cmd) (s : State) : Host.Outcome State Fault Refusal :=
  let mirrored := (idxs 16 fun d => s.on (ORD_DOM_CFG_VALID d) && (s.on (ORD_DOM_CFG_MIRRORED d) || s.on (ORD_DOM_CFG_MIRROR_TARGET d))) != []
  .next (s.command opLeave onlyM (cleanCmd c [] true)
    (fun _ => firstFail [(mirrored && !opFlag c, stNotPermitted), (s.opBusy [opLeave] (fun _ => true), stBusy)]
      (.long 0 4 0 0 (if opFlag c then s.forN (fun d s => s.breakMirror d) 16 else s))) c)

/-- Nothing that this node sent over a tether is outstanding, and nothing waits to be sent (R304 steps 2 and 3). -/
def State.tethersIdle (s : State) : Bool :=
  s.outst.all (fun o => o.quarantined || o.kind != .node) && s.tether.sendq.isEmpty && s.tether.unacked.isEmpty
    && (s.switch.made.all fun m => s.rd (PRT_CFG_MODE m.2.1.egress) != 3) && s.switch.txq.all fun x => s.rd (PRT_CFG_MODE x.tlp.egress) != 3

/-- A step of FABRIC_LEAVE: LEAVE on every tether, the answers, the drain, then SHUTDOWN and LEFT, and the node ID is free (R304). -/
def State.stepLeave (s : State) (o : Op) : State :=
  let next := fun (s : State) (k : Nat) => s.setOp o.handle fun p => { p with phase := k, done := k }
  if o.phase = 0 then next (s.eachTether s.tetherUp fun p s => (s.wr (CYTX_LEAVE_ACKED p) 0).linkMgmt p 8 0) 1
  else if o.phase = 1 then (if (idxs 128 fun p => s.tetherUp p && !s.on (CYTX_LEAVE_ACKED p)).isEmpty then next s 2 else s)
  else if o.phase = 2 then (if s.tethersIdle then next s 3 else s)
  else
    let s := s.eachTether s.tetherUp fun p s => (s.linkMgmt p 10 0).leaveTether p
    (next (s.wr MGT_NODE_ID_NODE_VALID 0).localView 4).finishOp o.handle stOk 0

/-! The indicator frame and the temperature. -/

/-- An indicator of code `v` (1 on, 2 blink, 3 off) is lit in a frame at time `t`; it blinks at 1.5 Hz (R74). -/
def lit (v t : Nat) : Bool := v == 1 || (v == 2 && t * 3 / sec % 2 == 0)

/-- The 64 bits of an indicator frame: bit 2s the power and bit 2s + 1 the attention indicator of slot s (R74). -/
def State.indicators (s : State) : Nat :=
  (List.range 32).foldl (fun n c => match s.slotPort c with
    | some p => n + b2n (lit (bits (s.rd (SLTX_CTL p)) 8 2) s.now) * 2 ^ (2 * c) + b2n (lit (bits (s.rd (SLTX_CTL p)) 6 2) s.now) * 2 ^ (2 * c + 1)
    | none => n) 0

/-- INDICATOR_FRAME: the frame on SLOT_IND_DATA (pin 8), one bit for each of 64 rising edges of SLOT_IND_CLK, the most significant first,
and then the pulse on SLOT_IND_LOAD (pin 9) (R73). No frame is sent in PS-DEEP, while moored or while RESET_N is low: DESIGN CHOICE, log
entry 60. -/
def execIndicatorFrame (s : State) : Host.Outcome State Fault Refusal :=
  s.event s.sideUp fun s =>
    let v := s.indicators
    let s := (List.range 64).foldl (fun s k => s.emit (.pin 8 k (bitSet v (63 - k)))) s
    (s.emit (.pin 9 0 true)).emit (.pin 9 0 false)

/-- THERMAL_SAMPLE: the hottest sensor reads `t` °C, two's complement (R941). -/
def execThermalSample (t : BitVec 8) (s : State) : Host.Outcome State Fault Refusal :=
  s.event s.sideUp fun s =>
    let peak := (BitVec.ofNat 8 (s.rd GLB_THERMAL_TJ_PEAK)).toInt
    let s := s.wr GLB_THERMAL_TJ_NOW t.toNat
    let s := if !s.on THRMX_SEEN || decide (peak < t.toInt) then s.wrs [(GLB_THERMAL_TJ_PEAK, t.toNat), (THRMX_SEEN, 1)] else s
    let s := if 105 ≤ t.toInt then s.wr GLB_THERMAL_HOT 1 else s
    if 115 ≤ t.toInt then s.wr GLB_THERMAL_CRIT 1 else s

end Sys2Proof.Machine
end

