-- ==== Sys2Proof/Machine/LongOp.lean ====
section
/-! DEFINITION. The steps of long operations, their cancels and pauses (R22, R23, R304, R488, R490, R629, R630, R639, R642 to R650), and
the completions of requests that the SF256 issued (R225, R404, R541 to R544). -/

namespace Sys2Proof.Machine

/-! Mirror resync. -/

/-- The pool addresses of domain `d`'s lines, rising, from the windows `ws` (R630): the `k`-th. -/
def State.resyncLine (s : State) (k : Nat) : List Nat → Option Nat
  | [] => none
  | w :: t =>
    let n := (s.winAttr w).units * 64
    if k < n then some ((s.winAttr w).base + 64 * k) else s.resyncLine (k - n) t

/-- A step of POOL_MIRROR_RESYNC of at most `n` lines: each goes to the peer as a mirror store, poison with it, while the mirror queue has
room; when all are sent the mirror is IN_SYNC (R629, R630). A line on a FAILED channel ends it with HW_ERROR. -/
def State.stepResync (s : State) (o : Op) : Nat → State
  | 0 => s
  | n + 1 =>
    let s := s.stepResync o n
    let d := parBytes o.cmd 0 1
    match s.ops.find? fun x => x.handle == o.handle && x.final.isNone with
    | none => s
    | some x =>
      let ws := idxs 4096 fun w => s.on (WIN_VALID w) && s.winDom w == some d
      if s.rd (ORD_DOM_STATUS_MIRROR_STATE d) ≠ 1 then s.finishOp o.handle stHwError 0
      else match s.resyncLine x.done ws with
        | none => ((s.wrs [(ORD_DOM_STATUS_MIRROR_STATE d, 2), (DDX_STARTED d, 0), (ORD_EVENT_RESYNC_DONE, 1)]).degView d).finishOp o.handle stOk 0
        | some a =>
          if 16384 ≤ s.mirrorDepth d then s
          else if s.chDown a then s.finishOp o.handle stHwError 0
          else
            let s := s.lineEcc a .clean
            (s.mirrorStore ((s.windowAt a).getD 4096) a fullMask (leNat (s.loadBytes a 64)) (s.poisoned a)).setOp o.handle fun p =>
            { p with done := x.done + 1 }

/-! Steps. -/

/-- The group of engines that runs an operation (R637): the hot-plug sequencer, the general services, or the control firmware. -/
def opGroup (opcode : Nat) : Nat :=
  if opcode = opSlot then grpHotPlug
  else if opcode ∈ [0x0303, 0x0408, 0x0607, opZero, opCopy, opCrc, opDestroy, opSave, opRestore, opRelease] then grpGeneral
  else grpControl

/-- An operation cancelled at a step boundary: what completed steps did stands (R645, R717, R534, R845). -/
def State.cancelOp (s : State) (o : Op) : State :=
  let g := parBytes o.cmd 0 2
  if o.opcode = opLiftTest then s.cancelLiftTest o
  else if o.opcode = 0x0502 then s.dropArm (parBytes o.cmd 0 1) stCancelled
  else
    let s := if o.opcode = opRelease then s.withdrawRelease (parBytes o.cmd 0 1) (parBytes o.cmd 2 2)
      else if o.opcode = opFreeze then (((s.wr (GND_STATE g) 1).applyLatches g).resumeOps g).resumeAppends g
      else if o.opcode = opDestroy then s.wr (GND_STATE g) (if o.phase = 0 then 4 else 1)
      else s
    s.endOp o.handle stCancelled 0

/-- What a step of operation `o` of at most `n` lines does; `ok` tells whether the flash or the engine that it acts on does its part. An
operation that waits for an event of its own has no steps. -/
def State.stepOp (s : State) (o : Op) (n : Nat) (ok : Bool) : State :=
  if o.opcode = 0x0108 then s.stepAlloc o
  else if o.opcode = opSlot then s.stepSlot o
  else if o.opcode = 0x0303 then s.stepUnbind o
  else if o.opcode = 0x0408 then s.stepRebuild o ok
  else if o.opcode = 0x0607 then s.stepResync o n
  else if o.opcode = opZero then s.stepZero o n
  else if o.opcode = opCopy then s.stepCopy o n
  else if o.opcode = opCrc then s.stepCrc o n
  else if o.opcode = opDestroy then s.stepDestroy o n
  else if o.opcode = opSave then s.stepSave o
  else if o.opcode = opRestore then s.stepRestore o
  else if o.opcode = opLeave then s.stepLeave o
  else if o.opcode = opFwWrite then s.stepFwWrite o ok
  else if o.opcode = opFwVerify then s.stepFwVerify o n
  else if o.opcode = opFwActivate then s.stepFwActivate o ok
  else s

/-- What the items of an operation's next line cost: the stored bytes of its requests and writes, each with a header of 16 bytes, and
the overhead of the port by which one leaves (R307, R490). -/
def State.itemBytes (s : State) (o : Op) : Nat :=
  let ov := ((s.issuerHost o.issuer).map fun h => s.hostItem o.issuer h).getD 0
  if o.opcode = opZero then 80
  else if o.opcode = opCrc then 16
  else if o.opcode = opCopy then
    match parBytes o.cmd 1 1 with
    | 0 => 96
    | 1 => 96 + ov
    | _ => if o.acc ≠ 0 then 80 else 16 + ov
  else 0

/-- Operation `o` has issued something: a line more is done, or a read more awaits its completion. -/
def State.issuedSince (t s : State) (o : Op) : Bool :=
  s.outst.length != t.outst.length || ((t.ops.find? fun x => x.handle == o.handle).map fun x => x.done) != some o.done

/-- The weight of an owner of long operations (R647). -/
def State.weightOf (s : State) : Issuer → Nat
  | .m => 256
  | .h _ => 64
  | .g g => max 1 (s.rd (GND_ENG_SHARE g))

/-- The engine time of one step, in units that R647 makes equal shares of. -/
def State.turnOf (s : State) (i : Issuer) : Nat := 2 ^ 24 / s.weightOf i

/-- Operation `x` has a step that an engine could run: it does not stand paused, wait for data, or wait for its shaper (R647, R649). -/
def State.runnable (s : State) (x : Op) : Bool :=
  x.final.isNone && !x.paused && opGroup x.opcode == grpGeneral && (s.outst.all fun q => q.waiter != x.handle) && (s.itemPasses x.issuer).2

/-- The general group may run a step of `o`: its owner is not ahead of another that has runnable steps by more than one step for each engine
(R647, log entry 70). -/
def State.hasTurn (s : State) (o : Op) : Bool :=
  opGroup o.opcode != grpGeneral || s.ops.all fun x => x.issuer == o.issuer || !s.runnable x
    || decide (s.rd (OWNX_TURN (turnKey o.issuer)) ≤ s.rd (OWNX_TURN (turnKey x.issuer)) + (s.inGroup grpGeneral).length * s.turnOf o.issuer)

/-- Engine `e` takes up operation `o` for a step: it leaves its earlier engine and `e` its earlier operation, and the owner's engine time
counts the step (R642, R647). -/
def State.runOn (s : State) (o : Op) (e : Nat) : State :=
  let s := if o.engine = e then s else s.idleEngine o.engine
  let l := updateAll (fun (p : Op) => p.final.isNone && (p.handle == o.handle || p.engine == e))
    (fun (p : Op) => { p with engine := if p.handle = o.handle then e else 128 }) s.ops
  let s := { s with ops := l }
  let s := s.wrs [(PEN_ENG_STATUS_STATE e, 2), (PEN_ENG_STATUS_GONDOLA e, match o.issuer with | .g g => g | _ => 0),
    (PEN_ENG_STATUS_GONDOLA_VALID e, match o.issuer with | .g _ => 1 | _ => 0)]
  let k := OWNX_TURN (turnKey o.issuer)
  (if opGroup o.opcode = grpGeneral then s.wr k (s.rd k + s.turnOf o.issuer) else s).inc (PEN_ENG_STEPS_STEPS e)

/-- LONG_OP_STEP of the operation with handle `h` on engine `e`: a registered cancel ends it, an operation of a contained gondola ends with
HW_ERROR, one of a freezing gondola pauses, and otherwise it does its next step, of at most `n` lines, once its gondola's shaper lets an
item pass and its owner has its turn (R22, R520, R642, R645, R649, R717, R751). -/
def execLongOpStep (h : Fin 65552) (e : Eng) (n : Nat) (ok : Bool) (s : State) : Host.Outcome State Fault Refusal :=
  match s.ops.find? fun o => o.handle == h.val && o.final.isNone with
  | none => .next s
  | some o =>
    s.event (s.on SYS_FW_UP && !s.on SYS_DRAINING && !s.moored && !o.paused && !s.engFaulted e
        && s.rd (PEN_ENG_STATUS_GROUP e) == opGroup o.opcode) fun s =>
      let g := match o.issuer with | .g g => some g | _ => none
      if o.cancel then s.cancelOp o
      else if (match g with | some g => s.contained 3 g | none => false) then s.endOp o.handle stHwError 0
      else if (match g with | some g => s.rd (GND_STATE g) == 2 || s.rd (GND_STATE g) == 3 | none => false) then
        (s.idleEngine o.engine).setOp o.handle fun p => { p with paused := true, engine := 128 }
      else if !s.hasTurn o then s
      else
        let run := fun (s : State) (n : Nat) => (s.exitIdle.runOn o e).stepOp { o with engine := e } n ok
        let cost := s.itemBytes o
        if (s.issuerShaper o.issuer).isNone || cost == 0 then run s n
        else
          let x := s.itemPasses o.issuer
          if !x.2 then x.1
          else
            let t := run x.1 1
            if t.issuedSince x.1 o then t.payItem o.issuer cost else t

/-! Completions (R225, R404, R541 to R544). -/

/-- Data arrives for the request of waiter `w`: a part of an append's payload, or of what a long operation reads (R658, R669, R759, R919). -/
def State.deliverData (s : State) (w : Nat) (l : List (BitVec 8)) : State :=
  if 2 ^ 20 ≤ w then
    let waits := updateAll (fun (a : Append) => appendWaiter a.id == w) (fun a => { a with payload := a.payload ++ l }) s.pool.appends
    { s with pool := { s.pool with appends := waits } }
  else match s.ops.find? fun o => o.handle == w && o.final.isNone with
    | none => s
    | some o =>
      if o.opcode = opCopy then s.copyArrive o l
      else if o.opcode = opRestore then s.restoreArrive o l
      else if o.opcode = opFwWrite then
        s.setOp o.handle fun p => { p with phase := o.phase + l.length, acc := o.acc + leNat l * 2 ^ (8 * o.phase) }
      else s

/-- A request completed in full: its tag is free, and what waited for one goes on (R544, R545). -/
def State.completed (s : State) (o : Outst) (last : Bool) : State := if last then (s.endReq o).retryHeld else s

/-- A partial completion: its data waits for the rest (R540). -/
def State.partData (s : State) (o : Outst) (data : List (BitVec 8)) (poison : Bool) : State :=
  { s with outst := updateAll (fun x => x == o) (fun x => { x with data := x.data ++ data, poison := x.poison || poison }) s.outst }

/-- A completion whose data is discarded: what waited for it asks again (R225, R226). -/
def State.lostData (s : State) (o : Outst) (last : Bool) : State :=
  if last then s.completed o true
  else { s with outst := updateAll (fun x => x == o) (fun x => { x with waiter := 0, src := noSource }) s.outst }

/-- COMPLETION_ARRIVAL from host or device `target` for tag `tag`, with status `st`; `last` for the completion that ends the request, whose
data is delivered whole. A
free tag is an unexpected completion, a quarantined one a late completion, which are logged and discarded; while Bus Master Enable is 0
the data is counted and discarded (R225, R404, R520, R541 to R544). -/
def execCompletionArrival (k : ReqKind) (target : Port) (tag : BitVec 14) (st : Fin 8) (data : List (BitVec 8)) (poison last : Bool)
    (s : State) : Host.Outcome State Fault Refusal :=
  let host := decide (k = .host)
  match s.reqOf k target tag.toNat with
  | none => .next (s.recordNear 173 0x0207 (reqDomain k target) 0
      (s.detAsk (s.askPort k target) 0 tag.toNat 0 0 0) (if host then [target.val] else []))
  | some o =>
    if o.quarantined then
      .next ((((s.inc ERR_CPL_COUNT_LATE_CPL).wr ERR_EVENT_LATE_CPL 1).recordNear 173 0x0206 (reqDomain k target) 0 (s.detReq o 0)
        (if host then [target.val] else [])).completed o last)
    else if host ∧ s.contained 2 target.val then .next s
    else if host ∧ (s.on (HOSTF_BME target) = false ∨ s.rd (HOSTF_PM target) ≠ 0) then
      .next (match s.hostPort target with
        | some p => (s.inc (PRT_BME_DISCARD_CPL_DISCARD p)).lostData o last
        | none => s.lostData o last)
    else if st.val = 0 ∧ last = false then
      .next (if o.waiter = 0 ∧ 64 ≤ o.src ∧ o.src < 128 then
        let s := s.answerReq o 0 data poison false
        s.advanceReq o data.length
      else s.partData o data poison)
    else if o.waiter ≠ 0 then
      .next ((if st.val = 0 ∧ o.poison = false ∧ poison = false then s.deliverData o.waiter (o.data ++ data)
        else s.failWaiter o.waiter stHwError).completed o true)
    else .next ((s.answerReq o st.val (if st.val = 0 then o.data ++ data else data) (o.poison || poison)).completed o true)

end Sys2Proof.Machine
end

