-- ==== Sys2Proof/Machine/Table.lean ====
section
/-! DEFINITION. The opcode tables (R721 to R732), the commands that the control firmware takes from mailboxes, spools and SMBus (R690,
R691, R708 to R710, R906), and the replay of the flash configuration (R917, R918). -/

namespace Sys2Proof.Machine

/-! The opcode tables. -/

/-- The meaning of an opcode. -/
abbrev Meaning : Type := Cmd → State → Host.Outcome State Fault Refusal

/-- PORT_LINK by its action; one that is not listed fails the value check (R722). -/
def portLinkOf (c : Cmd) (s : State) : Host.Outcome State Fault Refusal :=
  let a := parBytes c 1 1
  if a = 1 then execPortLinkWidthRequest c s
  else if a = 2 then execPortLinkDisable c s
  else if a = 3 then execPortLinkEnable c s
  else execPortLinkRetrain c s

/-- The DEVICE class. -/
def opsDevice : List (Nat × Meaning) :=
  [(0x0101, execDeviceInfo), (0x0102, execDeviceOpQuery), (0x0103, execDeviceOpCancel), (0x0104, execDeviceMgmtSet),
   (0x0105, execDeviceSpoolCreate), (0x0106, execDeviceSpoolDelete), (0x0107, execDeviceInputRearm), (0x0108, execDeviceEngineAlloc),
   (0x0109, execDeviceEngineRestart)]

/-- The PORT class. -/
def opsPort : List (Nat × Meaning) :=
  [(0x0201, execPortConfig), (0x0202, execPortFwdSet), (0x0203, execPortTetherSet), (0x0204, portLinkOf), (0x0205, execPortSlot)]

/-- The ROUTE class. -/
def opsRoute : List (Nat × Meaning) :=
  [(0x0301, execRouteHierSet), (0x0302, execRouteBind), (0x0303, execRouteUnbind), (0x0304, execRouteXlatWrite),
   (0x0305, execRouteXlatClear), (0x0306, execRouteNodeSet), (0x0307, execRouteMcSet), (0x0308, execRouteMcMap)]

/-- The BRIDLE class. -/
def opsBridle : List (Nat × Meaning) :=
  [(0x0401, execBridleRuleWrite), (0x0402, execBridleRuleClear), (0x0403, execBridleStageReset), (0x0404, execBridleBegin),
   (0x0405, execBridleCommit), (0x0406, execBridleAbort), (0x0407, execBridlePolicySet), (0x0408, execBridleRebuild)]

/-- The SCHED class. -/
def opsSched : List (Nat × Meaning) :=
  [(0x0501, execSchedGateWrite), (0x0502, execSchedGateArm), (0x0503, execSchedGateCancel), (0x0504, execSchedShaperSet),
   (0x0505, execSchedTcSet), (0x0506, execSchedAlphaSet)]

/-- The POOL class. -/
def opsPool : List (Nat × Meaning) :=
  [(0x0601, execPoolMapSet), (0x0602, execPoolWindowSet), (0x0603, execPoolWindowClear), (0x0604, execPoolApertureSet),
   (0x0605, execPoolScrubSet), (0x0606, execPoolDomainSet), (0x0607, execPoolMirrorResync), (0x0608, execPoolEpochClose),
   (0x0609, execPoolZero), (0x060A, execPoolCopy), (0x060B, execPoolCrc64), (0x060C, execPoolLogCreate), (0x060D, execPoolLogDelete),
   (0x060E, execPoolLogAppend), (0x060F, execPoolLogTrim)]

/-- The GONDOLA class. -/
def opsGondola : List (Nat × Meaning) :=
  [(0x0701, execGondolaCreate), (0x0702, execGondolaDestroy), (0x0703, execGondolaReset), (0x0704, execGondolaFreeze),
   (0x0705, execGondolaThaw), (0x0706, execGondolaSave), (0x0707, execGondolaRestore)]

/-- The POWER class. -/
def opsPower : List (Nat × Meaning) :=
  [(0x0801, execPowerVote), (0x0802, execPowerOff), (0x0803, execPowerScSet), (0x0804, execPowerScRearm)]

/-- The MOORING class. -/
def opsMooring : List (Nat × Meaning) :=
  [(0x0901, execMooringSpillSet), (0x0902, execMooringPolicySet), (0x0903, execMooringLiftTest), (0x0904, execMooringLogRead)]

/-- The ERROR class. -/
def opsError : List (Nat × Meaning) :=
  [(0x0A01, execErrorContain), (0x0A02, execErrorRelease), (0x0A03, execErrorCfgSet), (0x0A04, execErrorTimeoutSet),
   (0x0A05, execErrorFirstClear), (0x0A06, execErrorLogClear)]

/-- The FABRIC, DEBUG and FIRMWARE classes. -/
def opsFabric : List (Nat × Meaning) :=
  [(0x0B01, execFabricTimeSet), (0x0B02, execFabricLeave), (0x0B03, execFabricNodeRead), (0x0C01, execDebugInject),
   (0x0D01, execFirmwareWrite), (0x0D02, execFirmwareVerify), (0x0D03, execFirmwareSelect), (0x0D04, execFirmwareActivate)]

/-- Every opcode with its meaning. -/
def opTable : List (Nat × Meaning) :=
  opsDevice ++ opsPort ++ opsRoute ++ opsBridle ++ opsSched ++ opsPool ++ opsGondola ++ opsPower ++ opsMooring ++ opsError ++ opsFabric

/-- The opcodes that the tables mark long (R721 to R732). -/
def longOpcodes : List Nat :=
  [0x0108, 0x0205, 0x0303, 0x0408, 0x0502, 0x0607, 0x0609, 0x060A, 0x060B, 0x0702, 0x0703, 0x0704, 0x0706, 0x0707, 0x0903, 0x0A02, 0x0B02,
    0x0D01, 0x0D02, 0x0D04]

/-- The state that an outcome leaves. -/
def afterOf (s : State) : Host.Outcome State Fault Refusal → State
  | .next t => t
  | _ => s

/-- The command `c` with opcode `o` runs; an opcode outside the tables completes with BAD_OPCODE (R691 check 1). -/
def State.runOpcode (s : State) (o : Nat) (c : Cmd) : State :=
  match opTable.find? fun e => e.1 == o with
  | some e => afterOf s (e.2 c s)
  | none => if s.takesCmd o && s.pathOpen c then s.post c o stBadOpcode 0 0 true else s

/-- The opcode of a command packet of 64 bytes, byte 0 lowest (R687). -/
def packetOpcode (w : BitVec 512) : Nat := bits w.toNat 0 16

/-- The rest of the packet, as it comes by path `p` (R687). -/
def packetCmd (p : Path) (w : BitVec 512) : Cmd := ⟨p, w.extractLsb' 16 16, w.extractLsb' 32 32, w.extractLsb' 64 448⟩

/-! Taking a command (R688, R704, R705, R709, R710). -/

/-- The path of mailbox `m`: 0 the management host's, 1 + h host h's, 49 + g gondola g's. -/
def mailboxPath (m : Fin 1073) : Path :=
  if h : m.val = 0 then .mgmt
  else if h2 : m.val < 49 then .host ⟨m.val - 1, by omega⟩
  else .gond ⟨m.val - 49, by omega⟩

/-- The device takes the command at the head of mailbox `m`, once its path is open to it and the control firmware takes it (R688, R709, R710). -/
def State.takeMailbox (s : State) (m : Fin 1073) : State :=
  let head := s.rd (YCP_MBX_REQ_HEAD m)
  let w := BitVec.ofNat 512 (s.rd (YCP_MBX_REQ_SLOT m (head % 32)))
  let c := packetCmd (mailboxPath m) w
  if head != s.rd (YCP_MBX_REQ_TAIL m) && s.takesCmd (packetOpcode w) && s.pathOpen c && decide (s.rd PWR_STATUS_STATE ≤ 1) then
    (s.exitIdle.wr (YCP_MBX_REQ_HEAD m) (head + 1)).runOpcode (packetOpcode w) c
  else s

/-- The device fetches the entry at the head of command spool `n`, which host memory holds as `w`, and takes its command (R699, R700, R704,
R705, R710). -/
def State.takeSpool (s : State) (n : Fin 32768) (w : BitVec 512) : State :=
  let q := s.rd (SPL_PAIRED n)
  let h := s.rd (SPL_HOST n)
  let head := s.rd (SPL_HEAD n)
  let c := packetCmd (.spool n) w
  if s.pathOpen c && s.on (SPL_VALID q) && !s.on (SPL_STOPPED q) && head != s.rd (SPL_TAIL n) && s.hostOpen h && !s.contained 2 h
      && s.takesCmd (packetOpcode w) && decide (s.rd PWR_STATUS_STATE ≤ 1) then
    (s.exitIdle.wr (SPL_HEAD n) ((head + 1) % 2 ^ s.rd (SPL_SIZE_LOG2 n))).runOpcode (packetOpcode w) c
  else s

/-- COMMAND_FETCH: from mailbox `m`, or from command spool `n` with what its entry holds in host memory (R708 to R710). Commands on SMBus
are SMB_CMD's. -/
def execCommandFetch (ring : CmdRing) (s : State) : Host.Outcome State Fault Refusal :=
  .next (match ring with
    | .mailbox m => s.takeMailbox m
    | .spool n w => s.takeSpool n w)

/-- R710 admits a command on SMBus (R906). -/
def State.smbAdmits (s : State) (o : Nat) : Bool := s.pathRoom .smbus && s.takesCmd o

/-- SMB_CMD: one command with authority M; NACKed when it is not admitted, discarded without a right PEC; it wakes the device (R710, R785,
R898, R904, R906). -/
def execSmbCmd (w : BitVec 512) (pecOk : Bool) (s : State) : Host.Outcome State Fault Refusal :=
  s.event s.sideUp fun s =>
    if !s.smbAdmits (packetOpcode w) then s.smbNack
    else if !pecOk then s.pecErr
    else (s.wake wakeSmbus 0).exitIdle.runOpcode (packetOpcode w) (packetCmd .smbus w)

/-! The flash configuration (R916 to R918). -/

/-- A Bridle session that a replayed command committed ends before the next command runs: nothing is in flight at start-up. -/
def State.settleCommit (s : State) : State :=
  let s := if s.rd BRD_STATUS_STATE = 2 then s.commitTable else s
  if s.rd BRD_STATUS_STATE = 3 then ((s.wr BRD_STATUS_STATE 0).wr BRD_EVENT_COMMIT_DONE 1).finishLates opCommit 0 stOk s.bridle.active.gen else s

/-- One command of the configuration region: a long opcode, and with `kept` a BRIDLE or GONDOLA command, is skipped and counted; one that
fails is logged with its status (R918). -/
def State.replayOne (s : State) (kept : Bool) (w : BitVec 512) : State :=
  let o := packetOpcode w
  if longOpcodes.contains o || (kept && (o / 256 == 4 || o / 256 == 7)) then s.inc MGT_FLASH_STATUS_CMD_FAILED
  else
    let s := ((s.wr SYS_LAST_STATUS stOk).runOpcode o (packetCmd .flash w)).settleCommit
    if s.rd SYS_LAST_STATUS = stOk then s else s.logUncoded 171 o (s.rd SYS_LAST_STATUS)

/-- The commands replayed in order. -/
def State.replay (s : State) (kept : Bool) (l : List (BitVec 512)) : State := l.foldl (fun s w => s.replayOne kept w) s

end Sys2Proof.Machine
end

