-- ==== Sys2Proof/Machine/Start.lean ====
section
/-! DEFINITION. Start-up (R55 to R62, R81, R122 to R129, R190, R447, R550 to R561, R770, R896, R905, R914 to R920, R944, R945, R949). -/

namespace Sys2Proof.Machine

/-! The strap configuration (R60, R62, R190). -/

/-- A PCI Express port of width 2^`w` at `p`. -/
def pciePort (mode w rate flit host p : Nat) : PortCfg := ⟨mode, 2 * (p % 8), w, rate, flit, 0, 0, host, 0, 0⟩

/-- A x16 tether at the highest rate. -/
def tetherPort : PortCfg := ⟨3, 0, 4, 11, 0, 1, 0, 0, 0, 0⟩

/-- Ports `8g`, `8g + k`, … of the lane groups `l` with the same parameters. -/
def groupPorts (l : List Nat) (k : Nat) (f : Nat → PortCfg) : List (Nat × PortCfg) :=
  l.flatMap fun g => (List.range (8 / k)).map fun i => (8 * g + k * i, f (8 * g + k * i))

/-- The reference appliance plan: hosts H0 to H15 in ascending port order in lane groups 8 to 11. -/
def appliancePorts : List (Nat × PortCfg) :=
  [(0, tetherPort), (8, tetherPort)] ++ groupPorts [2, 3, 4, 5, 6, 7, 12, 13] 2 (pciePort 2 2 4 0 0)
    ++ groupPorts [8, 9, 10, 11] 2 fun p => pciePort 1 2 5 1 ((p - 64) / 2) p

/-- The ports of a LANE_PROFILE; the rates of profiles 2 to 5, which the spec does not state, are the highest, without flit mode (R60). Log
entry 21. -/
def profilePorts (v : Nat) : List (Nat × PortCfg) :=
  if v = 1 then appliancePorts
  else if v = 2 then groupPorts (List.range 16) 8 (pciePort 2 4 5 0 0)
  else if v = 3 then groupPorts (List.range 8) 8 (fun _ => tetherPort) ++ groupPorts ((List.range 8).map (· + 8)) 8 (pciePort 2 4 5 0 0)
  else if v = 4 then groupPorts (List.range 16) 2 (pciePort 2 2 5 0 0)
  else if v = 5 then groupPorts (List.range 16) 1 (pciePort 2 1 5 0 0)
  else []

/-- The port that MGMT_PORT_SEL names becomes an upstream port, of H0 when that host has none; when it is no PCI Express port STRAP_CAUSE
says so (R62, R190). The host number when H0 has a port, the lowest that has none, and that the port stays downstream with STRAP_CAUSE as it
was when all 48 have one, are the model's: DESIGN CHOICE, log entry 21. -/
def State.adoptMgmt (s : State) : State :=
  let p := s.rd GLB_STRAPS_MGMT_PORT_SEL
  let cause := s.rd GLB_STRAPS_STRAP_CAUSE % 2
  if s.rd GLB_STRAPS_LANE_PROFILE = 15 then s
  else if s.rd (PRT_CFG_MODE p) = 1 then s.wr GLB_STRAPS_STRAP_CAUSE cause
  else if s.rd (PRT_CFG_MODE p) = 2 then
    match findFrom (fun h => s.rd (HOSTF_PORT h) == 0) 0 48 with
    | none => s
    | some h =>
      (s.wr GLB_STRAPS_STRAP_CAUSE cause).configPort p ⟨1, s.rd (PRT_CFG_FIRST_OFFSET p), s.rd (PRT_CFG_WIDTH p), s.rd (PRT_CFG_MAX_RATE p),
        s.rd (PRT_CFG_FLIT_ALLOWED p), s.rd (PRT_CFG_CLK_INDEP p), s.rd (PRT_CFG_L1_DEEP p), h, 0, 0⟩
  else s.wr GLB_STRAPS_STRAP_CAUSE (cause + 2)

/-- VB_COUNT of host `h` takes its default (R358). -/
def State.defaultVb (s : State) (h : Nat) : State := s.wrs [(RTE_HIER_CFG_VB_COUNT_NEXT h, 32), (RTE_HIER_CFG_VB_COUNT h, 32)]

/-- The hierarchies whose VB_COUNT has a default of 32: the host that MGMT_PORT_SEL names, and those of LANE_PROFILE 0x1 (R358). -/
def State.defaultVbs (s : State) : State :=
  let mgmt := (s.portHost (s.rd GLB_STRAPS_MGMT_PORT_SEL)).toList
  ((if s.rd GLB_STRAPS_LANE_PROFILE = 1 then idxs 48 fun h => (s.hostPort h).isSome else mgmt)).foldl State.defaultVb s

/-- The lane groups of the strap configuration powered (R122). -/
def State.strapPorts (s : State) : State :=
  let v := s.rd GLB_STRAPS_LANE_PROFILE
  ((profilePorts v).foldl (fun s e => s.configPort e.1 e.2) (s.wr GLB_STRAPS_STRAP_CAUSE (b2n (decide (6 ≤ v) && decide (v < 15))))).adoptMgmt.defaultVbs

/-- STARTUP_BEGIN: RESET_N rises with every rail in tolerance; the straps are sampled and start-up begins (R55, R122). A reset drain that
still runs completes first (R114), and a rise after the mooring trigger samples nothing; when a start-up of R116 begins again (R118) the straps
are those kept (R57). -/
def execStartupBegin (mgmtPort : BitVec 7) (bootSel : BitVec 2) (profile : BitVec 4) (head : Bool) (s : State) :
    Host.Outcome State Fault Refusal :=
  let draining := s.on SYS_DRAINING
  s.event ((draining || s.rd GLB_BOOT_STATUS_STAGE == 0) && !s.on SYS_OFF && !s.on MORX_DEAD && !s.moored
      && (decide (s.rd RETX_CAUSE ≤ 2) || (s.rd MOR_STATUS_STATE == 5 && s.rd PWR_STATUS_STATE == 0)))
    fun s =>
      let s := if s.rd RETX_CAUSE = 4 then s else s.sampleStraps mgmtPort.toNat bootSel.toNat profile.toNat (b2n head)
      if draining then s.wr RETX_ROSE 1 else s.startUp

/-- Recovery: no lane group is powered and ALERT_N is asserted (R128). -/
def State.enterRecovery (s : State) : State :=
  let s := s.forN (fun p s => if s.rd (PRT_CFG_MODE p) = 0 then s else s.leaveRole p) 128
  (s.wrs [(GLB_BOOT_STATUS_STAGE, 14), (SYS_RECOVERY, 1)]).alert

/-- SYS_PLL_REF_DETECTED: a clock is detected on pair `g`; at STAGE clocks the PLL takes the lowest-numbered pair that carries one, and the
boot ROM starts (R81, R122, R127). A choice of FIRMWARE_SELECT is consumed by a start-up that ignores it too (R920). -/
def execSysPllRefDetected (g : Fin 16) (s : State) : Host.Outcome State Fault Refusal :=
  let m := setBit (s.rd GLB_CLK_STATUS_CLKREF_DET) g
  s.event (s.rd GLB_BOOT_STATUS_STAGE == 1) fun s =>
    let s := s.wrs [(GLB_CLK_STATUS_CLKREF_DET, m), (GLB_CLK_STATUS_SYS_REF, (lowPair m).getD 0), (GLB_CLK_STATUS_SYS_PLL_LOCK, 1),
      (GLB_CLK_STATUS_DDR_PLL_LOCK, 1), (GLB_BOOT_STATUS_STAGE, 2)]
    if s.rd GLB_STRAPS_BOOT_SEL = 3 then (s.wr MGT_FLASH_STATUS_SELECT 0).enterRecovery else s.strapPorts

/-! Image selection (R126 to R128, R905, R920). -/

/-- The first-error copies placed in the error log, and the area emptied (R855, R892). -/
def State.placeFirst (s : State) : State :=
  let s := s.mooring.firstErr.foldl (fun s r => s.logRaw r) s
  { s with mooring := { s.mooring with firstErr := [] } }

/-- The image with header `l` runs: `src` 0 flash A, 1 flash B, 2 the recovery buffer (R122). -/
def State.runImage (s : State) (src : Nat) (l : List (BitVec 8)) : State :=
  let v := (headerOf l).2.2.1
  (s.wrs [(GLB_BOOT_STATUS_STAGE, 3), (SYS_FW_UP, 1), (BOOTX_FROM, src), (GLB_BOOT_STATUS_IMAGE, b2n (src == 1)),
    (PEN_FW_VERSION_PATCH, bits v 0 8), (PEN_FW_VERSION_MINOR, bits v 8 8), (PEN_FW_VERSION_MAJOR, bits v 16 8),
    (PEN_SVC_VERSION_PATCH, bits v 0 8), (PEN_SVC_VERSION_MINOR, bits v 8 8), (PEN_SVC_VERSION_MAJOR, bits v 16 8)]).startEngines.placeFirst

/-- The image of flash device `d` tried: TRIED, and its failure in FAIL. -/
def State.tryImage (s : State) (d : Nat) : State × Bool :=
  let f := s.checkFlash d
  (s.wrs (if d = 0 then [(GLB_BOOT_STATUS_A_TRIED, 1), (GLB_BOOT_STATUS_A_FAIL, f)] else [(GLB_BOOT_STATUS_B_TRIED, 1), (GLB_BOOT_STATUS_B_FAIL, f)]),
    f == 0)

/-- The image tried first (R61, R127, R920). -/
def State.firstImage (s : State) : Nat :=
  let b := s.rd GLB_STRAPS_BOOT_SEL
  let c := s.rd MGT_FLASH_STATUS_SELECT
  if b = 2 then 0 else if c ≠ 0 then c - 1 else if b = 1 then 1 else 0

/-- IMAGE_CHECKED: the load and check of the first image completes, or that of the second (R122, R126, R127). -/
def execImageChecked (s : State) : Host.Outcome State Fault Refusal :=
  s.event (s.rd GLB_BOOT_STATUS_STAGE == 2) fun s =>
    let tried := s.on GLB_BOOT_STATUS_A_TRIED || s.on GLB_BOOT_STATUS_B_TRIED
    let d := if tried then b2n (s.on GLB_BOOT_STATUS_A_TRIED) else s.firstImage
    let x := (s.wr MGT_FLASH_STATUS_SELECT 0).tryImage d
    if x.2 then x.1.runImage d (s.flashBytes d 0 16)
    else if tried || s.rd GLB_STRAPS_BOOT_SEL == 2 then x.1.enterRecovery
    else x.1

/-- SMB_RECOVERY_RUN: in recovery the buffer, with the layout of a flash image, is checked and runs when it passes (R126, R128, R904, R905). The spec
gives no JTAG instruction or step by which firmware comes over JTAG (R61, R128, R921); the model has the SMBus path alone: DESIGN CHOICE, log
entry 59. -/
def execSmbRecoveryRun (v : BitVec 8) (pecOk : Bool) (s : State) : Host.Outcome State Fault Refusal :=
  s.event s.sideUp fun s =>
    if !pecOk || v != 0x5A || !s.on SYS_RECOVERY then s.pecErr
    else
      let l := s.mgmt.recovery
      if imageCode l ((l.drop 0x1000).take (headerOf l).2.1) = 0 then ((s.wr SYS_RECOVERY 0).strapPorts.runImage 2 l).alert else s

/-! DDR4 (R550 to R561, R949). -/

/-- The DIMM in slot `i` of channel `c`; slots are numbered 2c + i. -/
def dimmAt (l : List (Option Dimm)) (c i : Nat) : Option Dimm := (l[2 * c + i]?).join

/-- DIMMs in channel `c`. -/
def dimmsIn (l : List (Option Dimm)) (c : Nat) : Nat := b2n (dimmAt l c 0).isSome + b2n (dimmAt l c 1).isSome

/-- The identities of channel `c`'s DIMMs, slot 0 in the low half. -/
def identOf (l : List (Option Dimm)) (c : Nat) : Nat :=
  (((dimmAt l c 0).map fun d => d.ident.toNat).getD 0) + (((dimmAt l c 1).map fun d => d.ident.toNat).getD 0) * 2 ^ 64

/-- A population of `n` channels with `k` DIMMs on each, slot 0 first, that are alike (R550). -/
def popFits (l : List (Option Dimm)) (n k : Nat) : Bool :=
  let on := (List.range n).map (popChannel n)
  let d0 := dimmAt l 0 0
  (List.range 8).all fun c => dimmsIn l c == (if on.contains c then k else 0) && (dimmsIn l c == 0 || (dimmAt l c 0).isSome)
    && ((dimmAt l c 0).toList ++ (dimmAt l c 1).toList).all fun d => d0.isSome && d0.any (fun x => x.lrdimm == d.lrdimm && x.size == d.size
      && x.ranks == d.ranks) && d.rated && (d.size == 16 || d.size == 32 || d.size == 64) && (d.ranks == 1 || d.ranks == 2 || d.ranks == 4)

/-- The population that the SPDs show, channels and DIMMs a channel, when it is one of R550 and of at least 32 GiB (R551, R552). -/
def population (l : List (Option Dimm)) : Option (Nat × Nat × Dimm) :=
  match dimmAt l 0 0 with
  | none => none
  | some d => (([(1, 1), (1, 2), (2, 1), (2, 2), (4, 1), (4, 2), (8, 1), (8, 2)] : List (Nat × Nat)).find? fun e =>
      popFits l e.1 e.2 && decide (32 ≤ e.1 * e.2 * d.size)).map fun e => (e.1, e.2, d)

/-- The DIMMs are those whose identities the retention SRAM holds (R556, R557). -/
def State.sameDimms (s : State) (l : List (Option Dimm)) : Bool := (List.range 8).all fun c => s.rd (CHX_SPD c) == identOf l c

/-- The contents of channel `c` are lost: its lines read poisoned until they are written whole, which goes on in the background (R949). -/
def State.loseChannel (s : State) (c : Nat) : State :=
  let cells := s.pool.cells.filter fun x => x.1 / 2 ^ 37 != c
  let poison := s.pool.poison.filter fun x => x / 2 ^ 31 != c
  let s := if s.savesOn c then s.loseSave else s
  { s with pool := { s.pool with cells := cells, poison := poison } }.wrs [(CHX_LOST c, 1), (BAL_STATUS_INIT_BUSY, 1)]

/-- Channel `c` restores its saved parameters, or trains fully, or fails (R558, R559). -/
def State.trainChannel (s : State) (restored trained : BitVec 8) (kept : Bool) (c : Nat) : State :=
  if s.on (CHX_SAVED c) && restored.getLsbD c then s.wrs [(BAL_CH_STATUS_STATE c, 2), (BAL_CH_STATUS_RESTORED c, 1)]
  else
    let s := s.wr GLB_BOOT_STATUS_DDR_FULL_TRAIN 1
    if trained.getLsbD c then
      let s := s.wrs [(BAL_CH_STATUS_STATE c, 2), (CHX_SAVED c, 1)]
      if kept then s.loseChannel c else s
    else
      let s := if s.savesOn c then s.loseSave else s
      (s.wr (CHX_SAVED c) 0).failChannel c 1

/-- DDR_BRINGUP_DONE: the SPDs of the sixteen slots, and the channels on which the restore and the full training succeed (R122, R552, R556 to
R561, R949). The contents are kept when they were held, the DIMMs are the same, and some channel restores. -/
def execDdrBringupDone (dimms : List (Option Dimm)) (restored trained : BitVec 8) (s : State) : Host.Outcome State Fault Refusal :=
  s.event (s.rd GLB_BOOT_STATUS_STAGE == 3 || s.rd GLB_BOOT_STATUS_STAGE == 4) fun s =>
    let s := s.wr GLB_BOOT_STATUS_STAGE 5
    match population dimms with
    | none =>
      ({ s with pool := { s.pool with cells := [], poison := [] } }).wrs [(BAL_STATUS_N, 0), (BAL_STATUS_W, 0), (BAL_STATUS_CAPACITY, 0),
        (BAL_STATUS_POP_ERR, 1), (BAL_STATUS_INIT_BUSY, 0), (GLB_RESET_CAUSE_POOL_PRESERVED, 0), (RETX_KEPT, 0)]
    | some (n, k, d) =>
      let same := s.sameDimms dimms
      let on := (List.range n).map (popChannel n)
      let kept := s.on RETX_KEPT && same && on.any fun c => s.on (CHX_SAVED c) && restored.getLsbD c
      let s := if same then s else s.forN (fun c s => s.wr (CHX_SAVED c) 0) 8
      let s := if kept then s else (s.zeroPool).wr BAL_STATUS_W n
      let s := s.wrs [(BAL_STATUS_N, n), (BAL_STATUS_POP_ERR, 0), (BAL_STATUS_LRDIMM, b2n d.lrdimm), (BAL_STATUS_DIMMS_PER_CH, k),
        (BAL_STATUS_DIMM_SIZE, if d.size = 16 then 1 else if d.size = 32 then 2 else 3), (BAL_STATUS_RANKS, d.ranks),
        (BAL_STATUS_CAPACITY, n * k * d.size), (GLB_RESET_CAUSE_POOL_PRESERVED, b2n kept), (RETX_KEPT, 1)]
      let s := s.forN (fun c s => s.wrs [(CHX_SPD c, identOf dimms c), (CALX_ZQ c, s.now), (CALX_DQS c, s.now)]) 8
      on.foldl (fun s c => s.trainChannel restored trained kept c) s

/-! The flash configuration (R914 to R918). -/

/-- The configuration region of flash device `d`: its header and commands, when MAGIC, the count and the CRC-32C are right (R916, R917). -/
def State.configOf (s : State) (d : Nat) : Option (List (BitVec 8) × List (BitVec 512)) :=
  let h := s.flashBytes d 0x1000000 64
  let n := at_ h 4 4
  if at_ h 0 4 = 0x47464E43 ∧ n ≤ 16383 then
    let b := s.flashBytes d 0x1000040 (64 * n)
    if crc32c b = at_ h 8 4 then some (h, (List.range n).map fun i => BitVec.ofNat 512 (at_ b (64 * i) 64)) else none
  else none

/-- A byte or field of the header, with the default that a zero is taken as. -/
def orDefault (v d : Nat) : Nat := if v = 0 then d else v

/-- What the header sets: feeds in use, sense resistors and subsystem IDs; with no valid region `h` is empty, and the defaults hold (R916). -/
def State.putHeader (s : State) (h : List (BitVec 8)) : State :=
  let s := s.wrs [(LIFTX_MASK, orDefault (at_ h 12 1 % 4) 3), (LIFTX_SENSE_A, orDefault (at_ h 13 1) 10), (LIFTX_SENSE_B, orDefault (at_ h 14 1) 10),
    (CFGX_SSVID, orDefault (at_ h 16 2) 0x1F3C), (CFGX_SSID, orDefault (at_ h 18 2) 1)]
  s.forN (fun c s => s.wr (PDI_SC_CFG_SENSE c) (orDefault (at_ h (20 + c) 1) 25)) 32

/-- CONFIG_APPLIED: the tables of a kept pool are restored, unless a restore from the drives is to come, the domains come from the retention
SRAM, and the commands are replayed (R62, R447, R481, R770, R890, R917, R918). -/
def execConfigApplied (s : State) : Host.Outcome State Fault Refusal :=
  s.event (s.rd GLB_BOOT_STATUS_STAGE == 5 && !s.on GLB_BOOT_STATUS_CONFIG_APPLIED) fun s =>
    let d := b2n (s.rd BOOTX_FROM == 1)
    let kept := s.on GLB_RESET_CAUSE_POOL_PRESERVED && !s.on MOR_STATUS_RESTORE_INCOMPLETE
    let s := if kept then s.activateSaved.restoreGonds else s
    let s := s.restoreDomains.restoreMirrors
    let c := s.configOf d
    let s := (s.putHeader ((c.map fun x => x.1).getD [])).wrs [(MGT_FLASH_STATUS_CONFIG_DEVICE, d), (MGT_FLASH_STATUS_CONFIG_ERR, b2n c.isNone),
      (MGT_FLASH_STATUS_CMD_FAILED, 0)]
    (((s.replay kept ((c.map fun x => x.2).getD [])).forN (fun p s => s.startList p) 128).adoptMgmt).wr GLB_BOOT_STATUS_CONFIG_APPLIED 1

/-! READY (R122, R124, R129, R214, R359, R718, R792, R851, R880, R890, R896). -/

/-- The handles that a mooring recorded are valid again until 60 s after READY, with final state CANCELLED (R718). -/
def State.recallHandles (s : State) : State :=
  if 3 ≤ s.rd RETX_CAUSE then
    let l := s.mooring.handles.map fun h : MorHandle =>
      Op.mk h.handle h.opcode ⟨.mgmt, 0, 0, 0⟩ h.issuer 0 0 0 0 0 false (some stCancelled) s.now true true false false
    (s.setOps (s.ops ++ l)).wr READYX_AREA (b2n (!l.isEmpty))
  else { s with mooring := { s.mooring with handles := [] } }

/-- Host `h`'s hierarchy leaves the reset that start-up holds it in, with the values set last (R214, R359). -/
def State.freeHier (s : State) (h : Nat) : State := if (s.hostPort h).isSome then (s.resetConfig h).holdView h else s

/-- The spill drives get power when there is an image to restore, or a mooring to resume from spilled (R880, R888). -/
def State.powerDrives (s : State) : State := (s.scRequest 30 1).1.scRequest 31 1 |>.1

/-- The resume after a cold start: RESTORING, unless no spill drives are named, and then there is no image (R851, R885, R890). -/
def State.beginRestore (s : State) : State :=
  let s := { s with mooring := { s.mooring with header := [] } }
  if s.on RETX_RESTORE_DUE then
    if s.on MOR_CFG_TARGET_EN then (s.wrs [(MOR_STATUS_STATE, 6), (MOR_STATUS_RESTORE_INCOMPLETE, 1), (RETX_RESTORE_DUE, 0)]).powerDrives
    else s.noRestore 4 0
  else if s.on MOR_STATUS_RESTORE_INCOMPLETE || (s.rd MOR_STATUS_STATE == 5 && s.on RETX_SPILLED) then s.powerDrives
  else s

/-- READY: configuration requests complete normally from now on. -/
def execReady (s : State) : Host.Outcome State Fault Refusal :=
  s.event (s.rd GLB_BOOT_STATUS_STAGE == 5 && s.on GLB_BOOT_STATUS_CONFIG_APPLIED) fun s =>
    let s := s.wrs [(GLB_BOOT_STATUS_STAGE, 6), (READYX_AT, s.now), (RETX_FROZEN, 0)]
    let s := match s.portHost (s.rd GLB_STRAPS_MGMT_PORT_SEL) with
      | some h => if s.rd GLB_STRAPS_LANE_PROFILE = 15 then s else s.setMgmt h false
      | none => s
    let s := if s.on GLB_STRAPS_CHAIN_HEAD then s.takeIdentity 0 1 else s
    let s := s.recallHandles.forN (fun h s => s.freeHier h) 48
    let s := if s.rd RETX_CAUSE = 2 then s.lastWake (s.rd RETX_SOURCE) (s.rd RETX_FROM) 0 else s
    s.beginRestore.autoResyncs

end Sys2Proof.Machine
end

