-- ==== Sys2Proof/Machine/CfgSpace.lean ====
section
/-! DEFINITION. Configuration requests of a host (R1, R124, R205, R206, R210 to R215, R222, R360 to R362, R367 to R369, R373): function 0 and
function 1 of its upstream port, its virtual bridges, and what goes below a bridge. The places of the fields inside a register are the
PCI Express standard's, PRESUMED; a bit that the spec does not give reads as a free value. Log entry 22. -/

namespace Sys2Proof.Machine

/-! Bytes of a write. -/

/-- The bits of the bytes that a write enables. -/
def enabled (be : Nat) : Nat := (List.range 4).foldl (fun n i => if bitSet be i then n + 0xFF * 2 ^ (8 * i) else n) 0

/-- `old` with the enabled bytes of `v`. -/
def merge (old v be : Nat) : Nat := ((old ^^^ v) &&& enabled be) ^^^ old

/-- A field written from bit `lo` of a register on, when the write enables the byte that holds that bit. -/
def State.put (s : State) (f : Fld) (v be lo : Nat) : State := s.wr f (merge (s.rd f * 2 ^ lo) v be / 2 ^ lo)

/-- Bits that a write of 1 clears. -/
def State.w1c (s : State) (f : Fld) (v be : Nat) : State := s.wr f (s.rd f - (s.rd f &&& v &&& enabled be))

/-! Reads. -/

/-- A configuration completion: Configuration Request Retry Status. -/
def cplCRS : Nat := 2

/-- What the spec says of a register's 32 bits: their value, and the bits it says something of. -/
structure CfgVal where
  value : Nat
  known : Nat

/-- All 32 bits are known. -/
def CfgVal.full (v : Nat) : CfgVal := ⟨v % 2 ^ 32, 2 ^ 32 - 1⟩

/-- Nothing is said. -/
def CfgVal.open_ : CfgVal := ⟨0, 0⟩

/-- The named register of function 1 at a dword of its configuration space: the standard's header and the capabilities at R211's offsets. -/
def f1Home : CfgReg → CfgReg
  | .other n =>
    if n.val = 0 then .ident else if n.val = 1 then .command else if n.val = 2 then .classRev else if n.val = 3 then .header
    else if h : 4 ≤ n.val ∧ n.val ≤ 9 then .bar ⟨n.val - 4, by omega⟩
    else if n.val = 11 then .subsystem else if n.val = 12 then .rom else if n.val = 13 then .capPtr else if n.val = 15 then .bridgeControl
    else if n.val = 16 then .pmCap else if n.val = 17 then .pmCsr else if n.val = 20 then .msixControl else if n.val = 21 then .msixTable
    else if n.val = 22 then .msixPba else if n.val = 24 then .pcieCap else if n.val = 25 then .devCap else if n.val = 26 then .devCtl
    else if n.val = 27 then .linkCap else if n.val = 28 then .linkSta else if n.val = 33 then .devCap2 else if n.val = 34 then .devCtl2
    else if n.val = 64 then .capHead 3 else if n.val = 65 then .aerUncSta else if n.val = 66 then .aerUncMask else if n.val = 67 then .aerUncSev
    else if n.val = 68 then .aerCorSta else if n.val = 69 then .aerCorMask else if n.val = 70 then .aerCtl
    else if h : 71 ≤ n.val ∧ n.val ≤ 74 then .aerHdr ⟨n.val - 71, by omega⟩
    else if n.val = 82 then .capHead 4 else if n.val = 83 then .serial false else if n.val = 84 then .serial true
    else if n.val = 86 then .capHead 5 else if n.val = 87 then .pasidCap else if n.val = 90 then .capHead 6 else if n.val = 91 then .devCap3
    else if n.val = 92 then .devCtl3 else if n.val = 96 then .capHead 7 else if n.val = 97 then .capHead 8 else if n.val = 98 then .vsec false
    else if n.val = 99 then .vsec true else .other n
  | r => r

/-- The heads of function 1's capabilities from the third on: IDs, and next pointers in R211's order; the ninth is the VSEC header. -/
def f1Head (k : Nat) : CfgVal :=
  match k with
  | 3 => ⟨0x14800001, 0xFFF0FFFF⟩
  | 4 => ⟨0x15800003, 0xFFF0FFFF⟩
  | 5 => ⟨0x1680001B, 0xFFF0FFFF⟩
  | 6 => ⟨0x1800002F, 0xFFF0FFFF⟩
  | 7 => ⟨0x0B, 0xFFF0FFFF⟩
  | 8 => ⟨0x00010001, 0xFFFFF⟩
  | _ => .open_

/-- The heads of function 0's capabilities in R212's order: AER, Serial Number, Secondary PCI Express, Data Link Feature, Physical Layer 16,
32 and 64 GT/s, Lane Margining, Flit Logging, Multicast, PTM and Device 3; the spec gives no pointer but the last one's end. -/
def f0Head (k : Nat) : CfgVal :=
  match k with
  | 2 => ⟨0x01, 0xFFFF⟩
  | 3 => ⟨0x03, 0xFFFF⟩
  | 4 => ⟨0x19, 0xFFFF⟩
  | 5 => ⟨0x25, 0xFFFF⟩
  | 6 => ⟨0x26, 0xFFFF⟩
  | 7 => ⟨0x2A, 0xFFFF⟩
  | 8 => ⟨0x31, 0xFFFF⟩
  | 9 => ⟨0x27, 0xFFFF⟩
  | 10 => ⟨0x32, 0xFFFF⟩
  | 11 => ⟨0x12, 0xFFFF⟩
  | 12 => ⟨0x1F, 0xFFFF⟩
  | 13 => ⟨0x2F, 0xFFF0FFFF⟩
  | _ => .open_

/-- Link Capabilities of port `p`: ASPM L0s and L1, exit latencies 256 to 512 ns and 2 to 4 µs, or 16 to 32 µs with L1_DEEP, no clock power
management, and Data Link Layer Link Active Reporting of a downstream port (R195). -/
def State.linkCapOf (s : State) (p : Nat) (down : Bool) : CfgVal :=
  ⟨2 ^ s.rd (PRT_CFG_WIDTH p) * 2 ^ 4 + 3 * 2 ^ 10 + 3 * 2 ^ 12 + (if s.on (PRT_CFG_L1_DEEP p) then 5 else 2) * 2 ^ 15 + b2n down * 2 ^ 20,
    0x17FFF0⟩

/-- Link Control and Status of port `p`: ASPM Control, speed, width and, of a downstream port, Data Link Layer Link Active (R194, R195). -/
def State.linkStaOf (s : State) (p : Nat) (act : Nat) : CfgVal :=
  ⟨s.rd (PRTX_ASPM p) + (if s.on (PRT_LINK_STATUS_DL_ACTIVE p) then (s.rd (PRT_LINK_STATUS_RATE p) + 1) * 2 ^ 16
    + s.rd (PRT_LINK_STATUS_WIDTH p) * 2 ^ 20 else 0) + act * 2 ^ 29,
    (if s.on (PRT_LINK_STATUS_DL_ACTIVE p) then 0x3FF0003 else 3) + 2 ^ 29⟩

/-- Device Capabilities 2 of a bridge: AtomicOp routing, 10-bit tags, no LTR, TPH or OBFF, and ARI Forwarding of a downstream port (R195). -/
def bridgeCap2 (down : Bool) : CfgVal := ⟨0x30040 + 0x20 * b2n down, 0xF3860⟩

/-- The physical lane of logical lane `i` of port `p`. -/
def State.laneOf (s : State) (p i : Nat) : Nat := s.physLane p (s.on (PRT_LINK_STATUS_REVERSED p)) i % 256

/-- Margining Lane Control and Status of logical lane `i` of port `p` (R157). -/
def State.marginVal (s : State) (p i : Nat) : CfgVal :=
  .full (s.rd (MRGX_CTL (s.laneOf p i)) + s.rd (MRGX_STS (s.laneOf p i)) * 2 ^ 16)

/-- What a lane answers to a margin command, payload `v`: the report of its capabilities, or the acceptance of a step within 32 steps of
1/64 UI, ±0.5 UI, or 40 steps of 5 mV, ±200 mV. The coding of commands and answers is the PCI Express standard's, PRESUMED; the errors that a step
counts are a free value. Log entry 62. -/
def marginAnswer (kind v errs : Nat) : Nat :=
  if kind = 1 then
    if v = 0x89 then 40 else if v = 0x8A then 32 else if v = 0x8B then 50 else if v = 0x8C then 20 else errs % 256
  else if kind = 3 then (if v % 64 ≤ 32 then 0x80 + errs % 64 else 0xC0)
  else if kind = 4 then (if v % 128 ≤ 40 then 0x80 + errs % 64 else 0xC0)
  else v

/-- A margin command written to logical lane `i` of port `p`: it is carried out in L0 at 16 GT/s and above (R157, R194). -/
def State.putMargin (s : State) (p i v be : Nat) : State :=
  let l := s.laneOf p i
  let s := s.put (MRGX_CTL l) v be 0
  let c := s.rd (MRGX_CTL l)
  if s.rd (PRT_LINK_STATUS_LTSSM p) = 3 ∧ 3 ≤ s.rd (PRT_LINK_STATUS_RATE p) ∧ i < s.rd (PRT_LINK_STATUS_WIDTH p) then
    s.takeFree.wr (MRGX_STS l) (c % 256 + marginAnswer (c / 8 % 8) (c / 256) s.freeVal * 256)
  else s

/-- The Base Address Registers of function 1: low bits of the type, base and log2 of the size; 0 for one that is not implemented (R213,
R215). -/
def State.bar1 (s : State) (h i : Nat) : Fld × Nat × Nat :=
  if i / 2 = 0 then (HOSTF_BAR0 h, 4, 25) else if i / 2 = 1 then (HOSTF_BAR2 h, 12, s.rd (BAL_APERTURE_SIZE_LOG2 h)) else (HOSTF_BAR4 h, 4, 22)

/-- A BAR of function 1 as read. -/
def State.readBar (s : State) (h i : Nat) : Nat :=
  let b := s.bar1 h i
  if b.2.2 = 0 then 0 else if i % 2 = 1 then s.rd b.1 / 2 ^ 32 else s.rd b.1 % 2 ^ 32 + b.2.1

/-- The subsystem IDs of a register (R210, R916). -/
def State.subsystem (s : State) : Nat := s.rd CFGX_SSVID + s.rd CFGX_SSID * 2 ^ 16

/-- A register of function 1 of host `h` (R210 to R213, R218, R220, R222). -/
def State.readF1 (s : State) (h : Nat) : CfgReg → CfgVal
  | .ident => .full 0x52561F3C
  | .command => ⟨2 * s.rd (HOSTF_MSE h) + 4 * s.rd (HOSTF_BME h), 6⟩
  | .classRev => .full 0x05800011
  | .header => ⟨0, 0xFF0000⟩
  | .bar i => .full (s.readBar h i)
  | .subsystem => .full s.subsystem
  | .bridgeControl => ⟨0, 0xFF00⟩
  | .pmCsr => ⟨s.rd (HOSTF_PM h) + 8 + s.rd (HOSTF_PMEEN h) * 2 ^ 8 + s.rd (HOSTF_PMESTAT h) * 2 ^ 15, 0x810B⟩
  | .msixControl => ⟨0x6011 + (0x7FF + s.rd (HOSTF_MSIXMASK h) * 2 ^ 14 + s.rd (HOSTF_MSIXEN h) * 2 ^ 15) * 2 ^ 16, 0xC7FFFFFF⟩
  | .msixTable => .full (0x1008000 + 0x10000 * h)
  | .msixPba => .full (0x1005000 + 0x10000 * h)
  | .capPtr => ⟨0x40, 0xFF⟩
  | .pmCap => ⟨0xC8005001, 0xFFC0FFFF⟩
  | .pcieCap => ⟨0x10, 0xF0FFFF⟩
  | .aerCtl => ⟨0xA0 + s.rd (BFX_FEP (f1Bank h)) + bit (s.rd (BFX_ECRC (f1Bank h))) 0 * 2 ^ 6 + bit (s.rd (BFX_ECRC (f1Bank h))) 1 * 2 ^ 8, 0x1FF⟩
  | .linkCap => match s.hostPort h with
    | some p => s.linkCapOf p false
    | none => .open_
  | .linkSta => match s.hostPort h with
    | some p => ⟨(s.linkStaOf p 0).value / 4 * 4 + s.rd (BFX_ASPM (f1Bank h)), (s.linkStaOf p 0).known⟩
    | none => .open_
  | .devCap => ⟨0x8022, 0x10008027⟩
  | .devCap2 => ⟨0x30387, 0xF3B9F⟩
  | .pasidCap => ⟨0x1400, 0x1F06⟩
  | .devCap3 => ⟨6, 0xE⟩
  | .capHead k => f1Head k
  | .devCtl => ⟨s.rd (HOSTF_DEVCTL h) + s.rd (HOSTF_MPS h) * 2 ^ 5 + s.rd (HOSTF_MRRS h) * 2 ^ 12, 0xF0EF⟩
  | .devCtl2 => ⟨s.rd (HOSTF_CTOV h) + s.rd (HOSTF_TAG10 h) * 2 ^ 12, 0x100F⟩
  | .devCtl3 => ⟨s.rd (HOSTF_TAG14 h) * 4, 4⟩
  | .aerUncSta => .full (s.rd (HOSTF_AER_UNC h))
  | .aerUncMask => .full (s.rd (HOSTF_AER_UNCMASK h))
  | .aerUncSev => .full (s.rd (HOSTF_AER_UNCSEV h))
  | .aerCorSta => .full (s.rd (HOSTF_AER_COR h))
  | .aerCorMask => .full (s.rd (HOSTF_AER_CORMASK h))
  | .aerHdr i => .full (s.rd (HOSTF_AER_HDR h) / 2 ^ (32 * i.val))
  | .serial hi => .full (if hi then Config.serial.toNat / 2 ^ 32 else Config.serial.toNat)
  | .vsec false => .full s.fwVersion
  | .vsec true => ⟨s.rd MGT_NODE_ID_NODE_ID, 0x3F⟩
  | .rom | .vfBar _ | .busNumbers | .memWindow | .prefWindow | .prefBaseUpper | .prefLimitUpper | .slotCap | .slotCtl | .dpcCtl
  | .dpcStatus | .acsCtl | .egress _ | .ptmCtl | .mcCap | .mcReg _ _ | .ptmCap | .margin _ | .other _ => .open_

/-- The registers that function 0 and the virtual bridges share, bank `b`: power management, error reporting, Device Control 2, AER and Multicast
(R195, R212, R360). -/
def State.readBank (s : State) (b : Nat) : CfgReg → CfgVal
  | .pmCsr => ⟨s.rd (BFX_PM b) + s.rd (BFX_PMEEN b) * 2 ^ 8, 0x103⟩
  | .devCtl2 => ⟨s.rd (BFX_CTL2 b), 0xFFFF⟩
  | .aerUncSta => .full (s.rd (BFX_UNC b))
  | .aerUncMask => .full (s.rd (BFX_UNCMASK b))
  | .aerUncSev => .full (s.rd (BFX_UNCSEV b))
  | .aerCorSta => .full (s.rd (BFX_COR b))
  | .aerCorMask => .full (s.rd (BFX_CORMASK b))
  | .aerHdr i => .full (s.rd (BFX_HDR b) / 2 ^ (32 * i.val))
  | .aerCtl => ⟨s.rd (BFX_FEP b), 0x1FF⟩
  | .mcCap => ⟨63 + s.rd (BFX_MCCTL b) * 2 ^ 16, 0xFFFF003F⟩
  | .mcReg i hi => .full (if hi then s.rd (BFX_MC b i) / 2 ^ 32 else s.rd (BFX_MC b i))
  | _ => .open_

/-- A register of function 0 of host `h`, whose upstream port is `p` (R210, R212, R360). -/
def State.readF0 (s : State) (h p : Nat) (r : CfgReg) : CfgVal :=
  match r with
  | .ident => .full 0x52501F3C
  | .command => ⟨s.rd (HF0_CMD h), 0xFFFF⟩
  | .classRev => .full 0x06040011
  | .header => ⟨0x810000, 0xFF0000⟩
  | .subsystem => .full s.subsystem
  | .busNumbers => ⟨s.rd (RTE_HIER_BUS_PRI_BUS h) + s.rd (RTE_HIER_BUS_SEC_BUS h) * 2 ^ 8 + s.rd (RTE_HIER_BUS_SUB_BUS h) * 2 ^ 16, 0xFFFFFF⟩
  | .memWindow => .full (s.rd (HF0_MEMW h))
  | .prefWindow => .full (s.rd (HF0_PREFW h))
  | .prefBaseUpper => .full (s.rd (HF0_PREFBU h))
  | .prefLimitUpper => .full (s.rd (HF0_PREFLU h))
  | .bridgeControl => ⟨s.rd (HF0_BCTL h) * 2 ^ 16, 0xFFFFFF00⟩
  | .devCtl => ⟨s.rd (BFX_DEVCTL (f0Bank h)) + s.rd (PRTX_MPS p) * 2 ^ 5, 0xEF⟩
  | .ptmCtl => ⟨s.rd (PRTX_PTM p), 1⟩
  | .serial hi => .full (if hi then Config.serial.toNat / 2 ^ 32 else Config.serial.toNat)
  | .capPtr => ⟨0x40, 0xFF⟩
  | .pmCap => ⟨0x01, 0x060000FF⟩
  | .pcieCap => ⟨0x500010, 0x1F000FF⟩
  | .devCap => ⟨2, 7⟩
  | .devCap2 => bridgeCap2 false
  | .linkCap => s.linkCapOf p false
  | .linkSta => s.linkStaOf p 0
  | .devCap3 => ⟨6, 0xE⟩
  | .ptmCap => ⟨0x206, 0xFF06⟩
  | .capHead k => f0Head k
  | .margin i => s.marginVal p i
  | .pmCsr | .devCtl2 | .aerUncSta | .aerUncMask | .aerUncSev | .aerCorSta | .aerCorMask | .aerHdr _ | .aerCtl | .mcCap | .mcReg _ _ =>
    s.readBank (f0Bank h) r
  | .bar _ | .rom | .vfBar _ | .msixControl | .devCtl3 | .slotCap | .slotCtl | .dpcCtl | .dpcStatus | .acsCtl
  | .egress _ | .vsec _ | .msixTable | .msixPba | .pasidCap | .other _ => .open_

/-- The port of position `k` when its binding is exclusive: its host alone drives it. -/
def State.ownPort (s : State) (k : Nat) : Option Nat :=
  if s.on (POS_BOUND k) && !s.on (POS_SHARED k) && !s.on (POS_UNBINDING k) then some (s.rd (POS_PORT k)) else none

/-- A register of the virtual bridge at position `k` (R205, R206, R210, R360, R361, R394, R533, R534). Its class and revision are those of
function 0, PRESUMED. -/
def State.readVb (s : State) (k : Nat) (r : CfgReg) : CfgVal :=
  match r with
  | .ident => .full 0x52511F3C
  | .command => ⟨s.rd (POSX_CMD k), 0xFFFF⟩
  | .classRev => .full 0x06040011
  | .header => ⟨0x010000, 0x7F0000⟩
  | .busNumbers => ⟨s.rd (POSX_PRI k) + s.rd (POS_SEC_BUS k) * 2 ^ 8 + s.rd (POS_SUB_BUS k) * 2 ^ 16, 0xFFFFFF⟩
  | .memWindow => .full (s.rd (POSX_MEMW k))
  | .prefWindow => .full (s.rd (POSX_PREFW k))
  | .prefBaseUpper => .full (s.rd (POSX_PREFBU k))
  | .prefLimitUpper => .full (s.rd (POSX_PREFLU k))
  | .bridgeControl => ⟨s.rd (POSX_BCTL k) * 2 ^ 16, 0xFFFF0000⟩
  | .devCtl => match s.ownPort k with
    | some p => ⟨s.rd (BFX_DEVCTL (vbBank k)) + s.rd (PRTX_MPS p) * 2 ^ 5, 0xEF⟩
    | none => ⟨s.rd (BFX_DEVCTL (vbBank k)), 15⟩
  | .slotCap => match s.ownPort k with
    | some p => if s.slotOwned p then ⟨0x5B, 0x7B⟩ else ⟨0, 0x40⟩
    | none => ⟨0, 0x40⟩
  | .slotCtl => match s.ownPort k with
    | some p => if s.slotOwned p then .full (s.rd (SLTX_CTL p) + s.rd (SLTX_STS p) * 2 ^ 16) else .open_
    | none => .open_
  | .linkSta => match s.ownPort k with
    | some p => s.linkStaOf p (s.rd (POS_LINK_ACTIVE k))
    | none => ⟨s.rd (POS_LINK_ACTIVE k) * 2 ^ 29, 2 ^ 29⟩
  | .pcieCap => ⟨0x600010 + (if s.on (POS_BOUND k) && s.on (PRT_CFG_SLOT_VALID (s.rd (POS_PORT k))) then 2 ^ 24 else 0), 0x1F000FF⟩
  | .pmCap => ⟨0x01, 0x060000FF⟩
  | .devCap => ⟨2, 7⟩
  | .devCap2 => bridgeCap2 true
  | .linkCap => match s.ownPort k with
    | some p => s.linkCapOf p true
    | none => ⟨2 ^ 20, 2 ^ 20⟩
  | .devCap3 => ⟨6, 0xE⟩
  | .ptmCap => ⟨0x206, 0xFF06⟩
  | .margin i => match s.ownPort k with
    | some p => s.marginVal p i
    | none => .open_
  | .dpcCtl => ⟨0x80 + s.rd (POSX_DPCCTL k) * 2 ^ 16, 0x700A0⟩
  | .dpcStatus => if s.on (POS_BOUND k) then
      ⟨s.rd (PRTX_DPC_STATUS (s.rd (POS_PORT k))) + s.rd (PRTX_DPC_REASON (s.rd (POS_PORT k))) * 2, 7⟩ else .open_
  | .acsCtl => ⟨0x807F + s.rd (POSX_ACS k) * 2 ^ 16, 0xFFFFFFFF⟩
  | .egress i => .full (s.rd (POSX_EGR k) / 2 ^ (32 * i.val))
  | .ptmCtl => match s.ownPort k with
    | some p => ⟨s.rd (PRTX_PTM p), 1⟩
    | none => .open_
  | .pmCsr | .devCtl2 | .aerUncSta | .aerUncMask | .aerUncSev | .aerCorSta | .aerCorMask | .aerHdr _ | .aerCtl | .mcCap | .mcReg _ _ =>
    s.readBank (vbBank k) r
  | .subsystem | .bar _ | .rom | .vfBar _ | .msixControl | .devCtl3
  | .serial _ | .vsec _ | .capPtr | .msixTable | .msixPba | .pasidCap | .capHead _ | .other _ => .open_

/-! Writes. -/

/-- Function 1's power state written: 3 D3hot, 0 D0; D1 and D2 are not supported (R211, R218, R219). -/
def State.putPower (s : State) (h v : Nat) : State := if v = 3 then s.enterD3 h else if v = 0 then s.leaveD3 h else s

/-- A BAR of function 1 written: the bits below its size stay 0 (R213, R215). -/
def State.putBar (s : State) (h i v be : Nat) : State :=
  let b := s.bar1 h i
  if b.2.2 = 0 then s
  else
    let old := s.rd b.1
    let x := merge (if i % 2 = 1 then old / 2 ^ 32 else old % 2 ^ 32) v be
    let w := if i % 2 = 1 then old % 2 ^ 32 + x * 2 ^ 32 else old / 2 ^ 32 * 2 ^ 32 + x
    s.wr b.1 (w / 2 ^ b.2.2 * 2 ^ b.2.2)

/-- A write to a register of function 1 (R202, R203, R211, R217 to R228). -/
def State.writeF1 (s : State) (h v be : Nat) : CfgReg → State
  | .command => if bitSet be 0 then ((s.wr (HOSTF_MSE h) (bit v 1)).hostView h).setBme h (bitSet v 2) else s
  | .bar i => s.putBar h i v be
  | .pmCsr =>
    let s := if bitSet be 1 then
        let t := s.wr (HOSTF_PMEEN h) (bit v 8)
        (if bitSet v 15 then (t.wr (HOSTF_PMESTAT h) 0).releaseWake h else t).hostView h
      else s
    if bitSet be 0 then s.putPower h (v % 4) else s
  | .msixControl => if bitSet be 3 then (s.wrs [(HOSTF_MSIXMASK h, bit v 30), (HOSTF_MSIXEN h, bit v 31)]).flushMsix h else s
  | .devCtl => ((s.put (HOSTF_DEVCTL h) v be 0).put (HOSTF_MPS h) v be 5).put (HOSTF_MRRS h) v be 12
  | .devCtl2 => (s.put (HOSTF_CTOV h) v be 0).put (HOSTF_TAG10 h) v be 12
  | .devCtl3 => s.put (HOSTF_TAG14 h) v be 2
  | .aerUncSta => s.w1c (HOSTF_AER_UNC h) v be
  | .aerUncMask => s.put (HOSTF_AER_UNCMASK h) v be 0
  | .aerUncSev => s.put (HOSTF_AER_UNCSEV h) v be 0
  | .aerCorSta => s.w1c (HOSTF_AER_COR h) v be
  | .aerCorMask => s.put (HOSTF_AER_CORMASK h) v be 0
  | .aerCtl =>
    let on := fun (k old : Nat) => if bitSet be (k / 8) then bit v k else old
    s.wr (BFX_ECRC (f1Bank h)) (on 6 (bit (s.rd (BFX_ECRC (f1Bank h))) 0) + 2 * on 8 (bit (s.rd (BFX_ECRC (f1Bank h))) 1))
  | .linkSta => s.put (BFX_ASPM (f1Bank h)) v be 0
  | .ident | .classRev | .header | .rom | .vfBar _ | .subsystem | .busNumbers | .memWindow | .prefWindow | .prefBaseUpper | .prefLimitUpper
  | .bridgeControl | .slotCap | .slotCtl | .dpcCtl | .dpcStatus | .acsCtl | .egress _ | .aerHdr _ | .ptmCtl | .serial _ | .vsec _
  | .capPtr | .pmCap | .msixTable | .msixPba | .pcieCap | .devCap | .devCap2 | .linkCap | .pasidCap | .devCap3 | .mcCap | .mcReg _ _ | .ptmCap | .capHead _
  | .margin _ | .other _ => s

/-- A write to a register that function 0 and the virtual bridges share, bank `b` (R195, R212, R360); D1 and D2 are not supported. -/
def State.writeBank (s : State) (b v be : Nat) : CfgReg → State
  | .pmCsr =>
    let s := s.put (BFX_PMEEN b) v be 8
    if bitSet be 0 ∧ (v % 4 = 0 ∨ v % 4 = 3) then s.wr (BFX_PM b) (v % 4) else s
  | .devCtl => s.put (BFX_DEVCTL b) v be 0
  | .devCtl2 => s.put (BFX_CTL2 b) v be 0
  | .aerUncSta => s.w1c (BFX_UNC b) v be
  | .aerUncMask => s.put (BFX_UNCMASK b) v be 0
  | .aerUncSev => s.put (BFX_UNCSEV b) v be 0
  | .aerCorSta => s.w1c (BFX_COR b) v be
  | .aerCorMask => s.put (BFX_CORMASK b) v be 0
  | .mcCap => s.put (BFX_MCCTL b) v be 16
  | .mcReg i hi =>
    let lo := if hi then 32 else 0
    s.wr (BFX_MC b i) (putBits (s.rd (BFX_MC b i)) lo 32 (merge (bits (s.rd (BFX_MC b i)) lo 32) v be))
  | _ => s

/-- A write to a register of function 0 of host `h`, whose upstream port is `p` (R230, R360, R363). -/
def State.writeF0 (s : State) (h p v be : Nat) (r : CfgReg) : State :=
  match r with
  | .command =>
    let t := s.put (HF0_CMD h) v be 0
    (t.wr (HOSTF_F0BME h) (bit (t.rd (HF0_CMD h)) 2)).hostView h
  | .busNumbers => ((s.put (RTE_HIER_BUS_PRI_BUS h) v be 0).put (RTE_HIER_BUS_SEC_BUS h) v be 8).put (RTE_HIER_BUS_SUB_BUS h) v be 16
  | .memWindow => s.put (HF0_MEMW h) v be 0
  | .prefWindow => s.put (HF0_PREFW h) v be 0
  | .prefBaseUpper => s.put (HF0_PREFBU h) v be 0
  | .prefLimitUpper => s.put (HF0_PREFLU h) v be 0
  | .bridgeControl =>
    let t := s.put (HF0_BCTL h) v be 16
    let on := bitSet (t.rd (HF0_BCTL h)) 6
    if bitSet (s.rd (HF0_BCTL h)) 6 = on then t else t.forN (fun v s => s.resetPos (posIdx h v) on) 32
  | .devCtl => (s.writeBank (f0Bank h) v be .devCtl).put (PRTX_MPS p) v be 5
  | .ptmCtl => s.put (PRTX_PTM p) v be 0
  | .linkSta => s.put (PRTX_ASPM p) v be 0
  | .margin i => s.putMargin p i v be
  | .pmCsr | .devCtl2 | .aerUncSta | .aerUncMask | .aerUncSev | .aerCorSta | .aerCorMask | .mcCap | .mcReg _ _ => s.writeBank (f0Bank h) v be r
  | .ident | .classRev | .header | .bar _ | .rom | .vfBar _ | .subsystem | .msixControl | .devCtl3 | .slotCap | .slotCtl
  | .dpcCtl | .dpcStatus | .acsCtl | .egress _ | .aerHdr _ | .aerCtl | .serial _ | .vsec _
  | .capPtr | .pmCap | .msixTable | .msixPba | .pcieCap | .devCap | .devCap2 | .linkCap | .pasidCap | .devCap3 | .ptmCap | .capHead _
  | .other _ => s

/-- Slot Control and Slot Status written by the slot's owner: indicators and enables, Power Controller Control, which the hot-plug sequencer
carries out, and the bits of Slot Status that a 1 clears (R205, R207, R209, R675). -/
def State.putSlot (s : State) (h p v be : Nat) : State :=
  let old := s.rd (SLTX_CTL p)
  let new := merge old v be % 2 ^ 16
  let s := s.wr (SLTX_CTL p) new
  let s := s.wr (SLTX_STS p) (s.rd (SLTX_STS p) - (s.rd (SLTX_STS p) &&& ((v &&& enabled be) / 2 ^ 16) &&& 0x11B))
  if bit old 10 = bit new 10 then s else s.slotControl h p (bitSet new 10)

/-- A write to a register of the virtual bridge at position `k` (R205, R360, R363, R394, R520, R526, R533 to R535). -/
def State.writeVb (s : State) (k v be : Nat) (r : CfgReg) : State :=
  match r with
  | .command => s.put (POSX_CMD k) v be 0
  | .busNumbers => ((s.put (POSX_PRI k) v be 0).put (POS_SEC_BUS k) v be 8).put (POS_SUB_BUS k) v be 16
  | .memWindow => s.put (POSX_MEMW k) v be 0
  | .prefWindow => s.put (POSX_PREFW k) v be 0
  | .prefBaseUpper => s.put (POSX_PREFBU k) v be 0
  | .prefLimitUpper => s.put (POSX_PREFLU k) v be 0
  | .bridgeControl =>
    let t := s.put (POSX_BCTL k) v be 16
    let on := bitSet (t.rd (POSX_BCTL k)) 6
    if bitSet (s.rd (POSX_BCTL k)) 6 = on then t else t.resetPos k on
  | .dpcCtl =>
    let t := s.put (POSX_DPCCTL k) v be 16
    if t.on (POS_BOUND k) then t.dpcView (t.rd (POS_PORT k)) else t
  | .dpcStatus => match s.ownPort k with
    | some p => if bitSet v 0 && bitSet be 0 && s.on (DOM_DPC (domIdx 1 p)) then s.requestRelease 1 p else s
    | none => s
  | .acsCtl => s.put (POSX_ACS k) v be 16
  | .egress i => s.wr (POSX_EGR k) (putBits (s.rd (POSX_EGR k)) (32 * i.val) 32 (merge (bits (s.rd (POSX_EGR k)) (32 * i.val) 32) v be))
  | .devCtl =>
    let s := s.writeBank (vbBank k) v be .devCtl
    match s.ownPort k with
    | some p => s.put (PRTX_MPS p) v be 5
    | none => s
  | .slotCtl => match s.ownPort k with
    | some p => if s.slotOwned p then s.putSlot (k / 32) p v be else s
    | none => s
  | .ptmCtl => match s.ownPort k with
    | some p => s.put (PRTX_PTM p) v be 0
    | none => s
  | .linkSta => match s.ownPort k with
    | some p => s.put (PRTX_ASPM p) v be 0
    | none => s
  | .margin i => match s.ownPort k with
    | some p => s.putMargin p i v be
    | none => s
  | .pmCsr | .devCtl2 | .aerUncSta | .aerUncMask | .aerUncSev | .aerCorSta | .aerCorMask | .mcCap | .mcReg _ _ => s.writeBank (vbBank k) v be r
  | .ident | .classRev | .header | .bar _ | .rom | .vfBar _ | .subsystem | .msixControl | .devCtl3 | .slotCap
  | .capPtr | .pmCap | .msixTable | .msixPba | .pcieCap | .devCap | .devCap2 | .linkCap | .pasidCap | .devCap3 | .ptmCap | .capHead _
  | .aerHdr _ | .aerCtl | .serial _ | .vsec _ | .other _ => s

/-! Answers. -/

/-- A configuration request answered with status `st` and, for a read that succeeds, four bytes. -/
def State.cfgReply (s : State) (h : Nat) (r : CfgReq) (st : Nat) (data : List (BitVec 8)) : State :=
  s.complete h r.requester.toNat r.tag.toNat st data false

/-- A read answered: the bits that the spec does not give are a free value. -/
def State.cfgRead (s : State) (h : Nat) (r : CfgReq) (x : CfgVal) : State :=
  if x.known = 2 ^ 32 - 1 then s.cfgReply h r 0 (leBytes 4 x.value)
  else
    let f := s.freeVal % 2 ^ 32
    s.takeFree.cfgReply h r 0 (leBytes 4 (((f ^^^ x.value) &&& x.known) ^^^ f))

/-- An access of a register: what a read gives, or what a write does. -/
def State.cfgAccess (s : State) (h : Nat) (r : CfgReq) (read : CfgReg → CfgVal) (write : Nat → Nat → CfgReg → State) : State :=
  match r.wr with
  | none => s.cfgRead h r (read r.reg)
  | some (v, be) => (write v.toNat be.toNat r.reg).cfgReply h r 0 []

/-! Below a bridge (R367 to R370, R373). -/

/-- The number of a register of the standard's header; another's place in configuration space is a free value, its low ten bits. -/
def State.cfgNumber (s : State) : CfgReg → Nat
  | .ident => 0
  | .command => 1
  | .classRev => 2
  | .header => 3
  | .bar i => 4 + i.val
  | .subsystem => 11
  | .rom => 12
  | .bridgeControl => 15
  | .other n => n.val
  | .busNumbers => 6
  | .memWindow => 8
  | .prefWindow => 9
  | .prefBaseUpper => 10
  | .prefLimitUpper => 11
  | .capPtr => 13
  | .pmCap | .msixTable | .msixPba | .pcieCap | .devCap | .devCap2 | .linkCap | .pasidCap | .devCap3 | .mcCap | .mcReg _ _ | .aerCtl | .ptmCap | .capHead _ | .margin _
  | .vfBar _ | .pmCsr | .msixControl | .devCtl | .devCtl2 | .devCtl3 | .slotCap | .slotCtl | .linkSta | .dpcCtl | .dpcStatus | .acsCtl | .egress _
  | .aerUncSta | .aerUncMask | .aerUncSev | .aerCorSta | .aerCorMask | .aerHdr _ | .ptmCtl | .serial _ | .vsec _ => s.freeVal % 1024

/-- The shadow BAR that a register of a bound function stands for (R373): 0 to 5 its BARs, 6 its ROM BAR, 8 to 13 its VF BARs. -/
def shadowOf : CfgReg → Option Nat
  | .bar i => some i.val
  | .rom => some 6
  | .vfBar i => some (8 + i.val)
  | .ident | .command | .classRev | .header | .subsystem | .busNumbers | .memWindow | .prefWindow | .prefBaseUpper | .prefLimitUpper | .bridgeControl
  | .capPtr | .pmCap | .msixTable | .msixPba | .pcieCap | .devCap | .devCap2 | .linkCap | .pasidCap | .devCap3 | .mcCap | .mcReg _ _ | .aerCtl | .ptmCap
  | .capHead _ | .margin _ | .pmCsr | .msixControl | .devCtl | .devCtl2 | .devCtl3 | .slotCap | .slotCtl | .linkSta | .dpcCtl | .dpcStatus | .acsCtl | .egress _
  | .aerUncSta
  | .aerUncMask | .aerUncSev | .aerCorSta | .aerCorMask | .aerHdr _ | .ptmCtl | .serial _ | .vsec _ | .other _ => none

/-- A shadow BAR of function `f` of shared port `p`: a register without a BAR of its own is the upper half of the one before it. -/
def shadowHome (p f b : Nat) : Nat × Bool := if b % 8 ≠ 0 ∧ b ≠ 6 ∧ (Config.fabricBar p f b).2 = 0 then (b - 1, true) else (b, false)

/-- A shadow BAR read or written; the bits below its size stay 0 (R373). -/
def State.cfgShadow (s : State) (h : Nat) (r : CfgReq) (p f b : Nat) : State :=
  let x := shadowHome p f b
  let fld := SHBX_BAR (4096 * p + 16 * f + x.1)
  let size := max 1 (Config.fabricBar p f x.1).2
  let old := s.rd fld
  let half := if x.2 then old / 2 ^ 32 else old % 2 ^ 32
  match r.wr with
  | none => s.cfgReply h r 0 (leBytes 4 half)
  | some (v, be) =>
    let m := merge half v.toNat be.toNat
    let w := if x.2 then old % 2 ^ 32 + m * 2 ^ 32 else old / 2 ^ 32 * 2 ^ 32 + m
    (s.wr fld (w / size * size)).cfgReply h r 0 []

/-- The request on its way to the port of position `k`: of type 1 when `far`, to bus `b` of the fabric (R368, R370). -/
def State.cfgTlp (s : State) (h k up b : Nat) (r : CfgReq) (far : Bool) : Tlp :=
  let n := s.cfgNumber r.reg
  { kind := .nonPosted, fmtType := (if r.wr.isSome then 0x44 else 0x04) + b2n far, tc := 0, stored := 16, payload := if r.wr.isSome then 4 else 0,
    ingress := Fin.ofNat 128 up, egress := Fin.ofNat 128 (s.rd (POS_PORT k)), host := h, requester := r.requester.toNat, tag := r.tag.toNat,
    pasid := none, addr := 0, relaxed := false, idOrder := false, ep := false, ide := false, flitOnly := false,
    hdr := b * 2 ^ 64 + (8 * r.dev.val + r.fn.val) * 2 ^ 72 + n / 64 * 2 ^ 80 + n % 64 * 4 * 2 ^ 88, dest := none, src := none, unitKind := 0,
    rest := match r.wr with | some (v, _) => leBytes 4 v.toNat | none => [] }

/-- A request to host bus `x` below position `k` (R361, R367 to R369, R373). -/
def State.cfgBelow (s : State) (h up k x : Nat) (r : CfgReq) : State :=
  let p := s.rd (POS_PORT k)
  let f := 8 * r.dev.val + r.fn.val
  let mine := !s.on (POS_SHARED k) || (s.fnsOf p h).contains (s.ownFn p f)
  match s.toFabric k x with
  | some b =>
    if s.on (POS_BOUND k) && !s.on (POS_UNBINDING k) && mine then
      match shadowOf r.reg with
      | some j => if s.on (POS_SHARED k) then s.cfgShadow h r p f j else s.ingress (s.crossDown k (s.cfgTlp h k up b r (x != s.rd (POS_SEC_BUS k))))
      | none => s.ingress (s.crossDown k (s.cfgTlp h k up b r (x != s.rd (POS_SEC_BUS k))))
    else s.cfgReply h r cplUR []
  | none => s.cfgReply h r cplUR []

/-- The position of host `h` whose bus range holds host bus `x`. -/
def State.posOfBus (s : State) (h x : Nat) : Option Nat :=
  (findFrom (fun v => s.rd (POS_SEC_BUS (posIdx h v)) != 0 && decide (s.rd (POS_SEC_BUS (posIdx h v)) ≤ x)
    && decide (x ≤ s.rd (POS_SUB_BUS (posIdx h v)))) 0 (s.rd (RTE_HIER_CFG_VB_COUNT h))).map (posIdx h)

/-- A type 1 request to host bus `x`: the virtual bridges on function 0's secondary bus, and what lies below them (R360 to R362, R368). -/
def State.cfgType1 (s : State) (h up x : Nat) (r : CfgReq) : State :=
  if x = s.rd (RTE_HIER_BUS_SEC_BUS h) then
    if r.dev.val < s.rd (RTE_HIER_CFG_VB_COUNT h) ∧ r.fn.val = 0 then
      s.cfgAccess h r (s.readVb (posIdx h r.dev)) (s.writeVb (posIdx h r.dev))
    else s.cfgReply h r cplUR []
  else if s.rd (RTE_HIER_BUS_SEC_BUS h) < x ∧ x ≤ s.rd (RTE_HIER_BUS_SUB_BUS h) then
    match s.posOfBus h x with
    | some k => s.cfgBelow h up k x r
    | none => s.cfgReply h r cplUR []
  else s.cfgReply h r cplUR []

/-- CONFIG_REQUEST: before READY every request gets Configuration Request Retry Status (R124). -/
def execConfigRequest (h : Host) (r : CfgReq) (s : State) : Host.Outcome State Fault Refusal :=
  match s.hostPort h with
  | none => .next s
  | some up => (s.arrive up).event (!s.on (HOSTF_PERST h) && !s.contained 2 h && decide (s.rd PWR_STATUS_STATE ≤ 1)) fun s =>
    if s.rd GLB_BOOT_STATUS_STAGE ≠ 6 then s.cfgReply h r cplCRS []
    else match r.bus with
      | some x => s.cfgType1 h up x.toNat r
      | none =>
        if r.dev.val ≠ 0 ∨ 2 ≤ r.fn.val then s.cfgReply h r cplUR []
        else if r.fn.val = 0 then s.cfgAccess h r (s.readF0 h up) (s.writeF0 h up)
        else s.cfgAccess h { r with reg := f1Home r.reg } (s.readF1 h) (s.writeF1 h)

end Sys2Proof.Machine
end

