-- ==== Sys2Proof/Machine/Dispatch.lean ====
section
/-! DEFINITION. The dispatch: one arm per constructor of Instr, each one direct call of its meaning. -/

namespace Sys2Proof.Machine

/-- The effect of a command or event on everything but the queue (R1). -/
def exec (i : Instr) (s : State) : Host.Outcome State Fault Refusal :=
  match i with
  | .deviceInfo c => Sys2Proof.Machine.execDeviceInfo c s
  | .deviceOpQuery c => Sys2Proof.Machine.execDeviceOpQuery c s
  | .deviceOpCancel c => Sys2Proof.Machine.execDeviceOpCancel c s
  | .deviceMgmtSet c => Sys2Proof.Machine.execDeviceMgmtSet c s
  | .deviceSpoolCreate c => Sys2Proof.Machine.execDeviceSpoolCreate c s
  | .deviceSpoolDelete c => Sys2Proof.Machine.execDeviceSpoolDelete c s
  | .deviceInputRearm c => Sys2Proof.Machine.execDeviceInputRearm c s
  | .deviceEngineAlloc c => Sys2Proof.Machine.execDeviceEngineAlloc c s
  | .deviceEngineRestart c => Sys2Proof.Machine.execDeviceEngineRestart c s
  | .portConfig c => Sys2Proof.Machine.execPortConfig c s
  | .portFwdSet c => Sys2Proof.Machine.execPortFwdSet c s
  | .portTetherSet c => Sys2Proof.Machine.execPortTetherSet c s
  | .portLinkRetrain c => Sys2Proof.Machine.execPortLinkRetrain c s
  | .portLinkWidthRequest c => Sys2Proof.Machine.execPortLinkWidthRequest c s
  | .portLinkDisable c => Sys2Proof.Machine.execPortLinkDisable c s
  | .portLinkEnable c => Sys2Proof.Machine.execPortLinkEnable c s
  | .portSlot c => Sys2Proof.Machine.execPortSlot c s
  | .routeHierSet c => Sys2Proof.Machine.execRouteHierSet c s
  | .routeBind c => Sys2Proof.Machine.execRouteBind c s
  | .routeUnbind c => Sys2Proof.Machine.execRouteUnbind c s
  | .routeXlatWrite c => Sys2Proof.Machine.execRouteXlatWrite c s
  | .routeXlatClear c => Sys2Proof.Machine.execRouteXlatClear c s
  | .routeNodeSet c => Sys2Proof.Machine.execRouteNodeSet c s
  | .routeMcSet c => Sys2Proof.Machine.execRouteMcSet c s
  | .routeMcMap c => Sys2Proof.Machine.execRouteMcMap c s
  | .bridleRuleWrite c => Sys2Proof.Machine.execBridleRuleWrite c s
  | .bridleRuleClear c => Sys2Proof.Machine.execBridleRuleClear c s
  | .bridleStageReset c => Sys2Proof.Machine.execBridleStageReset c s
  | .bridleBegin c => Sys2Proof.Machine.execBridleBegin c s
  | .bridleCommit c => Sys2Proof.Machine.execBridleCommit c s
  | .bridleAbort c => Sys2Proof.Machine.execBridleAbort c s
  | .bridlePolicySet c => Sys2Proof.Machine.execBridlePolicySet c s
  | .bridleRebuild c => Sys2Proof.Machine.execBridleRebuild c s
  | .schedGateWrite c => Sys2Proof.Machine.execSchedGateWrite c s
  | .schedGateArm c => Sys2Proof.Machine.execSchedGateArm c s
  | .schedGateCancel c => Sys2Proof.Machine.execSchedGateCancel c s
  | .schedShaperSet c => Sys2Proof.Machine.execSchedShaperSet c s
  | .schedTcSet c => Sys2Proof.Machine.execSchedTcSet c s
  | .schedAlphaSet c => Sys2Proof.Machine.execSchedAlphaSet c s
  | .poolMapSet c => Sys2Proof.Machine.execPoolMapSet c s
  | .poolWindowSet c => Sys2Proof.Machine.execPoolWindowSet c s
  | .poolWindowClear c => Sys2Proof.Machine.execPoolWindowClear c s
  | .poolApertureSet c => Sys2Proof.Machine.execPoolApertureSet c s
  | .poolScrubSet c => Sys2Proof.Machine.execPoolScrubSet c s
  | .poolDomainSet c => Sys2Proof.Machine.execPoolDomainSet c s
  | .poolMirrorResync c => Sys2Proof.Machine.execPoolMirrorResync c s
  | .poolEpochClose c => Sys2Proof.Machine.execPoolEpochClose c s
  | .poolZero c => Sys2Proof.Machine.execPoolZero c s
  | .poolCopy c => Sys2Proof.Machine.execPoolCopy c s
  | .poolCrc64 c => Sys2Proof.Machine.execPoolCrc64 c s
  | .poolLogCreate c => Sys2Proof.Machine.execPoolLogCreate c s
  | .poolLogDelete c => Sys2Proof.Machine.execPoolLogDelete c s
  | .poolLogAppend c => Sys2Proof.Machine.execPoolLogAppend c s
  | .poolLogTrim c => Sys2Proof.Machine.execPoolLogTrim c s
  | .gondolaCreate c => Sys2Proof.Machine.execGondolaCreate c s
  | .gondolaDestroy c => Sys2Proof.Machine.execGondolaDestroy c s
  | .gondolaReset c => Sys2Proof.Machine.execGondolaReset c s
  | .gondolaFreeze c => Sys2Proof.Machine.execGondolaFreeze c s
  | .gondolaThaw c => Sys2Proof.Machine.execGondolaThaw c s
  | .gondolaSave c => Sys2Proof.Machine.execGondolaSave c s
  | .gondolaRestore c => Sys2Proof.Machine.execGondolaRestore c s
  | .powerVote c => Sys2Proof.Machine.execPowerVote c s
  | .powerOff c => Sys2Proof.Machine.execPowerOff c s
  | .powerScSet c => Sys2Proof.Machine.execPowerScSet c s
  | .powerScRearm c => Sys2Proof.Machine.execPowerScRearm c s
  | .mooringSpillSet c => Sys2Proof.Machine.execMooringSpillSet c s
  | .mooringPolicySet c => Sys2Proof.Machine.execMooringPolicySet c s
  | .mooringLiftTest c => Sys2Proof.Machine.execMooringLiftTest c s
  | .mooringLogRead c => Sys2Proof.Machine.execMooringLogRead c s
  | .errorContain c => Sys2Proof.Machine.execErrorContain c s
  | .errorRelease c => Sys2Proof.Machine.execErrorRelease c s
  | .errorCfgSet c => Sys2Proof.Machine.execErrorCfgSet c s
  | .errorTimeoutSet c => Sys2Proof.Machine.execErrorTimeoutSet c s
  | .errorFirstClear c => Sys2Proof.Machine.execErrorFirstClear c s
  | .errorLogClear c => Sys2Proof.Machine.execErrorLogClear c s
  | .fabricTimeSet c => Sys2Proof.Machine.execFabricTimeSet c s
  | .fabricLeave c => Sys2Proof.Machine.execFabricLeave c s
  | .fabricNodeRead c => Sys2Proof.Machine.execFabricNodeRead c s
  | .debugInject c => Sys2Proof.Machine.execDebugInject c s
  | .firmwareWrite c => Sys2Proof.Machine.execFirmwareWrite c s
  | .firmwareVerify c => Sys2Proof.Machine.execFirmwareVerify c s
  | .firmwareSelect c => Sys2Proof.Machine.execFirmwareSelect c s
  | .firmwareActivate c => Sys2Proof.Machine.execFirmwareActivate c s
  | .mbxReqTailWrite m v => Sys2Proof.Machine.execMbxReqTailWrite m v s
  | .mbxRspHeadWrite m v => Sys2Proof.Machine.execMbxRspHeadWrite m v s
  | .spoolDoorbellWrite h g d v => Sys2Proof.Machine.execSpoolDoorbellWrite h g d v s
  | .commandFetch ring => Sys2Proof.Machine.execCommandFetch ring s
  | .spoolReadFailed n => Sys2Proof.Machine.execSpoolReadFailed n s
  | .longOpStep h e n ok => Sys2Proof.Machine.execLongOpStep h e n ok s
  | .handleExpire h => Sys2Proof.Machine.execHandleExpire h s
  | .handleAreaExpire => Sys2Proof.Machine.execHandleAreaExpire s
  | .smbIdentify => Sys2Proof.Machine.execSmbIdentify s
  | .smbRegAddr a => Sys2Proof.Machine.execSmbRegAddr a s
  | .smbRegDataRead => Sys2Proof.Machine.execSmbRegDataRead s
  | .smbRegDataWrite v pecOk => Sys2Proof.Machine.execSmbRegDataWrite v pecOk s
  | .smbCmd w pecOk => Sys2Proof.Machine.execSmbCmd w pecOk s
  | .smbStatus => Sys2Proof.Machine.execSmbStatus s
  | .smbRecoveryData l pecOk => Sys2Proof.Machine.execSmbRecoveryData l pecOk s
  | .smbRecoveryRun v pecOk => Sys2Proof.Machine.execSmbRecoveryRun v pecOk s
  | .arpPrepareToArp => Sys2Proof.Machine.execArpPrepareToArp s
  | .arpResetDevice => Sys2Proof.Machine.execArpResetDevice s
  | .arpGetUdid directed => Sys2Proof.Machine.execArpGetUdid directed s
  | .arpAssignAddress mine a => Sys2Proof.Machine.execArpAssignAddress mine a s
  | .alertResponse => Sys2Proof.Machine.execAlertResponse s
  | .dapRead at_ wide => Sys2Proof.Machine.execDapRead at_ wide s
  | .dapWrite at_ wide data => Sys2Proof.Machine.execDapWrite at_ wide data s
  | .extest v => Sys2Proof.Machine.execExtest v s
  | .samplePreload v => Sys2Proof.Machine.execSamplePreload v s
  | .idcode => Sys2Proof.Machine.execIdcode s
  | .bypass => Sys2Proof.Machine.execBypass s
  | .debugOverrideWrite who v => Sys2Proof.Machine.execDebugOverrideWrite who v s
  | .registerWrite who a v => Sys2Proof.Machine.execRegisterWrite who a v s
  | .readClear a => Sys2Proof.Machine.execReadClear a s
  | .mgtFtTimeLoRead => Sys2Proof.Machine.execMgtFtTimeLoRead s
  | .ordDomEpochLoRead d => Sys2Proof.Machine.execOrdDomEpochLoRead d s
  | .penLogLoRead n which => Sys2Proof.Machine.execPenLogLoRead n which s
  | .pdiMtrLoRead m second => Sys2Proof.Machine.execPdiMtrLoRead m second s
  | .morTimeLoRead est => Sys2Proof.Machine.execMorTimeLoRead est s
  | .rteIndGo v => Sys2Proof.Machine.execRteIndGo v s
  | .brdIndGo v => Sys2Proof.Machine.execBrdIndGo v s
  | .schIndGo v => Sys2Proof.Machine.execSchIndGo v s
  | .errDomGo v => Sys2Proof.Machine.execErrDomGo v s
  | .balWinGo v => Sys2Proof.Machine.execBalWinGo v s
  | .ycpIndGo v => Sys2Proof.Machine.execYcpIndGo v s
  | .ycpGndGo v => Sys2Proof.Machine.execYcpGndGo v s
  | .snapshotDone k => Sys2Proof.Machine.execSnapshotDone k s
  | .testEnWrite l v => Sys2Proof.Machine.execTestEnWrite l v s
  | .prbsInject l => Sys2Proof.Machine.execPrbsInject l s
  | .flapRearm l => Sys2Proof.Machine.execFlapRearm l s
  | .sfFallbackRearm p => Sys2Proof.Machine.execSfFallbackRearm p s
  | .ordBarLoad h requester tag => Sys2Proof.Machine.execOrdBarLoad h requester tag s
  | .ordBarStore h requester tag => Sys2Proof.Machine.execOrdBarStore h requester tag s
  | .ordBarFull h requester tag => Sys2Proof.Machine.execOrdBarFull h requester tag s
  | .barrierComplete h => Sys2Proof.Machine.execBarrierComplete h s
  | .ordEpochClose h d msix vec => Sys2Proof.Machine.execOrdEpochClose h d msix vec s
  | .epochDrainDone d => Sys2Proof.Machine.execEpochDrainDone d s
  | .configRequest h r => Sys2Proof.Machine.execConfigRequest h r s
  | .slotPowerOnWrite h p => Sys2Proof.Machine.execSlotPowerOnWrite h p s
  | .slotPowerOffWrite h p => Sys2Proof.Machine.execSlotPowerOffWrite h p s
  | .secondaryBusReset h v on => Sys2Proof.Machine.execSecondaryBusReset h v on s
  | .bmeClear h => Sys2Proof.Machine.execBmeClear h s
  | .bmeSet h => Sys2Proof.Machine.execBmeSet h s
  | .d3hotEntry h => Sys2Proof.Machine.execD3hotEntry h s
  | .d0Return h => Sys2Proof.Machine.execD0Return h s
  | .hostVoteWithdraw h => Sys2Proof.Machine.execHostVoteWithdraw h s
  | .flrWrite h => Sys2Proof.Machine.execFlrWrite h s
  | .dpcTrigger p reason fatal => Sys2Proof.Machine.execDpcTrigger p reason fatal s
  | .dpcTriggerStatusWrite h p => Sys2Proof.Machine.execDpcTriggerStatusWrite h p s
  | .wakeEventHost h => Sys2Proof.Machine.execWakeEventHost h s
  | .poolRequest h r => Sys2Proof.Machine.execPoolRequest h r s
  | .bar0Bar4Request h r => Sys2Proof.Machine.execBar0Bar4Request h r s
  | .peerRequest t addrType op => Sys2Proof.Machine.execPeerRequest t addrType op s
  | .tlpIngress t nullified => Sys2Proof.Machine.execTlpIngress t nullified s
  | .tlpAdmitWaiting p => Sys2Proof.Machine.execTlpAdmitWaiting p s
  | .multicastTlp t n => Sys2Proof.Machine.execMulticastTlp t n s
  | .egressSelect p e credit => Sys2Proof.Machine.execEgressSelect p e credit s
  | .tlpSent p id => Sys2Proof.Machine.execTlpSent p id s
  | .cutThroughReady id cells whole => Sys2Proof.Machine.execCutThroughReady id cells whole s
  | .badTail id c => Sys2Proof.Machine.execBadTail id c s
  | .underrun id => Sys2Proof.Machine.execUnderrun id s
  | .stompFallback p => Sys2Proof.Machine.execStompFallback p s
  | .ageLimitExpiry q => Sys2Proof.Machine.execAgeLimitExpiry q s
  | .agedExit q => Sys2Proof.Machine.execAgedExit q s
  | .completionArrival k target tag st data poison last => Sys2Proof.Machine.execCompletionArrival k target tag st data poison last s
  | .completionTimeout k target tag => Sys2Proof.Machine.execCompletionTimeout k target tag s
  | .tagQuarantineExpire k target tag => Sys2Proof.Machine.execTagQuarantineExpire k target tag s
  | .poolStorePerform b k => Sys2Proof.Machine.execPoolStorePerform b k s
  | .poolRead id e => Sys2Proof.Machine.execPoolRead id e s
  | .atomicOp id => Sys2Proof.Machine.execAtomicOp id s
  | .loadReserved id e => Sys2Proof.Machine.execLoadReserved id e s
  | .storeConditional id => Sys2Proof.Machine.execStoreConditional id s
  | .reservationExpire => Sys2Proof.Machine.execReservationExpire s
  | .strictStoreDone src => Sys2Proof.Machine.execStrictStoreDone src s
  | .patrolStep a e => Sys2Proof.Machine.execPatrolStep a e s
  | .channelFailed c crc => Sys2Proof.Machine.execChannelFailed c crc s
  | .poolInitDone => Sys2Proof.Machine.execPoolInitDone s
  | .zqCalibration c => Sys2Proof.Machine.execZqCalibration c s
  | .dqsAdjust c => Sys2Proof.Machine.execDqsAdjust c s
  | .dimmEventHot c => Sys2Proof.Machine.execDimmEventHot c s
  | .dimmEventRelease c => Sys2Proof.Machine.execDimmEventRelease c s
  | .mirrorCopySend n => Sys2Proof.Machine.execMirrorCopySend n s
  | .mirrorCopyReceived n d line mask data poison => Sys2Proof.Machine.execMirrorCopyReceived n d line mask data poison s
  | .closeMarkerReceived n d epoch => Sys2Proof.Machine.execCloseMarkerReceived n d epoch s
  | .mirrorAckReceived d => Sys2Proof.Machine.execMirrorAckReceived d s
  | .remotePoolRequest p n r => Sys2Proof.Machine.execRemotePoolRequest p n r s
  | .fabricPeerRequest p n t => Sys2Proof.Machine.execFabricPeerRequest p n t s
  | .transitUnit p src dst k t => Sys2Proof.Machine.execTransitUnit p src dst k t s
  | .bucketMove n b => Sys2Proof.Machine.execBucketMove n b s
  | .logBatchEnd n => Sys2Proof.Machine.execLogBatchEnd n s
  | .logPayloadFetched id => Sys2Proof.Machine.execLogPayloadFetched id s
  | .logBatchStatus n => Sys2Proof.Machine.execLogBatchStatus n s
  | .engineWatchdog e => Sys2Proof.Machine.execEngineWatchdog e s
  | .lmemError e corrected => Sys2Proof.Machine.execLmemError e corrected s
  | .gondolaQuiesced g => Sys2Proof.Machine.execGondolaQuiesced g s
  | .gondolaResetDone g => Sys2Proof.Machine.execGondolaResetDone g s
  | .bridleSessionTimeout => Sys2Proof.Machine.execBridleSessionTimeout s
  | .bridleSaveCopyWritten => Sys2Proof.Machine.execBridleSaveCopyWritten s
  | .bridleOldDrained => Sys2Proof.Machine.execBridleOldDrained s
  | .errorRecordTake n => Sys2Proof.Machine.execErrorRecordTake n s
  | .containmentHoldExpire level n => Sys2Proof.Machine.execContainmentHoldExpire level n s
  | .containmentRelease level n => Sys2Proof.Machine.execContainmentRelease level n s
  | .linkUnitReceived p u => Sys2Proof.Machine.execLinkUnitReceived p u s
  | .creditBlockReceived p parityOk gen ack naks cred => Sys2Proof.Machine.execCreditBlockReceived p parityOk gen ack naks cred s
  | .replayTimeout p => Sys2Proof.Machine.execReplayTimeout p s
  | .retxFatal p => Sys2Proof.Machine.execRetxFatal p s
  | .nakRepeat p => Sys2Proof.Machine.execNakRepeat p s
  | .creditBlockSend p => Sys2Proof.Machine.execCreditBlockSend p s
  | .rowSlot p rows => Sys2Proof.Machine.execRowSlot p rows s
  | .laneMarker p parityOk laneOk count => Sys2Proof.Machine.execLaneMarker p parityOk laneOk count s
  | .timeRequestReceived p parityOk exch hops => Sys2Proof.Machine.execTimeRequestReceived p parityOk exch hops s
  | .timeResponseReceived p parityOk exch hops t2 t3 => Sys2Proof.Machine.execTimeResponseReceived p parityOk exch hops t2 t3 s
  | .timeExchangeTick p => Sys2Proof.Machine.execTimeExchangeTick p s
  | .parentChange => Sys2Proof.Machine.execParentChange s
  | .tapRequest l no preset a0 a1 a2 a3 => Sys2Proof.Machine.execTapRequest l no preset a0 a1 a2 a3 s
  | .eqLimit l => Sys2Proof.Machine.execEqLimit l s
  | .detectExit p => Sys2Proof.Machine.execDetectExit p s
  | .blockLockAcquired l inverted => Sys2Proof.Machine.execBlockLockAcquired l inverted s
  | .blockLockLost l => Sys2Proof.Machine.execBlockLockLost l s
  | .alignTimeout p reversed => Sys2Proof.Machine.execAlignTimeout p reversed s
  | .configAgreed p node serial rates farWidth farLocked reversed => Sys2Proof.Machine.execConfigAgreed p node serial rates farWidth farLocked reversed s
  | .configTimeout p => Sys2Proof.Machine.execConfigTimeout p s
  | .eqDone p => Sys2Proof.Machine.execEqDone p s
  | .eqTimeout p => Sys2Proof.Machine.execEqTimeout p s
  | .verifyEnd p bad => Sys2Proof.Machine.execVerifyEnd p bad s
  | .init p node gen next cred => Sys2Proof.Machine.execInit p node gen next cred s
  | .initTimeout p => Sys2Proof.Machine.execInitTimeout p s
  | .retrainTimeout p => Sys2Proof.Machine.execRetrainTimeout p s
  | .failedTimeout p => Sys2Proof.Machine.execFailedTimeout p s
  | .linkLost p cause => Sys2Proof.Machine.execLinkLost p cause s
  | .graceExpired p => Sys2Proof.Machine.execGraceExpired p s
  | .retrainReq p => Sys2Proof.Machine.execRetrainReq p s
  | .widthReq p code => Sys2Proof.Machine.execWidthReq p code s
  | .withdraw p => Sys2Proof.Machine.execWithdraw p s
  | .joinReq p serial => Sys2Proof.Machine.execJoinReq p serial s
  | .joinReqRepeat p => Sys2Proof.Machine.execJoinReqRepeat p s
  | .joinAccept p n => Sys2Proof.Machine.execJoinAccept p n s
  | .joinRefuse p reason => Sys2Proof.Machine.execJoinRefuse p reason s
  | .leave p => Sys2Proof.Machine.execLeave p s
  | .leaveAck p => Sys2Proof.Machine.execLeaveAck p s
  | .shutdown p => Sys2Proof.Machine.execShutdown p s
  | .selfNodeId => Sys2Proof.Machine.execSelfNodeId s
  | .chainTimeout => Sys2Proof.Machine.execChainTimeout s
  | .chainTokenEdge => Sys2Proof.Machine.execChainTokenEdge s
  | .chainBitSample k => Sys2Proof.Machine.execChainBitSample k s
  | .chainStopSample => Sys2Proof.Machine.execChainStopSample s
  | .chainHeadStart => Sys2Proof.Machine.execChainHeadStart s
  | .ftPpsEdge low high gap => Sys2Proof.Machine.execFtPpsEdge low high gap s
  | .ftRefChange present => Sys2Proof.Machine.execFtRefChange present s
  | .ftHoldoverEntry => Sys2Proof.Machine.execFtHoldoverEntry s
  | .gateEntryBoundary p => Sys2Proof.Machine.execGateEntryBoundary p s
  | .gateCycleBoundary p => Sys2Proof.Machine.execGateCycleBoundary p s
  | .reelWheelSlot => Sys2Proof.Machine.execReelWheelSlot s
  | .sysRefSwitch => Sys2Proof.Machine.execSysRefSwitch s
  | .sysRefRecovered => Sys2Proof.Machine.execSysRefRecovered s
  | .refLost g => Sys2Proof.Machine.execRefLost g s
  | .refReturn g => Sys2Proof.Machine.execRefReturn g s
  | .losAssert l => Sys2Proof.Machine.execLosAssert l s
  | .losDeassert l => Sys2Proof.Machine.execLosDeassert l s
  | .lolAssert l => Sys2Proof.Machine.execLolAssert l s
  | .lolDeassert l => Sys2Proof.Machine.execLolDeassert l s
  | .l1DeepEntry p second => Sys2Proof.Machine.execL1DeepEntry p second s
  | .linkDownUpstream p disabled => Sys2Proof.Machine.execLinkDownUpstream p disabled s
  | .surpriseLinkDown p => Sys2Proof.Machine.execSurpriseLinkDown p s
  | .hotResetReceived h => Sys2Proof.Machine.execHotResetReceived h s
  | .perstNFall h => Sys2Proof.Machine.execPerstNFall h s
  | .perstNRise h => Sys2Proof.Machine.execPerstNRise h s
  | .resetNFall => Sys2Proof.Machine.execResetNFall s
  | .resetDrainDone => Sys2Proof.Machine.execResetDrainDone s
  | .startupBegin mgmtPort bootSel profile head => Sys2Proof.Machine.execStartupBegin mgmtPort bootSel profile head s
  | .sysPllRefDetected g => Sys2Proof.Machine.execSysPllRefDetected g s
  | .imageChecked => Sys2Proof.Machine.execImageChecked s
  | .ddrBringupDone dimms restored trained => Sys2Proof.Machine.execDdrBringupDone dimms restored trained s
  | .configApplied => Sys2Proof.Machine.execConfigApplied s
  | .ready => Sys2Proof.Machine.execReady s
  | .inputQualified n level id mv t => Sys2Proof.Machine.execInputQualified n level id mv t s
  | .slotPresenceChange c present => Sys2Proof.Machine.execSlotPresenceChange c present s
  | .attentionButton c => Sys2Proof.Machine.execAttentionButton c s
  | .wakeIn => Sys2Proof.Machine.execWakeIn s
  | .pwrFailIn => Sys2Proof.Machine.execPwrFailIn s
  | .feedLost x high => Sys2Proof.Machine.execFeedLost x high s
  | .feedReturn x => Sys2Proof.Machine.execFeedReturn x s
  | .feedReverse x bkp => Sys2Proof.Machine.execFeedReverse x bkp s
  | .mooringDrainDone => Sys2Proof.Machine.execMooringDrainDone s
  | .retainEstimate => Sys2Proof.Machine.execRetainEstimate s
  | .spillStart => Sys2Proof.Machine.execSpillStart s
  | .spillDrivesReady => Sys2Proof.Machine.execSpillDrivesReady s
  | .spillDone => Sys2Proof.Machine.execSpillDone s
  | .spillFail cause n => Sys2Proof.Machine.execSpillFail cause n s
  | .feedQualified => Sys2Proof.Machine.execFeedQualified s
  | .slotGroupPowerOn => Sys2Proof.Machine.execSlotGroupPowerOn s
  | .resumeComplete => Sys2Proof.Machine.execResumeComplete s
  | .supersededWrite => Sys2Proof.Machine.execSupersededWrite s
  | .imageStaleRetry ok => Sys2Proof.Machine.execImageStaleRetry ok s
  | .restoreStart h0 h1 => Sys2Proof.Machine.execRestoreStart h0 h1 s
  | .restoreComplete dir chunks => Sys2Proof.Machine.execRestoreComplete dir chunks s
  | .bkpBusCollapse => Sys2Proof.Machine.execBkpBusCollapse s
  | .bkpBusRestore => Sys2Proof.Machine.execBkpBusRestore s
  | .bkpRailEnRise => Sys2Proof.Machine.execBkpRailEnRise s
  | .packEmpty => Sys2Proof.Machine.execPackEmpty s
  | .chargeCcDone => Sys2Proof.Machine.execChargeCcDone s
  | .chargeBalDone => Sys2Proof.Machine.execChargeBalDone s
  | .chargeRestart => Sys2Proof.Machine.execChargeRestart s
  | .chargeHold t => Sys2Proof.Machine.execChargeHold t s
  | .healthTestStart v => Sys2Proof.Machine.execHealthTestStart v s
  | .healthTestEnd v t => Sys2Proof.Machine.execHealthTestEnd v t s
  | .healthTestDue => Sys2Proof.Machine.execHealthTestDue s
  | .liftInserted id mv t => Sys2Proof.Machine.execLiftInserted id mv t s
  | .liftRemoved => Sys2Proof.Machine.execLiftRemoved s
  | .liftHourlyLog => Sys2Proof.Machine.execLiftHourlyLog s
  | .meterTick l bus bkp t => Sys2Proof.Machine.execMeterTick l bus bkp t s
  | .scPowerOnRequest c => Sys2Proof.Machine.execScPowerOnRequest c s
  | .scPrechargeDone c => Sys2Proof.Machine.execScPrechargeDone c s
  | .gateStuck c => Sys2Proof.Machine.execGateStuck c s
  | .scPgood c => Sys2Proof.Machine.execScPgood c s
  | .scFault c cause => Sys2Proof.Machine.execScFault c cause s
  | .fastTrip c => Sys2Proof.Machine.execFastTrip c s
  | .scCooldownEnd c => Sys2Proof.Machine.execScCooldownEnd c s
  | .scPgoodHeld c => Sys2Proof.Machine.execScPgoodHeld c s
  | .fetShort c => Sys2Proof.Machine.execFetShort c s
  | .scPowerOffRequest c => Sys2Proof.Machine.execScPowerOffRequest c s
  | .slotPerstRelease c => Sys2Proof.Machine.execSlotPerstRelease c s
  | .indicatorFrame => Sys2Proof.Machine.execIndicatorFrame s
  | .idleEntry => Sys2Proof.Machine.execIdleEntry s
  | .idleExit => Sys2Proof.Machine.execIdleExit s
  | .sleepDelayEnd => Sys2Proof.Machine.execSleepDelayEnd s
  | .sleepEntryDone => Sys2Proof.Machine.execSleepEntryDone s
  | .sleepAbandoned src idx => Sys2Proof.Machine.execSleepAbandoned src idx s
  | .wake src idx => Sys2Proof.Machine.execWake src idx s
  | .powerOffEntry => Sys2Proof.Machine.execPowerOffEntry s
  | .pcieLinkUp p rate width flit reversed eqFail inverted eq => Sys2Proof.Machine.execPcieLinkUp p rate width flit reversed eqFail inverted eq s
  | .scVoutDischarged c => Sys2Proof.Machine.execScVoutDischarged c s
  | .slotChannelOpen c => Sys2Proof.Machine.execSlotChannelOpen c s
  | .prbsCheckerLock l => Sys2Proof.Machine.execPrbsCheckerLock l s
  | .thermalSample t => Sys2Proof.Machine.execThermalSample t s
  | .chargeHoldClear t => Sys2Proof.Machine.execChargeHoldClear t s
  | .spoolCoalesceExpiry q => Sys2Proof.Machine.execSpoolCoalesceExpiry q s
  | .ptmRequest p => Sys2Proof.Machine.execPtmRequest p s
  | .railsSettled => Sys2Proof.Machine.execRailsSettled s

end Sys2Proof.Machine
end

