-- ==== Sys2Proof/Machine/Idle.lean ====
section
/-! DEFINITION. What the part does while no command waits: its clocks count, and work that needs no event from outside goes on. -/

namespace Sys2Proof.Machine

/-- One tick of 1 GHz: fabric time counts while the switch die or its retention domain has power (R84, R87, R108). -/
def State.tick (s : State) : State :=
  if s.on MORX_DEAD || s.on SYS_OFF then { s with clk := { s.clk with now := s.clk.now + 1 } } else { s with clk := s.clk.after 1 }

/-- What step does on an empty queue: a tick, and what waits without an event of its own goes on: records start containments (R524), resyncs that start by themselves (R884),
TLPs that the part made enter their egress queues (R18), requests of it that the core discarded are answered (R347),
requests that a Bridle session held (R436), an access of the debug port (R922) or of the SMBus (R905), and the start of the control firmware, which
ends STAGE 3 (R122). Log entry 23. -/
def State.idle (s : State) : State :=
  let s := (s.tick.settle.autoResyncs.retryAll.dapRun.smbRun.intake fun _ => true).endFailed
  s.when (s.rd GLB_BOOT_STATUS_STAGE == 3) fun s => s.wr GLB_BOOT_STATUS_STAGE 4

end Sys2Proof.Machine
end

