-- ==== Sys2Proof/Machine/Step.lean ====
section
/-! DEFINITION. The step of the block: it takes the command at the front of its queue. -/

namespace Sys2Proof.Machine

/-- One step: the command at the front of the queue takes effect on the state with the queue's rest; with an empty queue a tick passes. Log
entries 23 and 24. -/
def step (s : State) : Host.Outcome State Fault Refusal :=
  match s.pending with
  | [] => .next s.idle
  | c :: q => exec c { s with pending := q }

/-- The state with the command that a word spells at the front of its queue. -/
def State.withFetchWord (s : State) (nbits w : Nat) : State :=
  match decodeTableWord nbits w with
  | none => s
  | some c => { s with pending := c :: s.pending }

end Sys2Proof.Machine
end

