-- ==== Sys2Proof/Safety.lean ====
section
/-! DEFINITION. The terms that claims about the block use: its invariant, what a command writes and what it leaves unchanged, and the
ways in which a command completes. -/

namespace Sys2Proof.Machine

/-- The stores of the block are in canonical form: the register fields, the pool's memory and the flash devices. Equal contents are then
equal data. -/
abbrev State.Inv (s : State) : Prop := s.regs.wf = true ∧ Memory.wf s.pool.cells = true ∧ Memory.wf s.mgmt.flash = true

/-- Every register field outside `l` reads as before. -/
def State.keepsRegs (s t : State) (l : List Fld) : Prop := ∀ f : Fld, f.key ∉ l.map Fld.key → t.rd f = s.rd f

/-- The pool's memory and the flash read as before, byte by byte. -/
def State.keepsMem (s t : State) : Prop :=
  (∀ a, cellGet t.pool.cells a = cellGet s.pool.cells a) ∧ ∀ a, cellGet t.mgmt.flash a = cellGet s.mgmt.flash a

/-- From `s` to `t` the fields that `l` names take the values it gives, as far as they fit; every other field reads as before, every byte
of memory does, and everything outside the register fields (queues, tables, clock, outputs) is the same. -/
def State.writes (s t : State) (l : List (Fld × Nat)) : Prop :=
  (∀ p ∈ l, t.rd p.1 = p.2 % 2 ^ p.1.width) ∧ s.keepsRegs t (l.map Prod.fst) ∧ s.keepsMem t ∧ t = { s with regs := t.regs }

/-- Command `i` in state `s` completes, and its next state is `b` but for the fields `l`. -/
def State.does (s : State) (i : Instr) (b : State) (l : List (Fld × Nat)) : Prop := ∃ t, exec i s = .next t ∧ b.writes t l

/-- Command `i` completes: the fields `l` are written, and then the part does `f` (posts a status, logs a record, gives an output). -/
def State.doesThen (s : State) (i : Instr) (l : List (Fld × Nat)) (f : State → State) : Prop :=
  ∃ u, exec i s = .next (f u) ∧ s.writes u l

/-- The part takes commands of `c`'s path with this opcode (R682, R704, R708, R751). -/
def State.ready (s : State) (opcode : Nat) (c : Cmd) : Bool := s.takesCmd opcode && s.pathOpen c

/-- Command `i` with packet `c` completes with status OK and this result, posted after the fields `l` of `b` are written (R712). -/
def State.answers (s : State) (i : Instr) (opcode : Nat) (c : Cmd) (result : Nat) (b : State) (l : List (Fld × Nat)) : Prop :=
  ∃ u, exec i s = .next (u.post c opcode stOk 0 result true) ∧ b.writes u l

/-- Command `i` with packet `c` completes with status OK and this result, posted in a state of which `P` holds (R712). -/
def State.answersWith (s : State) (i : Instr) (opcode : Nat) (c : Cmd) (result : Nat) (P : State → Prop) : Prop :=
  ∃ u, exec i s = .next (u.post c opcode stOk 0 result true) ∧ P u

/-- Long command `i` with packet `c` starts: ACCEPTED with a handle, after the fields `l` are written (R713). -/
def State.starts (s : State) (i : Instr) (opcode engine total phase acc : Nat) (c : Cmd) (l : List (Fld × Nat)) : Prop :=
  ∃ u, exec i s = .next (u.startOp c opcode engine total phase acc) ∧ s.writes u l

/-- A write to the register word at BAR0 offset `a` does no more than its fields' access kinds say: `a` is no mailbox index, doorbell,
selector, lane register with an action, log or override register. -/
def plainOffset (a : Nat) : Bool :=
  a % 4 == 0 && (decide (a < 0x180000) || (decide (0x1C0000 ≤ a) && decide (a < 0x600000) && !(decide (0x390000 ≤ a) && decide (a < 0x3A0000))
    && !([0x200000, 0x300040, 0x340010, 0x380100, 0x403000, 0x380004].contains a)))

/-- Command `c` completes with a state of which `P` holds. -/
def State.completes (s : State) (c : Instr) (P : State → Prop) : Prop := ∃ t, exec c s = .next t ∧ P t

end Sys2Proof.Machine
end

