-- ==== Sys2Proof/Certificates/Slice0/Obligations.lean ====
section
/-! DEFINITION. The statements about the model that are to be proved. A statement over the state holds of every state whose stores are in
canonical form (`State.Inv`, which every step keeps), not only of states that a run from reset reaches. In the clauses, `does` gives a
command's whole effect (the fields written, everything else unchanged), `doesThen` that effect and the status, record or output that
follows it, `answers` and `answersWith` a command packet's completion, `starts` a long command's start, and `completes` a property of
the next state. -/

set_option linter.unusedVariables false
open Sys2Proof Sys2Proof.Machine

/-- Mailbox indices and doorbells: what a write in range does and what one out of range does. A request TAIL at most 32 ahead of HEAD is
taken, any other ignored with OVERRUN; a response HEAD not beyond TAIL is taken, any other ignored with BAD_HEAD (R697). A host's doorbell
inside the ring moves the tail of a command spool or the head of a status spool; a value outside the ring, behind the head or past the
tail stops the spool; a stopped spool and a slot without a spool ignore it (R703, R704). A gondola's doorbell latches its value while the
gondola latches doorbells, is ignored without a spool or while the gondola is contained, and else rings its spool (R751). A failed read of
a command spool stops it. Each clause gives the whole next state. Forms for which a clause concludes that exec answers a next state with
the effect named, from conditions on the state and operands alone: mbxReqTailWrite, mbxRspHeadWrite, spoolDoorbellWrite, spoolReadFailed.
(15_command_packets.md, 16_gondolas.md) -/
def Obligations.MailboxIndices : Prop :=
  ∀ s : State, s.Inv →
    (∀ (m : Fin 1073) (v : BitVec 16), (v.toNat + 65536 - s.rd (YCP_MBX_REQ_HEAD m)) % 65536 ≤ 32 →
      s.does (.mbxReqTailWrite m v) s [(YCP_MBX_REQ_TAIL m, v.toNat)]) ∧
    (∀ (m : Fin 1073) (v : BitVec 16), 32 < (v.toNat + 65536 - s.rd (YCP_MBX_REQ_HEAD m)) % 65536 →
      s.does (.mbxReqTailWrite m v) s [(YCP_MBX_STATUS_OVERRUN m, 1), (YCP_EVENT_MBX_ERR, 1)]) ∧
    (∀ (m : Fin 1073) (v : BitVec 16),
      (v.toNat + 65536 - s.rd (YCP_MBX_RSP_HEAD m)) % 65536 ≤ (s.rd (YCP_MBX_RSP_TAIL m) + 65536 - s.rd (YCP_MBX_RSP_HEAD m)) % 65536 →
      s.does (.mbxRspHeadWrite m v) s [(YCP_MBX_RSP_HEAD m, v.toNat)]) ∧
    (∀ (m : Fin 1073) (v : BitVec 16),
      (s.rd (YCP_MBX_RSP_TAIL m) + 65536 - s.rd (YCP_MBX_RSP_HEAD m)) % 65536 < (v.toNat + 65536 - s.rd (YCP_MBX_RSP_HEAD m)) % 65536 →
      s.does (.mbxRspHeadWrite m v) s [(YCP_MBX_STATUS_BAD_HEAD m, 1), (YCP_EVENT_MBX_ERR, 1)]) ∧
    (∀ (h : Host) (d : Fin 512) (v : BitVec 16) (n : Nat), s.rd (HDB_SPOOL h d) = n + 1 → s.on (SPL_STOPPED n) = false →
      s.rd (SPL_KIND n) = 0 → v.toNat < 2 ^ s.rd (SPL_SIZE_LOG2 n) →
      (s.rd (SPL_TAIL n) + 2 ^ s.rd (SPL_SIZE_LOG2 n) - s.rd (SPL_HEAD n)) % 2 ^ s.rd (SPL_SIZE_LOG2 n) ≤ (v.toNat + 2 ^ s.rd (SPL_SIZE_LOG2 n) - s.rd (SPL_HEAD n)) % 2 ^ s.rd (SPL_SIZE_LOG2 n) → s.does (.spoolDoorbellWrite h none d v) s [(SPL_TAIL n, v.toNat)]) ∧
    (∀ (h : Host) (d : Fin 512) (v : BitVec 16) (n : Nat), s.rd (HDB_SPOOL h d) = n + 1 → s.on (SPL_STOPPED n) = false →
      s.rd (SPL_KIND n) = 0 → v.toNat < 2 ^ s.rd (SPL_SIZE_LOG2 n) →
      (v.toNat + 2 ^ s.rd (SPL_SIZE_LOG2 n) - s.rd (SPL_HEAD n)) % 2 ^ s.rd (SPL_SIZE_LOG2 n) < (s.rd (SPL_TAIL n) + 2 ^ s.rd (SPL_SIZE_LOG2 n) - s.rd (SPL_HEAD n)) % 2 ^ s.rd (SPL_SIZE_LOG2 n) → s.does (.spoolDoorbellWrite h none d v) s [(SPL_STOPPED n, 1), (YCP_EVENT_SPOOL_ERR, 1)]) ∧
    (∀ (h : Host) (d : Fin 512) (v : BitVec 16) (n : Nat), s.rd (HDB_SPOOL h d) = n + 1 → s.on (SPL_STOPPED n) = false →
      s.rd (SPL_KIND n) = 1 → v.toNat < 2 ^ s.rd (SPL_SIZE_LOG2 n) →
      (v.toNat + 2 ^ s.rd (SPL_SIZE_LOG2 n) - s.rd (SPL_HEAD n)) % 2 ^ s.rd (SPL_SIZE_LOG2 n) ≤ (s.rd (SPL_TAIL n) + 2 ^ s.rd (SPL_SIZE_LOG2 n) - s.rd (SPL_HEAD n)) % 2 ^ s.rd (SPL_SIZE_LOG2 n) → s.does (.spoolDoorbellWrite h none d v) s [(SPL_HEAD n, v.toNat)]) ∧
    (∀ (h : Host) (d : Fin 512) (v : BitVec 16) (n : Nat), s.rd (HDB_SPOOL h d) = n + 1 → s.on (SPL_STOPPED n) = false →
      s.rd (SPL_KIND n) = 1 → v.toNat < 2 ^ s.rd (SPL_SIZE_LOG2 n) →
      (s.rd (SPL_TAIL n) + 2 ^ s.rd (SPL_SIZE_LOG2 n) - s.rd (SPL_HEAD n)) % 2 ^ s.rd (SPL_SIZE_LOG2 n) < (v.toNat + 2 ^ s.rd (SPL_SIZE_LOG2 n) - s.rd (SPL_HEAD n)) % 2 ^ s.rd (SPL_SIZE_LOG2 n) → s.does (.spoolDoorbellWrite h none d v) s [(SPL_STOPPED n, 1), (YCP_EVENT_SPOOL_ERR, 1)]) ∧
    (∀ (h : Host) (d : Fin 512) (v : BitVec 16) (n : Nat), s.rd (HDB_SPOOL h d) = n + 1 → s.on (SPL_STOPPED n) = false →
      2 ^ s.rd (SPL_SIZE_LOG2 n) ≤ v.toNat → s.does (.spoolDoorbellWrite h none d v) s [(SPL_STOPPED n, 1), (YCP_EVENT_SPOOL_ERR, 1)]) ∧
    (∀ (h : Host) (d : Fin 512) (v : BitVec 16) (n : Nat), s.rd (HDB_SPOOL h d) = n + 1 → s.on (SPL_STOPPED n) = true →
      s.does (.spoolDoorbellWrite h none d v) s []) ∧
    (∀ (h : Host) (d : Fin 512) (v : BitVec 16), s.rd (HDB_SPOOL h d) = 0 → s.does (.spoolDoorbellWrite h none d v) s []) ∧
    (∀ (h : Host) (g : Gond) (d : Fin 512) (v : BitVec 16), s.rd (GDB_SPOOL g d) ≠ 0 → s.contained 3 g = false → s.latches g = true →
      s.does (.spoolDoorbellWrite h (some g) d v) s [(GDB_LATCH g d, v.toNat), (GDB_LATCHED g d, 1)]) ∧
    (∀ (h : Host) (g : Gond) (d : Fin 512) (v : BitVec 16), (s.rd (GDB_SPOOL g d) = 0 ∨ s.contained 3 g = true) →
      s.does (.spoolDoorbellWrite h (some g) d v) s []) ∧
    (∀ (h : Host) (g : Gond) (d : Fin 512) (v : BitVec 16), s.rd (GDB_SPOOL g d) ≠ 0 → s.contained 3 g = false → s.latches g = false →
      s.does (.spoolDoorbellWrite h (some g) d v) (s.ringDoorbell (s.rd (GDB_SPOOL g d) - 1) v.toNat) []) ∧
    (∀ (n : Fin 32768), s.on (SPL_VALID n) = true → s.rd (SPL_KIND n) = 0 → s.does (.spoolReadFailed n) s [(SPL_STOPPED n, 1),
      (YCP_EVENT_SPOOL_ERR, 1)])

/-- The DEVICE class: queries, cancels, the management host, spools, and when handles end. DEVICE_INFO returns the version, node ID,
management host and serial number and changes nothing. DEVICE_OP_QUERY returns the query result of a handle; reading a final status frees
a handle that is not in the handle area. DEVICE_OP_CANCEL registers a cancel, ends a paused operation CANCELLED, or answers 1 and changes
nothing when the status is final or the last step runs. DEVICE_MGMT_SET names the new management host. DEVICE_SPOOL_CREATE makes a spool
of a host or a gondola with the packet's fields in the lowest free number and doorbell slot; DEVICE_SPOOL_DELETE of a host's unpaired
status spool with nothing unfinished removes it. A handle ends 60 s after its final status; the expiry of the handle area removes its
handles. The end of a coalescing delay sends the spool's interrupt. Forms for which a clause concludes that exec answers a next state with
the effect named, from conditions on the state and operands alone: deviceInfo, deviceOpQuery, deviceOpCancel, deviceMgmtSet,
deviceSpoolCreate, deviceSpoolDelete, handleExpire, handleAreaExpire, spoolCoalesceExpiry. (15_command_packets.md,
20_management_and_debug.md) -/
def Obligations.DeviceCommands : Prop :=
  ∀ s : State, s.Inv →
    (∀ (c : Cmd), s.ready 0x0101 c = true → cleanCmd c [] false = true →
      s.answers (.deviceInfo c) 0x0101 c (s.fwVersion + (s.rd MGT_NODE_ID_NODE_ID + s.rd MGT_NODE_ID_NODE_VALID * 2 ^ 15) * 2 ^ 32 + (s.rd MGT_MGMT_HOST_HOST + s.rd MGT_MGMT_HOST_VALID * 2 ^ 15) * 2 ^ 48 + Config.serial.toNat * 2 ^ 64) s []) ∧
    (∀ (c : Cmd) (o : Op), s.ready 0x0102 c = true → ownsOp o (s.issuer c.path) = true → cleanCmd c [(0, 16)] false = true →
      s.opOf (parBytes c 0 2) = some o → o.final = none → s.answers (.deviceOpQuery c) 0x0102 c (queryResult o) s []) ∧
    (∀ (c : Cmd) (o : Op), s.ready 0x0102 c = true → ownsOp o (s.issuer c.path) = true → cleanCmd c [(0, 16)] false = true →
      s.opOf (parBytes c 0 2) = some o → o.final.isSome = true → o.recorded = false →
      s.answers (.deviceOpQuery c) 0x0102 c (queryResult o) (s.setOps (s.ops.filter fun x => x.handle != parBytes c 0 2)) []) ∧
    (∀ (c : Cmd) (o : Op), s.ready 0x0103 c = true → ownsOp o (s.issuer c.path) = true → cleanCmd c [(0, 16)] false = true →
      s.opOf (parBytes c 0 2) = some o → (o.final.isSome = true ∨ o.lastStep = true) → s.answers (.deviceOpCancel c) 0x0103 c 1 s []) ∧
    (∀ (c : Cmd) (o : Op), s.ready 0x0103 c = true → ownsOp o (s.issuer c.path) = true → cleanCmd c [(0, 16)] false = true →
      s.opOf (parBytes c 0 2) = some o → o.final = none → o.lastStep = false → o.paused = false →
      s.answers (.deviceOpCancel c) 0x0103 c 0 { s with ops := updateAll (fun x => x.handle == parBytes c 0 2) (fun x => { x with cancel := true }) s.ops } []) ∧
    (∀ (c : Cmd) (o : Op), s.ready 0x0103 c = true → ownsOp o (s.issuer c.path) = true → cleanCmd c [(0, 16)] false = true →
      s.opOf (parBytes c 0 2) = some o → o.final = none → o.lastStep = false → o.paused = true →
      s.answers (.deviceOpCancel c) 0x0103 c 0 (s.endOp (parBytes c 0 2) stCancelled 0) []) ∧
    (∀ (c : Cmd), s.ready 0x0104 c = true → onlyM (s.issuer c.path) = true →
      (cleanCmd c [(0, 8)] false && decide (parBytes c 0 1 < 48)) = true → ((s.hostPort (parBytes c 0 1)).isNone) = false →
      s.mgmtHost = none → s.answers (.deviceMgmtSet c) 0x0104 c 0 s [(MGT_MGMT_HOST_HOST, parBytes c 0 1), (MGT_MGMT_HOST_VALID, 1),
      (MGT_MGMT_HOST_BY_COMMAND, 1), (HV_ID_IS_MGMT (parBytes c 0 1), 1)]) ∧
    (∀ (c : Cmd) (o : Nat), s.ready 0x0104 c = true → onlyM (s.issuer c.path) = true →
      (cleanCmd c [(0, 8)] false && decide (parBytes c 0 1 < 48)) = true → ((s.hostPort (parBytes c 0 1)).isNone) = false →
      s.mgmtHost = some o → o < 48 → o ≠ parBytes c 0 1 → s.answers (.deviceMgmtSet c) 0x0104 c 0 s [(HV_ID_IS_MGMT o, 0),
      (MGT_MGMT_HOST_HOST, parBytes c 0 1), (MGT_MGMT_HOST_VALID, 1), (MGT_MGMT_HOST_BY_COMMAND, 1),
      (HV_ID_IS_MGMT (parBytes c 0 1), 1)]) ∧
    (∀ (c : Cmd) (n k : Nat), s.ready 0x0105 c = true → ownsHost (parBytes c 17 1) (s.issuer c.path) = true → (cleanCmd c [(0, 8), (8, 8),
      (16, 16), (32, 16), (48, 16), (64, 64), (128, 8), (136, 8), (144, 16), (160, 1)] false
      && decide (parBytes c 0 1 ≤ 1) && decide (1 ≤ parBytes c 1 1) && decide (parBytes c 1 1 ≤ 16) && decide (parBytes c 2 2 < 32768) && decide (parBytes c 4 2 < 2048)
      && decide (parBytes c 6 2 ≤ 1000) && parBytes c 8 8 % 4096 == 0 && (parBytes c 0 1 == 1 || decide (1 ≤ parBytes c 16 1) && decide (parBytes c 16 1 ≤ 64))
      && decide (parBytes c 17 1 < 48) && decide (parBytes c 18 2 < 1024)) = true → parBits c 160 1 = 0 → parBytes c 0 1 = 1 → n < 32768 → k < 512 → s.freeSpool = some n → findFrom (fun d => s.rd (HDB_SPOOL (parBytes c 17 1) d) == 0) 0 512 = some k → s.rd QUOTA_SPOOLS + s.rd QUOTA_HOSTSPOOLS < 32768 → s.answers (.deviceSpoolCreate c) 0x0105 c (n + k * 2 ^ 16) s [(SPL_VALID n, 1), (SPL_KIND n, parBytes c 0 1), (SPL_GONDOLA_OWNED n, 0), (SPL_HOST n, parBytes c 17 1), (SPL_GONDOLA n, 0), (SPL_SIZE_LOG2 n, parBytes c 1 1), (SPL_PAIRED n, 0), (SPL_VECTOR n, parBytes c 4 2), (SPL_COALESCE_US n, parBytes c 6 2), (SPL_OUT_MAX n, parBytes c 16 1), (SPL_DB_SLOT n, k), (SPL_BASE n, parBytes c 8 8), (HDB_SPOOL (parBytes c 17 1) k, n + 1), (QUOTA_HOSTSPOOLS, s.rd QUOTA_HOSTSPOOLS + 1), (YCP_STATUS_SPOOLS_USED, s.rd YCP_STATUS_SPOOLS_USED + 1)]) ∧
    (∀ (c : Cmd) (n k : Nat), s.ready 0x0105 c = true → ownsHost (parBytes c 17 1) (s.issuer c.path) = true → (cleanCmd c [(0, 8), (8, 8),
      (16, 16), (32, 16), (48, 16), (64, 64), (128, 8), (136, 8), (144, 16), (160, 1)] false
      && decide (parBytes c 0 1 ≤ 1) && decide (1 ≤ parBytes c 1 1) && decide (parBytes c 1 1 ≤ 16) && decide (parBytes c 2 2 < 32768) && decide (parBytes c 4 2 < 2048)
      && decide (parBytes c 6 2 ≤ 1000) && parBytes c 8 8 % 4096 == 0 && (parBytes c 0 1 == 1 || decide (1 ≤ parBytes c 16 1) && decide (parBytes c 16 1 ≤ 64))
      && decide (parBytes c 17 1 < 48) && decide (parBytes c 18 2 < 1024)) = true → parBits c 160 1 = 0 → parBytes c 0 1 = 0 → n < 32768 → k < 512 → s.freeSpool = some n → findFrom (fun d => s.rd (HDB_SPOOL (parBytes c 17 1) d) == 0) 0 512 = some k → s.rd QUOTA_SPOOLS + s.rd QUOTA_HOSTSPOOLS < 32768 → s.on (SPL_VALID (parBytes c 2 2)) = true → s.rd (SPL_KIND (parBytes c 2 2)) = 1 → s.rd (SPL_HOST (parBytes c 2 2)) = parBytes c 17 1 → s.on (SPL_GONDOLA_OWNED (parBytes c 2 2)) = false → s.rd (SPLX_CMDS (parBytes c 2 2)) < 64 → s.ownsSpool (parBytes c 2 2) (s.issuer c.path) = true → s.answers (.deviceSpoolCreate c) 0x0105 c (n + k * 2 ^ 16) s [(SPL_VALID n, 1), (SPL_KIND n, parBytes c 0 1), (SPL_GONDOLA_OWNED n, 0), (SPL_HOST n, parBytes c 17 1), (SPL_GONDOLA n, 0), (SPL_SIZE_LOG2 n, parBytes c 1 1), (SPL_PAIRED n, parBytes c 2 2), (SPL_VECTOR n, parBytes c 4 2), (SPL_COALESCE_US n, parBytes c 6 2), (SPL_OUT_MAX n, parBytes c 16 1), (SPL_DB_SLOT n, k), (SPL_BASE n, parBytes c 8 8), (HDB_SPOOL (parBytes c 17 1) k, n + 1), (QUOTA_HOSTSPOOLS, s.rd QUOTA_HOSTSPOOLS + 1), (SPLX_CMDS (parBytes c 2 2), s.rd (SPLX_CMDS (parBytes c 2 2)) + 1), (YCP_STATUS_SPOOLS_USED, s.rd YCP_STATUS_SPOOLS_USED + 1)]) ∧
    (∀ (c : Cmd) (n k : Nat), s.ready 0x0105 c = true → s.ownsGond (parBytes c 18 2) (s.issuer c.path) = true → (cleanCmd c [(0, 8), (8, 8),
      (16, 16), (32, 16), (48, 16), (64, 64), (128, 8), (136, 8), (144, 16), (160, 1)] false
      && decide (parBytes c 0 1 ≤ 1) && decide (1 ≤ parBytes c 1 1) && decide (parBytes c 1 1 ≤ 16) && decide (parBytes c 2 2 < 32768) && decide (parBytes c 4 2 < 2048)
      && decide (parBytes c 6 2 ≤ 1000) && parBytes c 8 8 % 4096 == 0 && (parBytes c 0 1 == 1 || decide (1 ≤ parBytes c 16 1) && decide (parBytes c 16 1 ≤ 64))
      && decide (parBytes c 17 1 < 48) && decide (parBytes c 18 2 < 1024)) = true → parBits c 160 1 = 1 → parBytes c 0 1 = 1 → n < 32768 → k < 512 → s.freeSpool = some n → findFrom (fun d => s.rd (GDB_SPOOL (parBytes c 18 2) d) == 0) 0 512 = some k → s.on (GND_VALID (parBytes c 18 2)) = true → s.rd (GND_HOST (parBytes c 18 2)) = parBytes c 17 1 → s.rd (GND_SPOOLS_USED (parBytes c 18 2)) < s.rd (GND_SPOOL_QUOTA (parBytes c 18 2)) → s.answers (.deviceSpoolCreate c) 0x0105 c (n + k * 2 ^ 16) s [(SPL_VALID n, 1), (SPL_KIND n, parBytes c 0 1), (SPL_GONDOLA_OWNED n, 1), (SPL_HOST n, parBytes c 17 1), (SPL_GONDOLA n, parBytes c 18 2), (SPL_SIZE_LOG2 n, parBytes c 1 1), (SPL_PAIRED n, 0), (SPL_VECTOR n, parBytes c 4 2), (SPL_COALESCE_US n, parBytes c 6 2), (SPL_OUT_MAX n, parBytes c 16 1), (SPL_DB_SLOT n, k), (SPL_BASE n, parBytes c 8 8), (GDB_SPOOL (parBytes c 18 2) k, n + 1), (GND_SPOOLS_USED (parBytes c 18 2), s.rd (GND_SPOOLS_USED (parBytes c 18 2)) + 1), (YCP_STATUS_SPOOLS_USED, s.rd YCP_STATUS_SPOOLS_USED + 1)]) ∧
    (∀ (c : Cmd) (n k : Nat), s.ready 0x0105 c = true → s.ownsGond (parBytes c 18 2) (s.issuer c.path) = true → (cleanCmd c [(0, 8), (8, 8),
      (16, 16), (32, 16), (48, 16), (64, 64), (128, 8), (136, 8), (144, 16), (160, 1)] false
      && decide (parBytes c 0 1 ≤ 1) && decide (1 ≤ parBytes c 1 1) && decide (parBytes c 1 1 ≤ 16) && decide (parBytes c 2 2 < 32768) && decide (parBytes c 4 2 < 2048)
      && decide (parBytes c 6 2 ≤ 1000) && parBytes c 8 8 % 4096 == 0 && (parBytes c 0 1 == 1 || decide (1 ≤ parBytes c 16 1) && decide (parBytes c 16 1 ≤ 64))
      && decide (parBytes c 17 1 < 48) && decide (parBytes c 18 2 < 1024)) = true → parBits c 160 1 = 1 → parBytes c 0 1 = 0 → n < 32768 → k < 512 → s.freeSpool = some n → findFrom (fun d => s.rd (GDB_SPOOL (parBytes c 18 2) d) == 0) 0 512 = some k → s.on (GND_VALID (parBytes c 18 2)) = true → s.rd (GND_HOST (parBytes c 18 2)) = parBytes c 17 1 → s.rd (GND_SPOOLS_USED (parBytes c 18 2)) < s.rd (GND_SPOOL_QUOTA (parBytes c 18 2)) → s.on (SPL_VALID (parBytes c 2 2)) = true → s.rd (SPL_KIND (parBytes c 2 2)) = 1 → s.rd (SPL_HOST (parBytes c 2 2)) = parBytes c 17 1 → s.on (SPL_GONDOLA_OWNED (parBytes c 2 2)) = true → s.rd (SPLX_CMDS (parBytes c 2 2)) < 64 → s.rd (SPL_GONDOLA (parBytes c 2 2)) = parBytes c 18 2 → s.ownsSpool (parBytes c 2 2) (s.issuer c.path) = true → s.answers (.deviceSpoolCreate c) 0x0105 c (n + k * 2 ^ 16) s [(SPL_VALID n, 1), (SPL_KIND n, parBytes c 0 1), (SPL_GONDOLA_OWNED n, 1), (SPL_HOST n, parBytes c 17 1), (SPL_GONDOLA n, parBytes c 18 2), (SPL_SIZE_LOG2 n, parBytes c 1 1), (SPL_PAIRED n, parBytes c 2 2), (SPL_VECTOR n, parBytes c 4 2), (SPL_COALESCE_US n, parBytes c 6 2), (SPL_OUT_MAX n, parBytes c 16 1), (SPL_DB_SLOT n, k), (SPL_BASE n, parBytes c 8 8), (GDB_SPOOL (parBytes c 18 2) k, n + 1), (GND_SPOOLS_USED (parBytes c 18 2), s.rd (GND_SPOOLS_USED (parBytes c 18 2)) + 1), (SPLX_CMDS (parBytes c 2 2), s.rd (SPLX_CMDS (parBytes c 2 2)) + 1), (YCP_STATUS_SPOOLS_USED, s.rd YCP_STATUS_SPOOLS_USED + 1)]) ∧
    (∀ (c : Cmd), s.ready 0x0106 c = true → (cleanCmd c [(0, 16)] false && decide (parBytes c 0 2 < 32768)) = true →
      s.on (SPL_VALID (parBytes c 0 2)) = true → s.ownsSpool (parBytes c 0 2) (s.issuer c.path) = true →
      s.on (SPL_GONDOLA_OWNED (parBytes c 0 2)) = false → s.rd (SPL_HOST (parBytes c 0 2)) < 48 →
      s.rd (SPL_DB_SLOT (parBytes c 0 2)) < 512 → s.rd (SPL_NOT_FINAL (parBytes c 0 2)) = 0 → s.rd (SPL_KIND (parBytes c 0 2)) = 1 →
      s.rd (SPLX_CMDS (parBytes c 0 2)) = 0 →
      (match c.path with | .spool k => k.val == parBytes c 0 2 || s.rd (SPL_PAIRED k.val) == parBytes c 0 2 | _ => false) = false →
      s.answersWith (.deviceSpoolDelete c) 0x0106 c 0 fun u => u.rd (SPL_VALID (parBytes c 0 2)) = 0 ∧
      u.rd (HDB_SPOOL (s.rd (SPL_HOST (parBytes c 0 2))) (s.rd (SPL_DB_SLOT (parBytes c 0 2)))) = 0 ∧
      u.rd YCP_STATUS_SPOOLS_USED = (s.rd YCP_STATUS_SPOOLS_USED - 1) % 2 ^ 16 ∧ u.out = s.out ∧ u.pool = s.pool ∧ u.ops = s.ops ∧
      s.keepsMem u) ∧
    (∀ (h : BitVec 16) (o : Op), s.opOf h.toNat = some o → o.final.isSome = true → o.recorded = false →
      s.does (.handleExpire h) ((s.advTo (o.finishedAt + 60 * sec)).setOps (s.ops.filter fun x => x.handle != h.toNat)) []) ∧
    (∀ (h : BitVec 16), s.opOf h.toNat = none → s.does (.handleExpire h) s []) ∧
    (s.on READYX_AREA = true → s.completes .handleAreaExpire fun t => t.rd READYX_AREA = 0 ∧ t.ops = s.ops.filter (fun o => !o.recorded) ∧
      t.mooring = { s.mooring with handles := [] } ∧ t.pool = s.pool ∧ t.out = s.out) ∧
    (∀ (q : Fin 32768), s.rd (SPLX_COAL_DUE q) ≠ 0 → s.completes (.spoolCoalesceExpiry q) fun t =>
      ∃ u : State, t = u.msix (s.rd (SPL_HOST q)) (s.rd (SPL_VECTOR q)) ∧
      (s.advTo (s.rd (SPLX_COAL_DUE q) - 1)).writes u [(SPLX_COAL_DUE q, 0)])

/-- Bus Master Enable, D-states, wake events and FLR of function 1. A clear of BME and an entry to D3hot take the new value, show it in the
host's port status and set the port's event bit; nothing changes where the value is already held. A set of BME takes the value, and it and
a return from D3hot then release what the host's state held. The power vote that waits for the write buffer of a host in D3hot is
withdrawn once the buffer is empty, and not before. An FLR changes nothing. A wake event changes nothing without PME_En, or outside D3
with PERST_N high; in D3 with PME_En, not moored, it sets PME_Status and drives WAKE_N (link in L2, or PERST_N low) or sends PM_PME (link
in L0). Forms for which a clause concludes that exec answers a next state with the effect named, from conditions on the state and operands
alone: bmeClear, bmeSet, d3hotEntry, d0Return, hostVoteWithdraw, flrWrite, wakeEventHost. (05_pcie_ports.md, 17_power_states.md) -/
def Obligations.HostFunctionEvents : Prop :=
  ∀ s : State, s.Inv →
    (∀ (h : Host) (p : Nat), s.on (HOSTF_BME h) = true → s.hostPort h = some p → p < 128 → s.awake = true →
      s.does (.bmeClear h) s [(HOSTF_BME h, 0), (PRT_HOST_STATUS_DSTATE p, s.rd (HOSTF_PM h)), (PRT_HOST_STATUS_F1_BME p, 0),
      (PRT_HOST_STATUS_F1_MSE p, s.rd (HOSTF_MSE h)), (PRT_HOST_STATUS_F0_BME p, s.rd (HOSTF_F0BME h)),
      (PRT_HOST_STATUS_PME_EN p, s.rd (HOSTF_PMEEN h)), (PRT_EVENT_BME_CLEARED p, 1)]) ∧
    (∀ (h : Host), s.on (HOSTF_BME h) = false → s.awake = true → s.does (.bmeClear h) s []) ∧
    (∀ (h : Host), s.on (HOSTF_BME h) = true → s.hostPort h = none → s.awake = true → s.does (.bmeClear h) s [(HOSTF_BME h, 0)]) ∧
    (∀ (h : Host), s.on (HOSTF_BME h) = true → s.awake = true → s.does (.bmeSet h) s []) ∧
    (∀ (h : Host), s.on (HOSTF_BME h) = false → s.awake = true → s.completes (.bmeSet h) fun t => ∃ u : State, t = u.hostOpened h ∧
      u.rd (HOSTF_BME h) = 1 ∧ (∀ p, s.hostPort h = some p → p < 128 → u.rd (PRT_HOST_STATUS_F1_BME p) = 1) ∧ s.keepsMem u ∧
      u.out = s.out) ∧
    (∀ (h : Host), s.rd (HOSTF_PM h) = 3 → s.does (.d3hotEntry h) s []) ∧
    (∀ (h : Host) (p : Nat), s.rd (HOSTF_PM h) ≠ 3 → s.hostPort h = some p → p < 128 → s.does (.d3hotEntry h) s [(HOSTF_PM h, 3),
      (HOSTF_D3EMPTY h, 1), (PRT_HOST_STATUS_DSTATE p, 3), (PRT_HOST_STATUS_F1_BME p, s.rd (HOSTF_BME h)),
      (PRT_HOST_STATUS_F1_MSE p, s.rd (HOSTF_MSE h)), (PRT_HOST_STATUS_F0_BME p, s.rd (HOSTF_F0BME h)),
      (PRT_HOST_STATUS_PME_EN p, s.rd (HOSTF_PMEEN h)), (PRT_EVENT_D3_ENTRY p, 1)]) ∧
    (∀ (h : Host), s.rd (HOSTF_PM h) ≠ 3 → s.awake = true → s.does (.d0Return h) s []) ∧
    (∀ (h : Host), s.rd (HOSTF_PM h) = 3 → s.awake = true → s.completes (.d0Return h) fun t => ∃ u : State, t = u.hostOpened h ∧
      u.rd (HOSTF_PM h) = 0 ∧ u.rd (HOSTF_D3EMPTY h) = 0 ∧ s.keepsMem u ∧ u.out = s.out) ∧
    (∀ (h : Host), s.on (HOSTF_D3EMPTY h) = true → s.hostBufEmpty h = true → s.does (.hostVoteWithdraw h) s [(HOSTF_D3EMPTY h, 0)]) ∧
    (∀ (h : Host), (s.on (HOSTF_D3EMPTY h) = false ∨ s.hostBufEmpty h = false) → s.does (.hostVoteWithdraw h) s []) ∧
    (∀ (h : Host), s.does (.flrWrite h) s []) ∧
    (∀ (h : Host), s.on (HOSTF_PMEEN h) = false → s.does (.wakeEventHost h) s []) ∧
    (∀ (h : Host) (p : Nat), s.on (HOSTF_PMEEN h) = true → s.rd (HOSTF_PM h) = 3 → s.hostPort h = some p → p < 128 →
      s.rd MOR_STATUS_STATE = 0 → s.rd (PRT_LINK_STATUS_LTSSM p) = 3 → s.doesThen (.wakeEventHost h) [(HOSTF_PMESTAT h, 1)] (fun u =>
      if s.on (PRT_HOST_STATUS_PERST_ACTIVE p) then (u.wr (PRT_HOST_STATUS_WAKE_DRIVEN p) 1).emit (.pin 1 h false) else u.tell h 24)) ∧
    (∀ (h : Host) (p : Nat), s.on (HOSTF_PMEEN h) = true → s.rd (HOSTF_PM h) = 3 → s.hostPort h = some p → p < 128 →
      s.rd MOR_STATUS_STATE = 0 → s.rd (PRT_LINK_STATUS_LTSSM p) = 7 → s.doesThen (.wakeEventHost h) [(HOSTF_PMESTAT h, 1),
      (PRT_HOST_STATUS_WAKE_DRIVEN p, 1)] (fun u => u.emit (.pin 1 h false))) ∧
    (∀ (h : Host) (p : Nat), s.rd (HOSTF_PM h) ≠ 3 → s.hostPort h = some p → s.on (PRT_HOST_STATUS_PERST_ACTIVE p) = false →
      s.does (.wakeEventHost h) s [])

/-- A register write and read act by the access kinds of the fields. A write of a plain register word acts on each field of the word by its
access kind: RW stores, W1C clears where 1 is written, RO, RC and WO are left, and no other field changes. A read returns the word and
clears its RC fields. A page of host h is written by host h or the debug access port alone. A write to the error log by anybody but the
debug access port changes nothing. A snapshot of an indirect table that is due sets DONE. A request to BAR0 or BAR4 of a host in reset or
contained changes nothing; where function 1 is in D3 or has no Memory Space Enable, or the request is IDE, it is answered as an
Unsupported Request; a store that the Bridle check allows is carried out. Forms for which a clause concludes that exec answers a next
state with the effect named, from conditions on the state and operands alone: registerWrite, readClear, snapshotDone, bar0Bar4Request.
(01_architecture.md, 20_management_and_debug.md) -/
def Obligations.RegisterAccess : Prop :=
  ∀ s : State, s.Inv →
    (∀ (who : Fin 50) (a v : BitVec 32), plainOffset a.toNat = true →
      s.does (.registerWrite who a v) (s.writeWord a.toNat v.toNat 0xFFFFFFFF) []) ∧
    (∀ (who : Fin 50) (a v : BitVec 32), 0x390000 ≤ a.toNat → a.toNat < 0x3A0000 → a.toNat % 4 = 0 → who.val ≠ 49 →
      s.does (.registerWrite who a v) s []) ∧
    (∀ (who : Fin 50) (a v : BitVec 32), 0x1000000 ≤ a.toNat → a.toNat < 0x1300000 → a.toNat % 4 = 0 → who.val ≠ 49 →
      who.val ≠ (a.toNat - 0x1000000) / 0x10000 → s.does (.registerWrite who a v) s []) ∧
    (∀ (a v m : Nat) (r : RegRow), s.blockLive a = true → ((rowsAt a).map fun x => (x.field a).key).Nodup → r ∈ rowsAt a →
      (r.acc = .ro ∨ r.acc = .rc ∨ r.acc = .wo) → (s.writeWord a v m).rd (r.field a) = s.rd (r.field a)) ∧
    (∀ (a v m : Nat) (r : RegRow), s.blockLive a = true → ((rowsAt a).map fun x => (x.field a).key).Nodup → r ∈ rowsAt a → r.acc = .rw →
      r.vbit = 0 → r.w = r.width →
      (s.writeWord a v m).rd (r.field a) = (bits (s.rd (r.field a)) 0 r.w - (bits (s.rd (r.field a)) 0 r.w &&& bits m r.lo r.w) + (bits v r.lo r.w &&& bits m r.lo r.w)) % 2 ^ r.width) ∧
    (∀ (a v m : Nat) (r : RegRow), s.blockLive a = true → ((rowsAt a).map fun x => (x.field a).key).Nodup → r ∈ rowsAt a → r.acc = .w1c →
      s.rd (r.field a) < 2 ^ r.width →
      (s.writeWord a v m).rd (r.field a) = s.rd (r.field a) - (s.rd (r.field a) &&& ((bits v r.lo r.w &&& bits m r.lo r.w) * 2 ^ r.vbit))) ∧
    (∀ (a v m : Nat), s.keepsRegs (s.writeWord a v m) ((rowsAt a).map fun r => r.field a) ∧ s.keepsMem (s.writeWord a v m) ∧
      s.writeWord a v m = { s with regs := (s.writeWord a v m).regs }) ∧
    (∀ (a : BitVec 32), plainOffset a.toNat = true → (0x500100 ≤ a.toNat ∨ (a.toNat < 0x300000 ∧ 0x20000 ≤ a.toNat)) →
      inRow a.toNat 0x504008 0x40 64 = false → inRow a.toNat 0x504010 0x40 64 = false → inRow a.toNat 0x504018 0x40 64 = false →
      s.does (.readClear a) ((s.readClear a.toNat).emit (.readData (s.readWord a.toNat))) []) ∧
    (∀ (a : Nat) (r : RegRow), r ∈ rowsAt a → r.acc = .rc → (s.readClear a).rd (r.field a) = 0) ∧
    (∀ (a : Nat), s.keepsRegs (s.readClear a) (((rowsAt a).filter fun r => r.acc = .rc).map fun r => r.field a) ∧
      s.keepsMem (s.readClear a)) ∧
    (∀ (k : Fin 7), bitSet (s.rd SNAPX_DUE) k = true → s.does (.snapshotDone k) s [(SNAPX_DUE, clrBit (s.rd SNAPX_DUE) k),
      (doneFld k, 1)]) ∧
    (∀ (k : Fin 7), bitSet (s.rd SNAPX_DUE) k = false → s.does (.snapshotDone k) s []) ∧
    (∀ (h : Host) (r : MemReq), s.bridle.held = [] → (s.on (HOSTF_IN_RESET h) = true ∨ s.contained 2 h = true) → s.awake = true →
      exec (.bar0Bar4Request h r) s = .next ((s).settleIngress s ((s.hostPort h).getD 128) r.op)) ∧
    (∀ (h : Host) (r : MemReq), s.bridle.held = [] → s.on (HOSTF_IN_RESET h) = false → s.contained 2 h = false →
      (s.f1Takes h = false ∨ r.ide = true) → s.awake = true →
      exec (.bar0Bar4Request h r) s = .next ((s.unsupported h r).settleIngress s ((s.hostPort h).getD 128) r.op)) ∧
    (∀ (h : Host) (r : MemReq) (l : List (BitVec 8)) (o : Nat), s.bridle.held = [] → s.on (HOSTF_IN_RESET h) = false →
      s.contained 2 h = false → s.f1Takes h = true → r.ide = false → r.op = .store l → r.addr.toNat = s.rd (HOSTF_BAR0 h) + o →
      o + l.length ≤ 2 ^ 25 → s.bar0Takes h o = true → s.checkerHeld = false → s.heldBefore (s.rd SYS_ORDER) (.regs h r) = false →
      s.bufFull h = false → (s.check ⟨clsTenant, spMgmt, accessOf r.op, h, r.requester.toNat, r.pasid.map (fun (x : BitVec 20) =>
      x.toNat), o, accLen r.op, 0⟩).2 = true → s.awake = true →
      exec (.bar0Bar4Request h r) s = .next (((s.check ⟨clsTenant, spMgmt, accessOf r.op, h, r.requester.toNat, r.pasid.map (fun (x : BitVec 20) => x.toNat), o, accLen r.op, 0⟩).1.regStore h o l).settleIngress s ((s.hostPort h).getD 128) r.op)) ∧
    (∀ (h : Host) (r : MemReq) (l : List (BitVec 8)) (o : Nat), s.bridle.held = [] → s.on (HOSTF_IN_RESET h) = false →
      s.contained 2 h = false → s.f1Takes h = true → r.ide = false → r.op = .store l → r.addr.toNat = s.rd (HOSTF_BAR0 h) + o →
      o + l.length ≤ 2 ^ 25 → s.bar0Takes h o = true → s.checkerHeld = false → s.heldBefore (s.rd SYS_ORDER) (.regs h r) = false →
      s.bufFull h = false → (s.check ⟨clsTenant, spMgmt, accessOf r.op, h, r.requester.toNat, r.pasid.map (fun (x : BitVec 20) =>
      x.toNat), o, accLen r.op, 0⟩).2 = false → s.awake = true →
      exec (.bar0Bar4Request h r) s = .next (((s.check ⟨clsTenant, spMgmt, accessOf r.op, h, r.requester.toNat, r.pasid.map (fun (x : BitVec 20) => x.toNat), o, accLen r.op, 0⟩).1.answerHost h r cplCA).settleIngress s ((s.hostPort h).getD 128) r.op))

/-- The system PLL changes its reference pair; a read of fabric time. When the detector of its pair has deasserted the PLL takes the lowest
other pair that carries a clock, logs the switch and sets SYS_REF_SWITCHED; with none it sets SYS_REF_LOST and logs that. When a clock is
detected again the PLL takes the lowest such pair. A read of FT_TIME_LO gives the lower half of fabric time and latches the upper half of
the same sample. Forms for which a clause concludes that exec answers a next state with the effect named, from conditions on the state and
operands alone: sysRefSwitch, sysRefRecovered, mgtFtTimeLoRead. (03_clocks_time_reset.md) -/
def Obligations.ClockReference : Prop :=
  ∀ s : State, s.Inv →
    (∀ (g : Nat), s.on GLB_CLK_STATUS_SYS_PLL_LOCK = true → s.on GLB_CLK_STATUS_SYS_REF_LOST = false →
      lowPair (clrBit (s.rd GLB_CLK_STATUS_CLKREF_DET) (s.rd GLB_CLK_STATUS_SYS_REF)) = some g →
      s.doesThen .sysRefSwitch [(GLB_CLK_STATUS_SYS_REF, g), (GLB_CLK_STATUS_SYS_REF_SWITCHED, 1),
      (GLB_CLK_STATUS_SYS_REF_LOST, 0)] (fun u => u.log 171 0x0E02 0 0)) ∧
    (s.on GLB_CLK_STATUS_SYS_PLL_LOCK = true → s.on GLB_CLK_STATUS_SYS_REF_LOST = false →
      lowPair (clrBit (s.rd GLB_CLK_STATUS_CLKREF_DET) (s.rd GLB_CLK_STATUS_SYS_REF)) = none →
      s.doesThen .sysRefSwitch [(GLB_CLK_STATUS_SYS_REF_LOST, 1)] (fun u => u.log 171 0x0E03 0 0)) ∧
    (∀ (g : Nat), s.on GLB_CLK_STATUS_SYS_REF_LOST = true → lowPair (s.rd GLB_CLK_STATUS_CLKREF_DET) = some g →
      s.doesThen .sysRefRecovered [(GLB_CLK_STATUS_SYS_REF, g), (GLB_CLK_STATUS_SYS_REF_SWITCHED, 1),
      (GLB_CLK_STATUS_SYS_REF_LOST, 0)] (fun u => u.log 171 0x0E02 0 0)) ∧
    (s.on GLB_CLK_STATUS_SYS_REF_LOST = false → s.does .sysRefRecovered s []) ∧
    (s.doesThen .mgtFtTimeLoRead [(MGT_FT_TIME_LO_TIME_LO, s.ft % 2 ^ 32), (MGT_FT_TIME_HI_TIME_HI, s.ft / 2 ^ 32)] (fun u =>
      u.emit (.readData (s.ft % 2 ^ 32))))

/-- Fabric time: roles, FT_PPS, the exchange and holdover. FT_REF makes a node root with hop count 0; a root that loses it with no parent to
take runs free, with LOCKED 0, hop count 15 and FT_HOLDOVER 1; in PS-DEEP the count then moves to the retention clock, and back when
FT_REF returns; in PS-OFF the pin is ignored. A follower changes to the best parent when its own is lost. Holdover is entered 1.5 s after
the last edge or after it became root by a root and 10 ms after the last exchange by a follower with no other parent. FABRIC_TIME_SET
stores its value. An FT_PPS edge that is too short or not a root's changes nothing, one more than 1 us off while locked is logged, and one
while unlocked loads a set time. An exchange is opened each tick, a missed one of a parent that is down counted; a TIME request is
answered with t2 and t3; a response to no open exchange changes nothing, to an open one of a node that is no follower ends it. Trims and
delays are free values (log entry 3). Forms for which a clause concludes that exec answers a next state with the effect named, from
conditions on the state and operands alone: ftRefChange, parentChange, ftHoldoverEntry, fabricTimeSet, ftPpsEdge, timeExchangeTick,
timeRequestReceived, timeResponseReceived. (03_clocks_time_reset.md, 06_cytrum_link.md) -/
def Obligations.FabricTime : Prop :=
  ∀ s : State, s.Inv →
    (s.on SYS_OFF = false → s.on MORX_DEAD = false → s.rd PWR_STATUS_STATE ≠ 3 → s.rd MGT_FT_STATUS_ROLE ≠ 1 →
      s.does (.ftRefChange true) s [(MGT_FT_STATUS_REF_PRESENT, 1), (MGT_FT_STATUS_ROLE, 1), (MGT_FT_STATUS_PARENT_VALID, 0),
      (MGT_FT_STATUS_HOPS, 0), (MGT_FT_STATUS_LOCKED, 0), (FTX_ROOT_AT, s.now)]) ∧
    (s.on SYS_OFF = false → s.on MORX_DEAD = false → s.rd PWR_STATUS_STATE ≠ 3 → s.rd MGT_FT_STATUS_ROLE = 1 →
      s.does (.ftRefChange true) s [(MGT_FT_STATUS_REF_PRESENT, 1)]) ∧
    (s.on SYS_OFF = false → s.on MORX_DEAD = false → s.rd PWR_STATUS_STATE ≠ 3 → s.rd MGT_FT_STATUS_ROLE = 1 → s.bestParent 128 = none →
      s.does (.ftRefChange false) s [(MGT_FT_STATUS_REF_PRESENT, 0), (MGT_FT_STATUS_FT_HOLDOVER, 1), (MGT_FT_STATUS_ROLE, 0),
      (MGT_FT_STATUS_PARENT_VALID, 0), (MGT_FT_STATUS_HOPS, 15), (MGT_FT_STATUS_LOCKED, 0)]) ∧
    (s.on SYS_OFF = false → s.on MORX_DEAD = false → s.rd PWR_STATUS_STATE ≠ 3 → s.rd MGT_FT_STATUS_ROLE = 0 → s.bestParent 128 = none →
      s.does (.ftRefChange false) s [(MGT_FT_STATUS_REF_PRESENT, 0), (MGT_FT_STATUS_ROLE, 0), (MGT_FT_STATUS_PARENT_VALID, 0),
      (MGT_FT_STATUS_HOPS, 15), (MGT_FT_STATUS_LOCKED, 0)]) ∧
    (s.on SYS_OFF = false → s.on MORX_DEAD = false → s.rd PWR_STATUS_STATE = 3 → s.rd MGT_FT_STATUS_ROLE = 1 →
      s.completes (.ftRefChange true) fun t => ∃ u : State, t = u.timeClock ∧ s.writes u [(MGT_FT_STATUS_REF_PRESENT, 1)]) ∧
    (s.on SYS_OFF = false → s.on MORX_DEAD = false → s.rd PWR_STATUS_STATE = 3 → s.rd MGT_FT_STATUS_ROLE = 1 → s.bestParent 128 = none →
      s.completes (.ftRefChange false) fun t => ∃ u : State, t = u.retentionClock ∧ s.writes u [(MGT_FT_STATUS_REF_PRESENT, 0),
      (MGT_FT_STATUS_FT_HOLDOVER, 1), (MGT_FT_STATUS_ROLE, 0), (MGT_FT_STATUS_PARENT_VALID, 0), (MGT_FT_STATUS_HOPS, 15),
      (MGT_FT_STATUS_LOCKED, 0)]) ∧
    (∀ (q : Nat), s.bestParent (s.rd MGT_FT_STATUS_PARENT_PORT) = some q → q < 128 → q ≠ s.rd MGT_FT_STATUS_PARENT_PORT →
      s.rd MGT_FT_STATUS_ROLE = 2 →
      (s.rd (CYTX_HOPS (s.rd MGT_FT_STATUS_PARENT_PORT)) = 15 ∨ 10 ≤ s.rd (CYTX_MISSED (s.rd MGT_FT_STATUS_PARENT_PORT))) →
      s.does .parentChange s [(MGT_FT_STATUS_ROLE, 2), (MGT_FT_STATUS_PARENT_PORT, q), (MGT_FT_STATUS_PARENT_VALID, 1),
      (MGT_FT_STATUS_HOPS, min 14 (s.rd (CYTX_HOPS q) + 1)), (MGT_FT_STATUS_LOCKED, 0), (FTX_BIG, 0), (FTX_EXCH_AT, s.now),
      (CYTX_MISSED q, 0)]) ∧
    (s.bestParent (s.rd MGT_FT_STATUS_PARENT_PORT) = none → s.does .parentChange s []) ∧
    (∀ (present : Bool), s.on SYS_OFF = true → s.does (.ftRefChange present) s []) ∧
    (s.rd MGT_FT_STATUS_ROLE = 1 →
      s.does .ftHoldoverEntry (s.advTo (max (s.rd FTX_PPS_AT) (s.rd FTX_ROOT_AT) + 1500 * ms)) [(MGT_FT_STATUS_PPS_PRESENT, 0),
      (MGT_FT_STATUS_FT_HOLDOVER, 1)]) ∧
    (s.rd MGT_FT_STATUS_ROLE = 2 → s.bestParent (s.rd MGT_FT_STATUS_PARENT_PORT) = none →
      s.does .ftHoldoverEntry (s.advTo (s.rd FTX_EXCH_AT + 10 * ms)) [(MGT_FT_STATUS_FT_HOLDOVER, 1), (FTX_BIG, 0)]) ∧
    (∀ (c : Cmd), s.ready 0x0B01 c = true → onlyM (s.issuer c.path) = true →
      (cleanCmd c [(0, 64)] false && parBytes c 0 8 % 1000000000 == 0) = true → (s.rd MGT_FT_STATUS_ROLE != ftRoot) = false →
      s.answers (.fabricTimeSet c) 0x0B01 c 0 s [(FTX_SET_VALID, 1), (FTX_SET_VAL, parBytes c 0 8)]) ∧
    (∀ (low high gap : BitVec 32), s.rd MGT_FT_STATUS_ROLE = 1 → s.on MGT_FT_STATUS_REF_PRESENT = true →
      (s.on GLB_CLK_STATUS_SYS_PLL_LOCK = true ∨ s.rd PWR_STATUS_STATE = 3) → 100 ≤ low.toNat → 50 ≤ high.toNat →
      (s.on FTX_HAD_PPS = false ∨ 900 * ms ≤ gap.toNat) → s.on MGT_FT_STATUS_FT_HOLDOVER = false → s.on MGT_FT_STATUS_LOCKED = true →
      1000 < s.ppsError.natAbs → s.doesThen (.ftPpsEdge low high gap) [(FTX_BAD_PPS, satInc FTX_BAD_PPS.width (s.rd FTX_BAD_PPS))] (fun u =>
      u.logUncoded 171 (BitVec.ofInt 64 s.ppsError).toNat 0)) ∧
    (∀ (low high gap : BitVec 32), s.rd MGT_FT_STATUS_ROLE = 1 → s.on MGT_FT_STATUS_REF_PRESENT = true →
      (s.on GLB_CLK_STATUS_SYS_PLL_LOCK = true ∨ s.rd PWR_STATUS_STATE = 3) → 100 ≤ low.toNat → 50 ≤ high.toNat →
      (s.on FTX_HAD_PPS = false ∨ 900 * ms ≤ gap.toNat) → s.on MGT_FT_STATUS_LOCKED = false → s.on FTX_SET_VALID = true →
      s.completes (.ftPpsEdge low high gap) fun t => ∃ u : State, t = (u.ftStep (ftDiff (s.rd FTX_SET_VAL) s.ft)).ftTrim ∧
      s.writes u [(FTX_PPS_AT, s.now), (FTX_HAD_PPS, 1), (MGT_FT_STATUS_PPS_PRESENT, 1), (MGT_FT_STATUS_FT_HOLDOVER, 0),
      (MGT_FT_STATUS_LOCKED, 1), (FTX_SET_VALID, 0), (FTX_STARTED, 1), (MGT_FT_OFFSET_LAST_OFFSET, offset32 s.ppsError)]) ∧
    (∀ (low high gap : BitVec 32), (low.toNat < 100 ∨ high.toNat < 50 ∨ (s.on FTX_HAD_PPS = true ∧
      gap.toNat < 900 * ms) ∨ s.rd MGT_FT_STATUS_ROLE ≠ 1) → s.does (.ftPpsEdge low high gap) s []) ∧
    (∀ (p : Port), s.tetherUp p = true → s.rd (CYTX_TIME_AT p) = 0 → s.on (CYTX_EXCH_OPEN p) = false →
      s.doesThen (.timeExchangeTick p) [(CYTX_TIME_AT p, s.now + 1), (CYTX_EXCH p, (s.rd (CYTX_EXCH p) + 1) % 256), (CYTX_EXCH_T1 p, s.ft),
      (CYTX_EXCH_OPEN p, 1)] (fun u => u.timeRow p (0x55 + s.rd MGT_FT_STATUS_HOPS * 2 ^ 12 + (s.rd (CYTX_EXCH p) + 1) % 256 * 2 ^ 16))) ∧
    (∀ (p : Port), s.tetherUp p = false → s.parentPort p = false → s.does (.timeExchangeTick p) s []) ∧
    (∀ (p : Port), s.tetherUp p = false → s.parentPort p = true → s.rd (CYTX_TIME_AT p) = 0 →
      s.does (.timeExchangeTick p) s [(CYTX_MISSED p, satInc 5 (s.rd (CYTX_MISSED p))), (CYTX_TIME_AT p, s.now + 1),
      (CYTX_EXCH_OPEN p, 0)]) ∧
    (∀ (p : Port) (exch : BitVec 8) (hops : BitVec 4) (u : State), s.tetherUp p = true → s.injected 6 p = false →
      u = s.heardHops p hops.toNat →
      s.does (.timeRequestReceived p true exch hops) (u.takeFree.timeRow p (0x55 + 2 ^ 8 + u.rd MGT_FT_STATUS_HOPS * 2 ^ 12 + exch.toNat * 2 ^ 16 + u.ft * 2 ^ 128 + (u.clk.after (u.freeVal % 2001)).ft.toNat * 2 ^ 192)) []) ∧
    (∀ (p : Port) (exch : BitVec 8) (hops : BitVec 4) (t2 t3 : BitVec 64) (u : State), s.tetherUp p = true → s.injected 6 p = false →
      u = s.heardHops p hops.toNat → (u.on (CYTX_EXCH_OPEN p) = false ∨ u.rd (CYTX_EXCH p) ≠ exch.toNat) →
      s.does (.timeResponseReceived p true exch hops t2 t3) u []) ∧
    (∀ (p : Port) (exch : BitVec 8) (hops : BitVec 4) (t2 t3 : BitVec 64) (u : State), s.tetherUp p = true → s.injected 6 p = false →
      u = s.heardHops p hops.toNat → u.on (CYTX_EXCH_OPEN p) = true → u.rd (CYTX_EXCH p) = exch.toNat → u.rd MGT_FT_STATUS_ROLE ≠ 2 →
      s.completes (.timeResponseReceived p true exch hops t2 t3) fun t => t.rd (CYTX_EXCH_OPEN p) = 0 ∧ t.rd (CYTX_MISSED p) = 0 ∧
      u.keepsRegs t [CYTX_EXCH_OPEN p, CYTX_MISSED p, CYTX_PATH_DELAY p] ∧ u.keepsMem t ∧ t.clk = u.clk ∧ t.out = u.out)

/-- The String chain, and how a unit without a token takes its identity. The head starts its token at READY, 1 s after the start-up began at
the earliest, with value 1; no chain event acts in a drain. Each data bit of a token is sampled in turn and the bit of v + 1 goes out with
carry. With a high stop sample and a value of at most 63 the unit takes its identity from the value; with a low one the token is invalid.
An identity is SMBus address 0x20 + v and node ID v. Without a token for 5 s after READY the unit falls back; a fallen-back unit with a
management host and no tether up takes node ID 0 a second later. A unit that has what the event would give changes nothing. Forms for
which a clause concludes that exec answers a next state with the effect named, from conditions on the state and operands alone:
chainHeadStart, chainBitSample, chainStopSample, chainTimeout, selfNodeId. (03_clocks_time_reset.md, 20_management_and_debug.md) -/
def Obligations.Identity : Prop :=
  ∀ s : State, s.Inv →
    (s.on GLB_STRAPS_CHAIN_HEAD = true → s.chainUp = true → s.rd CHNX_TX_AT = 0 → s.completes .chainHeadStart fun t => t.rd CHNX_TX_OK = 1 ∧
      t.rd MGT_CHAIN_STATUS_TX_VALUE = 1 ∧ t.now = max s.now (max (s.rd READYX_AT) (s.rd READYX_START_AT + sec)) ∧
      s.keepsRegs t [CHNX_TX_AT, CHNX_TX_OK, MGT_CHAIN_STATUS_TX_VALUE] ∧ s.keepsMem t ∧ t.out = (List.range 9).reverse.map (fun k =>
      Out.pin 3 k (k < 2 || k == 8)) ++ s.out) ∧
    (s.on GLB_STRAPS_CHAIN_HEAD = false → s.does .chainHeadStart s []) ∧
    (∀ (k : Fin 7), s.chainUp = true → s.on CHNX_EDGE = true → s.rd CHNX_NBIT = k → s.completes (.chainBitSample k) fun t =>
      ∃ u b c, b = bit (s.rd GLB_INPUT_STATUS_CHAIN_IN) 0 ∧ c = s.rd CHNX_CARRY ∧ t = u.emit (.pin 3 (k + 1) (b != c)) ∧
      (s.advTo (s.rd CHNX_EDGE_AT + (18 + 12 * k.val) * ms)).writes u [(CHNX_NBIT, k.val + 1), (CHNX_VAL, s.rd CHNX_VAL + b * 2 ^ k.val),
      (CHNX_CARRY, b * c)]) ∧
    (∀ (k : Fin 7), s.on CHNX_EDGE = false → s.does (.chainBitSample k) s []) ∧
    (s.chainUp = true → s.on CHNX_EDGE = true → s.rd CHNX_NBIT = 7 → bitSet (s.rd GLB_INPUT_STATUS_CHAIN_IN) 0 = true → s.rd CHNX_VAL ≤ 63 →
      s.completes .chainStopSample fun t => ∃ u : State, t = (u.takeIdentity (s.rd CHNX_VAL) 2).cell 8 true ∧
      (s.advTo (s.rd CHNX_EDGE_AT + 102 * ms)).writes u [(CHNX_EDGE, 0), (MGT_CHAIN_STATUS_RX_VALUE, s.rd CHNX_VAL),
      (MGT_CHAIN_STATUS_TX_VALUE, s.rd CHNX_VAL + 1), (MGT_CHAIN_STATUS_RX_VALID, 1), (CHNX_TX_OK, 1)]) ∧
    (s.chainUp = true → s.on CHNX_EDGE = true → s.rd CHNX_NBIT = 7 → bitSet (s.rd GLB_INPUT_STATUS_CHAIN_IN) 0 = false →
      s.rd CHNX_FB_AT = 0 → s.completes .chainStopSample fun t => t.rd MGT_CHAIN_STATUS_INVALID = 1 ∧ t.rd CHNX_EDGE = 0 ∧
      t.rd MGT_NODE_ID_NODE_VALID = s.rd MGT_NODE_ID_NODE_VALID ∧ t.out = .pin 3 8 false :: s.out ∧ s.keepsMem t) ∧
    (∀ (v : Fin 64) (n : Fin 4), s.takeIdentity v n = (s.wrs [(MGT_NODE_ID_SMB_ADDR, 0x20 + v), (MGT_NODE_ID_NODE_ID, v),
      (MGT_NODE_ID_NODE_VALID, 1), (MGT_NODE_ID_SOURCE, n), (MGT_SMB_STATUS_AR, 1)]).tellNode ∧
      (s.takeIdentity v n).rd MGT_NODE_ID_SMB_ADDR = 0x20 + v ∧ (s.takeIdentity v n).rd MGT_NODE_ID_NODE_ID = v ∧
      (s.takeIdentity v n).rd MGT_NODE_ID_NODE_VALID = 1 ∧ (s.takeIdentity v n).rd MGT_NODE_ID_SOURCE = n) ∧
    (s.rd GLB_BOOT_STATUS_STAGE = 6 → s.hasIdentity = false → s.on CHNX_EDGE = false → s.rd CHNX_FB_AT = 0 →
      s.completes .chainTimeout fun t => (s.advTo (s.rd READYX_AT + 5 * sec)).writes t [(CHNX_FB_AT, t.now + 1)]) ∧
    (s.hasIdentity = true → s.does .chainTimeout s []) ∧
    (∀ (h : Nat), s.rd GLB_BOOT_STATUS_STAGE = 6 → s.rd CHNX_FB_AT ≠ 0 → s.on MGT_NODE_ID_NODE_VALID = false → s.mgmtHost = some h →
      ((List.range 128).all fun q => !s.tetherUp q) = true → s.completes .selfNodeId fun t => t.rd MGT_NODE_ID_NODE_ID = 0 ∧
      t.rd MGT_NODE_ID_NODE_VALID = 1 ∧ t.rd MGT_NODE_ID_SOURCE = 3 ∧ t.now = max s.now (s.rd CHNX_FB_AT - 1 + sec) ∧ s.keepsMem t ∧
      t.out = s.out) ∧
    (s.on MGT_NODE_ID_NODE_VALID = true → s.does .selfNodeId s [])

/-- Power states: idle, sleep, wakes and the management vote. PS-IDLE is entered from PS-RUN when nothing is queued or running, takes links to
their ASPM state, and is left again with the links. A request that arrives asleep wakes the part first. The sleep entry begins when the
delay has run, and ends in PS-SLEEP with the channels in self-refresh. A wake ends PS-SLEEP, an abandoned entry is counted, and both
record the cause, the state left and the time. POWER_VOTE replaces the management host's vote. Events that do not apply change nothing.
Forms for which a clause concludes that exec answers a next state with the effect named, from conditions on the state and operands alone:
idleEntry, idleExit, sleepDelayEnd, sleepEntryDone, wake, sleepAbandoned, powerVote. (17_power_states.md) -/
def Obligations.PowerStates : Prop :=
  ∀ s : State, s.Inv →
    (s.rd PWR_STATUS_STATE = 0 → s.on PWR_STATUS_ENTERING = false → s.rd GLB_BOOT_STATUS_STAGE = 6 → s.quietCore = true → (s.ops.all fun o =>
      o.final.isSome) = true → s.does .idleEntry ((s.wr PWR_STATUS_STATE 1).forN (fun p s => s.aspmEnter p) 128) []) ∧
    (∀ (p : Port), ((s.rd (PRT_CFG_MODE p) = 1 ∨ s.rd (PRT_CFG_MODE p) = 2)) → s.rd (PRT_LINK_STATUS_LTSSM p) = 3 → 2 ≤ s.rd (PRTX_ASPM p) →
      s.aspmEnter p = (s.wr (PRT_LINK_STATUS_LTSSM p) 6).laneView p) ∧
    (∀ (p : Port), ((s.rd (PRT_CFG_MODE p) = 1 ∨ s.rd (PRT_CFG_MODE p) = 2)) →
      (s.rd (PRT_LINK_STATUS_LTSSM p) = 5 ∨ s.rd (PRT_LINK_STATUS_LTSSM p) = 6) → s.aspmLeave p = (s.wrs [(PRT_LINK_STATUS_LTSSM p, 3),
      (PRT_LINK_STATUS_DEEP_LEVEL p, 0)]).laneView p) ∧
    (∀ (p : Port), s.rd PWR_STATUS_STATE = 2 → s.arrive p = (s.wake (if s.rd (PRT_CFG_MODE p) = 1 then 1 else 2) p).aspmLeave p) ∧
    (∀ (t : Tlp) (n : Bool) (a : Fin 4) (o : MemOp) (h : Host) (p : Port), s.on PWR_STATUS_ENTERING = false →
      (s.rd PWR_STATUS_STATE = 1 ∨ s.rd PWR_STATUS_STATE = 2) → exec (.tlpIngress t n) s = exec (.tlpIngress t n) (s.arrive t.ingress) ∧
      exec (.peerRequest t a o) s = exec (.peerRequest t a o) (s.arrive t.ingress) ∧
      exec (.ptmRequest p) s = exec (.ptmRequest p) (s.arrive p) ∧ exec (.d0Return h) s = exec (.d0Return h) (s.arriveHost h) ∧
      exec (.bmeSet h) s = exec (.bmeSet h) (s.arriveHost h) ∧ exec (.bmeClear h) s = exec (.bmeClear h) (s.arriveHost h)) ∧
    ((s.quietCore = false ∨ s.rd PWR_STATUS_STATE ≠ 0) → s.does .idleEntry s []) ∧
    (s.rd PWR_STATUS_STATE = 1 → s.does .idleExit ((s.wr PWR_STATUS_STATE 0).forN (fun p s => s.aspmLeave p) 128) []) ∧
    (s.rd PWR_STATUS_STATE ≠ 1 → s.does .idleExit s []) ∧
    (s.delayRuns = true → s.does .sleepDelayEnd s [(PWR_STATUS_ENTERING, 1)]) ∧
    (s.delayRuns = false → s.does .sleepDelayEnd s []) ∧
    (s.on PWR_STATUS_ENTERING = true → s.quietCore = true → s.completes .sleepEntryDone fun t => t.rd PWR_STATUS_STATE = 2 ∧
      t.rd PWR_STATUS_ENTERING = 0 ∧ t.rd PWR_EVENT_SLEEP = 1 ∧
      t.rd PWR_COUNT_SLEEPS = satInc PWR_COUNT_SLEEPS.width (s.rd PWR_COUNT_SLEEPS) % 2 ^ PWR_COUNT_SLEEPS.width ∧
      (∀ c < 8, t.rd (BAL_CH_STATUS_STATE c) = if s.rd (BAL_CH_STATUS_STATE c) = 2 then 3 else s.rd (BAL_CH_STATUS_STATE c)) ∧
      s.keepsRegs t ([PWR_STATUS_STATE, PWR_STATUS_ENTERING, PWR_EVENT_SLEEP, PWR_COUNT_SLEEPS] ++ (List.range 8).map BAL_CH_STATUS_STATE) ∧
      s.keepsMem t ∧ t.out = s.out) ∧
    (∀ (src : Fin 16) (idx : Fin 128), s.rd PWR_STATUS_STATE = 2 → s.completes (.wake src idx) fun t => t.rd PWR_STATUS_STATE = 0 ∧
      t.rd PWR_EVENT_WAKE = 1 ∧ t.rd PWR_LAST_WAKE_SOURCE = src.val ∧ t.rd PWR_LAST_WAKE_FROM_STATE = 2 ∧
      t.rd PWR_LAST_WAKE_INDEX = idx.val ∧ t.rd PWR_LAST_WAKE_TIME_LO_TIME = s.ft % 2 ^ 32 ∧
      t.rd PWR_LAST_WAKE_TIME_HI_TIME = s.ft / 2 ^ 32 ∧
      (∀ c < 8, t.rd (BAL_CH_STATUS_STATE c) = if s.rd (BAL_CH_STATUS_STATE c) = 3 then 2 else s.rd (BAL_CH_STATUS_STATE c)) ∧
      s.keepsRegs t ([PWR_STATUS_STATE, PWR_EVENT_WAKE, PWR_STATUS_ENTERING, PWR_EVENT_ABANDONED, PWR_COUNT_ABANDONS, PWR_LAST_WAKE_SOURCE, PWR_LAST_WAKE_FROM_STATE, PWR_LAST_WAKE_INDEX, PWR_LAST_WAKE_TIME_LO_TIME, PWR_LAST_WAKE_TIME_HI_TIME] ++ (List.range 8).map BAL_CH_STATUS_STATE) ∧ s.keepsMem t ∧ t.out = s.out) ∧
    (∀ (src : Fin 16) (idx : Fin 128), s.rd PWR_STATUS_STATE ≠ 2 → s.does (.wake src idx) s []) ∧
    (∀ (src : Fin 16) (idx : Fin 128), s.on PWR_STATUS_ENTERING = true → s.rd PWR_STATUS_STATE ≠ 2 →
      s.completes (.sleepAbandoned src idx) fun t => t.rd PWR_STATUS_STATE = 0 ∧ t.rd PWR_STATUS_ENTERING = 0 ∧
      t.rd PWR_EVENT_ABANDONED = 1 ∧
      t.rd PWR_COUNT_ABANDONS = satInc PWR_COUNT_ABANDONS.width (s.rd PWR_COUNT_ABANDONS) % 2 ^ PWR_COUNT_ABANDONS.width ∧
      t.rd PWR_LAST_WAKE_SOURCE = src.val ∧ t.rd PWR_LAST_WAKE_FROM_STATE = 2 ∧ t.rd PWR_LAST_WAKE_INDEX = idx.val ∧
      t.rd PWR_LAST_WAKE_TIME_LO_TIME = s.ft % 2 ^ 32 ∧ t.rd PWR_LAST_WAKE_TIME_HI_TIME = s.ft / 2 ^ 32 ∧
      (∀ c < 8, t.rd (BAL_CH_STATUS_STATE c) = if s.rd (BAL_CH_STATUS_STATE c) = 3 then 2 else s.rd (BAL_CH_STATUS_STATE c)) ∧
      s.keepsRegs t ([PWR_STATUS_STATE, PWR_EVENT_WAKE, PWR_STATUS_ENTERING, PWR_EVENT_ABANDONED, PWR_COUNT_ABANDONS, PWR_LAST_WAKE_SOURCE, PWR_LAST_WAKE_FROM_STATE, PWR_LAST_WAKE_INDEX, PWR_LAST_WAKE_TIME_LO_TIME, PWR_LAST_WAKE_TIME_HI_TIME] ++ (List.range 8).map BAL_CH_STATUS_STATE) ∧ s.keepsMem t ∧ t.out = s.out) ∧
    (∀ (src : Fin 16) (idx : Fin 128), s.on PWR_STATUS_ENTERING = false → s.does (.sleepAbandoned src idx) s []) ∧
    (∀ (c : Cmd), s.ready 0x0801 c = true → onlyM (s.issuer c.path) = true → cleanCmd c [(0, 31), (32, 1)] false = true →
      s.answers (.powerVote c) 0x0801 c 0 s [(PWR_MGMT_VOTE_MASK, parBits c 0 31), (PWR_MGMT_VOTE_HELD, parBits c 32 1)])

/-- The slot power channels: precharge, ramp, faults, retries and latches. A slot channel passes from PRECHARGE to RAMP and from RAMP to ON
with PGOOD. A fault or fast trip of a live channel with no port releases PGOOD, drives SLOT_PERST_N low, records its cause and leads to
COOLDOWN while retries remain, else to LATCHED; a stuck gate and a shorted FET latch at once. The end of the cooldown takes one retry and
closes the channel, once VOUT has discharged; PGOOD held for 1 s restores the retries. SLOT_PERST_N rises 100 ms after PGOOD. A channel
that is to open opens. A power request waits while another runs; the writes of Power Controller Control by the owning host request power
on or off. Channels in another state ignore these events. POWER_SC_REARM returns a latched channel to OFF; POWER_SC_SET stores its fields;
PORT_SLOT starts as a long command. Forms for which a clause concludes that exec answers a next state with the effect named, from
conditions on the state and operands alone: scPrechargeDone, scPgood, scVoutDischarged, scPgoodHeld, scCooldownEnd, scFault, fastTrip,
gateStuck, fetShort, slotPerstRelease, slotChannelOpen, scPowerOnRequest, scPowerOffRequest, powerScRearm, powerScSet, slotPowerOnWrite,
slotPowerOffWrite, portSlot. (18_power_die.md, 05_pcie_ports.md) -/
def Obligations.SlotChannels : Prop :=
  ∀ s : State, s.Inv →
    (∀ (c : Slot), s.scState c = 1 → s.does (.scPrechargeDone c) s [(PDI_SC_STATUS_STATE c, 2), (SCX_ST_AT c, s.now)]) ∧
    (∀ (c : Slot), s.scState c ≠ 1 → s.does (.scPrechargeDone c) s []) ∧
    (∀ (c : Slot), s.scState c = 2 → s.on (PDI_SC_STATUS_TIMER_RUNNING c) = false → s.does (.scPgood c) s [(PDI_SC_STATUS_STATE c, 3),
      (SCX_ST_AT c, s.now), (PDI_SC_STATUS_PGOOD c, 1), (SCX_PG_AT c, s.now), (PDI_SC_EVENT_PGOOD_UP c, 1), (PDI_EVENT_SC_ANY, 1)]) ∧
    (∀ (c : Slot), (s.scState c ≠ 2 ∨ s.on (PDI_SC_STATUS_TIMER_RUNNING c) = true) → s.does (.scPgood c) s []) ∧
    (∀ (c : Slot), s.on (SCX_VOUT_HI c) = true → s.rd (SCX_WAIT c) = 0 → s.does (.scVoutDischarged c) s [(SCX_VOUT_HI c, 0)]) ∧
    (∀ (c : Slot), s.on (SCX_VOUT_HI c) = true → s.rd (SCX_WAIT c) ≠ 0 → s.does (.scVoutDischarged c) s [(SCX_VOUT_HI c, 0),
      (SCX_WAIT c, 0), (PDI_SC_STATUS_EN_3V3 c, 1), (PDI_SC_STATUS_STATE c, 1), (SCX_ST_AT c, s.now)]) ∧
    (∀ (c : Slot), s.scState c = 3 →
      s.does (.scPgoodHeld c) (s.advTo (s.rd (SCX_PG_AT c) + sec)) [(PDI_SC_STATUS_RETRIES_LEFT c, s.rd (PDI_SC_CFG_RETRIES c))]) ∧
    (∀ (c : Slot), s.scState c ≠ 3 → s.does (.scPgoodHeld c) s []) ∧
    (∀ (c : Slot), s.scState c = 4 → s.rd (SCX_WAIT c) = 0 → s.rd (SCX_OFF_AT c) = 0 → s.on (SCX_VOUT_HI c) = true →
      s.does (.scCooldownEnd c) (s.advTo (s.rd (SCX_ST_AT c) + sec)) [(PDI_SC_STATUS_RETRIES_LEFT c, s.rd (PDI_SC_STATUS_RETRIES_LEFT c) - 1), (SCX_WAIT c, 2)]) ∧
    (∀ (c : Slot), s.scState c = 4 → s.rd (SCX_WAIT c) = 0 → s.rd (SCX_OFF_AT c) = 0 → s.on (SCX_VOUT_HI c) = false →
      s.completes (.scCooldownEnd c) fun t => t.rd (PDI_SC_STATUS_STATE c) = 1 ∧ t.rd (PDI_SC_STATUS_EN_3V3 c) = 1 ∧
      t.rd (PDI_SC_STATUS_RETRIES_LEFT c) = (s.rd (PDI_SC_STATUS_RETRIES_LEFT c) - 1) % 2 ^ (PDI_SC_STATUS_RETRIES_LEFT c).width ∧
      s.keepsRegs t [PDI_SC_STATUS_RETRIES_LEFT c, SCX_WAIT c, PDI_SC_STATUS_EN_3V3 c, PDI_SC_STATUS_STATE c, SCX_ST_AT c] ∧ s.keepsMem t ∧
      t.out = s.out) ∧
    (∀ (c : Slot) (k : Fin 3), s.scLive c = true → s.on SYS_OFF = false → (k ≠ 2 ∨ s.scState c = 2) → (k ≠ 1 ∨ s.slotFrozen c = false) →
      s.rd PWR_STATUS_STATE ≠ 2 → s.on PWR_STATUS_ENTERING = false → s.rd (SCX_BUSY c) = 0 → s.slotPort c = none →
      s.rd (PDI_SC_STATUS_RETRIES_LEFT c) ≠ 0 → s.on (SCX_NEWRETRY c) = false → s.completes (.scFault c k) fun t =>
      t.rd (PDI_SC_STATUS_STATE c) = 4 ∧ t.rd (PDI_SC_STATUS_LAST_CAUSE c) = (if k = 0 then 1 else if k = 1 then 3 else 4) ∧
      t.on (PDI_SC_STATUS_PGOOD c) = false ∧ t.rd (PDI_SC_STATUS_PERST_LOW c) = 1 ∧ t.rd (PDI_SC_STATUS_EN_3V3 c) = 0 ∧
      t.rd (PDI_SC_EVENT_FAULT c) = 1 ∧ s.keepsMem t ∧ t.out = s.out) ∧
    (∀ (c : Slot) (k : Fin 3), s.scLive c = true → s.on SYS_OFF = false → (k ≠ 2 ∨ s.scState c = 2) → (k ≠ 1 ∨ s.slotFrozen c = false) →
      s.rd PWR_STATUS_STATE ≠ 2 → s.on PWR_STATUS_ENTERING = false → s.rd (SCX_BUSY c) = 0 → s.slotPort c = none →
      s.rd (PDI_SC_STATUS_RETRIES_LEFT c) = 0 → s.on (SCX_NEWRETRY c) = false → s.completes (.scFault c k) fun t =>
      t.rd (PDI_SC_STATUS_STATE c) = 5 ∧ t.rd (PDI_SC_STATUS_LAST_CAUSE c) = (if k = 0 then 1 else if k = 1 then 3 else 4) ∧
      t.on (PDI_SC_STATUS_PGOOD c) = false ∧ t.rd (PDI_SC_STATUS_PERST_LOW c) = 1 ∧ t.rd (PDI_SC_STATUS_EN_3V3 c) = 0 ∧
      t.rd (PDI_SC_EVENT_FAULT c) = 1 ∧ t.rd (PDI_SC_EVENT_LATCHED c) = 1 ∧ s.keepsMem t ∧ t.out = s.out) ∧
    (∀ (c : Slot), s.scLive c = true → s.rd PWR_STATUS_STATE ≠ 2 → s.on PWR_STATUS_ENTERING = false → s.rd (SCX_BUSY c) = 0 →
      s.slotPort c = none → s.rd (PDI_SC_STATUS_RETRIES_LEFT c) ≠ 0 → s.on (SCX_NEWRETRY c) = false → s.completes (.fastTrip c) fun t =>
      t.rd (PDI_SC_STATUS_STATE c) = 4 ∧ t.rd (PDI_SC_STATUS_LAST_CAUSE c) = 2 ∧ t.on (PDI_SC_STATUS_PGOOD c) = false ∧
      t.rd (PDI_SC_STATUS_PERST_LOW c) = 1 ∧ t.rd (PDI_SC_STATUS_EN_3V3 c) = 0 ∧ t.rd (PDI_SC_EVENT_FAULT c) = 1 ∧ s.keepsMem t ∧
      t.out = s.out) ∧
    (∀ (c : Slot), s.scLive c = true → s.rd PWR_STATUS_STATE ≠ 2 → s.on PWR_STATUS_ENTERING = false → s.rd (SCX_BUSY c) = 0 →
      s.slotPort c = none → s.rd (PDI_SC_STATUS_RETRIES_LEFT c) = 0 → s.on (SCX_NEWRETRY c) = false → s.completes (.fastTrip c) fun t =>
      t.rd (PDI_SC_STATUS_STATE c) = 5 ∧ t.rd (PDI_SC_STATUS_LAST_CAUSE c) = 2 ∧ t.on (PDI_SC_STATUS_PGOOD c) = false ∧
      t.rd (PDI_SC_STATUS_PERST_LOW c) = 1 ∧ t.rd (PDI_SC_STATUS_EN_3V3 c) = 0 ∧ t.rd (PDI_SC_EVENT_FAULT c) = 1 ∧
      t.rd (PDI_SC_EVENT_LATCHED c) = 1 ∧ s.keepsMem t ∧ t.out = s.out) ∧
    (∀ (c : Slot) (k : Fin 3), (s.scLive c = false ∨ s.on SYS_OFF = true) → s.does (.scFault c k) s []) ∧
    (∀ (c : Slot), s.slotFrozen c = true → s.does (.scFault c 1) s []) ∧
    (∀ (c : Slot), s.scLive c = false → s.does (.fastTrip c) s []) ∧
    (∀ (c : Slot), s.scState c = 1 → s.rd (SCX_BUSY c) = 0 → s.slotPort c = none → s.completes (.gateStuck c) fun t =>
      t.rd (PDI_SC_STATUS_STATE c) = 5 ∧ t.rd (PDI_SC_STATUS_LAST_CAUSE c) = 5 ∧ t.rd (PDI_SC_EVENT_GATE_STUCK c) = 1 ∧
      t.rd (PDI_SC_EVENT_LATCHED c) = 1 ∧ t.now = max s.now (s.rd (SCX_ST_AT c) + ms) ∧ s.keepsMem t ∧ t.out = s.out) ∧
    (∀ (c : Slot), s.scState c ≠ 1 → s.does (.gateStuck c) s []) ∧
    (∀ (c : Slot), (s.scState c = 0 ∨ s.scState c = 4) → s.on (SCX_VOUT_HI c) = true → s.rd (SCX_BUSY c) = 0 → s.slotPort c = none →
      s.completes (.fetShort c) fun t => t.rd (PDI_SC_STATUS_STATE c) = 5 ∧ t.rd (PDI_SC_STATUS_LAST_CAUSE c) = 6 ∧
      t.rd (PDI_SC_EVENT_FET_SHORT c) = 1 ∧ t.rd (PDI_SC_EVENT_LATCHED c) = 1 ∧ t.now = max s.now (s.rd (SCX_LOW_AT c) + 5 * sec) ∧
      s.keepsMem t ∧ t.out = s.out) ∧
    (∀ (c : Slot), s.on (SCX_VOUT_HI c) = false → s.does (.fetShort c) s []) ∧
    (∀ (c : Slot), s.scState c = 3 → s.on (PDI_SC_STATUS_PERST_LOW c) = true → s.rd (SCX_OFF_AT c) = 0 → s.rd (SCX_BUSY c) ≠ 1 →
      s.does (.slotPerstRelease c) (s.advTo (s.rd (SCX_PG_AT c) + 100 * ms)) [(PDI_SC_STATUS_PERST_LOW c, 0)]) ∧
    (∀ (c : Slot), s.scState c ≠ 3 → s.does (.slotPerstRelease c) s []) ∧
    (∀ (c : Slot), s.rd (SCX_OFF_AT c) ≠ 0 → s.rd (SCX_BUSY c) ≠ 2 → s.scState c ≠ 5 → s.completes (.slotChannelOpen c) fun t =>
      t.rd (PDI_SC_STATUS_STATE c) = 0 ∧ t.on (PDI_SC_STATUS_PGOOD c) = false ∧ t.rd (PDI_SC_STATUS_PERST_LOW c) = 1 ∧
      t.rd (PDI_SC_STATUS_EN_3V3 c) = 0 ∧ t.rd (SCX_OFF_AT c) = 0 ∧ s.keepsMem t ∧ t.out = s.out) ∧
    (∀ (c : Slot), s.rd (SCX_OFF_AT c) = 0 → s.does (.slotChannelOpen c) s []) ∧
    (∀ (c : Slot), (s.moored = true ∨ s.on SYS_OFF = true ∨ s.rd PWR_STATUS_STATE = 3) → s.does (.scPowerOnRequest c) s []) ∧
    (∀ (c : Slot), s.on MORX_DEAD = false → s.on SYS_OFF = false → s.moored = false → s.rd PWR_STATUS_STATE ≠ 3 → s.rd (SCX_BUSY c) ≠ 0 →
      s.does (.scPowerOnRequest c) s [(SCX_NEXT c, 1)]) ∧
    (∀ (c : Slot), s.on MORX_DEAD = false → s.on SYS_OFF = false → s.moored = false → s.rd PWR_STATUS_STATE ≠ 3 → s.rd (SCX_BUSY c) = 0 →
      s.scState c = 0 → s.on (PDI_SC_CFG_ENABLE c) = true → s.on (SCX_VOUT_HI c) = false → s.completes (.scPowerOnRequest c) fun t =>
      t.rd (PDI_SC_STATUS_STATE c) = 1 ∧ t.rd (PDI_SC_STATUS_EN_3V3 c) = 1 ∧
      t.rd (PDI_SC_STATUS_RETRIES_LEFT c) = s.rd (PDI_SC_CFG_RETRIES c) % 2 ^ 3 ∧ t.rd (SCX_BUSY c) = 1 ∧ s.keepsMem t ∧ t.out = s.out) ∧
    (∀ (c : Slot), s.on MORX_DEAD = false → s.on SYS_OFF = false → s.moored = false → s.rd PWR_STATUS_STATE ≠ 3 → s.rd (SCX_BUSY c) = 0 →
      s.scState c = 0 → s.on (PDI_SC_CFG_ENABLE c) = true → s.on (SCX_VOUT_HI c) = true → s.completes (.scPowerOnRequest c) fun t =>
      t.rd (PDI_SC_STATUS_STATE c) = 0 ∧ t.rd (SCX_WAIT c) = 1 ∧ t.rd (SCX_BUSY c) = 1 ∧ s.keepsMem t ∧ t.out = s.out) ∧
    (∀ (c : Slot), s.rd (SCX_BUSY c) ≠ 0 → s.does (.scPowerOffRequest c) s [(SCX_NEXT c, 2)]) ∧
    (∀ (c : Slot), s.rd (SCX_BUSY c) = 0 → s.scState c ≠ 0 → s.scState c ≠ 5 → s.does (.scPowerOffRequest c) s [(SCX_BUSY c, 2),
      (PDI_SC_STATUS_PERST_LOW c, 1), (SCX_OFF_AT c, s.now + 1)]) ∧
    (∀ (c : Cmd), s.ready 0x0804 c = true → onlyM (s.issuer c.path) = true →
      (cleanCmd c [(0, 8)] false && decide (parBytes c 0 1 < 32)) = true → s.scState (parBytes c 0 1) = 5 →
      s.answers (.powerScRearm c) 0x0804 c 0 s [(PDI_SC_STATUS_RETRIES_LEFT (parBytes c 0 1), s.rd (PDI_SC_CFG_RETRIES (parBytes c 0 1))),
      (SCX_OFFSEEN (parBytes c 0 1), 0), (PDI_SC_STATUS_STATE (parBytes c 0 1), 0), (SCX_ST_AT (parBytes c 0 1), s.now)]) ∧
    (∀ (c : Cmd), s.ready 0x0804 c = true → onlyM (s.issuer c.path) = true →
      (cleanCmd c [(0, 8)] false && decide (parBytes c 0 1 < 32)) = true → s.scState (parBytes c 0 1) ≠ 5 →
      s.answers (.powerScRearm c) 0x0804 c 0 s []) ∧
    (∀ (c : Cmd) (k : Nat), s.ready 0x0803 c = true → onlyM (s.issuer c.path) = true → (cleanCmd c [(0, 8), (8, 1), (16, 16), (32, 16),
      (48, 8)] false && decide (parBytes c 0 1 < 32) && decide (500 ≤ parBytes c 2 2) && decide (parBytes c 2 2 ≤ 8000) && decide (1 ≤ parBytes c 4 2) && decide (parBytes c 4 2 ≤ 200) && decide (parBytes c 6 1 ≤ 7)) = true → k = parBytes c 0 1 → s.rd (PDI_SC_CFG_RETRIES k) = parBytes c 6 1 → s.slotPort k = none → s.answersWith (.powerScSet c) 0x0803 c 0 fun u => ∃ v : State, u = v.slotCmd k (if parBits c 8 1 = 1 then 1 else 2) ∧ s.writes v [(PDI_SC_CFG_ENABLE k, parBits c 8 1), (PDI_SC_CFG_TRIP_MA k, parBytes c 2 2), (PDI_SC_CFG_TIMER k, parBytes c 4 2), (PDI_SC_CFG_RETRIES k, parBytes c 6 1)]) ∧
    (∀ (c : Cmd) (k p : Nat), s.ready 0x0803 c = true → onlyM (s.issuer c.path) = true → (cleanCmd c [(0, 8), (8, 1), (16, 16), (32, 16),
      (48, 8)] false && decide (parBytes c 0 1 < 32) && decide (500 ≤ parBytes c 2 2) && decide (parBytes c 2 2 ≤ 8000) && decide (1 ≤ parBytes c 4 2) && decide (parBytes c 4 2 ≤ 200) && decide (parBytes c 6 1 ≤ 7)) = true → k = parBytes c 0 1 → s.rd (PDI_SC_CFG_RETRIES k) = parBytes c 6 1 → s.slotPort k = some p → parBits c 8 1 = 1 → s.answers (.powerScSet c) 0x0803 c 0 s [(PDI_SC_CFG_ENABLE k, 1), (PDI_SC_CFG_TRIP_MA k, parBytes c 2 2), (PDI_SC_CFG_TIMER k, parBytes c 4 2), (PDI_SC_CFG_RETRIES k, parBytes c 6 1)]) ∧
    (∀ (h : Host) (p : Port), s.slotOwned p = true → s.boundHost p = some h.val → s.completes (.slotPowerOnWrite h p) fun t =>
      ∃ u : State, t = u.slotCmd (s.rd (PRT_CFG_SLOT_CH p)) 1 ∧ s.writes u [(SLTX_CTL p, clrBit (s.rd (SLTX_CTL p)) 10)]) ∧
    (∀ (h : Host) (p : Port), s.slotOwned p = true → s.boundHost p = some h.val → s.completes (.slotPowerOffWrite h p) fun t =>
      ∃ u : State, t = u.slotCmd (s.rd (PRT_CFG_SLOT_CH p)) 2 ∧ s.writes u [(SLTX_CTL p, setBit (s.rd (SLTX_CTL p)) 10)]) ∧
    (∀ (h : Host) (p : Port), (s.slotOwned p = false ∨ s.boundHost p ≠ some h.val) → s.does (.slotPowerOnWrite h p) s []) ∧
    (∀ (h : Host) (p : Port), (s.slotOwned p = false ∨ s.boundHost p ≠ some h.val) → s.does (.slotPowerOffWrite h p) s []) ∧
    (∀ (c : Cmd), s.ready 0x0205 c = true → onlyM (s.issuer c.path) = true → (cleanCmd c [(0, 8), (8, 8),
      (16, 4)] false && decide (parBytes c 0 1 < 128) && decide (parBytes c 1 1 ≤ 2)) = true →
      (s.rd (PRT_CFG_MODE (parBytes c 0 1)) != 2 || !s.on (PRT_CFG_SLOT_VALID (parBytes c 0 1))) = false →
      (s.slotOwned (parBytes c 0 1)) = false → (s.unbindBusy (parBytes c 0 1)) = false → (s.opsFull (s.issuer c.path)) = false →
      s.starts (.portSlot c) 0x0205 grpHotPlug 1 0 0 c [])

/-- The Lift pack: charging, holds, the health test, insertion, removal and the hourly log. The end of constant current starts balancing, the
end of balancing ends the charge with a full pack and, for a new pack, a test due; a pack that fell to the restart level charges again
where charging is allowed. A temperature above 55 C holds charging and one at or below it ends the hold. A test falls due 168 hours after
the last and starts when one is ready; its end records capacitance, ESR and the count, and clears what was due. An inserted pack is read
whole; a removed one clears what was known of it. The hourly log counts one hour and its band. MOORING_LIFT_TEST starts as a long command.
Events that do not apply change nothing. Forms for which a clause concludes that exec answers a next state with the effect named, from
conditions on the state and operands alone: chargeCcDone, chargeBalDone, chargeRestart, chargeHold, chargeHoldClear, healthTestDue,
healthTestStart, healthTestEnd, mooringLiftTest, liftHourlyLog, liftInserted, liftRemoved. (18_power_die.md, 19_mooring.md) -/
def Obligations.LiftPack : Prop :=
  ∀ s : State, s.Inv →
    (s.rd PDI_STATUS_CONV_MODE = 1 → s.does .chargeCcDone s [(PDI_STATUS_CONV_MODE, 2), (PDI_STATUS_BKP_L, 1)]) ∧
    (s.rd PDI_STATUS_CONV_MODE ≠ 1 → s.does .chargeCcDone s []) ∧
    (s.rd PDI_STATUS_CONV_MODE = 2 → s.on LIFTX_FIRST = false → s.does .chargeBalDone s [(PDI_STATUS_CONV_MODE, 0), (PDI_STATUS_BKP_L, 0),
      (LIFTX_FULL, 1)]) ∧
    (s.rd PDI_STATUS_CONV_MODE = 2 → s.on LIFTX_FIRST = true → s.does .chargeBalDone s [(PDI_STATUS_CONV_MODE, 0), (PDI_STATUS_BKP_L, 0),
      (LIFTX_FULL, 1), (LIFTX_FIRST, 0), (LIFTX_DUE, 1)]) ∧
    (s.rd PDI_STATUS_CONV_MODE = 0 → s.on LIFTX_FULL = true → s.mayCharge = true → s.does .chargeRestart s [(LIFTX_FULL, 0),
      (PDI_STATUS_CONV_MODE, 1), (PDI_STATUS_BKP_L, 1)]) ∧
    (s.rd PDI_STATUS_CONV_MODE = 0 → s.on LIFTX_FULL = true → s.mayCharge = false → s.does .chargeRestart s [(LIFTX_FULL, 0)]) ∧
    (∀ (t : BitVec 8), s.on PDI_LIFT_STATUS_PRESENT = true → 55 < t.toNat → s.rd PWR_STATUS_STATE ≠ 2 → s.on PWR_STATUS_ENTERING = false →
      s.rd MOR_STATUS_STATE = 0 → s.completes (.chargeHold t) fun u => u.rd PDI_LIFT_STATUS_TEMP_C = t.toNat ∧
      u.rd PDI_LIFT_STATUS_CHARGE_HOLD = 1 ∧ u.rd PDI_EVENT_CHARGE_HOLD = 1 ∧ u.rd PDI_STATUS_CONV_MODE ≠ 1 ∧
      u.rd PDI_STATUS_CONV_MODE ≠ 2 ∧ s.keepsMem u) ∧
    (∀ (t : BitVec 8), t.toNat ≤ 55 → s.does (.chargeHold t) s []) ∧
    (∀ (t : BitVec 8), s.on PDI_LIFT_STATUS_CHARGE_HOLD = true → t.toNat ≤ 55 → s.completes (.chargeHoldClear t) fun u =>
      u.rd PDI_LIFT_STATUS_TEMP_C = t.toNat ∧ u.rd PDI_LIFT_STATUS_CHARGE_HOLD = 0 ∧ s.keepsMem u) ∧
    (∀ (t : BitVec 8), s.on PDI_LIFT_STATUS_CHARGE_HOLD = false → s.does (.chargeHoldClear t) s []) ∧
    (s.on PDI_LIFT_STATUS_ID_VALID = true → s.on LIFTX_DUE = false → s.on LIFTX_FIRST = false → s.completes .healthTestDue fun u =>
      ∃ v : State, u = v.wake wakeLift 0 ∧ (s.advTo (s.rd LIFTX_TEST_AT + 168 * 3600 * sec)).writes v [(LIFTX_DUE, 1)]) ∧
    (s.on LIFTX_DUE = true → s.does .healthTestDue s []) ∧
    (∀ (v : BitVec 16), s.testReady = true → s.does (.healthTestStart v) s [(PDI_LIFT_STATUS_TEST_RUNNING, 1), (LIFTX_TEST_T0, s.now),
      (LIFTX_TEST_V0, v.toNat), (PDI_STATUS_CONV_MODE, 4), (PDI_STATUS_BKP_L, 1)]) ∧
    (∀ (v : BitVec 16), s.testReady = false → s.does (.healthTestStart v) s []) ∧
    (∀ (v : BitVec 16) (t : BitVec 32), s.on PDI_LIFT_STATUS_TEST_RUNNING = true → s.rd PDI_STATUS_CONV_MODE = 4 → (s.ops.all fun o =>
      o.opcode != opLiftTest) = true → s.completes (.healthTestEnd v t) fun u => u.rd PDI_LIFT_STATUS_TEST_RUNNING = 0 ∧
      u.rd PDI_EVENT_LIFT_TEST_DONE = 1 ∧ u.rd (PDI_LIFT_EEPROM_BYTES 16) = t.toNat / 540 ∧
      u.rd (PDI_LIFT_EEPROM_BYTES 17) = 250 * (s.rd LIFTX_TEST_V0 - v.toNat) % 2 ^ 32 ∧
      u.rd (PDI_LIFT_EEPROM_BYTES 7) = (s.rd (PDI_LIFT_EEPROM_BYTES 7) + 1) % 2 ^ 32 ∧ u.rd PDI_LIFT_STATUS_HOURS_SINCE_TEST = 0 ∧
      u.rd LIFTX_DUE = 0 ∧ u.now = max s.now (s.rd LIFTX_TEST_T0 + t.toNat * us) ∧ s.keepsMem u) ∧
    (∀ (v : BitVec 16) (t : BitVec 32), s.on PDI_LIFT_STATUS_TEST_RUNNING = false → s.does (.healthTestEnd v t) s []) ∧
    (∀ (c : Cmd), s.ready 0x0903 c = true → onlyM (s.issuer c.path) = true → cleanCmd c [] false = true → (s.opBusy [opLiftTest] (fun _ =>
      true)) = false → (s.opsFull (s.issuer c.path)) = false → s.starts (.mooringLiftTest c) 0x0903 0 1 0 0 c []) ∧
    (s.on PDI_LIFT_STATUS_ID_VALID = true → s.rd PDI_LIFT_STATUS_TEMP_C < 40 → s.packMv < 16000 → s.completes .liftHourlyLog fun u =>
      u.rd (PDI_LIFT_EEPROM_BYTES 8) = (s.rd (PDI_LIFT_EEPROM_BYTES 8) + 1) % 2 ^ 32 ∧
      u.rd PDI_LIFT_STATUS_HOURS_SINCE_TEST = satInc PDI_LIFT_STATUS_HOURS_SINCE_TEST.width (s.rd PDI_LIFT_STATUS_HOURS_SINCE_TEST) % 2 ^ PDI_LIFT_STATUS_HOURS_SINCE_TEST.width ∧ s.keepsRegs u [LIFTX_HOUR_AT, PDI_LIFT_STATUS_HOURS_SINCE_TEST, PDI_LIFT_EEPROM_BYTES 8, PDI_LIFT_EEPROM_BYTES 31] ∧ s.keepsMem u) ∧
    (s.moored = true → s.rd PDI_STATUS_CONV_MODE = 3 → s.startCharge = s) ∧
    (s.on PDI_STATUS_BKP_L = true → s.on MORX_DISCHARGED = false → s.on PDI_LIFT_STATUS_ID_VALID = true →
      s.packDrains.rd (PDI_LIFT_EEPROM_BYTES 7) = (s.rd (PDI_LIFT_EEPROM_BYTES 7) + 1) % 2 ^ 32 ∧ s.packDrains.rd MORX_DISCHARGED = 1 ∧
      s.packDrains.packDrains = s.packDrains) ∧
    (s.on PDI_LIFT_STATUS_ID_VALID = false → s.does .liftHourlyLog s []) ∧
    (∀ (id : BitVec 1024) (mv : BitVec 16) (t : BitVec 8), s.on MORX_DEAD = false → s.on SYS_OFF = false →
      s.rd GLB_INPUT_STATUS_LIFT_PRES_N = 0 → s.completes (.liftInserted id mv t) fun u =>
      u = (s.wr GLB_INPUT_STATUS_LIFT_PRES_N 11).packIn id.toNat mv.toNat t.toNat ∧ u.rd PDI_LIFT_STATUS_PRESENT = 1 ∧
      u.rd PDI_EVENT_LIFT_INSERTED = 1 ∧ u.rd GLB_INPUT_STATUS_LIFT_PRES_N = 11 ∧
      (∀ n < 32, u.rd (PDI_LIFT_EEPROM_BYTES n) = bits id.toNat (32 * n) 32) ∧ s.keepsMem u) ∧
    (∀ (id : BitVec 1024) (mv : BitVec 16) (t : BitVec 8), s.inputLive 2 = true → bitSet (s.rd GLB_INPUT_STATUS_LIFT_PRES_N) 2 = true →
      s.does (.liftInserted id mv t) s [(GLB_INPUT_STATUS_LIFT_PRES_N, s.rd GLB_INPUT_STATUS_LIFT_PRES_N % 8 + 8)]) ∧
    (s.on MORX_DEAD = false → s.on SYS_OFF = false → s.rd GLB_INPUT_STATUS_LIFT_PRES_N = 11 → s.completes .liftRemoved fun u =>
      u.rd PDI_LIFT_STATUS_PRESENT = 0 ∧ u.rd PDI_LIFT_STATUS_ID_VALID = 0 ∧ u.rd PDI_LIFT_STATUS_FET_CLOSED = 0 ∧
      u.rd PDI_EVENT_LIFT_REMOVED = 1 ∧ u.rd PDI_LIFT_ENERGY_AVAIL_J = 0 ∧ (∀ n < 32, u.rd (PDI_LIFT_EEPROM_BYTES n) = 0) ∧
      s.keepsMem u) ∧
    (s.inputLive 2 = true → bitSet (s.rd GLB_INPUT_STATUS_LIFT_PRES_N) 2 = true →
      s.does .liftRemoved s [(GLB_INPUT_STATUS_LIFT_PRES_N, s.rd GLB_INPUT_STATUS_LIFT_PRES_N % 8)])

/-- Meters and feeds of the power die. A meter tick takes each meter's voltage and current, the bus voltage and the temperature, and time
advances to it; a sample adds its energy. A feed that qualifies as low while the other is OK is no longer OK, sets its event and is
counted as lost; a feed back within limits is OK again; a masked feed does nothing. A reverse voltage opens the feed's gate alone; a
feed's gate is off at 10 mV above the bus or less, masked or over-voltage, and on at 50 mV above or more. A slot channel at its trip
current starts its fault timer, below 90 % for the second sample returns it to zero, and with the timer run out faults. The low half of a
meter's energy latches the high half. Forms for which a clause concludes that exec answers a next state with the effect named, from
conditions on the state and operands alone: meterTick, pdiMtrLoRead, feedReverse, feedReturn, feedLost. (18_power_die.md) -/
def Obligations.MetersAndFeeds : Prop :=
  ∀ s : State, s.Inv →
    (∀ (l : List (BitVec 16 × BitVec 16)) (bus bkp : BitVec 16) (t : BitVec 8) (m : Nat) (x : BitVec 16 × BitVec 16), s.on MORX_DEAD = false → s.on SYS_OFF = false → m < 36 → m ≠ 3 → l[m]? = some x → s.completes (.meterTick l bus bkp t) fun u => u.rd (PDI_MTR_VI_VOLT_MV m) = x.1.toNat ∧ u.rd (PDI_MTR_VI_CURR_MA m) = x.2.toNat ∧ u.rd PDI_STATUS_BKP_MV = bkp.toNat ∧ u.rd PDI_LIFT_STATUS_TEMP_C = t.toNat ∧ u.now = max s.now (s.rd LIFTX_TICK_AT + ms) ∧ s.keepsMem u) ∧
    (∀ (l : List (BitVec 16 × BitVec 16)) (bus bkp : BitVec 16) (t : BitVec 8), s.on MORX_DEAD = true →
      s.does (.meterTick l bus bkp t) s []) ∧
    (∀ (l : List (BitVec 16 × BitVec 16)) (bus bkp : BitVec 16) (t : BitVec 8), s.on MORX_DEAD = false → s.on SYS_OFF = true →
      s.does (.meterTick l bus bkp t) ((s.feedAt 0 l bus.toNat).feedAt 1 l bus.toNat) []) ∧
    (∀ (m v i : Nat), m ≠ 3 → m < 36 → i < 32768 → v < 65536 →
      (s.meter m v i).rd (MTRX_E m) = (s.rd (MTRX_E m) + (s.rd (MTRX_FR m) + v * i) / 1000000) % 2 ^ 48 ∧
      (s.meter m v i).rd (PDI_MTR_POWER_POWER_MW m) = v * i / 1000) ∧
    (∀ (m : Fin 36), m.val ≠ 3 → s.doesThen (.pdiMtrLoRead m false) [(PDI_MTR_ENERGY_LO_ENERGY m, s.rd (MTRX_E m)),
      (PDI_MTR_ENERGY_HI_ENERGY m, s.rd (MTRX_E m) / 2 ^ 32)] (fun u => u.emit (.readData (s.rd (MTRX_E m) % 2 ^ 32)))) ∧
    (s.doesThen (.pdiMtrLoRead 2 true) [(PDI_MTR_ENERGY2_LO_ENERGY 2, s.rd (MTRX_E2 2)),
      (PDI_MTR_ENERGY2_HI_ENERGY 2, s.rd (MTRX_E2 2) / 2 ^ 32)] (fun u => u.emit (.readData (s.rd (MTRX_E2 2) % 2 ^ 32)))) ∧
    (∀ (x : Fin 2), s.does (.feedReverse x true) s [((feedFlds x.val).2.2.2.2, 0)]) ∧
    (∀ (x : Fin 2), bitSet (s.rd LIFTX_GATE) x.val = true →
      s.does (.feedReverse x false) ((s.wr LIFTX_GATE (clrBit (s.rd LIFTX_GATE) x.val)).emit (.pin 6 x.val false)) []) ∧
    (∀ (x v bus : Nat), x < 2 → bitSet (s.rd LIFTX_MASK) x = true → s.on PDI_STATUS_FEED_A_OV = false → s.on PDI_STATUS_FEED_B_OV = false →
      bus + 50 ≤ v → bitSet ((s.feedGate x v bus).rd LIFTX_GATE) x = true) ∧
    (∀ (x v bus : Nat), x < 2 → (v + 10 ≤ bus ∨ bitSet (s.rd LIFTX_MASK) x = false ∨ s.on (feedFlds x).2.1 = true) →
      bitSet ((s.feedGate x v bus).rd LIFTX_GATE) x = false) ∧
    (∀ (c : Slot) (ma : Nat), s.scLive c = true → s.rd (PDI_SC_CFG_TRIP_MA c) ≤ ma → ma < 32768 → s.rd (SCX_TON c) = 0 →
      s.scSample c ma = s.wrs [(PDI_SC_STATUS_TIMER_RUNNING c, 1), (SCX_TON c, s.now + 1), (SCX_TLOW c, 0)]) ∧
    (∀ (c : Slot) (ma : Nat), s.scLive c = true → 10 * ma < 9 * s.rd (PDI_SC_CFG_TRIP_MA c) → ma < s.rd (PDI_SC_CFG_TRIP_MA c) →
      s.on (SCX_TLOW c) = true → (s.scSample c ma).rd (SCX_TCNT c) = 0 ∧ (s.scSample c ma).rd (PDI_SC_STATUS_TIMER_RUNNING c) = 0 ∧
      (s.scSample c ma).rd (SCX_TON c) = 0) ∧
    (∀ (c : Slot) (ma : Nat), s.scLive c = true → s.rd (PDI_SC_CFG_TRIP_MA c) ≤ ma → ma < 32768 → s.rd (SCX_TON c) ≠ 0 →
      100 * s.rd (PDI_SC_CFG_TIMER c) ≤ s.scTimer c → s.scSample c ma = s.scFault c 1) ∧
    (∀ (x : Fin 2), s.on MORX_DEAD = false → bitSet (s.rd LIFTX_CHAT) x.val = false →
      (recent s.mgmt.edges (336 + x.val) s.now sec).length < 31 → bitSet (s.rd LIFTX_MASK) x.val = true → s.on (feedFlds x.val).1 = false →
      s.rd MOR_STATUS_STATE = 0 → s.rd PDI_STATUS_CONV_MODE = 1 → s.completes (.feedReturn x) fun u => u.on (feedFlds x.val).1 = true ∧
      u.rd (feedFlds x.val).2.1 = 0 ∧ u.rd (feedFlds x.val).2.2.2.1 = 1 ∧ u.rd (feedFlds x.val).2.2.2.2 = b2n (!s.on SYS_OFF) ∧
      bitSet (u.rd LIFTX_LOST) x.val = false ∧ s.keepsMem u ∧ u.out = s.out) ∧
    (∀ (x : Fin 2), s.on (feedFlds x.val).1 = true → s.does (.feedReturn x) s []) ∧
    (∀ (x : Fin 2), s.on MORX_DEAD = false → bitSet (s.rd LIFTX_CHAT) x.val = false →
      (recent s.mgmt.edges (336 + x.val) s.now sec).length < 31 → bitSet (s.rd LIFTX_MASK) x.val = true → s.on (feedFlds x.val).1 = true →
      s.rd MOR_STATUS_STATE = 0 → s.on PDI_STATUS_EW = false → s.on (feedFlds (1 - x.val)).1 = true →
      bitSet (s.rd LIFTX_MASK) (1 - x.val) = true → bitSet (s.rd LIFTX_LOST) (1 - x.val) = false → s.completes (.feedLost x false) fun u =>
      u.rd (feedFlds x.val).1 = 0 ∧ u.rd (feedFlds x.val).2.2.1 = 1 ∧ u.rd (feedFlds x.val).2.2.2.2 = 0 ∧
      bitSet (u.rd LIFTX_LOST) x.val = true ∧ u.rd MOR_STATUS_STATE = 0 ∧ s.keepsMem u ∧ u.out = s.out) ∧
    (∀ (x : Fin 2) (high : Bool), bitSet (s.rd LIFTX_MASK) x.val = false → s.does (.feedLost x high) s [])

/-- The bridged supplies: BKP_BUS, BKP_RAIL_EN, feed qualification, the empty pack and the entry to PS-OFF. When BKP_BUS collapses with the
part in service or moored, everything but flash is at its reset value and MORX_DEAD is 1; when it returns MORX_DEAD is 0. BKP_RAIL_EN
rises 500 ms after the feed qualified, drives its pin and starts the time to the settled rails. A feed that meets the qualification starts
the count, one that stops meeting it ends the count with record 8. An empty pack out of mooring ends the discharge, and in mooring without
a feed collapses the supply. The entry to PS-OFF leaves flash and the queue alone and clears the pool, the long operations and the
start-up stage. Events that do not apply change nothing. Forms for which a clause concludes that exec answers a next state with the effect
named, from conditions on the state and operands alone: bkpBusCollapse, bkpBusRestore, bkpRailEnRise, packEmpty, powerOffEntry.
(19_mooring.md, 18_power_die.md, 17_power_states.md) -/
def Obligations.MooringSupplies : Prop :=
  ∀ s : State, s.Inv →
    (s.on MORX_DEAD = false → s.on SYS_OFF = false → s.completes .bkpBusCollapse fun t => t.rd MORX_DEAD = 1 ∧ t.pool = State.reset.pool ∧
      t.mgmt.flash = s.mgmt.flash ∧ t.mooring = State.reset.mooring ∧ t.pending = s.pending ∧ (∀ f : Fld, f.key ≠ MORX_DEAD.key →
      t.rd f = f.rst)) ∧
    (s.on MORX_DEAD = true → s.does .bkpBusCollapse s []) ∧
    (s.on MORX_DEAD = true → s.does .bkpBusRestore s [(MORX_DEAD, 0)]) ∧
    (s.on MORX_DEAD = false → s.does .bkpBusRestore s []) ∧
    (s.on MORX_DEAD = false → s.on SYS_OFF = false → s.on MORX_RAIL_EN = false → s.rd MOR_STATUS_STATE = 0 → s.rd MORX_QUAL_AT ≠ 0 →
      s.completes .bkpRailEnRise fun t => t.rd MORX_RAIL_EN = 1 ∧ t.rd MORX_QUAL_AT = 0 ∧
      t.now = max s.now (s.rd MORX_QUAL_AT - 1 + 500 * ms) ∧ t.rd RETX_UNMOOR_AT = t.now % 2 ^ 64 ∧ t.out = .pin 5 0 true :: s.out ∧
      s.keepsRegs t [MORX_RAIL_EN, MORX_QUAL_AT, RETX_UNMOOR_AT] ∧ s.keepsMem t) ∧
    (s.rd MORX_QUAL_AT = 0 → s.does .bkpRailEnRise s []) ∧
    (s.qualifies = true → s.feedOk = true → s.pwrFail = false → s.rd MORX_QUAL_AT = 0 → s.qualView = s.wr MORX_QUAL_AT (s.now + 1)) ∧
    (s.qualifies = true → (s.feedOk = false ∨ s.pwrFail = true) → s.rd MORX_QUAL_AT ≠ 0 →
      s.qualView = (s.wr MORX_QUAL_AT 0).morLog 8 0 0 0) ∧
    (s.rd PDI_STATUS_CONV_MODE = 3 → s.moored = false → s.on PDI_LIFT_STATUS_TEST_RUNNING = false →
      s.does .packEmpty s [(PDI_STATUS_CONV_MODE, 0), (PDI_STATUS_BKP_L, 0)]) ∧
    (s.rd PDI_STATUS_CONV_MODE = 3 → s.moored = true → s.feedOk = false → s.does .packEmpty s.collapse []) ∧
    (s.rd PDI_STATUS_CONV_MODE = 0 → s.does .packEmpty s []) ∧
    (s.on SYS_OFFING = true → s.completes .powerOffEntry fun t => t.rd SYS_OFF = 1 ∧ t.rd RETX_CAUSE = 2 ∧ t.rd GLB_BOOT_STATUS_STAGE = 0 ∧
      t.rd SYS_FW_UP = 0 ∧ t.pool = State.reset.pool ∧ t.mgmt.flash = s.mgmt.flash ∧ t.ops = [] ∧ t.pending = s.pending) ∧
    (s.on SYS_OFFING = false → s.does .powerOffEntry s [])

/-- Mooring: the drain, retention estimates, unmooring, the start-up, slot power and the resume. With no spill due the drain ends in RETAINING
and PS-DEEP with memory kept. An estimate records its time, and the energy sample. A qualified feed starts unmooring; the settled rails
begin the start-up at stage 1 with MOOR_RESUME; groups of eight slots that were ON get power; the resume ends in NONE with its
LAST_RESUME. Events that do not apply change nothing. Forms for which a clause concludes that exec answers a next state with the effect
named, from conditions on the state and operands alone: mooringDrainDone, retainEstimate, feedQualified, railsSettled, slotGroupPowerOn,
resumeComplete. (19_mooring.md, 17_power_states.md, 03_clocks_time_reset.md) -/
def Obligations.MooringSequence : Prop :=
  ∀ s : State, s.Inv →
    (s.rd MOR_STATUS_STATE = 1 → s.spillDue = false → s.noSpill ≠ 0 → s.completes .mooringDrainDone fun t => t.rd MOR_STATUS_STATE = 2 ∧
      t.rd PWR_STATUS_STATE = 3 ∧ t.rd MORX_RAIL_EN = 0 ∧ t.rd RETX_RETAIN_AT = s.now % 2 ^ 64 ∧ t.rd GLB_BOOT_STATUS_STAGE = 0 ∧
      t.pool.cells = s.pool.cells ∧ t.mgmt.flash = s.mgmt.flash ∧ t.switch = State.reset.switch ∧ t.ops = [] ∧ t.pending = s.pending) ∧
    (s.rd MOR_STATUS_STATE ≠ 1 → s.does .mooringDrainDone s []) ∧
    (s.rd MOR_STATUS_STATE = 2 → s.avail ≤ s.rd MOR_CFG_RESERVE_J → s.rd RETX_SAMPLES < 59 → s.completes .retainEstimate fun t =>
      t.rd RETX_EST = t.ft % 2 ^ 64 ∧ t.now = max s.now (s.rd RETX_EST_AT + sec) ∧ t.rd RETX_EST_AT = t.now % 2 ^ 64 ∧
      t.rd RETX_SAMPLES = s.rd RETX_SAMPLES + 1 ∧ t.mooring.energy = (s.rd (MTRX_E 2) :: s.mooring.energy).take 61 ∧
      t.mooring.log = s.mooring.log ∧ s.keepsRegs t [RETX_EST, RETX_SAMPLES, RETX_EST_AT] ∧ s.keepsMem t ∧ t.out = s.out) ∧
    (s.rd MOR_STATUS_STATE = 0 → s.does .retainEstimate s []) ∧
    ((s.rd MOR_STATUS_STATE = 2 ∨ s.rd MOR_STATUS_STATE = 4) → s.rd MORX_QUAL_AT ≠ 0 → s.completes .feedQualified fun t =>
      t.rd MOR_STATUS_STATE = 5 ∧ t.rd PDI_STATUS_EW = 0 ∧ t.rd MORX_RAIL_EN = 1 ∧ t.now = max s.now (s.rd MORX_QUAL_AT - 1 + 500 * ms) ∧
      t.rd MOR_RESUME_RETAINED_S = min 65535 ((t.now - s.rd RETX_RETAIN_AT) / sec) ∧
      t.mooring.log.length = min 256 (s.mooring.log.length + 1) ∧ s.keepsMem t) ∧
    (s.rd MORX_QUAL_AT = 0 → s.does .feedQualified s []) ∧
    (s.rd MOR_STATUS_STATE = 5 → s.rd GLB_BOOT_STATUS_STAGE = 0 → s.rd PWR_STATUS_STATE = 3 → s.rd RETX_CAUSE = 3 →
      s.completes .railsSettled fun t => t.rd GLB_BOOT_STATUS_STAGE = 1 ∧ t.rd PWR_STATUS_STATE = 0 ∧ t.rd GLB_RESET_CAUSE_MOOR_RESUME = 1 ∧
      t.rd GLB_RESET_CAUSE_COLD = 0 ∧ t.rd GLB_RESET_CAUSE_RESET_N = 0 ∧
      t.rd PWR_LAST_WAKE_SOURCE = s.rd RETX_SOURCE % 2 ^ PWR_LAST_WAKE_SOURCE.width ∧ t.rd GLB_STRAPS_BOOT_SEL = s.rd GLB_STRAPS_BOOT_SEL ∧
      t.now = max s.now (s.rd RETX_UNMOOR_AT + 10 * ms) ∧ s.keepsMem t ∧ t.out = .pin 3 0 false :: s.out) ∧
    (s.rd MOR_STATUS_STATE ≠ 5 → s.does .railsSettled s []) ∧
    (s.rd GLB_BOOT_STATUS_STAGE = 6 → s.moored = false → s.slotsToPower ≠ [] → s.completes .slotGroupPowerOn fun t =>
      t.slotsToPower = s.slotsToPower.drop 8 ∧ t.rd RETX_GROUPS = (s.rd RETX_GROUPS + 1) % 2 ^ RETX_GROUPS.width ∧
      t.now = max s.now (s.rd READYX_AT + 100 * ms * (s.rd RETX_GROUPS + 1)) ∧ s.keepsMem t ∧ t.out = s.out) ∧
    (s.slotsToPower = [] → s.does .slotGroupPowerOn s []) ∧
    (s.rd MOR_STATUS_STATE = 5 → s.rd GLB_BOOT_STATUS_STAGE = 6 → s.slotsToPower = [] → s.on MOR_STATUS_RESTORE_INCOMPLETE = false →
      s.on RETX_SPILLED = false → s.completes .resumeComplete fun t => ∃ u : State, t = u.retryHeld ∧ u.rd MOR_STATUS_STATE = 0 ∧
      u.rd MOR_STATUS_LAST_RESUME = (if s.rd RETX_CAUSE = 4 then 3 else 1) ∧ u.rd MOR_EVENT_RESUMED = 1 ∧
      u.rd MOR_RESUME_RESUME_MS = min 65535 ((s.now - s.rd RETX_UNMOOR_AT) / ms) ∧
      s.keepsRegs u [MOR_STATUS_STATE, MOR_STATUS_LAST_RESUME, MOR_EVENT_RESUMED, MOR_RESUME_RESUME_MS, MOR_LOG_COUNT_RECORDS] ∧
      s.keepsMem u) ∧
    (s.rd MOR_STATUS_STATE ≠ 5 → s.does .resumeComplete s [])

/-- The spill of the pool, a superseded image, and the restore. A spill that is due starts, writes both headers WRITING when the drives are
ready, and ends SPILLED with IMAGE_VALID 1 when it succeeds and IMAGE_VALID as it was when it fails; a spill fails on a channel fault only
with that channel faulted, and by timeout 1,500 ms after its start. An image is marked SUPERSEDED after a resume or a retry. A restore
with no header ends at once, with the pool cleared where it was preserved; with two headers that agree it reads their chunk count; it ends
in the resume when every chunk is in. Events that do not apply change nothing. Forms for which a clause concludes that exec answers a next
state with the effect named, from conditions on the state and operands alone: spillStart, spillDrivesReady, spillDone, spillFail,
supersededWrite, imageStaleRetry, restoreStart, restoreComplete. (19_mooring.md) -/
def Obligations.SpillAndRestore : Prop :=
  ∀ s : State, s.Inv →
    (s.rd MOR_STATUS_STATE = 2 → s.spillDue = true → s.completes .spillStart fun t => t = s.startSpill ∧ t.rd MOR_STATUS_STATE = 3 ∧
      t.rd RETX_SPILLED = 1 ∧ t.rd RETX_SPILLING = 1 ∧ t.rd MORX_RAIL_EN = 1 ∧ s.keepsMem t) ∧
    (s.spillDue = false → s.does .spillStart s []) ∧
    (s.rd MOR_STATUS_STATE = 3 → s.rd RETX_SPILLING = 1 → s.driveUp 30 = true → s.driveUp 31 = true → s.completes .spillDrivesReady fun t =>
      ∃ u : State, t = u.putHeaders 1 0 ∧ s.writes u [(RETX_SPILLING, 2), (MOR_STATUS_IMAGE_VALID, 0)]) ∧
    ((s.rd MOR_STATUS_STATE ≠ 3 ∨ s.driveUp 30 = false ∨ s.driveUp 31 = false) → s.does .spillDrivesReady s []) ∧
    (s.rd MOR_STATUS_STATE = 3 → s.rd RETX_SPILLING = 2 → s.driveUp 30 = true → s.driveUp 31 = true → s.completes .spillDone fun t =>
      t.rd MOR_STATUS_STATE = 4 ∧ t.rd MOR_EVENT_SPILL_DONE = 1 ∧ t.rd MOR_STATUS_IMAGE_VALID = 1 ∧ t.rd RETX_SPILLING = 0 ∧
      t.rd MORX_RAIL_EN = 0 ∧ t.rd MOR_COUNT_SPILLS = satInc MOR_COUNT_SPILLS.width (s.rd MOR_COUNT_SPILLS) % 2 ^ MOR_COUNT_SPILLS.width ∧
      s.keepsMem t) ∧
    ((s.rd MOR_STATUS_STATE ≠ 3 ∨ s.driveUp 30 = false ∨ s.driveUp 31 = false) → s.does .spillDone s []) ∧
    (∀ (k : Fin 4) (n : BitVec 32), s.rd MOR_STATUS_STATE = 3 → (k = 2 → s.faulted 30 = true ∨ s.faulted 31 = true) → (k = 3 →
      s.rd RETX_SPILLING = 1) → s.completes (.spillFail k n) fun t => t.rd MOR_STATUS_STATE = 4 ∧ t.rd MOR_EVENT_SPILL_FAIL = 1 ∧
      t.rd RETX_SPILLING = 0 ∧ t.rd MORX_RAIL_EN = 0 ∧ t.rd MOR_STATUS_IMAGE_VALID = s.rd MOR_STATUS_IMAGE_VALID ∧ s.keepsMem t) ∧
    (∀ (n : BitVec 32), s.rd MOR_STATUS_STATE = 3 → s.rd RETX_SPILLING = 1 → s.completes (.spillFail 3 n) fun t =>
      t.now = max s.now (s.rd RETX_SPILL_AT - 1 + 1500 * ms)) ∧
    (∀ (n : BitVec 32), s.faulted 30 = false → s.faulted 31 = false → s.does (.spillFail 2 n) s []) ∧
    (∀ (k : Fin 4) (n : BitVec 32), s.rd MOR_STATUS_STATE ≠ 3 → s.does (.spillFail k n) s []) ∧
    (s.rd MOR_STATUS_STATE = 5 → s.rd GLB_BOOT_STATUS_STAGE = 6 → s.on RETX_SPILLED = true → s.completes .supersededWrite fun t =>
      ∃ u : State, t = u.putHeaders 3 0 ∧ s.writes u [(RETX_SPILLED, 0), (MOR_STATUS_IMAGE_VALID, 0)]) ∧
    (s.on RETX_SPILLED = false → s.does .supersededWrite s []) ∧
    (s.on MOR_STATUS_IMAGE_STALE = true → s.rd PWR_STATUS_STATE ≤ 1 → s.rd GLB_BOOT_STATUS_STAGE = 6 →
      s.completes (.imageStaleRetry true) fun t => ∃ u : State, t = u.putHeaders 3 0 ∧ s.writes u [(MOR_STATUS_IMAGE_STALE, 0),
      (MOR_STATUS_IMAGE_VALID, 0)]) ∧
    (s.on MOR_STATUS_IMAGE_STALE = true → s.rd PWR_STATUS_STATE ≤ 1 → s.rd GLB_BOOT_STATUS_STAGE = 6 →
      s.does (.imageStaleRetry false) s []) ∧
    (s.rd GLB_BOOT_STATUS_STAGE = 6 → s.rd MOR_STATUS_STATE = 6 → s.on GLB_RESET_CAUSE_POOL_PRESERVED = true →
      s.completes (.restoreStart none none) fun t => ∃ u : State, t = u.retryHeld ∧ u.rd MOR_STATUS_LAST_RESUME = 4 ∧
      u.rd MOR_STATUS_RESTORE_INCOMPLETE = 0 ∧ u.rd MOR_STATUS_STATE = 0 ∧ u.pool.cells = [] ∧ u.pool.poison = [] ∧
      u.rd BAL_STATUS_INIT_BUSY = 1) ∧
    (s.rd GLB_BOOT_STATUS_STAGE = 6 → s.rd MOR_STATUS_STATE = 6 → s.on GLB_RESET_CAUSE_POOL_PRESERVED = false →
      s.completes (.restoreStart none none) fun t => ∃ u : State, t = u.retryHeld ∧ s.writes u [(RETX_RESTORE_DUE, 0),
      (MOR_STATUS_RESTORE_INCOMPLETE, 0), (MOR_STATUS_LAST_RESUME, 4), (MOR_STATUS_STATE, 0)]) ∧
    (∀ (a b : List (BitVec 8)), s.rd GLB_BOOT_STATUS_STAGE = 6 → s.rd MOR_STATUS_STATE = 6 → s.headerFails a b = 0 → s.headerFails b a = 0 →
      s.completes (.restoreStart (some a) (some b)) fun t => t.rd MOR_STATUS_STATE = 6 ∧ t.rd MOR_STATUS_RESTORE_INCOMPLETE = 1 ∧
      t.rd MOR_STATUS_IMAGE_VALID = 1 ∧ t.rd MOR_RESTORE_CHUNKS_LEFT = at_ a 40 4 % 2 ^ MOR_RESTORE_CHUNKS_LEFT.width ∧
      t.rd MOR_RESTORE_BAD_CHUNKS = 0 ∧ t.mooring.header = a ∧ s.keepsMem t ∧ t.out = s.out) ∧
    (∀ (a b : Option (List (BitVec 8))), s.rd GLB_BOOT_STATUS_STAGE ≠ 6 → s.does (.restoreStart a b) s []) ∧
    (∀ (dir : List (BitVec 8)) (chunks : List (Option SpillChunk)), s.rd MOR_STATUS_STATE = 6 → s.mooring.header ≠ [] →
      chunks.length = at_ s.mooring.header 40 4 → s.completes (.restoreComplete dir chunks) fun t => ∃ u : State, t = u.endResume 2 ∧
      u.rd MOR_RESTORE_CHUNKS_LEFT = 0 ∧ u.rd MOR_STATUS_IMAGE_VALID = 0 ∧ u.rd MOR_STATUS_RESTORE_INCOMPLETE = 0 ∧ u.rd RETX_KEPT = 1 ∧
      u.mooring.header = [] ∧ u.mgmt.flash = s.mgmt.flash) ∧
    (∀ (dir : List (BitVec 8)) (chunks : List (Option SpillChunk)), s.mooring.header = [] → s.does (.restoreComplete dir chunks) s [])

/-- POWER_OFF and the MOORING commands. POWER_OFF is refused with NOT_PERMITTED while a valid domain exists and its flag is 0; with no window,
domain, long operation, close or session it is accepted and starts to turn the part off. MOORING_SPILL_SET stores the drives,
MOORING_POLICY_SET the reserve and the spill enable; MOORING_LOG_READ returns the record of the given index. Reads of the two times give
the lower half and latch the upper. Forms for which a clause concludes that exec answers a next state with the effect named, from
conditions on the state and operands alone: powerOff, mooringSpillSet, mooringPolicySet, mooringLogRead, morTimeLoRead. (19_mooring.md,
17_power_states.md) -/
def Obligations.MooringCommands : Prop :=
  ∀ s : State, s.Inv →
    (∀ (c : Cmd), s.ready 0x0802 c = true → onlyM (s.issuer c.path) = true → cleanCmd c [] true = true →
      s.listed (WIN_VALID 0).key 256 4096 = [] → ((List.range 16).any fun d => s.on (ORD_DOM_CFG_VALID d)) = false → s.ops = [] →
      s.pool.closes = [] → s.rd BRD_STATUS_STATE = 0 → s.answers (.powerOff c) 0x0802 c 0 s [(SYS_OFFING, 1)]) ∧
    (∀ (c : Cmd), s.ready 0x0802 c = true → onlyM (s.issuer c.path) = true → cleanCmd c [] true = true → ((List.range 16).any fun d =>
      s.on (ORD_DOM_CFG_VALID d)) = true → opFlag c = false → exec (.powerOff c) s = .next (s.post c 0x0802 stNotPermitted 0 0 true)) ∧
    (∀ (c : Cmd), s.ready 0x0901 c = true → onlyM (s.issuer c.path) = true → cleanCmd c [(0, 8), (8, 8), (16, 1), (32, 32), (64, 32),
      (128, 64), (192, 64)] false = true → (!s.spillPort (parBytes c 0 1) 30 || !s.spillPort (parBytes c 1 1) 31) = false →
      (decide (0 < s.rd (BINDX_COUNT (parBytes c 0 1))) || decide (0 < s.rd (BINDX_COUNT (parBytes c 1 1)))) = false →
      s.answers (.mooringSpillSet c) 0x0901 c 0 s [(MOR_CFG_TARGET_EN, parBits c 16 1), (MOR_CFG_PORT0, parBytes c 0 1),
      (MOR_CFG_PORT1, parBytes c 1 1), (MOR_SPILL_NS0_NSID, parBytes c 4 4), (MOR_SPILL_NS1_NSID, parBytes c 8 4),
      (MOR_SPILL_LBA0_LO_LBA, parBytes c 16 4), (MOR_SPILL_LBA0_HI_LBA, parBytes c 20 4), (MOR_SPILL_LBA1_LO_LBA, parBytes c 24 4),
      (MOR_SPILL_LBA1_HI_LBA, parBytes c 28 4)]) ∧
    (∀ (c : Cmd), s.ready 0x0902 c = true → onlyM (s.issuer c.path) = true → (cleanCmd c [(0, 32),
      (32, 1)] false && decide (1200 ≤ parBytes c 0 4) && decide (parBytes c 0 4 ≤ 4000)) = true →
      s.answersWith (.mooringPolicySet c) 0x0902 c 0 fun u => ∃ v : State, u = v.packView ∧ s.writes v [(MOR_CFG_RESERVE_J, parBytes c 0 4),
      (PDI_LIFT_ENERGY_RESERVE_J, parBytes c 0 4), (MOR_CFG_SPILL_EN, parBits c 32 1)]) ∧
    (∀ (c : Cmd) (r : Nat), s.ready 0x0904 c = true → onlyM (s.issuer c.path) = true → cleanCmd c [(0, 16)] false = true →
      s.mooring.log[parBytes c 0 2]? = some r → s.answers (.mooringLogRead c) 0x0904 c r s []) ∧
    (s.doesThen (.morTimeLoRead false) [(MOR_DRAIN_TIME_LO_TIME, s.rd RETX_DRAIN_FT),
      (MOR_DRAIN_TIME_HI_TIME, s.rd RETX_DRAIN_FT / 2 ^ 32)] (fun u => u.emit (.readData (s.rd RETX_DRAIN_FT % 2 ^ 32)))) ∧
    (s.doesThen (.morTimeLoRead true) [(MOR_RETAIN_EST_LO_TIME, s.rd RETX_EST), (MOR_RETAIN_EST_HI_TIME, s.rd RETX_EST / 2 ^ 32)] (fun u =>
      u.emit (.readData (s.rd RETX_EST % 2 ^ 32))))

/-- Link events of PCI Express ports and resets of a hierarchy. PERST_N falling and an in-band hot reset take the upstream link down and reset
the hierarchy, but a hot reset under an active PERST_N does nothing; a host without a port changes only the known level of its PERST_N.
PERST_N rising releases the host with the bridge count and aperture size set for the next reset, and the secondary buses behind it. A link
that trains within its limits shows its rate, width and mode; one past its rate or width, or that may not train, does not come up. A link
loss resets the hierarchy of an upstream port, and is recorded for a downstream port with nothing bound. An L1 level is entered where
PORT_CONFIG allows it. A PTM request is answered where PTM is enabled. A secondary bus reset sets or clears its bit and the reset behind
it. Loss of signal or of lock on a masked lane is only shown. A reference lost or returned changes its detector and the views of its
group; one lost while a PLL of the group runs also sets REF_LOST, is logged 0x0104 and takes the group's links down. Events that do not
apply change nothing. Forms for which a clause concludes that exec answers a next state with the effect named, from conditions on the
state and operands alone: hotResetReceived, perstNFall, perstNRise, secondaryBusReset, pcieLinkUp, linkDownUpstream, surpriseLinkDown,
l1DeepEntry, ptmRequest, losAssert, lolAssert, refLost, refReturn. (05_pcie_ports.md, 04_lanes.md, 03_clocks_time_reset.md) -/
def Obligations.PortLinks : Prop :=
  ∀ s : State, s.Inv →
    (∀ (h : Host) (p : Nat), s.hostPort h = some p → s.on (HOSTF_PERST h) = false → s.completes (.hotResetReceived h) fun t =>
      ∃ u : State, t = (u.pcieDown p 10).resetHier h false ∧ s.writes u [(PRT_EVENT_HOT_RESET_RX p, 1)]) ∧
    (∀ (h : Host), (s.hostPort h = none ∨ s.on (HOSTF_PERST h) = true) → s.does (.hotResetReceived h) s []) ∧
    (∀ (h : Host) (p : Nat), s.on (HOSTF_PERST h) = false → s.hostPort h = some p → p < 128 → s.completes (.perstNFall h) fun t =>
      ∃ u : State, t = (u.pcieDown p 0).resetHier h true ∧ s.writes u [(HOSTF_PERST h, 1), (HOSTF_IN_RESET h, 1), (PRT_EVENT_PERST p, 1),
      (PRT_HOST_STATUS_PERST_ACTIVE p, 1)]) ∧
    (∀ (h : Host), s.on (HOSTF_PERST h) = false → s.hostPort h = none → s.does (.perstNFall h) s [(HOSTF_PERST h, 1),
      (HOSTF_IN_RESET h, 1)]) ∧
    (∀ (h : Host), s.on (HOSTF_PERST h) = true → s.does (.perstNFall h) s []) ∧
    (∀ (h : Host) (p : Nat), s.on (HOSTF_PERST h) = true → s.hostPort h = some p → p < 128 → s.on (PRT_HOST_STATUS_WAKE_DRIVEN p) = false →
      s.on (PRTX_OFF p) = false → s.rd GLB_BOOT_STATUS_STAGE = 6 → s.completes (.perstNRise h) fun t => ∃ u : State, t = u.forN (fun v s =>
      s.resetPos (posIdx h v) false) 32 ∧ s.writes u [(HOSTF_PERST h, 0), (HOSTF_IN_RESET h, 0),
      (RTE_HIER_CFG_VB_COUNT h, s.rd (RTE_HIER_CFG_VB_COUNT_NEXT h)), (BAL_APERTURE_SIZE_LOG2 h, s.rd (BAL_APERTURE_SIZE_LOG2_NEXT h)),
      (PRT_HOST_STATUS_PERST_ACTIVE p, 0)]) ∧
    (∀ (h : Host), s.on (HOSTF_PERST h) = false → s.does (.perstNRise h) s []) ∧
    (∀ (h : Host) (v : Fin 32), s.completes (.secondaryBusReset h (some v) true) fun t => ∃ u : State, t = u.resetPos (posIdx h v) true ∧
      s.writes u [(POSX_BCTL (posIdx h v), setBit (s.rd (POSX_BCTL (posIdx h v))) 6)]) ∧
    (∀ (h : Host) (v : Fin 32), s.completes (.secondaryBusReset h (some v) false) fun t => ∃ u : State, t = u.resetPos (posIdx h v) false ∧
      s.writes u [(POSX_BCTL (posIdx h v), clrBit (s.rd (POSX_BCTL (posIdx h v))) 6)]) ∧
    (∀ (h : Host) (on : Bool), s.completes (.secondaryBusReset h none on) fun t => ∃ u : State, t = u.forN (fun v s =>
      s.resetPos (posIdx h v) on) 32 ∧
      s.writes u [(HF0_BCTL h, if on then setBit (s.rd (HF0_BCTL h)) 6 else clrBit (s.rd (HF0_BCTL h)) 6)]) ∧
    (∀ (p : Port) (rate : Fin 6) (width : Fin 5) (flit rev eqf : Bool) (inv : BitVec 16) (eq : List LaneEq),
      (s.mayTrain p = false ∨ s.rd (PRT_CFG_MAX_RATE p) < rate.val ∨ s.rd (PRT_CFG_WIDTH p) < width.val) →
      s.does (.pcieLinkUp p rate width flit rev eqf inv eq) s []) ∧
    (∀ (p : Port) (rate : Fin 6) (width : Fin 5) (rev eqf : Bool) (inv : BitVec 16) (eq : List LaneEq), s.mayTrain p = true →
      rate.val ≤ s.rd (PRT_CFG_MAX_RATE p) → width.val ≤ s.rd (PRT_CFG_WIDTH p) → s.flitFits p rate false = true →
      (rev = false ∨ s.rd (PRT_CFG_WIDTH p) ≠ 0) → s.completes (.pcieLinkUp p rate width false rev eqf inv eq) fun t =>
      t.rd (PRT_LINK_STATUS_LTSSM p) = 3 ∧ t.rd (PRT_LINK_STATUS_RATE p) = rate.val ∧ t.rd (PRT_LINK_STATUS_WIDTH p) = 2 ^ width.val ∧
      t.rd (PRT_LINK_STATUS_FLIT_ACTIVE p) = 0 ∧ t.rd (PRT_LINK_STATUS_REVERSED p) = b2n rev ∧ t.on (PRT_LINK_STATUS_DL_ACTIVE p) = true ∧
      s.keepsMem t) ∧
    (∀ (p : Port) (d : Bool) (h : Nat), s.portHost p = some h →
      s.does (.linkDownUpstream p d) (((s.pcieDown p (if d && !s.on (HOSTF_PERST h) then 8 else 0)).laneView p).resetHier h (s.on (HOSTF_PERST h))) []) ∧
    (∀ (p : Port) (d : Bool), s.portHost p = none → s.does (.linkDownUpstream p d) s []) ∧
    (∀ (p : Port), s.rd (PRT_CFG_MODE p) = 2 → s.on (PRT_LINK_STATUS_DL_ACTIVE p) = true → s.dpcArmed p = false → s.posOf p = [] →
      s.does (.surpriseLinkDown p) (((s.pcieDown p 0).laneView p).recSev 3 p 0x0203 1 p 0 0 []) []) ∧
    (∀ (p : Port), s.rd (PRT_CFG_MODE p) ≠ 2 → s.does (.surpriseLinkDown p) s []) ∧
    (∀ (p : Port) (second : Bool), (s.rd (PRT_CFG_MODE p) = 1 ∨ s.rd (PRT_CFG_MODE p) = 2) → s.on (PRT_CFG_L1_DEEP p) = true →
      (s.rd (PRT_LINK_STATUS_LTSSM p) = 6 ∨ s.rd (PRT_LINK_STATUS_LTSSM p) = 3) → s.completes (.l1DeepEntry p second) fun t =>
      ∃ u : State, t = (u.laneView p).linkView p ∧ s.writes u [(PRT_LINK_STATUS_LTSSM p, 6),
      (PRT_LINK_STATUS_DEEP_LEVEL p, if second then 2 else 1)]) ∧
    (∀ (p : Port) (second : Bool), s.on (PRT_CFG_L1_DEEP p) = false → s.does (.l1DeepEntry p second) s []) ∧
    (∀ (p : Port), s.on (PRTX_PTM p) = true → s.on (PRT_LINK_STATUS_DL_ACTIVE p) = true → s.awake = true →
      s.does (.ptmRequest p) (s.emit (.ptmResponse p (s.ft / 2 * 2) (s.ft / 2 * 2))) []) ∧
    (∀ (p : Port), s.on (PRTX_PTM p) = false → s.awake = true → s.does (.ptmRequest p) s []) ∧
    (∀ (l : Lane), s.on (LAN_STATUS_LOS l) = false → s.wsMasked l = true → s.does (.losAssert l) s [(LAN_STATUS_LOS l, 1),
      (LANX_LOS_AT l, s.now), (LANX_QUIET l, b2n (s.quietMask l))]) ∧
    (∀ (l : Lane), s.on (LAN_STATUS_LOS l) = true → s.does (.losAssert l) s []) ∧
    (∀ (l : Lane), s.on (LAN_STATUS_LOL l) = false → s.wsMasked l = true → s.does (.lolAssert l) s [(LAN_STATUS_LOL l, 1)]) ∧
    (∀ (l : Lane), s.on (LAN_STATUS_LOL l) = true → s.does (.lolAssert l) s []) ∧
    (∀ (g : Fin 16), bitSet (s.rd GLB_CLK_STATUS_CLKREF_DET) g = true → (s.groupStatus g).on (LAN_GRP_STATUS_PLL_P_ON g) = false →
      (s.groupStatus g).on (LAN_GRP_STATUS_PLL_C_ON g) = false → s.completes (.refLost g) fun t => ∃ u : State, t = u.groupView g ∧
      (s.groupStatus g).writes u [(GLB_CLK_STATUS_CLKREF_DET, clrBit (s.rd GLB_CLK_STATUS_CLKREF_DET) g)]) ∧
    (∀ (g : Fin 16), bitSet (s.rd GLB_CLK_STATUS_CLKREF_DET) g = true →
      ((s.groupStatus g).on (LAN_GRP_STATUS_PLL_P_ON g) = true ∨ (s.groupStatus g).on (LAN_GRP_STATUS_PLL_C_ON g) = true) →
      s.completes (.refLost g) fun t =>
      ∃ v : State, t = (State.groupPorts g).foldl State.refLost ((v.wr (LAN_GRP_STATUS_REF_LOST g) 1).log (128 + g) 0x0104 0 (detG g 0)) ∧
      v = ((s.groupStatus g).wr GLB_CLK_STATUS_CLKREF_DET (clrBit (s.rd GLB_CLK_STATUS_CLKREF_DET) g)).groupView g) ∧
    (∀ (g : Fin 16), bitSet (s.rd GLB_CLK_STATUS_CLKREF_DET) g = false → s.does (.refLost g) s []) ∧
    (∀ (g : Fin 16), s.completes (.refReturn g) fun t => ∃ u : State, t = u.groupView g ∧
      s.writes u [(GLB_CLK_STATUS_CLKREF_DET, setBit (s.rd GLB_CLK_STATUS_CLKREF_DET) g)])

/-- The PORT class. PORT_CONFIG of a port that keeps its role and lanes stores its limits and host, of one that moves gives up the old role
and takes the new; PORT_FWD_SET stores the stomp limit, cut-through and age limit. PORT_LINK retrain of a PCI Express port goes to
Recovery, of a tether that is up starts a retrain; disable takes a downstream port to Disabled, enable ends that. PORT_CONFIG with lanes
of another port answers OVERLAP and of a bound downstream port BUSY; PORT_LINK of a port not in use answers BAD_PARAMETER, and disable of
the management host's port NOT_PERMITTED; each of these changes nothing else. Forms for which a clause concludes that exec answers a next
state with the effect named, from conditions on the state and operands alone: portFwdSet, portConfig, portLinkRetrain, portLinkDisable,
portLinkEnable. (15_command_packets.md, 05_pcie_ports.md) -/
def Obligations.PortCommands : Prop :=
  ∀ s : State, s.Inv →
    (∀ (c : Cmd), s.ready 0x0202 c = true → onlyM (s.issuer c.path) = true → (cleanCmd c [(0, 8), (8, 8), (16, 1),
      (32, 32)] false && decide (parBytes c 0 1 < 128) && decide (1 ≤ parBytes c 4 4) && decide (parBytes c 4 4 ≤ 1000000)) = true →
      (s.portBusy (parBytes c 0 1)) = false →
      s.answers (.portFwdSet c) 0x0202 c 0 s [(SWC_PORT_CFG_STOMP_LIMIT (parBytes c 0 1), parBytes c 1 1),
      (SWC_PORT_CFG_CT_ENABLE (parBytes c 0 1), parBits c 16 1), (SWC_PORT_CFG_AGE_LIMIT (parBytes c 0 1), parBytes c 4 4)]) ∧
    (∀ (c : Cmd) (p : Nat) (a : PortCfg), s.ready 0x0201 c = true → onlyM (s.issuer c.path) = true → (cleanCmd c [(0, 8), (8, 8), (16, 8),
      (24, 8), (32, 8), (40, 8), (48, 3), (56, 8), (64, 5), (71, 1)] false && (portCfgOf c).ok (parBytes c 0 1) (parBytes c 2 1)) = true →
      (s.portBusy (parBytes c 0 1)) = false → (s.laneClash (parBytes c 0 1) (portCfgOf c)) = false →
      ((portCfgOf c).mode == 1 && !(s.rd (PRT_CFG_MODE (parBytes c 0 1)) == 1) && decide (48 ≤ s.upstreams)) = false →
      ((portCfgOf c).mode == 1 && s.rd (HOSTF_PORT (portCfgOf c).host) != 0 && s.rd (HOSTF_PORT (portCfgOf c).host) != parBytes c 0 1 + 1) = false → (s.rd (PRT_CFG_MODE (parBytes c 0 1)) == 1 && s.portMoves (parBytes c 0 1) (portCfgOf c) && s.mgmtPort (parBytes c 0 1)) = false → (s.rd (PRT_CFG_MODE (parBytes c 0 1)) == 2 && decide (0 < s.rd (BINDX_COUNT (parBytes c 0 1)))) = false → (s.opBusy [0x0205] (fun o => parBytes o.cmd 0 1 == parBytes c 0 1)) = false → p = parBytes c 0 1 → a = portCfgOf c → s.portMoves p a = false → a.mode ≠ 0 → s.answers (.portConfig c) 0x0201 c 0 s [(PRT_CFG_MODE p, a.mode), (PRT_CFG_FIRST_OFFSET p, a.offset), (PRT_CFG_WIDTH p, a.width), (PRT_CFG_MAX_RATE p, a.rate), (PRT_CFG_FLIT_ALLOWED p, a.flit), (PRT_CFG_CLK_INDEP p, if a.mode = 3 then 1 else a.indep), (PRT_CFG_L1_DEEP p, a.deep), (PRT_CFG_HOST p, if a.mode = 1 then a.host else 0), (PRT_CFG_SLOT_CH p, if a.mode = 2 then a.slot else 0), (PRT_CFG_SLOT_VALID p, if a.mode = 2 then a.slotValid else 0), (PRT_CYT_CFG_MAX_RATE p, if a.mode = 3 then a.rate else 11)]) ∧
    (∀ (c : Cmd), s.ready 0x0201 c = true → onlyM (s.issuer c.path) = true → (cleanCmd c [(0, 8), (8, 8), (16, 8), (24, 8), (32, 8),
      (40, 8), (48, 3), (56, 8), (64, 5), (71, 1)] false && (portCfgOf c).ok (parBytes c 0 1) (parBytes c 2 1)) = true →
      (s.portBusy (parBytes c 0 1)) = false → (s.laneClash (parBytes c 0 1) (portCfgOf c)) = false →
      ((portCfgOf c).mode == 1 && !(s.rd (PRT_CFG_MODE (parBytes c 0 1)) == 1) && decide (48 ≤ s.upstreams)) = false →
      ((portCfgOf c).mode == 1 && s.rd (HOSTF_PORT (portCfgOf c).host) != 0 && s.rd (HOSTF_PORT (portCfgOf c).host) != parBytes c 0 1 + 1) = false → (s.rd (PRT_CFG_MODE (parBytes c 0 1)) == 1 && s.portMoves (parBytes c 0 1) (portCfgOf c) && s.mgmtPort (parBytes c 0 1)) = false → (s.rd (PRT_CFG_MODE (parBytes c 0 1)) == 2 && decide (0 < s.rd (BINDX_COUNT (parBytes c 0 1)))) = false → (s.opBusy [0x0205] (fun o => parBytes o.cmd 0 1 == parBytes c 0 1)) = false → s.portMoves (parBytes c 0 1) (portCfgOf c) = true → s.answers (.portConfig c) 0x0201 c 0 ((s.leaveRole (parBytes c 0 1)).takeRole (parBytes c 0 1) (portCfgOf c)) []) ∧
    (∀ (c : Cmd), s.ready 0x0204 c = true → onlyM (s.issuer c.path) = true → (cleanCmd c [(0, 8),
      (8, 8)] false && parBytes c 1 1 == 0 && decide (parBytes c 0 1 < 128)) = true → (s.rd (PRT_CFG_MODE (parBytes c 0 1)) == 0) = false →
      (s.portBusy (parBytes c 0 1)) = false → (s.rd (PRT_CFG_MODE (parBytes c 0 1)) == 3 && s.rd (CYTX_REQ (parBytes c 0 1)) != 0) = false →
      s.rd (PRT_CFG_MODE (parBytes c 0 1)) ≠ 3 → s.answers (.portLinkRetrain c) 0x0204 c 0 (s.recovery (parBytes c 0 1)) []) ∧
    (∀ (c : Cmd), s.ready 0x0204 c = true → onlyM (s.issuer c.path) = true → (cleanCmd c [(0, 8),
      (8, 8)] false && parBytes c 1 1 == 0 && decide (parBytes c 0 1 < 128)) = true → (s.rd (PRT_CFG_MODE (parBytes c 0 1)) == 0) = false →
      (s.portBusy (parBytes c 0 1)) = false → (s.rd (PRT_CFG_MODE (parBytes c 0 1)) == 3 && s.rd (CYTX_REQ (parBytes c 0 1)) != 0) = false →
      s.tetherUp (parBytes c 0 1) = true → s.answersWith (.portLinkRetrain c) 0x0204 c 0 fun t =>
      ∃ u : State, t = (u.linkMgmt (parBytes c 0 1) 2 0).startRetrain (parBytes c 0 1) ∧ s.writes u [(CYTX_JOIN_OFF (parBytes c 0 1), 0),
      (CYTX_REQ (parBytes c 0 1), 1), (CYTX_REQ_ARG (parBytes c 0 1), 0)]) ∧
    (∀ (c : Cmd), s.ready 0x0204 c = true → onlyM (s.issuer c.path) = true → (cleanCmd c [(0, 8),
      (8, 8)] false && parBytes c 1 1 == 2 && decide (parBytes c 0 1 < 128)) = true → (s.rd (PRT_CFG_MODE (parBytes c 0 1)) == 0) = false →
      (s.portBusy (parBytes c 0 1)) = false → (s.mgmtPort (parBytes c 0 1)) = false → s.rd (PRT_CFG_MODE (parBytes c 0 1)) = 2 →
      s.answersWith (.portLinkDisable c) 0x0204 c 0 fun t => ∃ u : State, t = (u.pcieDown (parBytes c 0 1) 8).laneView (parBytes c 0 1) ∧
      s.writes u [(PRTX_OFF (parBytes c 0 1), 1)]) ∧
    (∀ (c : Cmd), s.ready 0x0204 c = true → onlyM (s.issuer c.path) = true → (cleanCmd c [(0, 8),
      (8, 8)] false && parBytes c 1 1 == 2 && decide (parBytes c 0 1 < 128)) = true → (s.rd (PRT_CFG_MODE (parBytes c 0 1)) == 0) = false →
      (s.portBusy (parBytes c 0 1)) = false → s.mgmtPort (parBytes c 0 1) = true →
      exec (.portLinkDisable c) s = .next (s.post c 0x0204 stNotPermitted 0 0 true)) ∧
    (∀ (c : Cmd), s.ready 0x0204 c = true → onlyM (s.issuer c.path) = true → (cleanCmd c [(0, 8),
      (8, 8)] false && parBytes c 1 1 == 3 && decide (parBytes c 0 1 < 128)) = true → (s.rd (PRT_CFG_MODE (parBytes c 0 1)) == 0) = false →
      (s.portBusy (parBytes c 0 1)) = false → (s.contained 1 (parBytes c 0 1)) = false → s.rd (PRT_CFG_MODE (parBytes c 0 1)) = 2 →
      s.rd (PRT_LINK_STATUS_LTSSM (parBytes c 0 1)) ≠ 8 → s.answers (.portLinkEnable c) 0x0204 c 0 s [(PRTX_OFF (parBytes c 0 1), 0)]) ∧
    (∀ (c : Cmd), s.ready 0x0204 c = true → onlyM (s.issuer c.path) = true → (cleanCmd c [(0, 8),
      (8, 8)] false && parBytes c 1 1 == 3 && decide (parBytes c 0 1 < 128)) = true → (s.rd (PRT_CFG_MODE (parBytes c 0 1)) == 0) = false →
      (s.portBusy (parBytes c 0 1)) = false → (s.contained 1 (parBytes c 0 1)) = false → s.rd (PRT_CFG_MODE (parBytes c 0 1)) = 2 →
      s.rd (PRT_LINK_STATUS_LTSSM (parBytes c 0 1)) = 8 → s.answersWith (.portLinkEnable c) 0x0204 c 0 fun t =>
      ∃ u : State, t = (u.pcieDown (parBytes c 0 1) 0).laneView (parBytes c 0 1) ∧ s.writes u [(PRTX_OFF (parBytes c 0 1), 0)]) ∧
    (∀ (c : Cmd), s.ready 0x0201 c = true → onlyM (s.issuer c.path) = true → (cleanCmd c [(0, 8), (8, 8), (16, 8), (24, 8), (32, 8),
      (40, 8), (48, 3), (56, 8), (64, 5), (71, 1)] false && (portCfgOf c).ok (parBytes c 0 1) (parBytes c 2 1)) = true →
      s.laneClash (parBytes c 0 1) (portCfgOf c) = true → exec (.portConfig c) s = .next (s.post c 0x0201 stOverlap 0 0 true)) ∧
    (∀ (c : Cmd), s.ready 0x0201 c = true → onlyM (s.issuer c.path) = true → (cleanCmd c [(0, 8), (8, 8), (16, 8), (24, 8), (32, 8),
      (40, 8), (48, 3), (56, 8), (64, 5), (71, 1)] false && (portCfgOf c).ok (parBytes c 0 1) (parBytes c 2 1)) = true →
      s.laneClash (parBytes c 0 1) (portCfgOf c) = false → (portCfgOf c).mode ≠ 1 → s.rd (PRT_CFG_MODE (parBytes c 0 1)) = 2 →
      0 < s.rd (BINDX_COUNT (parBytes c 0 1)) → exec (.portConfig c) s = .next (s.post c 0x0201 stBusy 0 0 true)) ∧
    (∀ (c : Cmd), s.ready 0x0204 c = true → onlyM (s.issuer c.path) = true → (cleanCmd c [(0, 8),
      (8, 8)] false && parBytes c 1 1 == 0 && decide (parBytes c 0 1 < 128)) = true → s.rd (PRT_CFG_MODE (parBytes c 0 1)) = 0 →
      exec (.portLinkRetrain c) s = .next (s.post c 0x0204 stBadParam 0 0 true)) ∧
    (∀ (c : Cmd), s.ready 0x0204 c = true → onlyM (s.issuer c.path) = true → (cleanCmd c [(0, 8),
      (8, 8)] false && parBytes c 1 1 == 2 && decide (parBytes c 0 1 < 128)) = true → s.rd (PRT_CFG_MODE (parBytes c 0 1)) = 0 →
      exec (.portLinkDisable c) s = .next (s.post c 0x0204 stBadParam 0 0 true)) ∧
    (∀ (c : Cmd), s.ready 0x0204 c = true → onlyM (s.issuer c.path) = true → (cleanCmd c [(0, 8),
      (8, 8)] false && parBytes c 1 1 == 3 && decide (parBytes c 0 1 < 128)) = true → s.rd (PRT_CFG_MODE (parBytes c 0 1)) = 0 →
      exec (.portLinkEnable c) s = .next (s.post c 0x0204 stBadParam 0 0 true))

/-- RESET_N and start-up, step by step. RESET_N falling in service drains the pool; during a mooring it is only recorded; with no power it
does nothing. The logic resets when the drain is done, and starts up at once if RESET_N rose meanwhile. A cold start samples the straps
and reaches stage 1; a reference at stage 1 locks the PLLs and goes on to the image, or to recovery under BOOT_SEL 3. An image that passes
its check runs, one that fails outside BOOT_SEL 2 is noted. DDR4 bring-up gives the population, or POP_ERR with none; the flash
configuration is applied once; READY is stage 6. Commands at another stage change nothing. Forms for which a clause concludes that exec
answers a next state with the effect named, from conditions on the state and operands alone: resetNFall, resetDrainDone, startupBegin,
sysPllRefDetected, imageChecked, ddrBringupDone, configApplied, ready. (03_clocks_time_reset.md, 20_management_and_debug.md,
12_ballast_pool.md) -/
def Obligations.StartUp : Prop :=
  ∀ s : State, s.Inv →
    ((s.on SYS_OFF = true ∨ s.on MORX_DEAD = true) → s.does .resetNFall s []) ∧
    (s.on SYS_OFF = false → s.on MORX_DEAD = false → s.moored = true → s.completes .resetNFall fun t =>
      t.rd GLB_RESET_CAUSE_RESET_IN_DEEP = 1 ∧ t.rd RETX_CAUSE = 4 ∧ t.rd RETX_SOURCE = wakeReset ∧ t.rd RETX_EVENT_AT = s.ft ∧
      s.keepsMem t ∧ t.out = (if s.rd PWR_STATUS_STATE = 3 then s.out else .pin 3 0 false :: s.out) ∧
      t.mooring.log = (morLogCode 11 0 0 0 s.ft :: s.mooring.log).take 256) ∧
    (s.on SYS_OFF = false → s.on MORX_DEAD = false → s.moored = false → s.rd GLB_BOOT_STATUS_STAGE = 6 → s.on SYS_DRAINING = false →
      s.rd PWR_STATUS_STATE ≠ 2 → s.completes .resetNFall fun t => ∃ u : State, t = u.drain.emit (.pin 3 0 false) ∧
      s.writes u [(SYS_DRAINING, 1), (GLB_RESET_CAUSE_DRAIN_DISCARDS, 0), (RETX_DRAINED, 1), (RETX_ROSE, 0), (RETX_CAUSE, 1),
      (RETX_SOURCE, wakeReset), (RETX_FROM, s.rd PWR_STATUS_STATE), (RETX_EVENT_AT, s.ft)]) ∧
    (s.on SYS_DRAINING = true → s.moored = false → s.on RETX_ROSE = false → s.completes .resetDrainDone fun t => t = s.resetLogic ∧
      t.rd GLB_BOOT_STATUS_STAGE = 0 ∧ t.rd SYS_FW_UP = 0 ∧ t.rd SYS_DRAINING = 0 ∧ t.ops = [] ∧ t.switch = State.reset.switch ∧
      t.pool.cells = s.pool.cells ∧ t.pool.wb = [] ∧ t.mgmt.flash = s.mgmt.flash ∧ t.bridle.saveA = s.bridle.saveA ∧ t.clk = s.clk ∧
      t.rd MOR_COUNT_MOORINGS = s.rd MOR_COUNT_MOORINGS ∧ t.rd GLB_STRAPS_BOOT_SEL = s.rd GLB_STRAPS_BOOT_SEL) ∧
    (s.on SYS_DRAINING = true → s.moored = false → s.on RETX_ROSE = true → s.does .resetDrainDone s.resetLogic.startUp []) ∧
    (s.on SYS_DRAINING = false → s.does .resetDrainDone s []) ∧
    (∀ (mp : BitVec 7) (bs : BitVec 2) (pr : BitVec 4) (hd : Bool), s.rd GLB_BOOT_STATUS_STAGE = 0 → s.on SYS_DRAINING = false →
      s.on SYS_OFF = false → s.on MORX_DEAD = false → s.moored = false → s.rd RETX_CAUSE = 0 →
      s.completes (.startupBegin mp bs pr hd) fun t => t.rd GLB_STRAPS_MGMT_PORT_SEL = mp.toNat ∧ t.rd GLB_STRAPS_BOOT_SEL = bs.toNat ∧
      t.rd GLB_STRAPS_LANE_PROFILE = pr.toNat ∧ t.rd GLB_STRAPS_CHAIN_HEAD = b2n hd ∧ t.rd GLB_BOOT_STATUS_STAGE = 1 ∧
      t.rd PWR_STATUS_STATE = 0 ∧ t.rd GLB_RESET_CAUSE_COLD = 1 ∧ t.rd GLB_RESET_CAUSE_RESET_N = 0 ∧ t.rd MGT_FLASH_STATUS_SELECT = 0 ∧
      s.keepsMem t ∧ t.out = .pin 3 0 false :: s.out) ∧
    (∀ (mp : BitVec 7) (bs : BitVec 2) (pr : BitVec 4) (hd : Bool), (s.rd GLB_BOOT_STATUS_STAGE ≠ 0 ∨ s.moored = true) →
      s.on SYS_DRAINING = false → s.does (.startupBegin mp bs pr hd) s []) ∧
    (∀ (g : Fin 16), s.rd GLB_BOOT_STATUS_STAGE = 1 → s.rd GLB_STRAPS_BOOT_SEL ≠ 3 → s.completes (.sysPllRefDetected g) fun t =>
      ∃ u : State, t = u.strapPorts ∧ s.writes u [(GLB_CLK_STATUS_CLKREF_DET, setBit (s.rd GLB_CLK_STATUS_CLKREF_DET) g),
      (GLB_CLK_STATUS_SYS_REF, (lowPair (setBit (s.rd GLB_CLK_STATUS_CLKREF_DET) g)).getD 0), (GLB_CLK_STATUS_SYS_PLL_LOCK, 1),
      (GLB_CLK_STATUS_DDR_PLL_LOCK, 1), (GLB_BOOT_STATUS_STAGE, 2)]) ∧
    (∀ (g : Fin 16), s.rd GLB_BOOT_STATUS_STAGE = 1 → s.rd GLB_STRAPS_BOOT_SEL = 3 → s.completes (.sysPllRefDetected g) fun t =>
      ∃ u : State, t = u.enterRecovery ∧
      (s.wr MGT_FLASH_STATUS_SELECT 0).writes u [(GLB_CLK_STATUS_CLKREF_DET, setBit (s.rd GLB_CLK_STATUS_CLKREF_DET) g),
      (GLB_CLK_STATUS_SYS_REF, (lowPair (setBit (s.rd GLB_CLK_STATUS_CLKREF_DET) g)).getD 0), (GLB_CLK_STATUS_SYS_PLL_LOCK, 1),
      (GLB_CLK_STATUS_DDR_PLL_LOCK, 1), (GLB_BOOT_STATUS_STAGE, 2)]) ∧
    (∀ (g : Fin 16), s.rd GLB_BOOT_STATUS_STAGE ≠ 1 → s.does (.sysPllRefDetected g) s []) ∧
    (s.rd GLB_BOOT_STATUS_STAGE = 2 → s.on GLB_BOOT_STATUS_A_TRIED = false → s.on GLB_BOOT_STATUS_B_TRIED = false →
      ((s.wr MGT_FLASH_STATUS_SELECT 0).tryImage s.firstImage).2 = true →
      s.does .imageChecked (((s.wr MGT_FLASH_STATUS_SELECT 0).tryImage s.firstImage).1.runImage s.firstImage (s.flashBytes s.firstImage 0 16)) []) ∧
    (s.rd GLB_BOOT_STATUS_STAGE = 2 → s.on GLB_BOOT_STATUS_A_TRIED = false → s.on GLB_BOOT_STATUS_B_TRIED = false →
      ((s.wr MGT_FLASH_STATUS_SELECT 0).tryImage s.firstImage).2 = false → s.rd GLB_STRAPS_BOOT_SEL ≠ 2 →
      s.does .imageChecked ((s.wr MGT_FLASH_STATUS_SELECT 0).tryImage s.firstImage).1 []) ∧
    (s.rd GLB_BOOT_STATUS_STAGE ≠ 2 → s.does .imageChecked s []) ∧
    (∀ (src : Nat) (l : List (BitVec 8)), s.mooring.firstErr = [] → src ≤ 2 → ∃ u : State, s.runImage src l = u.startEngines.placeFirst ∧
      u.rd GLB_BOOT_STATUS_STAGE = 3 ∧ u.rd SYS_FW_UP = 1 ∧ u.rd GLB_BOOT_STATUS_IMAGE = b2n (src == 1)) ∧
    (∀ (l : List (Option Dimm)) (a b : BitVec 8), s.rd GLB_BOOT_STATUS_STAGE = 4 → population l = none →
      s.completes (.ddrBringupDone l a b) fun t => t.rd GLB_BOOT_STATUS_STAGE = 5 ∧ t.rd BAL_STATUS_N = 0 ∧ t.rd BAL_STATUS_CAPACITY = 0 ∧
      t.rd BAL_STATUS_POP_ERR = 1 ∧ t.rd GLB_RESET_CAUSE_POOL_PRESERVED = 0 ∧ t.pool.cells = [] ∧ t.out = s.out) ∧
    (∀ (l : List (Option Dimm)) (a b : BitVec 8) (n k : Nat) (d : Dimm), s.rd GLB_BOOT_STATUS_STAGE = 4 → population l = some (n, k, d) →
      s.on RETX_KEPT = false → s.completes (.ddrBringupDone l a b) fun t => t.rd GLB_BOOT_STATUS_STAGE = 5 ∧
      t.rd BAL_STATUS_N = n % 2 ^ BAL_STATUS_N.width ∧ t.rd BAL_STATUS_DIMMS_PER_CH = k % 2 ^ BAL_STATUS_DIMMS_PER_CH.width ∧
      t.rd BAL_STATUS_CAPACITY = n * k * d.size % 2 ^ BAL_STATUS_CAPACITY.width ∧ t.rd BAL_STATUS_POP_ERR = 0 ∧
      t.rd GLB_RESET_CAUSE_POOL_PRESERVED = 0 ∧ t.pool.cells = []) ∧
    (∀ (l : List (Option Dimm)) (a b : BitVec 8), s.rd GLB_BOOT_STATUS_STAGE ≠ 3 → s.rd GLB_BOOT_STATUS_STAGE ≠ 4 →
      s.does (.ddrBringupDone l a b) s []) ∧
    (s.rd GLB_BOOT_STATUS_STAGE = 5 → s.on GLB_BOOT_STATUS_CONFIG_APPLIED = false → s.completes .configApplied fun t =>
      t.rd GLB_BOOT_STATUS_CONFIG_APPLIED = 1 ∧ t.pending = s.pending ∧ t.mgmt.flash = s.mgmt.flash) ∧
    (s.rd GLB_BOOT_STATUS_STAGE ≠ 5 → s.does .configApplied s []) ∧
    (s.rd GLB_BOOT_STATUS_STAGE = 5 → s.on GLB_BOOT_STATUS_CONFIG_APPLIED = true → s.completes .ready fun t =>
      t.rd GLB_BOOT_STATUS_STAGE = 6 ∧ t.rd READYX_AT = s.now % 2 ^ 64 ∧ t.now = s.now ∧ t.pending = s.pending ∧
      t.mgmt.flash = s.mgmt.flash) ∧
    (s.rd GLB_BOOT_STATUS_STAGE ≠ 5 → s.does .ready s [])

/-- The ROUTE class: hierarchies, bindings, window translation and routes. ROUTE_HIER_SET sets the next bridge count and the quota of a host;
ROUTE_BIND binds an unbound downstream port at a free position, whole or by shared functions; ROUTE_UNBIND starts a long operation and
takes the link of the position down, with its flag after it has ended the requests; ROUTE_XLAT_WRITE writes a translation entry at its
index or the lowest free one and counts it, and answers OVERLAP, changing nothing, where it clashes with another; ROUTE_XLAT_CLEAR clears
an entry and counts it out; ROUTE_NODE_SET stores the tethers of a route; multicast groups and maps are stored. RTE_IND_GO takes a
snapshot of the translation table, or shows BAD_INDEX past the end of a table. Forms for which a clause concludes that exec answers a next
state with the effect named, from conditions on the state and operands alone: routeHierSet, routeBind, routeUnbind, routeXlatWrite,
routeXlatClear, routeNodeSet, routeMcSet, routeMcMap, rteIndGo. (08_routing_and_hierarchies.md, 15_command_packets.md) -/
def Obligations.RouteCommands : Prop :=
  ∀ s : State, s.Inv →
    (∀ (c : Cmd), s.ready 0x0301 c = true → onlyM (s.issuer c.path) = true → (cleanCmd c [(0, 8), (8, 8),
      (32, 32)] false && decide (parBytes c 0 1 < 48) && decide (parBytes c 1 1 ≤ 32) && decide (parBytes c 4 4 ≤ 65536)) = true →
      s.answers (.routeHierSet c) 0x0301 c 0 s [(RTE_HIER_CFG_VB_COUNT_NEXT (parBytes c 0 1), parBytes c 1 1),
      (RTE_HIER_QUOTA_XLAT_QUOTA (parBytes c 0 1), parBytes c 4 4)]) ∧
    (∀ (c : Cmd) (p h v : Nat), s.ready 0x0302 c = true → onlyM (s.issuer c.path) = true → (cleanCmd c [(0, 8), (8, 8), (16, 8), (24, 1),
      (32, 8), (40, 8), (64, 256)] false && decide (parBytes c 0 1 < 128) && decide (parBytes c 1 1 < 48) && decide (parBytes c 2 1 < 32) && decide (1 ≤ parBytes c 4 1) && decide (1 ≤ parBytes c 5 1) && decide (parBytes c 5 1 ≤ 32) && decide (parBytes c 4 1 + parBytes c 5 1 ≤ 255)) = true → (s.rd (PRT_CFG_MODE p) != 2) = false → (s.contained 1 p) = false → (s.unbinding p) = false → (s.on MOR_CFG_TARGET_EN && (p == s.rd MOR_CFG_PORT0 || p == s.rd MOR_CFG_PORT1)) = false → (decide (s.rd (RTE_HIER_CFG_VB_COUNT h) ≤ v)) = false → (s.on (POS_BOUND (posIdx h v))) = false → (s.busOverlap p (parBytes c 4 1) (parBytes c 5 1)) = false → p = parBytes c 0 1 → h = parBytes c 1 1 → v = parBytes c 2 1 → s.rd (BINDX_COUNT p) = 0 → parBits c 24 1 = 0 → ((bindFns c).any fun f => s.on (SHF_BOUND (fnIdx p f))) = false → s.answersWith (.routeBind c) 0x0302 c 0 fun t => t.rd (POS_BOUND (posIdx h v)) = 1 ∧ t.rd (POS_SHARED (posIdx h v)) = 0 ∧ t.rd (POS_PORT (posIdx h v)) = p ∧ t.rd (POS_FABRIC_BUS_BASE (posIdx h v)) = parBytes c 4 1 ∧ t.rd (POS_BUS_SPAN (posIdx h v)) = parBytes c 5 1 ∧ t.rd (POS_LINK_ACTIVE (posIdx h v)) = s.rd (PRT_LINK_STATUS_DL_ACTIVE p) % 2 ∧ t.rd (BINDX_COUNT p) = 1 ∧ t.rd (BINDX_HOST p) = h ∧ t.rd (BINDX_POS p) = v ∧ s.keepsMem t ∧ s.keepsRegs t [POS_BOUND (posIdx h v), POS_SHARED (posIdx h v), POS_PORT (posIdx h v), POS_FABRIC_BUS_BASE (posIdx h v), POS_BUS_SPAN (posIdx h v), POS_UNBINDING (posIdx h v), POS_LINK_ACTIVE (posIdx h v), BINDX_COUNT p, BINDX_SHARED p, BINDX_HOST p, BINDX_POS p, PRTX_DPC_EN p, PRTX_DPC_UR p]) ∧
    (∀ (c : Cmd) (p h v : Nat), s.ready 0x0302 c = true → onlyM (s.issuer c.path) = true → (cleanCmd c [(0, 8), (8, 8), (16, 8), (24, 1),
      (32, 8), (40, 8), (64, 256)] false && decide (parBytes c 0 1 < 128) && decide (parBytes c 1 1 < 48) && decide (parBytes c 2 1 < 32) && decide (1 ≤ parBytes c 4 1) && decide (1 ≤ parBytes c 5 1) && decide (parBytes c 5 1 ≤ 32) && decide (parBytes c 4 1 + parBytes c 5 1 ≤ 255)) = true → (s.rd (PRT_CFG_MODE p) != 2) = false → (s.contained 1 p) = false → (s.unbinding p) = false → (s.on MOR_CFG_TARGET_EN && (p == s.rd MOR_CFG_PORT0 || p == s.rd MOR_CFG_PORT1)) = false → (decide (s.rd (RTE_HIER_CFG_VB_COUNT h) ≤ v)) = false → (s.on (POS_BOUND (posIdx h v))) = false → (s.busOverlap p (parBytes c 4 1) (parBytes c 5 1)) = false → p = parBytes c 0 1 → h = parBytes c 1 1 → v = parBytes c 2 1 → s.rd (BINDX_COUNT p) = 0 → parBits c 24 1 = 1 → parBytes c 5 1 = 1 → ((bindFns c).any fun f => s.on (SHF_BOUND (fnIdx p f))) = false → s.answers (.routeBind c) 0x0302 c 0 (s.bind p h v 1 (parBytes c 4 1) 1 (bindFns c)) []) ∧
    (∀ (p h v base span f : Nat), h < 48 → v < 32 → p < 128 → base < 256 → span < 256 → f < 256 →
      (s.bind p h v 1 base span [f]).rd (POS_SHARED (posIdx h v)) = 1 ∧ (s.bind p h v 1 base span [f]).rd (POS_PORT (posIdx h v)) = p ∧
      (s.bind p h v 1 base span [f]).rd (SHF_BOUND (fnIdx p f)) = 1 ∧ (s.bind p h v 1 base span [f]).rd (SHF_HOST (fnIdx p f)) = h ∧
      (s.bind p h v 1 base span [f]).rd (SHF_POSITION (fnIdx p f)) = v) ∧
    (∀ (c : Cmd) (k : Nat), s.ready 0x0303 c = true → onlyM (s.issuer c.path) = true → (cleanCmd c [(0, 8),
      (8, 8)] true && decide (parBytes c 0 1 < 128) && decide (parBytes c 1 1 < 48)) = true → (s.unbinding (parBytes c 0 1)) = false →
      (s.opsFull (s.issuer c.path)) = false → s.posAt (parBytes c 0 1) (parBytes c 1 1) = some k → opFlag c = false →
      s.starts (.routeUnbind c) 0x0303 0 1 0 (s.rd SYS_ORDER) c [(POS_UNBINDING k, 1), (POS_LINK_ACTIVE k, 0)]) ∧
    (∀ (c : Cmd) (k : Nat), s.ready 0x0303 c = true → onlyM (s.issuer c.path) = true → (cleanCmd c [(0, 8),
      (8, 8)] true && decide (parBytes c 0 1 < 128) && decide (parBytes c 1 1 < 48)) = true → (s.unbinding (parBytes c 0 1)) = false →
      (s.opsFull (s.issuer c.path)) = false → s.posAt (parBytes c 0 1) (parBytes c 1 1) = some k → opFlag c = true →
      ∃ u : State, exec (.routeUnbind c) s = .next ((u.abortAsks (parBytes c 0 1) (parBytes c 1 1)).startOp c 0x0303 0 1 1 (s.rd SYS_ORDER)) ∧ s.writes u [(POS_UNBINDING k, 1), (POS_LINK_ACTIVE k, 0)]) ∧
    (∀ (c : Cmd) (i : Nat) (x : Xlat), s.ready 0x0304 c = true → onlyM (s.issuer c.path) = true → (cleanCmd c [(0, 32), (32, 32), (64, 12),
      (128, 64), (192, 64)] false && parBits c 32 1 == 1 && (xlatOfCmd c).valid && (parBytes c 0 4 == 0xFFFFFFFF || decide (parBytes c 0 4 < 65536))) = true → ((s.eraseXlat i).xlats.any fun j => ((s.eraseXlat i).xlat j).clashes x) = false → (decide (s.rd (RTE_HIER_QUOTA_XLAT_QUOTA x.host) ≤ s.rd (RTE_HIER_USED_XLAT_USED x.host))) = false → x = xlatOfCmd c → s.xlatIndex (parBytes c 0 4) = some i → s.on (XLAT_VALID i) = false → i < 65536 → x.typ = 1 → s.answersWith (.routeXlatWrite c) 0x0304 c i fun t => t = s.putXlat i x ∧ t.xlat i = x ∧ t.rd (XLAT_VALID i) = 1 ∧ t.rd RTE_XLAT_USED_USED = (s.rd RTE_XLAT_USED_USED + 1) % 2 ^ RTE_XLAT_USED_USED.width ∧ t.rd (RTE_HIER_USED_XLAT_USED x.host) = (s.rd (RTE_HIER_USED_XLAT_USED x.host) + 1) % 2 ^ (RTE_HIER_USED_XLAT_USED x.host).width ∧ s.keepsMem t) ∧
    (∀ (c : Cmd) (i : Nat) (x : Xlat), s.ready 0x0304 c = true → onlyM (s.issuer c.path) = true → (cleanCmd c [(0, 32), (32, 32), (64, 12),
      (128, 64), (192, 64)] false && parBits c 32 1 == 1 && (xlatOfCmd c).valid && (parBytes c 0 4 == 0xFFFFFFFF || decide (parBytes c 0 4 < 65536))) = true → ((s.eraseXlat i).xlats.any fun j => ((s.eraseXlat i).xlat j).clashes x) = false → (decide (s.poolUsable < x.target + 2 ^ x.sizeLog2)) = false → (x.counted && !(s.on (XLAT_VALID i) && (s.xlat i).counted && (s.xlat i).host == x.host) && decide (s.rd (RTE_HIER_QUOTA_XLAT_QUOTA x.host) ≤ (s.eraseXlat i).rd (RTE_HIER_USED_XLAT_USED x.host))) = false → x = xlatOfCmd c → s.xlatIndex (parBytes c 0 4) = some i → i < 65536 → s.inWindow x.window x.target (2 ^ x.sizeLog2) = true → s.answersWith (.routeXlatWrite c) 0x0304 c i fun t => t = s.putXlat i x) ∧
    (∀ (c : Cmd) (i : Nat), s.ready 0x0304 c = true → onlyM (s.issuer c.path) = true → (cleanCmd c [(0, 32), (32, 32), (64, 12), (128, 64),
      (192, 64)] false && parBits c 32 1 == 1 && (xlatOfCmd c).valid && (parBytes c 0 4 == 0xFFFFFFFF || decide (parBytes c 0 4 < 65536))) = true → s.xlatIndex (parBytes c 0 4) = some i → ((s.eraseXlat i).xlats.any fun j => ((s.eraseXlat i).xlat j).clashes (xlatOfCmd c)) = true → exec (.routeXlatWrite c) s = .next (s.post c 0x0304 stOverlap 0 0 true)) ∧
    (∀ (c : Cmd), s.ready 0x0305 c = true → onlyM (s.issuer c.path) = true →
      (cleanCmd c [(0, 32)] false && decide (parBytes c 0 4 < 65536)) = true → s.on (XLAT_VALID (parBytes c 0 4)) = true →
      s.rd RTE_XLAT_USED_USED ≤ 65536 → s.answersWith (.routeXlatClear c) 0x0305 c 0 fun t => t.rd (XLAT_VALID (parBytes c 0 4)) = 0 ∧
      t.rd RTE_XLAT_USED_USED = s.rd RTE_XLAT_USED_USED - 1 ∧ s.keepsMem t) ∧
    (∀ (c : Cmd), s.ready 0x0306 c = true → onlyM (s.issuer c.path) = true → (cleanCmd c [(0, 8), (8, 4), (16, 8), (24, 8), (32, 8),
      (40, 8)] false && decide (parBytes c 0 1 < 64) && ((List.range 4).all fun i =>
      decide (parBytes c (2 + i) 1 < 128) && (parBits c (8 + i) 1 == 0 || s.rd (PRT_CFG_MODE (parBytes c (2 + i) 1)) == 3))) = true →
      s.answersWith (.routeNodeSet c) 0x0306 c 0 fun t => t = s.putRoute c (parBytes c 0 1) ∧
      t.rd (NRT_VALID (parBytes c 0 1)) = b2n (parBits c 8 4 != 0) ∧ t.rd (NRT_LISTED (parBytes c 0 1)) = parBits c 8 4 ∧
      t.rd (NRT_TETHER0 (parBytes c 0 1)) = parBytes c 2 1 % 128 ∧ s.keepsMem t) ∧
    (∀ (c : Cmd), s.ready 0x0307 c = true → onlyM (s.issuer c.path) = true → cleanCmd c [(0, 8), (8, 2), (64, 128),
      (192, 128)] false = true → s.answers (.routeMcSet c) 0x0307 c 0 s [(SWC_MC_PORTS_PORTS (parBytes c 0 1) 0, parBytes c 8 4),
      (SWC_MC_PORTS_PORTS (parBytes c 0 1) 1, parBytes c 12 4), (SWC_MC_PORTS_PORTS (parBytes c 0 1) 2, parBytes c 16 4),
      (SWC_MC_PORTS_PORTS (parBytes c 0 1) 3, parBytes c 20 4), (SWC_MC_CFG_VALID (parBytes c 0 1), parBits c 8 1),
      (SWC_MC_CFG_REMOTE (parBytes c 0 1), parBits c 9 1), (MCT_TRANSIT (parBytes c 0 1), parBytes c 24 16)]) ∧
    (∀ (c : Cmd), s.ready 0x0308 c = true → onlyM (s.issuer c.path) = true → (cleanCmd c [(0, 8), (8, 8), (16, 8),
      (24, 1)] false && decide (parBytes c 0 1 < 128) && decide (parBytes c 1 1 < 64)) = true →
      s.answers (.routeMcMap c) 0x0308 c 0 s [(MCMX_GROUP (parBytes c 0 1) (parBytes c 1 1), parBytes c 2 1),
      (MCMX_VALID (parBytes c 0 1) (parBytes c 1 1), parBits c 24 1)]) ∧
    (∀ (v : BitVec 31), rteCount (v.toNat % 16) ≤ v.toNat / 16 % 65536 → s.completes (.rteIndGo v) fun t =>
      t.rd RTE_IND_STATUS_BAD_INDEX = 1 ∧ t.rd RTE_IND_STATUS_DONE = 0 ∧ (∀ k < 8, t.rd (RTE_IND_DATA_WORD k) = 0) ∧ s.keepsMem t ∧
      t = { s with regs := t.regs }) ∧
    (∀ (v : BitVec 31), v.toNat % 16 = 0 → s.completes (.rteIndGo v) fun t => t.rd RTE_IND_STATUS_BAD_INDEX = 0 ∧
      t.rd RTE_IND_SEL_TABLE = 0 ∧ t.rd RTE_IND_SEL_INDEX = v.toNat / 16 % 65536 ∧
      (∀ k < 8, t.rd (RTE_IND_DATA_WORD k) = s.tabWord xlatLayout (xlatAddr (v.toNat / 16 % 65536)) k % 2 ^ 32) ∧ s.keepsMem t ∧
      t = { s with regs := t.regs })

/-- The BRIDLE tables: staged rules, locks, policy bits, snapshots, and decisions. Rules are written to and cleared from the staged table.
NO_RESOURCE answers a write past the owner's quota, OVERLAP one that meets another staged rule, NOT_PERMITTED, after those, a change of a
lock that is active or being committed; the staged table is reset to the active one; the policy bits are staged. A snapshot shows the
named table's rule. A request that no rule matches follows its policy bit; with one match the rule's permission decides; an internal
request with neither a matching rule nor a lock is permitted, and one under a lock refused. Forms for which a clause concludes that exec
answers a next state with the effect named, from conditions on the state and operands alone: bridleRuleWrite, bridleRuleClear,
bridleStageReset, bridlePolicySet, brdIndGo. (09_bridle_access_control.md, 15_command_packets.md) -/
def Obligations.BridleTables : Prop :=
  ∀ s : State, s.Inv →
    (∀ (c : Cmd) (i : Nat) (t : Tables), s.ready 0x0401 c = true → onlyM (s.issuer c.path) = true → (cleanCmd c [(0, 16), (64, 31),
      (96, 32), (128, 30), (160, 18), (192, 64),
      (256, 64)] false && decide (parBytes c 0 2 < 8192) && (s.bridle.staged.write (parBytes c 0 2) (parBytes c 8 32)).okRule (parBytes c 0 2)) = true → (s.breaksLock t i) = false → (t.valid.any fun j => j != i && t.overlaps i j) = false → (t.get (RULE_OWNER_VALID i) == 1 && decide (s.rd (GND_RULE_QUOTA (t.get (RULE_OWNER_GONDOLA i))) < (t.ownedBy (t.get (RULE_OWNER_GONDOLA i))).length)) = false → i = parBytes c 0 2 → t = s.bridle.staged.write i (parBytes c 8 32) → s.answers (.bridleRuleWrite c) 0x0401 c 0 (s.setStaged t) []) ∧
    (∀ (c : Cmd) (i : Nat) (t : Tables), s.ready 0x0401 c = true → onlyM (s.issuer c.path) = true → (cleanCmd c [(0, 16), (64, 31),
      (96, 32), (128, 30), (160, 18), (192, 64),
      (256, 64)] false && decide (parBytes c 0 2 < 8192) && (s.bridle.staged.write (parBytes c 0 2) (parBytes c 8 32)).okRule (parBytes c 0 2)) = true → (t.valid.any fun j => j != i && t.overlaps i j) = false → (t.get (RULE_OWNER_VALID i) == 1 && decide (s.rd (GND_RULE_QUOTA (t.get (RULE_OWNER_GONDOLA i))) < (t.ownedBy (t.get (RULE_OWNER_GONDOLA i))).length)) = false → i = parBytes c 0 2 → t = s.bridle.staged.write i (parBytes c 8 32) → s.breaksLock t i = true → exec (.bridleRuleWrite c) s = .next (s.post c 0x0401 stNotPermitted 0 0 true)) ∧
    (∀ (t : Tables) (i : Nat), s.rd BRD_STATUS_STATE ≠ 2 →
      s.breaksLock t i = (s.bridle.active.isLock i && t.entry i != s.bridle.active.entry i)) ∧
    (∀ (c : Cmd) (i : Nat) (t : Tables), s.ready 0x0401 c = true → onlyM (s.issuer c.path) = true → (cleanCmd c [(0, 16), (64, 31),
      (96, 32), (128, 30), (160, 18), (192, 64),
      (256, 64)] false && decide (parBytes c 0 2 < 8192) && (s.bridle.staged.write (parBytes c 0 2) (parBytes c 8 32)).okRule (parBytes c 0 2)) = true → i = parBytes c 0 2 → t = s.bridle.staged.write i (parBytes c 8 32) → t.get (RULE_OWNER_VALID i) = 1 → s.rd (GND_RULE_QUOTA (t.get (RULE_OWNER_GONDOLA i))) < (t.ownedBy (t.get (RULE_OWNER_GONDOLA i))).length → exec (.bridleRuleWrite c) s = .next (s.post c 0x0401 stNoResource 0 0 true)) ∧
    (∀ (c : Cmd) (i : Nat) (t : Tables), s.ready 0x0401 c = true → onlyM (s.issuer c.path) = true → (cleanCmd c [(0, 16), (64, 31),
      (96, 32), (128, 30), (160, 18), (192, 64),
      (256, 64)] false && decide (parBytes c 0 2 < 8192) && (s.bridle.staged.write (parBytes c 0 2) (parBytes c 8 32)).okRule (parBytes c 0 2)) = true → (t.get (RULE_OWNER_VALID i) == 1 && decide (s.rd (GND_RULE_QUOTA (t.get (RULE_OWNER_GONDOLA i))) < (t.ownedBy (t.get (RULE_OWNER_GONDOLA i))).length)) = false → i = parBytes c 0 2 → t = s.bridle.staged.write i (parBytes c 8 32) → (t.valid.any fun j => j != i && t.overlaps i j) = true → exec (.bridleRuleWrite c) s = .next (s.post c 0x0401 stOverlap 0 0 true)) ∧
    (∀ (t : Tables) (i w : Nat), t.rules.wf = true → i < 8192 → (t.write i w).rules.wf = true ∧
      ∀ f ∈ ruleFlds i, (t.write i w).get f = bits w (f.key % 256) f.width) ∧
    (∀ (t : Tables), (s.setStaged t).bridle = { s.bridle with staged := t } ∧
      (s.setStaged t).rd BRD_RULES_USED_STAGED = t.valid.length % 2 ^ BRD_RULES_USED_STAGED.width ∧
      (s.setStaged t).rd BRD_STATUS_STAGED_DIFFERS = b2n (t.rules != s.bridle.active.rules || t.policy != s.bridle.active.policy) ∧
      (s.setStaged t).rd BRD_STATUS_GEN = s.bridle.active.gen % 2 ^ BRD_STATUS_GEN.width ∧ s.keepsMem (s.setStaged t)) ∧
    (∀ (c : Cmd), s.ready 0x0402 c = true → onlyM (s.issuer c.path) = true →
      (cleanCmd c [(0, 16)] false && decide (parBytes c 0 2 < 8192)) = true →
      (s.breaksLock (s.bridle.staged.erase (parBytes c 0 2)) (parBytes c 0 2)) = false →
      s.answers (.bridleRuleClear c) 0x0402 c 0 (s.setStaged (s.bridle.staged.erase (parBytes c 0 2))) []) ∧
    (∀ (c : Cmd), s.ready 0x0402 c = true → onlyM (s.issuer c.path) = true →
      (cleanCmd c [(0, 16)] false && decide (parBytes c 0 2 < 8192)) = true →
      s.breaksLock (s.bridle.staged.erase (parBytes c 0 2)) (parBytes c 0 2) = true →
      exec (.bridleRuleClear c) s = .next (s.post c 0x0402 stNotPermitted 0 0 true)) ∧
    (∀ (c : Cmd), s.ready 0x0403 c = true → onlyM (s.issuer c.path) = true → cleanCmd c [] false = true →
      s.answers (.bridleStageReset c) 0x0403 c 0 (s.setStaged s.bridle.active) []) ∧
    (∀ (c : Cmd), s.ready 0x0407 c = true → onlyM (s.issuer c.path) = true → cleanCmd c [(0, 6), (8, 2)] false = true →
      s.answers (.bridlePolicySet c) 0x0407 c 0 (s.setStaged { s.bridle.staged with policy := parBytes c 0 2 }) []) ∧
    (∀ (v : BitVec 31), s.completes (.brdIndGo v) fun t =>
      (∀ k < 8, t.rd (BRD_IND_DATA_WORD k) = bits ((if t.rd BRD_IND_SEL_STAGED = 1 then s.bridle.staged else s.bridle.active).packed (t.rd BRD_IND_SEL_RULE)) (32 * k) 32) ∧ t.rd BRD_IND_SEL_RULE = bits v.toNat (BRD_IND_SEL_RULE.key % 32) 13 ∧ t.rd BRD_IND_STATUS_DONE = 0 ∧ s.keepsMem t ∧ t = { s with regs := t.regs }) ∧
    (∀ (k : Check), k.cls ≠ clsInternal → s.on BRD_STATUS_LOCK_UNKNOWN = false → (s.bridle.active.valid.filter fun i =>
      s.bridle.active.matches i k) = [] → s.verdict k = if s.bridle.active.policyBit k.cls k.space then none else some (1, 0)) ∧
    (∀ (k : Check) (i : Nat), k.cls ≠ clsInternal → s.on BRD_STATUS_LOCK_UNKNOWN = false → (s.bridle.active.valid.filter fun i =>
      s.bridle.active.matches i k) = [i] → s.verdict k = if s.bridle.active.grants i k.access then none else some (2, i)) ∧
    (∀ (k : Check), k.cls = clsInternal → s.on BRD_STATUS_LOCK_UNKNOWN = false → (s.bridle.active.valid.filter fun i =>
      s.bridle.active.matches i k) = [] → (s.bridle.active.valid.any fun i => s.bridle.active.locks i k.space k.addr k.len) = false →
      s.verdict k = none ∧ s.check k = (s, true)) ∧
    (∀ (k : Check) (i : Nat), k.cls = clsInternal → (s.bridle.active.valid.find? fun i =>
      s.bridle.active.locks i k.space k.addr k.len) = some i → s.verdict k = some (3, i))

/-- Bridle update sessions: BEGIN, COMMIT, ABORT, the save copies, and BRIDLE_REBUILD. BEGIN opens a session and answers BUSY while one is
open; ABORT, and the timeout after 100 us, end it. A COMMIT of an open session takes the staged table, with the locks of the active one
kept; it first writes the save copy, or with none possible activates the table with the next generation; the written copy activates it;
the status is posted when the requests of the old table have drained. COMMIT without a session answers BAD_PARAMETER, after a timeout
TIMEOUT. BRIDLE_REBUILD starts as a long command; it answers BAD_PARAMETER without a pool, NOT_PERMITTED while the locks are unknown.
Forms for which a clause concludes that exec answers a next state with the effect named, from conditions on the state and operands alone:
bridleBegin, bridleAbort, bridleSessionTimeout, bridleCommit, bridleSaveCopyWritten, bridleOldDrained, bridleRebuild.
(09_bridle_access_control.md, 15_command_packets.md) -/
def Obligations.BridleSessions : Prop :=
  ∀ s : State, s.Inv →
    (∀ (c : Cmd), s.ready 0x0404 c = true → onlyM (s.issuer c.path) = true → cleanCmd c [] false = true → s.rd BRD_STATUS_STATE = 0 →
      s.answers (.bridleBegin c) 0x0404 c 0 s [(BRD_STATUS_STATE, 1), (BRDX_HOLD_AT, s.now), (BRDX_TIMER_ABORT, 0)]) ∧
    (∀ (c : Cmd), s.ready 0x0404 c = true → onlyM (s.issuer c.path) = true → cleanCmd c [] false = true → s.rd BRD_STATUS_STATE ≠ 0 →
      exec (.bridleBegin c) s = .next (s.post c 0x0404 stBusy 0 0 true)) ∧
    (∀ (c : Cmd), s.ready 0x0406 c = true → onlyM (s.issuer c.path) = true → cleanCmd c [] false = true → s.rd BRD_STATUS_STATE = 1 →
      s.answers (.bridleAbort c) 0x0406 c 0 (s.abortSession false) []) ∧
    (∀ (c : Cmd), s.ready 0x0406 c = true → onlyM (s.issuer c.path) = true → cleanCmd c [] false = true → s.rd BRD_STATUS_STATE ≠ 1 →
      exec (.bridleAbort c) s = .next (s.post c 0x0406 stBadParam 0 0 true)) ∧
    (∀ (b : Bool), s.bridle.held = [] → (s.abortSession b).rd BRD_STATUS_STATE = 0 ∧ (s.abortSession b).rd BRD_EVENT_SESSION_ABORT = 1 ∧
      (s.abortSession b).bridle = s.bridle ∧ s.keepsMem (s.abortSession b)) ∧
    (s.rd BRD_STATUS_STATE = 1 → s.does .bridleSessionTimeout ((s.advTo (s.rd BRDX_HOLD_AT + 100 * us)).abortSession true) []) ∧
    (s.rd BRD_STATUS_STATE ≠ 1 → s.does .bridleSessionTimeout s []) ∧
    (∀ (c : Cmd), s.ready 0x0405 c = true → onlyM (s.issuer c.path) = true → cleanCmd c [] false = true → s.noSave = false →
      s.rd BRD_STATUS_STATE = 1 → s.completes (.bridleCommit c) fun t => t.bridle.commit = s.bridle.staged.keepLocks s.bridle.active ∧
      t.bridle.active = s.bridle.active ∧ t.rd BRD_STATUS_STATE = 2 ∧ t.late = s.late ++ [⟨0x0405, c, 0, false⟩] ∧ t.out = s.out ∧
      s.keepsMem t) ∧
    (∀ (c : Cmd), s.ready 0x0405 c = true → onlyM (s.issuer c.path) = true → cleanCmd c [] false = true → s.rd BRD_STATUS_STATE = 1 →
      s.noSave = true → s.bridle.held = [] → s.completes (.bridleCommit c) fun t =>
      t.bridle.active.rules = (s.bridle.staged.keepLocks s.bridle.active).rules ∧ t.bridle.active.policy = s.bridle.staged.policy ∧
      t.bridle.active.gen = (s.bridle.active.gen + 1) % 65536 ∧ t.rd BRD_STATUS_STATE = 3 ∧ t.late = s.late ++ [⟨0x0405, c, 0, false⟩] ∧
      t.bridle.saveA = s.bridle.saveA ∧ t.bridle.saveB = s.bridle.saveB ∧ s.keepsMem t) ∧
    (∀ (c : Cmd), s.ready 0x0405 c = true → onlyM (s.issuer c.path) = true → cleanCmd c [] false = true → (s.on BRDX_TIMER_ABORT) = false →
      s.rd BRD_STATUS_STATE ≠ 1 → exec (.bridleCommit c) s = .next (s.post c 0x0405 stBadParam 0 0 true)) ∧
    (∀ (c : Cmd), s.ready 0x0405 c = true → onlyM (s.issuer c.path) = true → cleanCmd c [] false = true → s.rd BRD_STATUS_STATE ≠ 1 →
      s.on BRDX_TIMER_ABORT = true → exec (.bridleCommit c) s = .next (s.post c 0x0405 stTimeout 0 0 true)) ∧
    (∀ (t a : Tables), (a.valid.filter fun i => a.isLock i && t.entry i != a.entry i) = [] → t.keepLocks a = t) ∧
    (∀ (t a : Tables), (t.keepLocks a).policy = t.policy) ∧
    (s.rd BRD_STATUS_STATE = 2 → s.noSave = false → s.bridle.held = [] → s.completes .bridleSaveCopyWritten fun t =>
      t.rd BRD_STATUS_STATE = 3 ∧ t.bridle.active.rules = s.bridle.commit.rules ∧ t.bridle.active.gen = (s.bridle.active.gen + 1) % 65536 ∧
      (if s.savesToA then t.bridle.saveA = t.bridle.active ∧ t.bridle.saveB = s.bridle.saveB else t.bridle.saveB = t.bridle.active ∧
      t.bridle.saveA = s.bridle.saveA) ∧ t.rd BRDX_CUT = s.rd SYS_ORDER % 2 ^ BRDX_CUT.width ∧ s.keepsMem t) ∧
    (s.rd BRD_STATUS_STATE ≠ 2 → s.does .bridleSaveCopyWritten s []) ∧
    (s.rd BRD_STATUS_STATE = 3 → s.oldInflight = 0 → s.completes .bridleOldDrained fun t =>
      ∃ u : State, t = u.finishLates 0x0405 0 stOk s.bridle.active.gen ∧ s.writes u [(BRD_STATUS_STATE, 0), (BRD_EVENT_COMMIT_DONE, 1)]) ∧
    ((s.rd BRD_STATUS_STATE ≠ 3 ∨ s.oldInflight ≠ 0) → s.does .bridleOldDrained s []) ∧
    (∀ (c : Cmd), s.ready 0x0408 c = true → onlyM (s.issuer c.path) = true → cleanCmd c [] false = true → (s.poolC == 0) = false →
      (s.on BRD_STATUS_LOCK_UNKNOWN) = false → (s.opsFull (s.issuer c.path)) = false → s.starts (.bridleRebuild c) 0x0408 0 1 0 0 c []) ∧
    (∀ (c : Cmd), s.ready 0x0408 c = true → onlyM (s.issuer c.path) = true → cleanCmd c [] false = true → s.poolC = 0 →
      exec (.bridleRebuild c) s = .next (s.post c 0x0408 stBadParam 0 0 true)) ∧
    (∀ (c : Cmd), s.ready 0x0408 c = true → onlyM (s.issuer c.path) = true → cleanCmd c [] false = true → (s.poolC == 0) = false →
      s.on BRD_STATUS_LOCK_UNKNOWN = true → exec (.bridleRebuild c) s = .next (s.post c 0x0408 stNotPermitted 0 0 true))

/-- The SCHED class, gate lists and Reel shapers. SCHED_GATE_WRITE stages entries and marks them written; SCHED_GATE_ARM makes the staged
list, or with its flag the open gate, pending for a time and starts a long command; a time in the past answers BAD_PARAMETER;
SCHED_GATE_CANCEL discards what is pending, and answers BAD_PARAMETER with nothing pending. SCHED_SHAPER_SET allots, changes or frees a
shaper; SCHED_TC_SET and SCHED_ALPHA_SET set a port. At an entry boundary the next entry is in force; at a cycle boundary the list goes
on, or where there was none a due pending list takes over. A wheel slot takes time to the next 8 ns and never withdraws eligibility.
SCH_IND_GO takes a snapshot of a shaper, or shows BAD_INDEX. Forms for which a clause concludes that exec answers a next state with the
effect named, from conditions on the state and operands alone: schedGateWrite, schedGateArm, schedGateCancel, schedShaperSet, schedTcSet,
schedAlphaSet, gateEntryBoundary, gateCycleBoundary, reelWheelSlot, schIndGo. (10_egress_scheduling.md, 15_command_packets.md) -/
def Obligations.Scheduling : Prop :=
  ∀ s : State, s.Inv →
    (∀ (c : Cmd), s.ready 0x0501 c = true → onlyM (s.issuer c.path) = true →
      (cleanCmd c ((0, 8) :: (8, 8) :: (16, 8) :: (24, 8) :: gateEntryBits (min (parBytes c 3 1) 5)) false && decide (parBytes c 0 1 < 128) && decide (1 ≤ parBytes c 1 1) && decide (parBytes c 1 1 ≤ 64) && decide (1 ≤ parBytes c 3 1) && decide (parBytes c 3 1 ≤ 5) && decide (parBytes c 2 1 + parBytes c 3 1 ≤ parBytes c 1 1)) = true → ((idxs (parBytes c 3 1) fun k => decide (parBits c (64 + 64 * k) 27 < 8)).isEmpty == false) = false → (s.on (SCH_GATE_STATUS_PENDING (parBytes c 0 1))) = false → s.answersWith (.schedGateWrite c) 0x0501 c 0 fun t => (∀ k < parBytes c 3 1, t.rd (GATE_DURATION (gateIdx 2 (parBytes c 0 1) (parBytes c 2 1 + k))) = parBits c (64 + 64 * k) 27 ∧ t.rd (GATE_OPEN (gateIdx 2 (parBytes c 0 1) (parBytes c 2 1 + k))) = parBits c (96 + 64 * k) 8 ∧ t.rd (GATE_VALID (gateIdx 2 (parBytes c 0 1) (parBytes c 2 1 + k))) = 1) ∧ t.rd (SCHX_SLEN (parBytes c 0 1)) = parBytes c 1 1 ∧ (∀ e < 8192, t.rd (GATE_DURATION e) = s.rd (GATE_DURATION e) ∧ t.rd (GATE_OPEN e) = s.rd (GATE_OPEN e)) ∧ s.keepsMem t ∧ t = { s with regs := t.regs }) ∧
    (∀ (c : Cmd), s.ready 0x0502 c = true → onlyM (s.issuer c.path) = true → (cleanCmd c [(0, 8),
      (64, 64)] true && decide (parBytes c 0 1 < 128)) = true → (decide (parBytes c 8 8 < s.ft)) = false →
      (!s.gateListOk 2 (parBytes c 0 1) (s.rd (SCHX_SLEN (parBytes c 0 1)))) = false →
      (s.on (SCH_GATE_STATUS_PENDING (parBytes c 0 1))) = false → (!s.stagedWhole (parBytes c 0 1)) = false →
      (s.opsFull (s.issuer c.path)) = false → opFlag c = false → s.on (SCH_GATE_STATUS_LIST_VALID (parBytes c 0 1)) = false →
      s.ft < parBytes c 8 8 → ∃ u : State, exec (.schedGateArm c) s = .next (u.startOp c 0x0502 0 1 0 (parBytes c 0 1)) ∧
      u = s.armList (parBytes c 0 1) (parBytes c 8 8) false ∧ (∀ e < 64, e < s.rd (SCHX_SLEN (parBytes c 0 1)) →
      u.rd (GATE_DURATION (gateIdx 1 (parBytes c 0 1) e)) = s.rd (GATE_DURATION (gateIdx 2 (parBytes c 0 1) e)) % 2 ^ (GATE_DURATION 0).width ∧ u.rd (GATE_OPEN (gateIdx 1 (parBytes c 0 1) e)) = s.rd (GATE_OPEN (gateIdx 2 (parBytes c 0 1) e)) % 2 ^ 8) ∧ u.rd (SCH_GATE_STATUS_PENDING (parBytes c 0 1)) = 1 ∧ u.takeoverTime (parBytes c 0 1) = parBytes c 8 8 ∧ s.keepsMem u) ∧
    (∀ (c : Cmd), s.ready 0x0502 c = true → onlyM (s.issuer c.path) = true → (cleanCmd c [(0, 8),
      (64, 64)] true && decide (parBytes c 0 1 < 128)) = true → (s.on (SCH_GATE_STATUS_PENDING (parBytes c 0 1))) = false →
      (s.opsFull (s.issuer c.path)) = false → opFlag c = true → s.on (SCH_GATE_STATUS_LIST_VALID (parBytes c 0 1)) = false →
      s.ft < parBytes c 8 8 → ∃ u : State, exec (.schedGateArm c) s = .next (u.startOp c 0x0502 0 1 0 (parBytes c 0 1)) ∧
      s.writes u [(SCH_GATE_STATUS_PENDING (parBytes c 0 1), 1), (SCH_GATE_TAKEOVER_LO_T_LO (parBytes c 0 1), parBytes c 8 4),
      (SCH_GATE_TAKEOVER_HI_T_HI (parBytes c 0 1), parBytes c 12 4), (SCHX_PLEN (parBytes c 0 1), 0), (SCHX_PCLEAR (parBytes c 0 1), 1),
      (SCHX_WRITTEN (parBytes c 0 1), 0), (SCHX_ARMOP (parBytes c 0 1), s.nextHandle)]) ∧
    (∀ (c : Cmd), s.ready 0x0502 c = true → onlyM (s.issuer c.path) = true → (cleanCmd c [(0, 8),
      (64, 64)] true && decide (parBytes c 0 1 < 128)) = true → parBytes c 8 8 < s.ft →
      exec (.schedGateArm c) s = .next ((s.post c 0x0502 stBadParam 0 0 true).takeoverAtOnce (parBytes c 0 1))) ∧
    (∀ (c : Cmd), s.ready 0x0503 c = true → onlyM (s.issuer c.path) = true →
      (cleanCmd c [(0, 8)] false && decide (parBytes c 0 1 < 128)) = true → s.on (SCH_GATE_STATUS_PENDING (parBytes c 0 1)) = true →
      s.answersWith (.schedGateCancel c) 0x0503 c 0 fun t =>
      t = (s.clearPending (parBytes c 0 1)).finishOp (s.rd (SCHX_ARMOP (parBytes c 0 1))) stCancelled 0 ∧
      t.rd (SCH_GATE_STATUS_PENDING (parBytes c 0 1)) = 0 ∧ t.takeoverTime (parBytes c 0 1) = 0 ∧ t.rd (SCHX_PLEN (parBytes c 0 1)) = 0) ∧
    (∀ (c : Cmd), s.ready 0x0503 c = true → onlyM (s.issuer c.path) = true →
      (cleanCmd c [(0, 8)] false && decide (parBytes c 0 1 < 128)) = true → s.on (SCH_GATE_STATUS_PENDING (parBytes c 0 1)) = false →
      exec (.schedGateCancel c) s = .next (s.post c 0x0503 stBadParam 0 0 true)) ∧
    (∀ (c : Cmd) (j : Nat), s.ready 0x0504 c = true → onlyM (s.issuer c.path) = true → (cleanCmd c [(0, 16), (16, 8), (24, 8), (32, 8),
      (64, 32), (96, 16)] true && (decide (parBytes c 0 2 < 4096) || (parBytes c 0 2 == 0xFFFF && !opFlag c && parBytes c 2 1 != 3)) && decide (1 ≤ parBytes c 2 1) && decide (parBytes c 2 1 ≤ 3) && decide (parBytes c 3 1 < 128) && decide (parBytes c 4 1 < 8) && (opFlag c || decide (1 ≤ parBytes c 8 4) && decide (parBytes c 8 4 ≤ 512000))) = true → ((s.attached (parBytes c 2 1) (parBytes c 3 1) (parBytes c 4 1)).isSome) = false → opFlag c = false → parBytes c 2 1 ≠ 3 → (if parBytes c 0 2 < 4096 then j = parBytes c 0 2 ∧ s.on (SHP_VALID j) = false else s.spareShaper = some j) → s.answersWith (.schedShaperSet c) 0x0504 c j fun t => t.rd (SHP_VALID j) = 1 ∧ t.rd (SHP_KIND j) = parBytes c 2 1 ∧ t.rd (SHP_PORT j) = parBytes c 3 1 ∧ t.rd (SHP_INTERVAL j) = shaperInterval (parBytes c 8 4) % 2 ^ (SHP_INTERVAL j).width ∧ t.rd (SHP_BURST j) = parBytes c 12 2 % 2 ^ (SHP_BURST j).width ∧ t.rd (SHPX_E j) = s.now * 524288 % 2 ^ (SHPX_E j).width ∧ t.rd SCH_STATUS_SHAPERS_USED = (s.rd SCH_STATUS_SHAPERS_USED + 1) % 2 ^ SCH_STATUS_SHAPERS_USED.width ∧ t.attached (parBytes c 2 1) (parBytes c 3 1) (parBytes c 4 1) = some j ∧ s.keepsMem t) ∧
    (∀ (c : Cmd) (i : Nat), s.ready 0x0504 c = true → onlyM (s.issuer c.path) = true → (cleanCmd c [(0, 16), (16, 8), (24, 8), (32, 8),
      (64, 32), (96, 16)] true && (decide (parBytes c 0 2 < 4096) || (parBytes c 0 2 == 0xFFFF && !opFlag c && parBytes c 2 1 != 3)) && decide (1 ≤ parBytes c 2 1) && decide (parBytes c 2 1 ≤ 3) && decide (parBytes c 3 1 < 128) && decide (parBytes c 4 1 < 8) && (opFlag c || decide (1 ≤ parBytes c 8 4) && decide (parBytes c 8 4 ≤ 512000))) = true → i = parBytes c 0 2 → opFlag c = false → i < 4096 → s.on (SHP_VALID i) = true → s.rd (SHP_KIND i) = parBytes c 2 1 → parBytes c 2 1 = 3 → s.answers (.schedShaperSet c) 0x0504 c i s [(SHP_INTERVAL i, shaperInterval (parBytes c 8 4)), (SHP_BURST i, parBytes c 12 2), (SHPX_RATE i, parBytes c 8 4)]) ∧
    (∀ (c : Cmd) (i : Nat), s.ready 0x0504 c = true → onlyM (s.issuer c.path) = true → (cleanCmd c [(0, 16), (16, 8), (24, 8), (32, 8),
      (64, 32), (96, 16)] true && (decide (parBytes c 0 2 < 4096) || (parBytes c 0 2 == 0xFFFF && !opFlag c && parBytes c 2 1 != 3)) && decide (1 ≤ parBytes c 2 1) && decide (parBytes c 2 1 ≤ 3) && decide (parBytes c 3 1 < 128) && decide (parBytes c 4 1 < 8) && (opFlag c || decide (1 ≤ parBytes c 8 4) && decide (parBytes c 8 4 ≤ 512000))) = true → i = parBytes c 0 2 → opFlag c = true → i < 4096 → s.on (SHP_VALID i) = true → s.rd (SHP_KIND i) ≠ 3 → s.answersWith (.schedShaperSet c) 0x0504 c i fun t => t = (s.attach (s.rd (SHP_KIND i)) (s.rd (SHP_PORT i)) (s.rd (SHP_TC i)) 0 0).freeShaper i ∧ t.rd (SHP_VALID i) = 0 ∧ t.rd (SHP_KIND i) = 0 ∧ t.rd SCH_STATUS_SHAPERS_USED = (s.rd SCH_STATUS_SHAPERS_USED - 1) % 2 ^ SCH_STATUS_SHAPERS_USED.width) ∧
    (∀ (c : Cmd), s.ready 0x0505 c = true → onlyM (s.issuer c.path) = true → (cleanCmd c [(0, 8), (8, 8), (16, 1), (24, 7), (32, 7),
      (40, 7), (64, 128)] false && decide (parBytes c 0 1 < 128) && (idxs 8 fun t =>
      decide (parBytes c (8 + 2 * t) 2 < 64)).isEmpty) = true → s.answersWith (.schedTcSet c) 0x0505 c 0 fun t =>
      t.rd (SCH_TC_MODE_STRICT (parBytes c 0 1)) = parBytes c 1 1 ∧ t.rd (SCH_PORT_CFG_GUARD (parBytes c 0 1)) = parBits c 16 1 ∧
      t.rd (SCH_PORT_CFG_OVERHEAD_NF (parBytes c 0 1)) = parBits c 24 7 ∧ t.rd (SCH_PORT_CFG_OVERHEAD_F (parBytes c 0 1)) = parBits c 32 7 ∧
      t.rd (SCH_PORT_CFG_OVERHEAD_CY (parBytes c 0 1)) = parBits c 40 7 ∧
      (∀ k < 8, t.rd (SCH_TC_CFG_QUANTUM (parBytes c 0 1) k) = parBytes c (8 + 2 * k) 2) ∧ s.keepsMem t ∧ t = { s with regs := t.regs }) ∧
    (∀ (c : Cmd), s.ready 0x0506 c = true → onlyM (s.issuer c.path) = true → (cleanCmd c [(0, 8),
      (64, 192)] false && decide (parBytes c 0 1 < 128) && (idxs 24 fun q => alphaOf (parBytes c (8 + q) 1) == 8).isEmpty) = true →
      s.answersWith (.schedAlphaSet c) 0x0506 c 0 fun t =>
      (∀ q < 24, t.rd (SWC_QUEUE_ALPHA (24 * (parBytes c 0 1) + q)) = alphaOf (parBytes c (8 + q) 1)) ∧ s.keepsMem t ∧
      t = { s with regs := t.regs }) ∧
    (∀ (b : BitVec 8), -4 ≤ b.toInt → b.toInt ≤ 3 → (alphaOf b.toNat : Int) = b.toInt + 4) ∧
    (∀ (p : Port) (e : Nat), s.on (SCH_GATE_STATUS_LIST_VALID p) = true → s.rd (SCH_GATE_STATUS_ENTRY p) + 1 = e → e < s.rd (SCHX_LEN p) →
      e < 64 → s.completes (.gateEntryBoundary p) fun t => t.rd (SCH_GATE_STATUS_ENTRY p) = e % 2 ^ (SCH_GATE_STATUS_ENTRY p).width ∧
      t.rd (SCH_GATE_STATUS_OPEN p) = s.rd (GATE_OPEN (gateIdx 0 p e)) % 2 ^ 8 ∧
      t.rd (SCHX_ENT_END p) = (s.rd (SCHX_ENT_END p) + 8 * s.rd (GATE_DURATION (gateIdx 0 p e))) % 2 ^ 64 ∧ s.keepsMem t ∧
      t.out = s.out) ∧
    (∀ (p : Port), s.on (SCH_GATE_STATUS_LIST_VALID p) = false → s.does (.gateEntryBoundary p) s []) ∧
    (∀ (p : Port), s.on (SCH_GATE_STATUS_LIST_VALID p) = true → s.on (SCH_GATE_STATUS_PENDING p) = false →
      s.on (SCH_GATE_STATUS_REANCHOR_PENDING p) = false →
      s.does (.gateCycleBoundary p) (((s.advGate p (s.rd (SCHX_CYC_END p))).wr (SCHX_OFFS p) 0).placeList p (s.rd (SCHX_CYC_END p) % 2 ^ 64)) []) ∧
    (∀ (p : Port), s.on (SCH_GATE_STATUS_LIST_VALID p) = false → s.on (SCH_GATE_STATUS_PENDING p) = true →
      s.completes (.gateCycleBoundary p) fun t => ∃ u : State, u = s.advFt (s.takeoverTime p) ∧ t = u.takeover p u.ft ∧
      t.rd (SCH_GATE_STATUS_PENDING p) = 0 ∧ t.rd SCH_EVENT_TAKEOVER = 1) ∧
    (∀ (p : Port), s.on (SCH_GATE_STATUS_LIST_VALID p) = false → s.on (SCH_GATE_STATUS_PENDING p) = false →
      s.does (.gateCycleBoundary p) s []) ∧
    (∀ (p : Port) (t : Nat), s.on (SCHX_PCLEAR p) = true → (s.takeover p t).rd (SCH_GATE_STATUS_OPEN p) = 255 ∧
      (s.takeover p t).rd (SCH_GATE_STATUS_LIST_VALID p) = 0 ∧ (s.takeover p t).rd (SCH_GATE_STATUS_PENDING p) = 0 ∧
      (s.takeover p t).rd SCH_EVENT_TAKEOVER = 1) ∧
    (s.completes .reelWheelSlot fun t => t.now = s.now / 8 * 8 + 8 ∧ (∀ i < 4096, s.on (SHP_ELIGIBLE i) = true →
      t.on (SHP_ELIGIBLE i) = true) ∧ (∀ i < 4096, s.on (SHP_VALID i) = false → t.rd (SHP_ELIGIBLE i) = s.rd (SHP_ELIGIBLE i)) ∧
      s.keepsMem t ∧ t.out = s.out) ∧
    (∀ (v : BitVec 31), (v.toNat % 4 = 3 ∨ v.toNat % 4 = 2 ∧ 4096 ≤ v.toNat / 4 % 8192) → s.completes (.schIndGo v) fun t =>
      t.rd SCH_IND_STATUS_BAD_INDEX = 1 ∧ (∀ k < 4, t.rd (SCH_IND_DATA_WORD k) = 0) ∧ s.keepsMem t ∧ t = { s with regs := t.regs }) ∧
    (∀ (v : BitVec 31), v.toNat % 4 = 2 → v.toNat / 4 % 8192 < 4096 → s.completes (.schIndGo v) fun t => t.rd SCH_IND_STATUS_BAD_INDEX = 0 ∧
      (∀ k < 4, t.rd (SCH_IND_DATA_WORD k) = s.tabWord shpLayout (shpAddr (v.toNat / 4 % 8192)) k % 2 ^ 32) ∧ s.keepsMem t ∧
      t = { s with regs := t.regs })

/-- The switch core: admission, the scheduler's choice, sending, bad tails, ageing and multicast. A waiting TLP that the threshold allows is
admitted and takes its cells, at a port that no lower port with a TLP to admit precedes; a cut-through TLP may start once the cells its
rates ask for have arrived, a store-and-forward TLP when all have. The highest strict class with an eligible head is chosen; an eligible
head is the first of its queue, open, linked, with credit and shapers; the chosen head starts, one with an uncorrectable cell poisoned; a
port that is sending chooses nothing. A sent TLP leaves its queue, a non-posted one to wait for its completion. A TLP found bad before it
started is discarded, after it started nullified; an underrun is nullified and stored again. Enough stomps within 100 ms start
store-and-forward fallback, the re-arm ends it. A head at the age limit makes its queue AGED; a queue leaves AGED when its link is up with
credit. A multicast TLP waits behind earlier ones of its port and type and is copied to its members, and a copy that finds no room is
counted as a miss. Completions, reads and writes that the part makes for a host wait for its port as TLPs, enter their queue whole when it
admits them, and give out what they hold when they are sent; a read that the core discards is noted, and its request is answered. Forms
for which a clause concludes that exec answers a next state with the effect named, from conditions on the state and operands alone:
sfFallbackRearm, tlpAdmitWaiting, cutThroughReady, egressSelect, tlpSent, badTail, underrun, stompFallback, ageLimitExpiry, agedExit,
multicastTlp. (07_switch_core.md, 10_egress_scheduling.md) -/
def Obligations.SwitchCore : Prop :=
  ∀ s : State, s.Inv →
    (∀ (p : Port), s.does (.sfFallbackRearm p) { s with switch := { s.switch with stomps := s.switch.stomps.filter fun x => x.1 != p.val } } [(SWC_PORT_STATUS_SF_FALLBACK p, 0)]) ∧
    (∀ (p : Port), s.switch.wait = [] → exec (.tlpAdmitWaiting p) s = .next s.release.settleAll) ∧
    (∀ (p : Port) (n : Nat) (t : Tlp), (∀ q < p.val, s.nextWaiting q = none) → s.nextWaiting p = some (n, t) →
      exec (.tlpAdmitWaiting p) s = .next (s.admitWaiting n t).release.settleAll ∧ t.ingress = p ∧ (n, t) ∈ s.switch.wait) ∧
    (∀ (n : Nat) (t : Tlp) (u : State), s.waitGroup n = none → s.cameWhole n t = false →
      u = { s.fcReturn t.ingress (kindIdx t.kind) t.payload with switch := { s.switch with wait := removeFirst (fun w => w.1 == n) s.switch.wait, mcast := s.switch.mcast.filter fun x => x.1 != n } } → u.tlpFence t = none → u.unrouted (u.retarget t) = false → s.admitWaiting n t = (u.admitAs n (u.retarget t)).drainAged (tlpQueue (u.retarget t))) ∧
    (∀ (t : Tlp), s.mayCut t = false → ∃ x : QTlp, (s.admitTlp t).switch.txq = s.switch.txq ++ [x] ∧ x.tlp = t ∧ x.queue = tlpQueue t ∧
      x.cells = cellsOf t.stored ∧ x.order = s.rd SYS_ORDER ∧ x.ready = false ∧ x.tailIn = false ∧ x.started = false ∧
      x.start = cellsOf t.stored ∧
      (s.admitTlp t).rd (SWC_QUEUE_DEPTH (tlpQueue t)) = (s.rd (SWC_QUEUE_DEPTH (tlpQueue t)) + cellsOf t.stored) % 2 ^ (SWC_QUEUE_DEPTH 0).width ∧ (s.admitTlp t).rd SWC_CELL_STATUS_FREE_SHARED = s.rd SWC_CELL_STATUS_FREE_SHARED - s.sharedNeed (tlpQueue t) (cellsOf t.stored) ∧ s.keepsMem (s.admitTlp t)) ∧
    (∀ (t : Tlp), s.mayCut t = true → (∃ x : QTlp, (s.admitTlp t).switch.txq = s.switch.txq ++ [x] ∧ x.tlp = t ∧ x.cutThrough = true ∧
      x.start = cutCells t.stored (s.compareRate t.ingress) (s.compareRate t.egress) ∧ (x.ready = true ↔ x.start = 1) ∧ x.tailIn = false ∧
      (s.admitTlp t).rd (SWC_PORT_CT_COUNT_CT_FWD t.ingress) = min (2 ^ 32 - 1) (s.rd (SWC_PORT_CT_COUNT_CT_FWD t.ingress) + 1))) ∧
    (∀ (q c : Nat), q < 3072 →
      (s.admits q c = true ↔ (16 * (s.rd (SWC_QUEUE_DEPTH q) + c) ≤ 144 + 2 ^ s.rd (SWC_QUEUE_ALPHA q) * s.rd SWC_CELL_STATUS_FREE_SHARED ∧
      c ≤ s.rd SWC_CELL_STATUS_FREE_SHARED + (9 - s.reserveUsed q)))) ∧
    (∀ (id cells : Nat) (w : Bool), s.completes (.cutThroughReady id cells w) fun t =>
      t = { s with switch := { s.switch with txq := t.switch.txq } } ∧ t.switch.txq = updateAll (fun x =>
      x.order == id && !x.tailIn && (w || (x.cutThrough && decide (x.start ≤ cells)))) (fun x =>
      { x with ready := true, tailIn := w }) s.switch.txq ∧ t.switch.txq.length = s.switch.txq.length) ∧
    (∀ (p : Port) (e : Ecc) (cr : BitVec 24), ((s.switch.txq.any fun x => x.queue / 24 == p.val && x.started) = true ∨ s.moored = true) →
      s.does (.egressSelect p e cr) s []) ∧
    (∀ (p : Port) (e : Ecc) (cr : BitVec 24), s.moored = false → (s.switch.txq.any fun x => x.queue / 24 == p.val) = false →
      (s.switch.made.any fun m => m.2.1.egress == p) = false → s.completes (.egressSelect p e cr) fun t => t.switch = s.switch ∧
      t.rd (SWX_LNKCR p) = cr.toNat ∧ t.rd (SCH_TC_MODE_ELIGIBLE p) = 0 ∧
      s.keepsRegs t [SWX_LNKCR p, SCH_TC_MODE_ELIGIBLE p, SCHX_RR p, SCHX_CREDITED p] ∧ s.keepsMem t ∧ t.out = s.out) ∧
    (∀ (p : Port) (cr : BitVec 24) (t : State) (x : QTlp), s.moored = false → (s.switch.txq.all fun x =>
      x.queue / 24 != p.val || !x.started) = true → (((s.wr (SWX_LNKCR p) cr.toNat).intake fun q =>
      q == p.val).countGuard p).choose p = (t, some x) → t.mgmt.inject = [] →
      s.does (.egressSelect p .clean cr) ((t.startTlp p x).eligView p) []) ∧
    (∀ (p : Port) (cr : BitVec 24) (t : State) (x : QTlp), s.moored = false → (s.switch.txq.all fun x =>
      x.queue / 24 != p.val || !x.started) = true → (((s.wr (SWX_LNKCR p) cr.toNat).intake fun q =>
      q == p.val).countGuard p).choose p = (t, some x) → t.mgmt.inject = [] →
      s.does (.egressSelect p .uncorrPayload cr) (((t.cellLost p x.tlp).startTlp p { x with tlp := { x.tlp with ep := true } }).eligView p) []) ∧
    (∀ (p t : Nat) (x : QTlp), t < 8 → bitSet (s.rd (SCH_TC_MODE_STRICT p)) t = true → s.classHead p t = some x → (∀ u < 8, t < u →
      bitSet (s.rd (SCH_TC_MODE_STRICT p)) u = true → s.classHead p u = none) → s.choose p = (s, some x)) ∧
    (∀ (q : Nat) (x : QTlp), s.eligible q = some x → (s.inQueue q).head? = some x ∧ x.started = false ∧ s.heldByPosted x = false ∧
      bitSet (s.rd (SCH_GATE_STATUS_OPEN (q / 24))) (q / 3 % 8) = true ∧ s.linkUp (q / 24) = true ∧
      s.linkCredit (q / 24) (q / 3 % 8) (q % 3) x.tlp.payload = true ∧ (s.shapersOf (q / 24) (q / 3 % 8)).all (fun i =>
      s.on (SHP_ELIGIBLE i)) = true) ∧
    (∀ (p : Port) (id : Nat), (s.switch.txq.find? fun x => x.order == id && x.queue / 24 == p.val && x.started) = none →
      s.does (.tlpSent p id) s []) ∧
    (∀ (p : Port) (id : Nat) (x : QTlp), (s.switch.txq.find? fun x => x.order == id && x.queue / 24 == p.val && x.started) = some x →
      s.rd (PRT_CFG_MODE p) ≠ 3 → (s.tether.sendq.all fun u => u.port != p.val || u.unit.order != id + 1) = true → s.moored = false →
      x.isToAck = false → (x.tlp.kind ≠ .nonPosted ∨ x.own.isSome = true) →
      s.does (.tlpSent p id) ((s.emit (s.sentOf x p)).dequeue x) []) ∧
    (∀ (p : Port) (id : Nat) (x : QTlp), (s.switch.txq.find? fun x => x.order == id && x.queue / 24 == p.val && x.started) = some x →
      s.rd (PRT_CFG_MODE p) ≠ 3 → (s.tether.sendq.all fun u => u.port != p.val || u.unit.order != id + 1) = true → s.moored = false →
      x.isToAck = false → x.tlp.kind = .nonPosted → x.own = none → s.completes (.tlpSent p id) fun t =>
      t.switch.asked = s.switch.asked ++ [{ x with headSince := s.now }] ∧ t.out = s.sentAt p x.tlp :: s.out ∧
      t.switch.txq.length + 1 = s.switch.txq.length ∧ s.keepsMem t) ∧
    (∀ (x : QTlp), x ∈ s.switch.txq → x.queue < 3072 → (s.dequeue x).switch.txq.length + 1 = s.switch.txq.length ∧
      (s.dequeue x).rd (SWC_QUEUE_DEPTH x.queue) = s.rd (SWC_QUEUE_DEPTH x.queue) - x.cells ∧ (s.dequeue x).switch.asked = s.switch.asked ∧
      (s.dequeue x).out = s.out) ∧
    (∀ (id : Nat) (x : QTlp), (s.switch.txq.filter fun x => x.order == id && !x.tailIn) = [x] →
      exec (.badTail id .lcrc) s = .next ((s.correctable x.tlp.ingress x.tlp aerBadTlp).badTail x) ∧
      exec (.badTail id .length) s = .next ((s.uncorrectable x.tlp aerMalformed).badTail x) ∧
      exec (.badTail id .malformed) s = .next ((s.uncorrectable x.tlp aerMalformed).badTail x) ∧
      exec (.badTail id .nullified) s = .next ((s.inc (SWC_PORT_STOMP_STOMP_RX x.tlp.ingress)).badTail x)) ∧
    (∀ (x : QTlp), x.started = false → s.badTail x = s.dequeue x) ∧
    (∀ (x : QTlp), x.started = true → ∃ u : State, s.badTail x = u.dequeue x ∧ u.out = s.nullifiedAt (x.queue / 24) x.tlp :: s.out ∧
      u.switch.txq = s.switch.txq ∧ u.switch.stomps = s.switch.stomps ++ [(x.tlp.ingress.val, s.now)] ∧
      u.rd (SWC_PORT_STOMP_STOMP_TX (x.queue / 24)) = min (2 ^ (SWC_PORT_STOMP_STOMP_TX 0).width - 1) (s.rd (SWC_PORT_STOMP_STOMP_TX (x.queue / 24)) + 1)) ∧
    (∀ (id : Nat) (x : QTlp), (s.switch.txq.filter fun x => x.order == id && x.started) = [x] →
      s.does (.badTail id .cell) ((s.cellLost (x.queue / 24) x.tlp).badTail x) []) ∧
    (∀ (id : Nat) (c : TailFault), s.queued id = none → s.does (.badTail id c) s []) ∧
    (∀ (id : Nat) (x : QTlp), (s.switch.txq.find? fun x => x.order == id && x.started && x.cutThrough && !x.tailIn) = some x →
      s.completes (.underrun id) fun t => t.out = s.nullifiedAt (x.queue / 24) x.tlp :: s.out ∧ t.rd SWC_EVENT_UNDERRUN = 1 ∧
      t.switch.txq.length = s.switch.txq.length ∧ (∀ y ∈ t.switch.txq, y.order = id → y.started = false ∧ y.cutThrough = false ∧
      y.ready = false ∧ y.headSince = s.now) ∧ s.keepsMem t) ∧
    (∀ (id : Nat), (s.switch.txq.find? fun x => x.order == id && x.started && x.cutThrough && !x.tailIn) = none →
      s.does (.underrun id) s []) ∧
    (∀ (p : Port), 0 < s.rd (SWC_PORT_CFG_STOMP_LIMIT p) →
      s.rd (SWC_PORT_CFG_STOMP_LIMIT p) ≤ (recent s.switch.stomps p s.now (100 * ms)).length →
      s.on (SWC_PORT_STATUS_SF_FALLBACK p) = false → s.completes (.stompFallback p) fun t =>
      ∃ u : State, t = u.recordNear p.val 0x0405 [(1, p.val)] 0 (detG p (recent s.switch.stomps p s.now (100 * ms)).length) [] ∧
      s.writes u [(SWC_PORT_STATUS_SF_FALLBACK p, 1), (SWC_EVENT_FALLBACK, 1)]) ∧
    (∀ (p : Port), (s.rd (SWC_PORT_CFG_STOMP_LIMIT p) = 0 ∨ (recent s.switch.stomps p s.now (100 * ms)).length < s.rd (SWC_PORT_CFG_STOMP_LIMIT p) ∨ s.on (SWC_PORT_STATUS_SF_FALLBACK p) = true) → s.does (.stompFallback p) s []) ∧
    (∀ (q : Fin 3072), s.inQueue q = [] → s.does (.ageLimitExpiry q) s []) ∧
    (∀ (q : Fin 3072) (x : QTlp) (l : List QTlp), s.inQueue q = x :: l →
      (x.started = true ∨ bitSet (s.rd (SCH_GATE_STATUS_OPEN (q.val / 24))) (q.val / 3 % 8) = false ∨ s.on (PRT_CYT_STATUS_IN_GRACE (q.val / 24)) = true) → s.does (.ageLimitExpiry q) s []) ∧
    (∀ (q : Fin 3072) (x : QTlp) (l : List QTlp), s.inQueue q = x :: l → x.started = false →
      bitSet (s.rd (SCH_GATE_STATUS_OPEN (q.val / 24))) (q.val / 3 % 8) = true → s.on (PRT_CYT_STATUS_IN_GRACE (q.val / 24)) = false →
      s.on (SWC_QUEUE_AGED q) = false → s.completes (.ageLimitExpiry q) fun t =>
      ∃ u : State, t = (u.recordNear 144 0x0403 (u.tlpDoms x.tlp) 0 (detT x.tlp q) (tlpHosts x.tlp)).drainAged q ∧
      (s.advTo (s.ageDue x)).writes u [(SWC_QUEUE_AGED q, 1),
      (SWC_PORT_AGED_AGED (q.val / 24), setBit (s.rd (SWC_PORT_AGED_AGED (q.val / 24))) (q.val % 24)), (SWC_EVENT_AGED, 1)]) ∧
    (∀ (q : Fin 3072), s.on (SWC_QUEUE_AGED q) = true → s.linkUp (q.val / 24) = true →
      s.linkCredit (q.val / 24) (q.val / 3 % 8) (q.val % 3) 0 = true → s.does (.agedExit q) s [(SWC_QUEUE_AGED q, 0),
      (SWC_PORT_AGED_AGED (q.val / 24), clrBit (s.rd (SWC_PORT_AGED_AGED (q.val / 24))) (q.val % 24))]) ∧
    (∀ (q : Fin 3072), (s.on (SWC_QUEUE_AGED q) = false ∨ s.linkUp (q.val / 24) = false ∨ s.linkCredit (q.val / 24) (q.val / 3 % 8) (q.val % 3) 0 = false) → s.does (.agedExit q) s []) ∧
    (∀ (t : Tlp) (n : Fin 256), s.on (SWC_MC_CFG_VALID n) = false → s.awake = true → s.does (.multicastTlp t n) s []) ∧
    (∀ (t : Tlp) (n : Fin 256), s.on (SWC_MC_CFG_VALID n) = true → s.sourceFence t = none → s.waitsBehind t = false →
      s.withheld (s.rd SYS_ORDER) t = false → s.awake = true →
      exec (.multicastTlp t n) s = .next ((s.multicast t n (s.mcPorts t n)).leaveIngress (s.rd SYS_ORDER) t.ingress t)) ∧
    (∀ (t : Tlp) (n : Fin 256), s.on (SWC_MC_CFG_VALID n) = true → s.sourceFence t = none →
      (s.waitsBehind t = true ∨ s.withheld (s.rd SYS_ORDER) t = true) → s.rd (PRT_CFG_MODE t.ingress) ≠ 3 → s.awake = true →
      s.completes (.multicastTlp t n) fun u =>
      u.switch = { s.switch with wait := s.switch.wait ++ [(s.rd SYS_ORDER, t)], mcast := s.switch.mcast ++ [(s.rd SYS_ORDER, n.val)] } ∧
      s.keepsRegs u [SYS_ORDER] ∧ s.keepsMem u ∧ u.out = s.out) ∧
    (∀ (t : Tlp) (n : Fin 256) (f : Nat × Nat), s.on (SWC_MC_CFG_VALID n) = true → s.sourceFence t = some f → s.awake = true →
      exec (.multicastTlp t n) s = .next ((s.fenceTlp t f).leaveIngress (s.rd SYS_ORDER) t.ingress t)) ∧
    (∀ (t : Tlp) (n : Fin 256) (p : Nat), p < 128 → t.payload ≤ s.maxPayload p →
      s.notExpressible { t with egress := Fin.ofNat 128 p } = false → s.bmeRefuses t p = false →
      s.missReason p t.tc (cellsOf t.stored) = 0 → s.on (SWC_QUEUE_AGED (queueOf p t.tc 0)) = false →
      (s.multicast t n [p]).switch.txq.length = s.switch.txq.length + 1 ∧
      (s.multicast t n [p]).rd SWC_CELL_STATUS_FREE_SHARED = s.rd SWC_CELL_STATUS_FREE_SHARED - cellsOf t.stored ∧
      (s.multicast t n [p]).rd (SWC_MC_COPIES_COPIES n) = min (2 ^ 32 - 1) (s.rd (SWC_MC_COPIES_COPIES n) + 1)) ∧
    (∀ (t : Tlp) (n : Fin 256) (p : Nat), p < 128 → t.payload ≤ s.maxPayload p →
      s.notExpressible { t with egress := Fin.ofNat 128 p } = false → s.bmeRefuses t p = false →
      s.missReason p t.tc (cellsOf t.stored) ≠ 0 → (s.multicast t n [p]).switch.txq = s.switch.txq ∧
      (s.multicast t n [p]).rd SWC_EVENT_MC_PARTIAL = 1 ∧
      (s.multicast t n [p]).rd (SWC_MC_MISSES_MISSES n) = min (2 ^ 32 - 1) (s.rd (SWC_MC_MISSES_MISSES n) + 1)) ∧
    (∀ (t : Tlp) (o : OwnTlp), (s.make t o).switch = { s.switch with made := s.switch.made ++ [(s.rd SYS_ORDER, t, o)] } ∧
      (s.make t o).rd SYS_ORDER = (s.rd SYS_ORDER + 1) % 2 ^ SYS_ORDER.width ∧ s.keepsRegs (s.make t o) [SYS_ORDER] ∧
      s.keepsMem (s.make t o) ∧ (s.make t o).out = s.out) ∧
    (∀ (h r t c : Nat) (data : List (BitVec 8)) (poison : Bool) (p : Nat), s.hostPort h = some p →
      bitSet (s.rd (BFX_ECRC (48 + h))) 0 = false →
      s.complete h r t c data poison = s.make (ownTlp .completion p 0 data.length 0 t none 0) (.out (.completion h r t c data poison)) ∧
      s.readHost h r c t = s.make (ownTlp .nonPosted p 0 0 (256 * s.rd (RTE_HIER_BUS_PRI_BUS h) + 1) t none 0) (.out (.hostRead h r c t none)) ∧ (s.contained 2 h = false → data.length ≤ mpsBytes (s.rd (HOSTF_MPS h)) - r % mpsBytes (s.rd (HOSTF_MPS h)) → s.writeHost h r c data.length = s.make (ownTlp .posted p 0 data.length (256 * s.rd (RTE_HIER_BUS_PRI_BUS h) + 1) 0 none 0) (.out (.hostWrite h r (c % 2 ^ (8 * data.length)) data.length none)))) ∧
    (∀ (m : Nat × Tlp × OwnTlp), s.on (SWC_QUEUE_AGED (tlpQueue m.2.1)) = false →
      (s.admitOwn m).switch.txq = s.switch.txq ++ [⟨m.2.1, tlpQueue m.2.1, cellsOf m.2.1.stored, s.sharedNeed (tlpQueue m.2.1) (cellsOf m.2.1.stored), m.1, false, true, true, false, s.now, none, false, some m.2.2, cellsOf m.2.1.stored⟩] ∧ (s.admitOwn m).switch.made = (s.switch.made.filter fun w => w.1 != m.1) ∧ (s.admitOwn m).rd (SWC_QUEUE_DEPTH (tlpQueue m.2.1)) = (s.rd (SWC_QUEUE_DEPTH (tlpQueue m.2.1)) + cellsOf m.2.1.stored) % 2 ^ (SWC_QUEUE_DEPTH 0).width) ∧
    (∀ (m : Nat × Tlp × OwnTlp) (f : Nat → Bool), s.switch.made = [m] → f m.2.1.egress.val = true →
      s.admits (tlpQueue m.2.1) (cellsOf m.2.1.stored) = true → s.intake f = s.admitOwn m) ∧
    (∀ (x : QTlp) (o : Out) (p : Nat), x.own = some (.out o) → x.tlp.ep = false → s.sentOf x p = o) ∧
    (∀ (x : QTlp) (p : Nat), x.own = none → s.sentOf x p = .tlpSent p (s.egressMode p) (s.crcAt p x.tlp) x.tlp) ∧
    (∀ (h a n t : Nat), (s.failOwn (.out (.hostRead h a n t none))).switch = { s.switch with failed := s.switch.failed ++ [(h, t, cplCA)] } ∧ s.keepsRegs (s.failOwn (.out (.hostRead h a n t none))) []) ∧
    (∀ (o : Outst) (st : Nat), s.outst = [o] → o.quarantined = false → o.store = false →
      s.switch.failed = [(reqKey o.kind o.target, o.tag, st)] →
      s.endFailed = State.abortReq { s with switch := { s.switch with failed := [] } } o stHwError st)

/-- Reads, stores, AtomicOps and reservations in the pool. A store performed to a whole line makes the line read as its data and leaves every
other line; it clears the line's poison and reservations; a partial store changes the bytes of its mask and keeps poison; one to a FAILED
channel is discarded and counted. A store entry is performed when it may be. A read returns the bytes stored, an AtomicOp the old value
while it stores the new one; on a FAILED channel each gets a Completer Abort, and an AtomicOp on a poisoned line too. A load-reserved sets
a reservation; a store-conditional without it returns 1 and stores nothing, with it stores and returns 0 or fails spuriously, and stores
where its holder has already lost the line in a lone loop. The oldest reservation ends at 8 us. Commands for an access that is not there
change nothing. Forms for which a clause concludes that exec answers a next state with the effect named, from conditions on the state and
operands alone: poolStorePerform, strictStoreDone, poolRead, atomicOp, loadReserved, storeConditional, reservationExpire.
(12_ballast_pool.md, 13_ordering_and_epochs.md) -/
def Obligations.PoolAccesses : Prop :=
  ∀ s : State, s.Inv →
    (∀ (b : Fin 61) (i : Nat), (s.pool.wb.filter fun e => e.buf == b.val)[i]? = none → s.does (.poolStorePerform b i) s []) ∧
    (∀ (b : Fin 61) (i : Nat) (e : WbEnt), (s.pool.wb.filter fun e => e.buf == b.val)[i]? = some e → s.mayPerform e = false →
      s.does (.poolStorePerform b i) s []) ∧
    (∀ (b : Fin 61) (i : Nat) (e : WbEnt), (s.pool.wb.filter fun e => e.buf == b.val)[i]? = some e → s.mayPerform e = true →
      s.does (.poolStorePerform b i) (s.performEntry e) []) ∧
    (∀ (src : Fin 129), (s.pool.wb.find? fun e => e.src == src.val && e.strict) = none → s.does (.strictStoreDone src) s []) ∧
    (∀ (src : Fin 129) (e : WbEnt), (s.pool.wb.find? fun e => e.src == src.val && e.strict) = some e → s.mayPerform e = true →
      s.does (.strictStoreDone src) (s.performEntry e) []) ∧
    (∀ (w line data : Nat), line % 64 = 0 →
      (s.rd BAL_STATUS_N = 1 ∨ s.rd BAL_STATUS_N = 2 ∨ s.rd BAL_STATUS_N = 4 ∨ s.rd BAL_STATUS_N = 8) →
      (∀ k < 64, (s.performLine w line fullMask data).loadByte (line + k) = BitVec.ofNat 8 (data / 2 ^ (8 * k))) ∧
      (∀ a, s.physLine a ≠ s.physLine line → (s.performLine w line fullMask data).loadByte a = s.loadByte a) ∧
      (s.performLine w line fullMask data).poisoned line = false ∧
      (s.performLine w line fullMask data).pool.resv = s.pool.resv.filter fun r => r.line != line) ∧
    (∀ (w line mask data : Nat), line % 64 = 0 →
      (s.rd BAL_STATUS_N = 1 ∨ s.rd BAL_STATUS_N = 2 ∨ s.rd BAL_STATUS_N = 4 ∨ s.rd BAL_STATUS_N = 8) →
      (∀ k < 64, (s.performLine w line mask data).loadByte (line + k) = if bitSet mask k then BitVec.ofNat 8 (data / 2 ^ (8 * k)) else s.loadByte (line + k)) ∧ (mask ≠ fullMask → (s.performLine w line mask data).pool.poison = s.pool.poison)) ∧
    (∀ (e : WbEnt), s.chDown e.line = true → e.buf < 61 → (s.mapAddr e.line).1 < 8 → e ∈ s.pool.wb → s.pool.waiting = [] → e.tags = [] →
      (s.performEntry e).pool.cells = s.pool.cells ∧ (s.performEntry e).pool.wb.length + 1 = s.pool.wb.length ∧
      (s.performEntry e).rd (BAL_CH_DISCARD_DISCARDS (s.mapAddr e.line).1) = satInc (BAL_CH_DISCARD_DISCARDS 0).width (s.rd (BAL_CH_DISCARD_DISCARDS (s.mapAddr e.line).1))) ∧
    (∀ (id : Nat) (e : Ecc), s.accOf id = none → s.does (.poolRead id e) s []) ∧
    (∀ (id : Nat) (e : Ecc) (a : PAcc) (n : Nat), s.accOf id = some a → a.op = .read n → a.via = .plain → s.mayServe a = true →
      (linesOf a.addr n).any s.chDown = true → s.does (.poolRead id e) ((s.reply a 4 [] false).accDone a) []) ∧
    (∀ (id : Nat) (a : PAcc) (n : Nat), s.accOf id = some a → a.op = .read n → a.via = .plain → s.mayServe a = true →
      (linesOf a.addr n).any s.chDown = false → s.mgmt.inject = [] →
      s.does (.poolRead id .clean) ((s.reply a 0 (s.bytesSeen a n) ((linesOf a.addr n).any s.poisoned)).accDone a) []) ∧
    (∀ (a : PAcc) (n : Nat), (s.pool.wb.filter fun e => e.src == a.src) = [] → s.bytesSeen a n = (List.range n).map fun k =>
      s.loadByte (a.addr + k)) ∧
    (∀ (id : Nat) (a : PAcc) (k : AtomicKind) (size op1 op2 : Nat), s.accOf id = some a → a.op = .atomic k size op1 op2 → a.via = .plain →
      s.mayServe a = true → s.mgmt.inject = [] → (s.chDown a.addr = true ∨ s.poisoned a.addr = true) →
      s.does (.atomicOp id) ((s.reply a 4 [] false).accDone a) []) ∧
    (∀ (id : Nat) (a : PAcc) (k : AtomicKind) (size op1 op2 : Nat), s.accOf id = some a → a.op = .atomic k size op1 op2 → a.via = .plain →
      s.mayServe a = true → s.mgmt.inject = [] → s.chDown a.addr = false → s.poisoned a.addr = false →
      s.does (.atomicOp id) (((s.atomicStore a.window a.addr size (atomicNew k size (leNat (s.loadBytes a.addr size)) op1 op2)).reply a 0 (leBytes size (leNat (s.loadBytes a.addr size))) false).accDone a) []) ∧
    (∀ (id : Nat), s.accOf id = none → s.does (.atomicOp id) s []) ∧
    (∀ (size old a b : Nat), old < 2 ^ (8 * size) → atomicNew .fetchAdd size old a b = (old + a) % 2 ^ (8 * size) ∧
      atomicNew .swap size old a b = a % 2 ^ (8 * size) ∧ atomicNew .cas size old old b = b % 2 ^ (8 * size) ∧ (old ≠ a % 2 ^ (8 * size) →
      atomicNew .cas size old a b = old)) ∧
    (∀ (id : Nat) (a : PAcc) (n : Nat), s.accOf id = some a → a.op = .read n → a.via = .lr → s.mayServe a = true → s.chDown a.addr = false →
      s.mgmt.inject = [] → s.does (.loadReserved id .clean) (((s.reply a 0 (s.loadBytes a.addr n) (s.poisoned a.addr)).reserve a).accDone a) []) ∧
    (∀ (id : Nat) (e : Ecc), s.accOf id = none → s.does (.loadReserved id e) s []) ∧
    (∀ (a : PAcc), ⟨a.src, a.requester, a.pasid, a.addr / 64 * 64, s.now, s.aloneSince a⟩ ∈ (s.reserve a).pool.resv ∧
      (s.reserve a).reserved a = true ∧ (s.reserve a).pool.cells = s.pool.cells) ∧
    (∀ (id : Nat) (a : PAcc) (k : AtomicKind) (size op1 op2 : Nat), s.accOf id = some a → a.op = .atomic k size op1 op2 → a.via = .sc →
      s.mayServe a = true → s.mgmt.inject = [] → s.chDown a.addr = false → s.poisoned a.addr = false → s.reserved a = false →
      s.does (.storeConditional id) ((((s.noteLoss a).dropResv a).takeFree.reply a 0 (leBytes 8 1) false).accDone a) []) ∧
    (∀ (id : Nat) (a : PAcc) (k : AtomicKind) (size op1 op2 : Nat), s.accOf id = some a → a.op = .atomic k size op1 op2 → a.via = .sc →
      s.mayServe a = true → s.mgmt.inject = [] → s.chDown a.addr = false → s.poisoned a.addr = false → s.reserved a = true →
      s.does (.storeConditional id) ((((((s.noteLoss a).dropResv a).takeFree).atomicStore a.window a.addr 8 (op1 % 2 ^ 64)).reply a 0 (leBytes 8 0) false).accDone a) [] ∨ s.does (.storeConditional id) ((((s.noteLoss a).dropResv a).takeFree.reply a 0 (leBytes 8 1) false).accDone a) []) ∧
    (∀ (id : Nat) (a : PAcc) (k : AtomicKind) (size op1 op2 : Nat), s.accOf id = some a → a.op = .atomic k size op1 op2 → a.via = .sc →
      s.mayServe a = true → s.mgmt.inject = [] → s.chDown a.addr = false → s.poisoned a.addr = false → s.loops a = true →
      (s.pool.lost.any fun r => sameHolder r a && r.line == a.addr / 64 * 64) = true →
      s.does (.storeConditional id) ((((((s.noteLoss a).dropResv a).takeFree).atomicStore a.window a.addr 8 (op1 % 2 ^ 64)).reply a 0 (leBytes 8 0) false).accDone a) []) ∧
    (∀ (id : Nat), s.accOf id = none → s.does (.storeConditional id) s []) ∧
    (s.pool.resv = [] → s.does .reservationExpire s []) ∧
    (∀ (r : Resv) (l : List Resv), s.pool.resv = r :: l → s.completes .reservationExpire fun t => t.pool.resv = l ∧
      t.now = max s.now (r.setAt + 8 * us) ∧ t.rd ORD_STATUS_RESV_USED = l.length % 2 ^ ORD_STATUS_RESV_USED.width ∧ s.keepsMem t ∧
      t.out = s.out)

/-- Barriers, epoch closes and mirrored domains. A barrier read waits in order; when what it orders is done it completes with its status word
and the next BAR_SEQ, and with discards on a channel sets BARRIER_FAIL and counts it. A close asked for by a host that holds the grant
starts, or waits behind the one that runs; one without the grant is counted. When the buffers hold nothing of the domain an unmirrored one
increments its counter, a mirrored one in sync sends a marker first and increments at its acknowledgement, and a refusing one ends
refused. A copy goes out to its peer with the mirror class; the target performs a copy of a window of the domain, counts any other, and
takes the epoch of a marker and acknowledges it. A read of the epoch latches its upper half; a window snapshot shows the entry. Forms for
which a clause concludes that exec answers a next state with the effect named, from conditions on the state and operands alone:
ordBarLoad, ordBarStore, ordBarFull, barrierComplete, ordEpochClose, epochDrainDone, mirrorAckReceived, mirrorCopySend,
mirrorCopyReceived, closeMarkerReceived, ordDomEpochLoRead, balWinGo. (13_ordering_and_epochs.md) -/
def Obligations.BarriersAndEpochs : Prop :=
  ∀ s : State, s.Inv →
    (∀ (h : Host) (requester : BitVec 16) (tag : BitVec 14), s.bridle.held = [] → s.completes (.ordBarLoad h requester tag) fun t =>
      t.pool.barriers = s.pool.barriers ++ [⟨h, 0, s.rd SYS_ORDER, requester.toNat, tag.toNat, false, 0, 8⟩] ∧ t.pool.wb = s.pool.wb ∧
      s.keepsRegs t [SYS_ORDER] ∧ s.keepsMem t ∧ t.out = s.out) ∧
    (∀ (h : Host) (requester : BitVec 16) (tag : BitVec 14), s.bridle.held = [] → s.completes (.ordBarStore h requester tag) fun t =>
      t.pool.barriers = s.pool.barriers ++ [⟨h, 1, s.rd SYS_ORDER, requester.toNat, tag.toNat, false, 0, 8⟩] ∧ t.pool.wb = s.pool.wb ∧
      s.keepsRegs t [SYS_ORDER] ∧ s.keepsMem t ∧ t.out = s.out) ∧
    (∀ (h : Host) (requester : BitVec 16) (tag : BitVec 14), s.bridle.held = [] → s.completes (.ordBarFull h requester tag) fun t =>
      t.pool.barriers = s.pool.barriers ++ [⟨h, 2, s.rd SYS_ORDER, requester.toNat, tag.toNat, false, 0, 8⟩] ∧ t.pool.wb = s.pool.wb ∧
      s.keepsRegs t [SYS_ORDER] ∧ s.keepsMem t ∧ t.out = s.out) ∧
    (∀ (h : Host), (s.pool.barriers.find? fun b => b.host == h.val) = none → s.does (.barrierComplete h) s []) ∧
    (∀ (h : Host) (b : Barrier), (s.pool.barriers.find? fun b => b.host == h.val) = some b → s.barrierMet b = false →
      s.does (.barrierComplete h) s []) ∧
    (∀ (h : Host) (b : Barrier) (p : Nat), (s.pool.barriers.find? fun b => b.host == h.val) = some b → s.hostPort h = some p →
      s.barrierMet b = true → s.rd (HOSTF_DISC_NODE h) = 0 → s.rd (HOSTF_DISC_PORT h) = 0 → s.rd (HOSTF_DISC_CH h) = 0 →
      s.pool.waiting = [] → s.bridle.held = [] → b.dead = false → s.contained 2 h = false → s.on (HOSTF_IN_RESET h) = false →
      s.completes (.barrierComplete h) fun t => (t.switch.made.map fun m => m.2.2) = (s.switch.made.map fun m =>
      m.2.2) ++ [.out (.completion h b.requester b.tag 0 (leBytes b.bytes (1 + t.rd (HOSTF_BARSEQ h) * 2 ^ 32)) false)] ∧ t.out = s.out ∧
      t.rd (HOSTF_BARSEQ h) = (s.rd (HOSTF_BARSEQ h) + 1) % 2 ^ (HOSTF_BARSEQ h).width ∧ t.pool.barriers = removeFirst (fun x =>
      x == b) s.pool.barriers ∧ s.keepsMem t) ∧
    (∀ (h : Host) (b : Barrier), (s.pool.barriers.find? fun b => b.host == h.val) = some b → s.barrierMet b = true →
      s.rd (HOSTF_DISC_CH h) ≠ 0 → s.bridle.held = [] → s.completes (.barrierComplete h) fun t => t.rd (HOSTF_DISC_CH h) = 0 ∧
      t.rd ORD_EVENT_BARRIER_FAIL = 1 ∧ t.rd ORD_COUNT_BAR_FAIL = satInc ORD_COUNT_BAR_FAIL.width (s.rd ORD_COUNT_BAR_FAIL) ∧
      s.keepsMem t) ∧
    (∀ (h : Host) (d : Dom) (msix : Bool) (vec : BitVec 11),
      (s.on (ORD_DOM_CFG_VALID d) = false ∨ bitSet (s.rd (ORD_EPOCH_STATUS_GRANTED h)) d = false) →
      s.does (.ordEpochClose h d msix vec) s [(ORD_DOM_REJECT_CLOSE_REJECTED d, satInc (ORD_DOM_REJECT_CLOSE_REJECTED d).width (s.rd (ORD_DOM_REJECT_CLOSE_REJECTED d))), (ORD_EVENT_CLOSE_REJECTED, 1)]) ∧
    (∀ (h : Host) (d : Dom) (msix : Bool) (vec : BitVec 11), s.on (ORD_DOM_CFG_VALID d) = true →
      bitSet (s.rd (ORD_EPOCH_STATUS_GRANTED h)) d = true → s.closeOf d = none → s.on (ORD_DOM_STATUS_DEGRADED d) = false →
      s.completes (.ordEpochClose h d msix vec) fun t =>
      t.pool.closes = s.pool.closes ++ [⟨d, false, 1, [.host h msix vec.toNat], s.now, s.rd SYS_ORDER⟩] ∧
      t.rd (ORD_DOM_STATUS_CLOSING d) = 1 ∧ bitSet (t.rd (ORD_EPOCH_STATUS_CLOSING h)) d = true ∧ t.rd (DDX_EPOCH d) = s.rd (DDX_EPOCH d) ∧
      s.keepsMem t ∧ t.out = s.out) ∧
    (∀ (h : Host) (d : Dom) (msix : Bool) (vec : BitVec 11) (k : Close), s.on (ORD_DOM_CFG_VALID d) = true →
      bitSet (s.rd (ORD_EPOCH_STATUS_GRANTED h)) d = true → s.closeOf d = some k → (s.pool.closes.any fun x =>
      x.dom == d.val && x.pending) = false → s.completes (.ordEpochClose h d msix vec) fun t =>
      t.pool.closes = s.pool.closes ++ [⟨d, true, 0, [.host h msix vec.toNat], s.now, 0⟩] ∧ t.rd (ORD_DOM_STATUS_PENDING d) = 1 ∧
      s.keepsMem t ∧ t.out = s.out) ∧
    (∀ (d : Dom), s.closeOf d = none → s.does (.epochDrainDone d) s []) ∧
    (∀ (d : Dom) (k : Close), s.closeOf d = some k → (k.stage ≠ 1 ∨ s.drained k = false) → s.does (.epochDrainDone d) s []) ∧
    (∀ (d : Dom) (k : Close), s.closeOf d = some k → k.stage = 1 → s.drained k = true → s.refuses d = false →
      s.on (ORD_DOM_CFG_MIRRORED d) = true → s.rd (ORD_DOM_STATUS_MIRROR_STATE d) = 2 → s.completes (.epochDrainDone d) fun t =>
      t.pool.mirror = s.pool.mirror ++ [⟨s.rd (ORD_DOM_CFG_PEER_NODE d), d, 0, 0, s.rd (DDX_EPOCH d), false⟩] ∧
      t.rd (DDX_EPOCH d) = s.rd (DDX_EPOCH d) ∧ s.keepsMem t ∧ t.out = s.out) ∧
    (∀ (d : Dom) (k : Close), s.closeOf d = some k → k.stage = 1 → s.drained k = true → s.refuses d = false →
      s.on (ORD_DOM_CFG_MIRRORED d) = false → s.does (.epochDrainDone d) (s.finishClose k) []) ∧
    (∀ (d : Dom) (k : Close), s.closeOf d = some k → k.stage = 1 → s.drained k = true → s.refuses d = true →
      s.does (.epochDrainDone d) (s.refuseRunning k) []) ∧
    (∀ (d : Dom) (k : Close), s.closeOf d = some k → k.stage = 2 → s.does (.mirrorAckReceived d) ((s.finishClose k).consumeKind 3) []) ∧
    (∀ (d : Dom), s.closeOf d = none → s.does (.mirrorAckReceived d) (s.consumeKind 3) []) ∧
    (∀ (d : Dom) (k : Close), k.dom = d → k.closers = [] → s.pool.waiting = [] → s.on (ORD_DOM_STATUS_DEGRADED d) = false →
      (s.pool.closes.any fun c => c.dom == d.val && c.pending) = false →
      (s.finishClose k).rd (DDX_EPOCH d) = (s.rd (DDX_EPOCH d) + 1) % 2 ^ (DDX_EPOCH d).width ∧
      (s.finishClose k).rd (ORD_DOM_EPOCH_LO_EPOCH d) = (s.rd (DDX_EPOCH d) + 1) % 2 ^ (ORD_DOM_EPOCH_LO_EPOCH d).width ∧
      (∀ h < 48, (s.finishClose k).rd (ORD_EPOCH_VALUE_EPOCH h d) = if bitSet (s.rd (ORD_EPOCH_STATUS_GRANTED h)) d then (s.rd (DDX_EPOCH d) + 1) % 2 ^ (ORD_EPOCH_VALUE_EPOCH h d).width else 0) ∧ (s.finishClose k).pool.closes = removeFirst (fun x => x == k) s.pool.closes ∧ s.keepsMem (s.finishClose k)) ∧
    (∀ (n : Node), (s.pool.mirror.find? fun m => m.peer == n.val) = none → s.does (.mirrorCopySend n) s []) ∧
    (∀ (n : Node) (m : MirLine), (s.pool.mirror.find? fun m => m.peer == n.val) = some m → s.pool.waiting = [] → s.reachable n = true →
      s.contained 5 n = false → m.mask ≠ 0 → s.completes (.mirrorCopySend n) fun t => t.pool.mirror = removeFirst (fun x =>
      x == m) s.pool.mirror ∧ t.switch.made.length = s.switch.made.length + 1 ∧
      (∀ w ∈ t.switch.made.drop s.switch.made.length, w.2.1.tc.val = s.rd (ORD_DOM_CFG_MIRROR_TC m.dom) ∧ w.2.1.payload = 64 ∧
      w.2.1.dest = some n ∧ w.2.1.unitKind.val = 2) ∧ s.keepsMem t ∧ t.out = s.out) ∧
    (∀ (n : Node) (d : Dom) (line : BitVec 40) (mask : BitVec 64) (data : BitVec 512) (poison : Bool), s.windowAt (line.toNat / 64 * 64) = none → s.reachable n = false → s.completes (.mirrorCopyReceived n d line mask data poison) fun t => t.rd (ORD_DOM_REJECT_MIRROR_REJECT d) = satInc (ORD_DOM_REJECT_MIRROR_REJECT d).width (s.rd (ORD_DOM_REJECT_MIRROR_REJECT d)) ∧ s.keepsMem t) ∧
    (∀ (n : Node) (d : Dom) (line : BitVec 40) (mask : BitVec 64) (data : BitVec 512) (w : Nat) (poison : Bool), s.windowAt (line.toNat / 64 * 64) = some w → s.winDom w = some d.val → s.on (ORD_DOM_CFG_MIRROR_TARGET d) = true → exec (.mirrorCopyReceived n d line mask data poison) s = .next ((s.takeCopy w (line.toNat / 64 * 64) mask.toNat data.toNat poison).consumeAcc 2 (s.rd SYS_ORDER))) ∧
    (∀ (w a mask data : Nat) (poison : Bool) (c : PAcc), s.pastDrain = false →
      c = ⟨s.rd SYS_ORDER, 60, .plain, a, .store (leBytes 64 data), b2n poison, none, mask, w, s.rd SYS_ORDER, 0, 128⟩ →
      s.poolFence 60 w = none → (s.bump SYS_ORDER).mustWait c = false →
      s.takeCopy w a mask data poison = ((s.bump SYS_ORDER).breakLoops c).take c) ∧
    (∀ (e : WbEnt), e.poison = true → (s.performWb e).poisoned e.line = true ∧
      (s.performWb e).pool.cells = (s.performLine e.window e.line e.mask e.data).pool.cells) ∧
    (∀ (n : Nat), (s.pool.wb.all fun e => e.src != 60) = true → s.performCopies n = s) ∧
    (∀ (n : Node) (d : Dom) (e : BitVec 62), s.on (ORD_DOM_CFG_MIRROR_TARGET d) = true → (s.pool.wb.all fun e => e.src != 60) = true →
      s.completes (.closeMarkerReceived n d e) fun t =>
      t = State.consumeKind ((s.setEpoch d (e.toNat + 1)).sendNode n 0 (s.rd (ORD_DOM_CFG_MIRROR_TC d)) 0 3 0 (s.rd (ORD_DOM_CFG_PEER_DOMAIN d) + 2 ^ 126 + e.toNat * 16)) 3 ∧ t.rd (DDX_EPOCH d) = (e.toNat + 1) % 2 ^ (DDX_EPOCH d).width) ∧
    (∀ (n : Node) (d : Dom) (e : BitVec 62) (x : WbEnt), s.on (ORD_DOM_CFG_MIRROR_TARGET d) = true → s.pool.waiting = [] → s.pool.wb = [x] →
      x.src = 60 → exec (.closeMarkerReceived n d e) s = .next (State.consumeKind (((s.performEntry x).setEpoch d (e.toNat + 1)).sendNode n 0 (s.rd (ORD_DOM_CFG_MIRROR_TC d)) 0 3 0 (s.rd (ORD_DOM_CFG_PEER_DOMAIN d) + 2 ^ 126 + e.toNat * 16)) 3)) ∧
    (∀ (n : Node) (d : Dom) (e : BitVec 62), s.on (ORD_DOM_CFG_MIRROR_TARGET d) = false →
      s.does (.closeMarkerReceived n d e) (s.consumeKind 3) []) ∧
    (∀ (d : Dom), s.doesThen (.ordDomEpochLoRead d) [(ORD_DOM_EPOCH_LO_EPOCH d, s.rd (DDX_EPOCH d)),
      (ORD_DOM_EPOCH_HI_EPOCH d, s.rd (DDX_EPOCH d) / 2 ^ 32)] (fun u => u.emit (.readData (s.rd (DDX_EPOCH d) % 2 ^ 32)))) ∧
    (∀ (v : BitVec 31), s.completes (.balWinGo v) fun t => t.rd BAL_WIN_SEL_WINDOW = v.toNat % 4096 ∧ t.rd BAL_WIN_STATUS_DONE = 0 ∧
      (∀ k < 6, t.rd (BAL_WIN_DATA_WORD k) = s.tabWord winLayout (winAddr (v.toNat % 4096)) k % 2 ^ 32) ∧ s.keepsMem t ∧
      t = { s with regs := t.regs })

/-- Channels, patrol, initialisation and calibration of the pool, and the timeout of a completion. A recurring parity or write CRC error makes
an ACTIVE channel FAILED, with its cause and event, and ends its reservations. A patrol step of a clean line moves on, or ends the pass at
the last line; one with an uncorrectable error poisons the line and counts it. Initialisation done clears INIT_BUSY. Calibration and a hot
DIMM act on an ACTIVE channel only. A completion of an unowned request that does not come in time is counted, sets its event and puts its
tag in quarantine. Commands that do not apply change nothing. Forms for which a clause concludes that exec answers a next state with the
effect named, from conditions on the state and operands alone: channelFailed, patrolStep, poolInitDone, zqCalibration, dqsAdjust,
dimmEventHot, dimmEventRelease, completionTimeout. (12_ballast_pool.md, 11_errors_and_containment.md) -/
def Obligations.PoolMaintenance : Prop :=
  ∀ s : State, s.Inv →
    (∀ (c : Chan) (crc : Bool), s.rd (BAL_CH_STATUS_STATE c) = 2 → s.completes (.channelFailed c crc) fun t =>
      t.rd (BAL_CH_STATUS_STATE c) = 4 ∧ t.rd (BAL_CH_STATUS_FAIL_CAUSE c) = (if crc then 4 else 3) ∧ t.rd BAL_EVENT_CH_FAILED = 1 ∧
      t.pool.resv = s.pool.resv.filter (fun r => (s.mapAddr r.line).1 != c.val) ∧ s.keepsMem t) ∧
    (∀ (c : Chan) (crc : Bool), s.rd (BAL_CH_STATUS_STATE c) ≠ 2 → s.does (.channelFailed c crc) s []) ∧
    (∀ (a : BitVec 40), a.toNat < s.poolC → s.rd PWR_STATUS_STATE ≤ 1 → s.on PWR_STATUS_ENTERING = false → a.toNat / 64 = s.rd PATX_LINE →
      s.mgmt.inject = [] → a.toNat / 64 + 1 = s.poolC / 64 → s.does (.patrolStep a .clean) s [(PATX_LINE, 0), (BAL_SCRUB_PROGRESS, 0),
      (BAL_EVENT_SCRUB_PASS, 1)]) ∧
    (∀ (a : BitVec 40), a.toNat < s.poolC → s.rd PWR_STATUS_STATE ≤ 1 → s.on PWR_STATUS_ENTERING = false → a.toNat / 64 = s.rd PATX_LINE →
      s.mgmt.inject = [] → a.toNat / 64 + 1 ≠ s.poolC / 64 → s.does (.patrolStep a .clean) s [(PATX_LINE, a.toNat / 64 + 1),
      (BAL_SCRUB_PROGRESS, (a.toNat / 64 + 1) * 1024 / (s.poolC / 64))]) ∧
    (∀ (a : BitVec 40), a.toNat < s.poolC → s.rd PWR_STATUS_STATE ≤ 1 → s.on PWR_STATUS_ENTERING = false → a.toNat / 64 = s.rd PATX_LINE →
      s.mgmt.inject = [] → s.chDown a.toNat = false → a.toNat / 64 + 1 ≠ s.poolC / 64 → s.rd BAL_SCRUB_UE_LIMIT = 0 → a.toNat % 64 = 0 →
      (s.mapAddr a.toNat).1 < 8 → s.completes (.patrolStep a .uncorrPayload) fun t => t.poisoned a.toNat = true ∧ t.rd BAL_EVENT_UE = 1 ∧
      t.rd (BAL_CH_ECC_UE_COUNT (s.mapAddr a.toNat).1) = satInc (BAL_CH_ECC_UE_COUNT 0).width (s.rd (BAL_CH_ECC_UE_COUNT (s.mapAddr a.toNat).1)) ∧ s.keepsMem t) ∧
    (∀ (a : BitVec 40) (e : Ecc), a.toNat < s.poolC → s.rd PWR_STATUS_STATE ≤ 1 → s.on PWR_STATUS_ENTERING = false →
      a.toNat / 64 = s.rd PATX_LINE → s.chDown a.toNat = true → a.toNat / 64 + 1 ≠ s.poolC / 64 →
      s.does (.patrolStep a e) s [(PATX_LINE, a.toNat / 64 + 1), (BAL_SCRUB_PROGRESS, (a.toNat / 64 + 1) * 1024 / (s.poolC / 64))]) ∧
    (∀ (a : BitVec 40) (e : Ecc),
      (s.poolC ≤ a.toNat ∨ 1 < s.rd PWR_STATUS_STATE ∨ s.on PWR_STATUS_ENTERING = true ∨ a.toNat / 64 ≠ s.rd PATX_LINE) →
      s.does (.patrolStep a e) s []) ∧
    (s.on BAL_STATUS_INIT_BUSY = true → s.does .poolInitDone s [(BAL_STATUS_INIT_BUSY, 0), (BAL_EVENT_INIT_DONE, 1)]) ∧
    (s.on BAL_STATUS_INIT_BUSY = false → s.does .poolInitDone s []) ∧
    (∀ (c : Chan), s.rd (BAL_CH_STATUS_STATE c) = 2 →
      s.does (.zqCalibration c) (s.advTo (s.rd (CALX_ZQ c) + 128 * ms)) [(CALX_ZQ c, max s.now (s.rd (CALX_ZQ c) + 128 * ms))]) ∧
    (∀ (c : Chan), s.rd (BAL_CH_STATUS_STATE c) ≠ 2 → s.does (.zqCalibration c) s []) ∧
    (∀ (c : Chan), s.rd (BAL_CH_STATUS_STATE c) = 2 →
      s.does (.dqsAdjust c) (s.advTo (s.rd (CALX_DQS c) + 10 * ms)) [(CALX_DQS c, max s.now (s.rd (CALX_DQS c) + 10 * ms))]) ∧
    (∀ (c : Chan), s.rd (BAL_CH_STATUS_STATE c) ≠ 2 → s.does (.dqsAdjust c) s []) ∧
    (∀ (c : Chan), s.rd (BAL_CH_STATUS_STATE c) = 2 → s.does (.dimmEventHot c) s [(BAL_CH_STATUS_HOT c, 1)]) ∧
    (∀ (c : Chan), s.rd (BAL_CH_STATUS_STATE c) ≠ 2 → s.does (.dimmEventHot c) s []) ∧
    (∀ (c : Chan), s.does (.dimmEventRelease c) s [(BAL_CH_STATUS_HOT c, 0)]) ∧
    (∀ (k : ReqKind) (target : Port) (tag : BitVec 14), s.reqOf k target tag.toNat = none →
      s.does (.completionTimeout k target tag) s []) ∧
    (∀ (k : ReqKind) (target : Port) (tag : BitVec 14) (o : Outst), s.reqOf k target tag.toNat = some o →
      (o.quarantined = true ∨ o.store = true ∨ o.src < 48) → s.does (.completionTimeout k target tag) s []) ∧
    (∀ (k : ReqKind) (target : Port) (tag : BitVec 14) (o : Outst), s.reqOf k target tag.toNat = some o → o.quarantined = false →
      o.store = false → o.src = noSource → o.waiter = 0 → s.completes (.completionTimeout k target tag) fun t =>
      t.outst = updateAll (fun x => x == o) (fun x => { x with quarantined := true }) s.outst ∧ t.now = max s.now (o.issuedAt + o.timeout) ∧
      t.rd ERR_EVENT_CTO = 1 ∧ t.rd ERR_CPL_COUNT_CTO = satInc ERR_CPL_COUNT_CTO.width (s.rd ERR_CPL_COUNT_CTO) ∧ s.keepsMem t ∧
      t.out = s.out)

/-- The POOL commands that configure the map, windows, apertures, scrubbing and durable domains. POOL_MAP_SET sets the ways while no window is
valid, and answers BUSY otherwise; POOL_WINDOW_SET enters a window that overlaps no other, within the usable pool and its quotas, and
answers OVERLAP for one that overlaps; POOL_WINDOW_CLEAR removes a window, and answers BAD_PARAMETER where there is none;
POOL_APERTURE_SET and POOL_SCRUB_SET store their values; POOL_DOMAIN_SET configures a domain and its grants; POOL_MIRROR_RESYNC of a
degraded or resyncing mirror starts a long operation; POOL_EPOCH_CLOSE of an issuer with the grant starts the close and gives no status
yet, and answers NOT_PERMITTED without the grant. Forms for which a clause concludes that exec answers a next state with the effect named,
from conditions on the state and operands alone: poolMapSet, poolWindowSet, poolWindowClear, poolApertureSet, poolScrubSet, poolDomainSet,
poolMirrorResync, poolEpochClose. (12_ballast_pool.md, 13_ordering_and_epochs.md, 15_command_packets.md) -/
def Obligations.PoolCommands : Prop :=
  ∀ s : State, s.Inv →
    (∀ (c : Cmd) (w : Nat), s.ready 0x0601 c = true → onlyM (s.issuer c.path) = true → cleanCmd c [(0, 8)] false = true →
      s.anyWindow = false → w = parBytes c 0 1 → (w = 1 ∨ w = 2 ∨ w = 4 ∨ w = 8) → w ≤ s.rd BAL_STATUS_N →
      s.answers (.poolMapSet c) 0x0601 c 0 s [(BAL_STATUS_W, w)]) ∧
    (∀ (c : Cmd), s.ready 0x0601 c = true → onlyM (s.issuer c.path) = true → cleanCmd c [(0, 8)] false = true → s.anyWindow = true →
      exec (.poolMapSet c) s = .next (s.post c 0x0601 stBusy 0 0 true)) ∧
    (∀ (c : Cmd) (w : Nat) (a : WinAttr), s.ready 0x0602 c = true → onlyM (s.issuer c.path) = true → (cleanCmd c [(0, 16), (16, 4), (24, 8),
      (32, 16), (64, 64), (128, 64)] false && decide (parBytes c 0 2 < 4096) && decide ((winOfCmd c).dom < 16) && decide ((winOfCmd c).owner < 1024) && (winOfCmd c).base % 4096 == 0 && (winOfCmd c).limit % 4096 == 4095 && decide ((winOfCmd c).base < (winOfCmd c).limit)) = true → (s.windowOverlap w a) = false → (decide (s.poolUsable ≤ a.limit)) = false → (a.spill == 1 && a.domValid == 0) = false → (a.strict == 1 && decide (16 ≤ (s.eraseWindow w).rd QUOTA_STRICT)) = false → (a.spill == 1 && decide (16777216 < (s.eraseWindow w).rd QUOTA_SPILL + a.units)) = false → (a.ownValid == 1 && decide ((s.eraseWindow w).rd (GND_POOL_QUOTA a.owner) < (s.eraseWindow w).rd (GND_POOL_USED a.owner) + a.units)) = false → (s.on (WIN_VALID w) && { a with spill := (s.winAttr w).spill } != s.winAttr w && s.windowBusy w) = false → (s.releasing 4 w) = false → w = parBytes c 0 2 → a = winOfCmd c → s.poolUsable < 2 ^ 40 → s.answersWith (.poolWindowSet c) 0x0602 c 0 fun t => t = s.putWindow w a ∧ t.rd (WIN_VALID w) = 1 ∧ t.rd (WIN_BASE w) = a.base ∧ t.rd (WIN_LIMIT w) = a.limit ∧ t.rd (WIN_STRICT w) = a.strict ∧ t.rd (WIN_SPILL w) = a.spill ∧ t.rd (WIN_DOMAIN_VALID w) = a.domValid ∧ (a.domValid = 1 → t.rd (WIN_DOMAIN w) = a.dom) ∧ t.rd (WIN_OWNER_VALID w) = a.ownValid ∧ s.keepsMem t) ∧
    (∀ (c : Cmd), s.ready 0x0602 c = true → onlyM (s.issuer c.path) = true → (cleanCmd c [(0, 16), (16, 4), (24, 8), (32, 16), (64, 64),
      (128, 64)] false && decide (parBytes c 0 2 < 4096) && decide ((winOfCmd c).dom < 16) && decide ((winOfCmd c).owner < 1024) && (winOfCmd c).base % 4096 == 0 && (winOfCmd c).limit % 4096 == 4095 && decide ((winOfCmd c).base < (winOfCmd c).limit)) = true → s.windowOverlap (parBytes c 0 2) (winOfCmd c) = true → exec (.poolWindowSet c) s = .next (s.post c 0x0602 stOverlap 0 0 true)) ∧
    (∀ (c : Cmd), s.ready 0x0603 c = true → onlyM (s.issuer c.path) = true →
      (cleanCmd c [(0, 16)] false && decide (parBytes c 0 2 < 4096)) = true → (s.windowBusy (parBytes c 0 2)) = false →
      (s.releasing 4 (parBytes c 0 2)) = false → s.on (WIN_VALID (parBytes c 0 2)) = true →
      s.answersWith (.poolWindowClear c) 0x0603 c 0 fun t => t.rd (WIN_VALID (parBytes c 0 2)) = 0 ∧ (∀ k < 4096, k ≠ (parBytes c 0 2) →
      t.rd (WIN_VALID k) = s.rd (WIN_VALID k) ∧ t.rd (WIN_BASE k) = s.rd (WIN_BASE k) ∧ t.rd (WIN_LIMIT k) = s.rd (WIN_LIMIT k)) ∧
      s.keepsMem t) ∧
    (∀ (c : Cmd), s.ready 0x0603 c = true → onlyM (s.issuer c.path) = true →
      (cleanCmd c [(0, 16)] false && decide (parBytes c 0 2 < 4096)) = true → s.on (WIN_VALID (parBytes c 0 2)) = false →
      exec (.poolWindowClear c) s = .next (s.post c 0x0603 stBadParam 0 0 true)) ∧
    (∀ (c : Cmd), s.ready 0x0604 c = true → onlyM (s.issuer c.path) = true → (cleanCmd c [(0, 8),
      (8, 8)] false && decide (parBytes c 0 1 < 48) && (parBytes c 1 1 == 0 || decide (26 ≤ parBytes c 1 1) && decide (parBytes c 1 1 ≤ 40))) = true → s.answers (.poolApertureSet c) 0x0604 c 0 s [(BAL_APERTURE_SIZE_LOG2_NEXT (parBytes c 0 1), parBytes c 1 1)]) ∧
    (∀ (c : Cmd), s.ready 0x0605 c = true → onlyM (s.issuer c.path) = true → (cleanCmd c [(0, 8),
      (8, 8)] false && decide (1 ≤ parBytes c 0 1) && decide (parBytes c 0 1 ≤ 168)) = true →
      s.answers (.poolScrubSet c) 0x0605 c 0 s [(BAL_SCRUB_PERIOD_H, parBytes c 0 1), (BAL_SCRUB_UE_LIMIT, parBytes c 1 1)]) ∧
    (∀ (c : Cmd) (d : Nat), s.ready 0x0606 c = true → onlyM (s.issuer c.path) = true → (cleanCmd c [(0, 8), (8, 4), (16, 8), (24, 8),
      (32, 8), (64, 64), (128, 48)] true && decide (parBytes c 0 1 < 16) && decide (parBytes c 2 1 < 64) && decide (parBytes c 3 1 < 16) && decide (parBytes c 4 1 < 8) && parBytes c 8 8 % 4096 == 0 && !(parBits c 9 1 == 1 && parBits c 10 1 == 1)) = true → (s.on (ORD_DOM_CFG_MIRROR_TARGET d) && parBits c 10 1 == 0 && s.routed (s.rd (ORD_DOM_CFG_PEER_NODE d)) && !opFlag c) = false → (s.opBusy [0x0607] (fun o => parBytes o.cmd 0 1 == d)) = false → d = parBytes c 0 1 → s.answersWith (.poolDomainSet c) 0x0606 c 0 fun t => t.rd (ORD_DOM_CFG_VALID d) = parBits c 8 1 ∧ t.rd (ORD_DOM_CFG_MIRRORED d) = parBits c 9 1 ∧ t.rd (ORD_DOM_CFG_MIRROR_TARGET d) = parBits c 10 1 ∧ t.rd (ORD_DOM_CFG_POLICY d) = parBits c 11 1 ∧ t.rd (ORD_DOM_CFG_PEER_NODE d) = parBytes c 2 1 ∧ t.rd (ORD_DOM_CFG_PEER_DOMAIN d) = parBytes c 3 1 ∧ t.rd (ORD_DOM_CFG_MIRROR_TC d) = parBytes c 4 1 ∧ (∀ h < 48, bitSet (t.rd (ORD_EPOCH_STATUS_GRANTED h)) d = (parBits c 8 1 == 1 && bitSet (parBytes c 16 6) h)) ∧ t.rd (DDX_EPOCH d) = (if parBits c 8 1 = 1 ∧ s.rd (DDX_EPOCH d) = 0 then 1 else s.rd (DDX_EPOCH d)) ∧ s.keepsMem t) ∧
    (∀ (c : Cmd) (d : Nat), s.ready 0x0607 c = true → onlyM (s.issuer c.path) = true →
      (cleanCmd c [(0, 8)] false && decide (parBytes c 0 1 < 16)) = true → s.poolBusy = false → (s.opBusy [0x0607] (fun o =>
      parBytes o.cmd 0 1 == d)) = false → (s.opsFull (s.issuer c.path)) = false → d = parBytes c 0 1 →
      s.on (ORD_DOM_CFG_MIRRORED d) = true → (s.rd (ORD_DOM_STATUS_MIRROR_STATE d) = 1 ∨ s.rd (ORD_DOM_STATUS_MIRROR_STATE d) = 3) →
      ∃ u : State, exec (.poolMirrorResync c) s = .next (u.startOp c 0x0607 1 (s.domainLines d) 0 d) ∧
      u.rd (ORD_DOM_STATUS_MIRROR_STATE d) = 1 ∧ s.keepsMem u ∧ u = { s with regs := u.regs }) ∧
    (∀ (c : Cmd) (d : Nat), s.ready 0x0608 c = true → d = parBytes c 0 1 → d < 16 → s.granted d (s.issuer c.path) = true →
      cleanCmd c [(0, 8)] false = true → s.on (ORD_DOM_CFG_VALID d) = true → s.closeOf d = none → s.on (ORD_DOM_STATUS_DEGRADED d) = false →
      s.completes (.poolEpochClose c) fun t => t.pool.closes = s.pool.closes ++ [⟨d, false, 1, [.cmd c], s.now, s.rd SYS_ORDER⟩] ∧
      t.late = s.late ++ [⟨0x0608, c, d, false⟩] ∧ t.out = s.out ∧ s.keepsMem t) ∧
    (∀ (c : Cmd) (d : Nat), s.ready 0x0608 c = true → d = parBytes c 0 1 → d < 16 → s.granted d (s.issuer c.path) = false →
      exec (.poolEpochClose c) s = .next (s.post c 0x0608 stNotPermitted 0 0 true))

/-- Lanes: tap requests, test access and Windsock. A preset request in EQ loads the preset, counts and answers UPDATED on four taps; a
decrement of c(-1) is carried out and answered; a request on a lane without an owner changes nothing; no sequence of tap actions takes a
tap past its limits. A write of LAN_CFG on an owned lane stores the polarity controls alone; on a free lane it sets the test controls and
the rate shown. An injected error is sent by a running generator, and counted in near-end loopback with a locked checker; a running
pattern locks the checker. LOS deasserts, and its time is counted in whole microseconds while it lasts, unless the port rests or the lane
is masked; LOL deasserts on a lane that holds lock and on no other. A write of 1 to FLAP re-arms the lane. Forms for which a clause
concludes that exec answers a next state with the effect named, from conditions on the state and operands alone: testEnWrite, prbsInject,
prbsCheckerLock, flapRearm, losDeassert, lolDeassert, tapRequest. (04_lanes.md) -/
def Obligations.Lanes : Prop :=
  ∀ s : State, s.Inv →
    (∀ (l : Lane) (v : BitVec 32), s.on (LAN_STATUS_OWNED l) = true → s.does (.testEnWrite l v) s [(LAN_CFG_TX_INVERT l, bit v.toNat 5),
      (LAN_CFG_RX_INVERT_FORCE l, bit v.toNat 6)]) ∧
    (∀ (l : Lane) (v : BitVec 32), s.on (LAN_STATUS_OWNED l) = false → s.completes (.testEnWrite l v) fun t =>
      t.rd (LAN_CFG_TEST_EN l) = b2n (bitSet v.toNat 0 && testRateOk l (bits v.toNat 1 4)) ∧ t.rd (LAN_CFG_TEST_RATE l) = bits v.toNat 1 4 ∧
      t.rd (LAN_CFG_LOOPBACK l) = bits v.toNat 8 2 ∧ t.rd (LAN_CFG_TX_INVERT l) = bit v.toNat 5 ∧
      t.rd (LAN_STATUS_RATE l) = (if bitSet v.toNat 0 && testRateOk l (bits v.toNat 1 4) then bits v.toNat 1 4 else 15) ∧ s.keepsMem t ∧
      t = { s with regs := t.regs }) ∧
    (∀ (l : Lane), s.on (LAN_STATUS_OWNED l) = false → s.on (LAN_CFG_TEST_EN l) = true → s.on (LAN_PRBS_CFG_GEN_EN l) = true →
      s.patternRuns l = true → s.rd (LAN_CFG_LOOPBACK l) ≠ 1 → s.does (.prbsInject l) (s.emit (.block l 0x100 1)) []) ∧
    (∀ (l : Lane), s.on (LAN_STATUS_OWNED l) = false → s.on (LAN_CFG_TEST_EN l) = true → s.on (LAN_PRBS_CFG_GEN_EN l) = true →
      s.patternRuns l = true → s.rd (LAN_CFG_LOOPBACK l) = 1 → s.on (LAN_PRBS_STATUS_CHK_LOCK l) = true →
      s.does (.prbsInject l) (s.emit (.block l 0x100 1)) [(LAN_PRBS_ERR_ERR_COUNT l, satInc (LAN_PRBS_ERR_ERR_COUNT l).width (s.rd (LAN_PRBS_ERR_ERR_COUNT l)))]) ∧
    (∀ (l : Lane), s.on (LAN_CFG_TEST_EN l) = false → s.does (.prbsInject l) s []) ∧
    (∀ (l : Lane), s.on (LAN_STATUS_OWNED l) = false → s.on (LAN_CFG_TEST_EN l) = true → s.on (LAN_PRBS_CFG_CHK_EN l) = true →
      s.patternRuns l = true → s.does (.prbsCheckerLock l) s [(LAN_PRBS_STATUS_CHK_LOCK l, 1)]) ∧
    (∀ (l : Lane), s.on (LAN_CFG_TEST_EN l) = false → s.does (.prbsCheckerLock l) s []) ∧
    (∀ (l : Lane), s.does (.flapRearm l) { s with mgmt := { s.mgmt with edges := s.mgmt.edges.filter fun x => x.1 != l.val } } [(LAN_WS_STATUS_FLAP l, 0)]) ∧
    (∀ (l : Lane), s.on (LAN_STATUS_LOS l) = true → s.does (.losDeassert l) (s.losTick l) [(LAN_STATUS_LOS l, 0)]) ∧
    (∀ (l : Lane) (n : Nat), s.on (LAN_STATUS_LOS l) = true → s.on (LANX_QUIET l) = false → s.rd (LANX_RATE_AT l) = 0 →
      n = (s.now - s.rd (LANX_LOS_AT l)) / us →
      (s.losTick l).rd (LAN_WS_LOS_TIME_LOS_TIME l) = min (2 ^ (LAN_WS_LOS_TIME_LOS_TIME l).width - 1) (s.rd (LAN_WS_LOS_TIME_LOS_TIME l) + n) ∧ (s.losTick l).rd (LANX_LOS_AT l) = (s.rd (LANX_LOS_AT l) + n * us) % 2 ^ (LANX_LOS_AT l).width ∧ s.keepsRegs (s.losTick l) [LAN_WS_LOS_TIME_LOS_TIME l, LANX_LOS_AT l, LANX_QUIET l] ∧ s.keepsMem (s.losTick l)) ∧
    (∀ (l : Lane), (s.on (LAN_STATUS_LOS l) = false ∨ s.on (LANX_QUIET l) = true) →
      (s.losTick l).rd (LAN_WS_LOS_TIME_LOS_TIME l) = s.rd (LAN_WS_LOS_TIME_LOS_TIME l) ∧
      (s.losTick l).rd (LANX_LOS_AT l) = s.now % 2 ^ (LANX_LOS_AT l).width) ∧
    (∀ (l : Lane), s.on (LAN_STATUS_LOS l) = false → s.does (.losDeassert l) s []) ∧
    (∀ (l : Lane), s.holdsLock l = true → s.does (.lolDeassert l) s [(LAN_STATUS_LOL l, 0)]) ∧
    (∀ (l : Lane), s.holdsLock l = false → s.does (.lolDeassert l) s []) ∧
    (∀ (l : Lane) (no : BitVec 8) (p : Nat) (n : Fin 16) (a b c d : Fin 3), s.ownerOf l = some p → s.on (LAN_STATUS_CYTRUM l) = true →
      s.cyState p = cyEq → (s.on (LANX_TAP_SEEN l) = false ∨ s.rd (LANX_TAP_NO l) ≠ no.toNat) → s.rd (LAN_STATUS_RATE l) ≠ 11 → n.val < 8 →
      s.completes (.tapRequest l no (some n) a b c d) fun t => t.taps l = presetTaps n ∧ t.rd (LAN_TX_COEF_C_MAIN l) = (presetTaps n).main ∧
      t.rd (LAN_EQ_STATUS_LAST_PRESET l) = n.val ∧
      t.rd (LAN_EQ_STATUS_REQ_COUNT l) = satInc (LAN_EQ_STATUS_REQ_COUNT l).width (s.rd (LAN_EQ_STATUS_REQ_COUNT l)) ∧
      t.rd (LANX_TAP_RSP l) = 0x55 ∧ t.rd (LANX_TAP_NO l) = no.toNat ∧ s.keepsMem t) ∧
    (∀ (l : Lane) (no : BitVec 8) (p : Nat), s.ownerOf l = some p → s.on (LAN_STATUS_CYTRUM l) = true → s.cyState p = cyEq →
      (s.on (LANX_TAP_SEEN l) = false ∨ s.rd (LANX_TAP_NO l) ≠ no.toNat) → 0 < (s.taps l).m1 →
      s.completes (.tapRequest l no none 0 2 0 0) fun t => (t.taps l).m1 = (s.taps l).m1 - 1 ∧ t.rd (LANX_TAP_RSP l) = 4 ∧
      t.rd (LANX_TAP_NO l) = no.toNat ∧ s.keepsMem t) ∧
    (∀ (l : Lane) (no : BitVec 8) (n : Option (Fin 16)) (a b c d : Fin 3), s.ownerOf l = none →
      s.does (.tapRequest l no n a b c d) s []) ∧
    (∀ (t : Taps) (pam4 : Bool) (a0 a1 a2 a3 : Fin 3), t.m2 ≤ 6 → t.m1 ≤ 16 → t.p1 ≤ 16 → t.p2 ≤ 6 → 32 ≤ t.main →
      (tapActs t pam4 a0 a1 a2 a3).1.m2 ≤ 6 ∧ (tapActs t pam4 a0 a1 a2 a3).1.m1 ≤ 16 ∧ (tapActs t pam4 a0 a1 a2 a3).1.p1 ≤ 16 ∧
      (tapActs t pam4 a0 a1 a2 a3).1.p2 ≤ 6 ∧ 32 ≤ (tapActs t pam4 a0 a1 a2 a3).1.main)

/-- Tethers: training from DETECT to UP, its timeouts, and failures. Each training event acts in its own state or phase and leads to the next:
DETECT with a signal to ALIGN, ALIGN to CONFIG when the lane of an x1 has locked, CONFIG to EQ at the agreed rate and width, and without a
width records the far end alone until the timeout takes it to FAILED, EQ to VERIFY once this end and the far end are done, at 4,096
requests on a lane, or at 5 ms, VERIFY to INIT or to ALIGN at the rate below, INIT to UP with the credits offered. The timeouts lead on or
to FAILED, FAILED returns to DETECT, RETRAIN to DETECT. In another state an event changes nothing. A peer with this node's ID and another
serial disables the tether. A lane past the trained width loses its lock bit. A bucket moves once nothing of it is in flight and its old
tether is not in grace. Forms for which a clause concludes that exec answers a next state with the effect named, from conditions on the
state and operands alone: configTimeout, eqDone, eqTimeout, initTimeout, failedTimeout, detectExit, blockLockAcquired, blockLockLost,
alignTimeout, configAgreed, eqLimit, verifyEnd, init, retrainTimeout, bucketMove. (06_cytrum_link.md, 08_routing_and_hierarchies.md) -/
def Obligations.TetherTraining : Prop :=
  ∀ s : State, s.Inv →
    (∀ (p : Port), s.cyState p = cyConfig → s.does (.configTimeout p) ((s.advTo (s.rd (CYTX_STATE_AT p) + ms)).cyFail p) []) ∧
    (∀ (p : Port), s.cyState p ≠ cyConfig → s.does (.configTimeout p) s []) ∧
    (∀ (p : Port), s.cyState p = cyEq → s.does (.eqDone p) ((s.wr (CYTX_EQ_FAR p) 1).settleEq p) []) ∧
    (∀ (p : Port), s.cyState p ≠ cyEq → s.does (.eqDone p) s []) ∧
    (∀ (p : Port), s.cyState p = cyEq → s.settleEq p = (if s.on (CYTX_EQ_FAR p) = true ∧ s.ownDone p = true then s.endEq p else s)) ∧
    (∀ (p : Port), s.cyState p = cyEq → s.does (.eqTimeout p) ((s.advTo (s.rd (CYTX_STATE_AT p) + 5 * ms)).endEq p) []) ∧
    (∀ (p : Port), s.cyState p ≠ cyEq → s.does (.eqTimeout p) s []) ∧
    (∀ (p : Port), s.cyState p = cyInit → s.does (.initTimeout p) ((s.advTo (s.rd (CYTX_STATE_AT p) + 100 * us)).cyFail p) []) ∧
    (∀ (p : Port), s.cyState p ≠ cyInit → s.does (.initTimeout p) s []) ∧
    (∀ (p : Port), s.cyState p = cyFailed → s.does (.failedTimeout p) ((s.advTo (s.rd (CYTX_STATE_AT p) + 100 * ms)).trainAnew p) []) ∧
    (∀ (p : Port), s.cyState p ≠ cyFailed → s.does (.failedTimeout p) s []) ∧
    (∀ (p : Port) (st : Nat), st < 16 → (s.setCy p st).cyState p = st ∧
      (s.setCy p st).rd (CYTX_STATE_AT p) = s.now % 2 ^ (CYTX_STATE_AT p).width ∧ (s.cyFail p).cyState p = cyFailed ∧
      (s.trainAnew p).cyState p = cyDetect ∧ (s.trainAnew p).rd (PRT_CYT_STATUS_RATE p) = 8 ∧ (s.endEq p).cyState p = cyVerify) ∧
    (∀ (p : Port), s.cyState p = cyDetect → ((s.portLanes p).any fun l => !s.on (LAN_STATUS_LOS l)) = true →
      s.completes (.detectExit p) fun t => t.cyState p = cyAlign ∧ t.rd (CYTX_LOCKED p) = 0 ∧ s.keepsMem t ∧ t.out = s.out) ∧
    (∀ (p : Port), s.cyState p ≠ cyDetect → s.does (.detectExit p) s []) ∧
    (∀ (l : Lane) (i : Bool) (p : Nat), s.ownerOf l = some p → p < 128 → s.on (LAN_STATUS_CYTRUM l) = true → s.cyState p = cyAlign →
      s.rd (PRT_CFG_WIDTH p) = 0 → s.rd (PRT_CYT_STATUS_RATE p) = 8 → s.on (LANX_RXFORCE l) = false →
      l.val = 16 * (p / 8) + s.rd (PRT_CFG_FIRST_OFFSET p) → s.rd (CYTX_LOCKED p) = 0 → s.rd (LANX_HIST_N l) = 64 → s.rd (LANX_HIST l) = 0 →
      s.completes (.blockLockAcquired l i) fun t => t.cyState p = cyConfig ∧ t.rd (CYTX_LOCKED p) = 1 ∧
      t.rd (LAN_STATUS_RX_INVERTED l) = b2n i ∧ s.keepsMem t) ∧
    (∀ (l : Lane) (i : Bool), (s.ownerOf l = none ∨ s.rd (LANX_HIST_N l) ≠ 64 ∨ s.rd (LANX_HIST l) ≠ 0) →
      s.does (.blockLockAcquired l i) s []) ∧
    (∀ (l : Lane) (p : Nat), s.ownerOf l = some p → s.holdsLock l = true → (s.on (LAN_STATUS_LOL l) = true ∨ s.wsMasked l = true) →
      s.rd (PRT_CYT_STATUS_WIDTH p) ≤ s.rd (LAN_STATUS_LOGICAL_LANE l) → p < 128 → 16 ≤ s.badHeaders l →
      s.does (.blockLockLost l) s [(LAN_STATUS_LOL l, 1),
      (CYTX_LOCKED p, clrBit (s.rd (CYTX_LOCKED p)) (l.val - 16 * (p / 8) - s.rd (PRT_CFG_FIRST_OFFSET p))), (LANX_HIST l, 0),
      (LANX_HIST_N l, 0)]) ∧
    (∀ (l : Lane) (p : Nat), s.ownerOf l = some p → s.holdsLock l = true → (s.on (LAN_STATUS_LOL l) = false ∧
      s.wsMasked l = false ∨ s.rd (LAN_STATUS_LOGICAL_LANE l) < s.rd (PRT_CYT_STATUS_WIDTH p)) → 16 ≤ s.badHeaders l →
      s.does (.blockLockLost l) ((((s.lolAssert l).wrs [(CYTX_LOCKED p, clrBit ((s.lolAssert l).rd (CYTX_LOCKED p)) ((s.lolAssert l).laneIndex p l)), (LANX_HIST l, 0), (LANX_HIST_N l, 0)])).loseLink p 1) []) ∧
    (∀ (l : Lane), (s.ownerOf l = none ∨ s.holdsLock l = false ∨ s.badHeaders l < 16) → s.does (.blockLockLost l) s []) ∧
    (∀ (p : Port), s.cyState p = cyAlign → bitSet (s.rd (CYTX_LOCKED p)) 0 = true →
      s.does (.alignTimeout p false) ((s.advTo (s.rd (CYTX_STATE_AT p) + 2 * ms)).setCy p cyConfig) []) ∧
    (∀ (p : Port), s.cyState p = cyAlign → bitSet (s.rd (CYTX_LOCKED p)) 0 = false →
      s.does (.alignTimeout p false) ((s.advTo (s.rd (CYTX_STATE_AT p) + 2 * ms)).cyFail p) []) ∧
    (∀ (p : Port) (r : Bool), s.phase p ≠ cyAlign → s.does (.alignTimeout p r) s []) ∧
    (∀ (p : Port) (node : Option Node) (serial : BitVec 64) (rates : BitVec 4) (fw : Fin 17) (fl : BitVec 16) (rev : Bool), s.phase p ≠ cyConfig → s.does (.configAgreed p node serial rates fw fl rev) s []) ∧
    (∀ (p : Port) (n : Node) (serial : BitVec 64) (rates : BitVec 4) (fw : Fin 17) (fl : BitVec 16) (rev : Bool), s.cyState p = cyConfig →
      s.on MGT_NODE_ID_NODE_VALID = true → s.rd MGT_NODE_ID_NODE_ID = n.val → serial ≠ Config.serial →
      s.completes (.configAgreed p (some n) serial rates fw fl rev) fun t => t.cyState p = cyDisabled ∧
      t.rd (PRT_CYT_EVENT_NODE_CONFLICT p) = 1 ∧ t.rd (PRT_CYT_STATUS_RATE p) = 15 ∧ t.rd (PRT_CYT_STATUS_PEER_NODE p) = n.val ∧
      s.keepsMem t) ∧
    (∀ (p : Port) (node : Option Node) (serial : BitVec 64) (rates : BitVec 4) (fw : Fin 17) (fl : BitVec 16) (rev : Bool), s.cyState p = cyConfig → s.on MGT_NODE_ID_NODE_VALID = false → s.on (PRT_CYT_STATUS_IN_GRACE p) = false → s.trainedWidth p rev fw fl.toNat ≠ 0 → targetRate (s.ratesNow p &&& rates.toNat) ≠ 0 → s.completes (.configAgreed p node serial rates fw fl rev) fun t => t.cyState p = cyEq ∧ t.rd (PRT_CYT_STATUS_WIDTH p) = s.trainedWidth p rev fw fl.toNat ∧ t.rd (PRT_CYT_STATUS_RATE p) = targetRate (s.ratesNow p &&& rates.toNat) ∧ t.rd (PRT_CYT_STATUS_PEER_VALID p) = b2n node.isSome ∧ t.rd (CYTX_SERIAL p) = serial.toNat ∧ s.keepsMem t) ∧
    (∀ (p : Port) (serial : BitVec 64) (rates : BitVec 4) (fw : Fin 17) (fl : BitVec 16) (rev : Bool), s.cyState p = cyConfig →
      s.on (PRT_CYT_STATUS_IN_GRACE p) = false → s.trainedWidth p (rev && decide (0 < s.rd (PRT_CFG_WIDTH p))) fw fl.toNat = 0 →
      s.does (.configAgreed p none serial rates fw fl rev) s [(PRT_CYT_STATUS_PEER_NODE p, 0), (PRT_CYT_STATUS_PEER_VALID p, 0),
      (CYTX_SERIAL p, serial.toNat), (CYTX_SERIAL_OK p, 1)]) ∧
    (∀ (l : Lane) (p : Nat), s.ownerOf l = some p → s.on (LAN_STATUS_CYTRUM l) = true → s.cyState p = cyEq → s.rd (LANX_REQ_N l) = 4096 →
      s.does (.eqLimit l) ((s.wr (LAN_EQ_STATUS_EQ_LIMIT l) 1).endEq p) []) ∧
    (∀ (l : Lane), s.rd (LANX_REQ_N l) ≠ 4096 → s.does (.eqLimit l) s []) ∧
    (∀ (l : Lane), s.ownerOf l = none → s.does (.eqLimit l) s []) ∧
    (∀ (p : Port), s.cyState p = cyVerify → s.on (CYTX_VBAD p) = false → s.completes (.verifyEnd p false) fun t => t.cyState p = cyInit ∧
      t.now = max s.now (s.rd (CYTX_SUB_AT p) + ms) ∧ t.rd (CYTX_CRED_DUE p) = 2 ∧ s.keepsMem t ∧ t.out = s.out) ∧
    (∀ (p : Port), s.cyState p = cyVerify → 10 ≤ s.rd (PRT_CYT_STATUS_RATE p) → s.rd (PRT_CYT_STATUS_RATE p) ≤ 11 →
      s.completes (.verifyEnd p true) fun t => t.cyState p = cyAlign ∧ t.rd (PRT_CYT_STATUS_RATE p) = s.rd (PRT_CYT_STATUS_RATE p) - 1 ∧
      bitSet (t.rd (CYTX_RATES p)) (s.rd (PRT_CYT_STATUS_RATE p) - 8) = false ∧ t.rd (PRT_CYT_EVENT_RATE_FALLBACK p) = 1 ∧ s.keepsMem t) ∧
    (∀ (p : Port), s.cyState p = cyVerify → s.rd (PRT_CYT_STATUS_RATE p) = 9 → s.completes (.verifyEnd p true) fun t =>
      t.cyState p = cyFailed ∧ s.keepsMem t) ∧
    (∀ (p : Port) (bad : Bool), s.phase p ≠ cyVerify → s.does (.verifyEnd p bad) s []) ∧
    (∀ (p : Port) (node : Option Node) (gen : BitVec 8) (next : BitVec 16) (cred : BitVec 256), s.phase p ≠ cyInit → s.tetherUp p = false →
      s.does (.init p node gen next cred) s []) ∧
    (∀ (p : Port) (node : Option Node) (gen : BitVec 8) (next : BitVec 16) (cred : BitVec 256), s.rd (PRT_CFG_MODE p) = 3 →
      s.cyState p = cyInit → s.rd (PRT_CYT_STATUS_GEN p) = gen.toNat → s.rd (CYTX_WANT p) = 0 →
      s.completes (.init p node gen next cred) fun t => t.cyState p = cyUp ∧ t.rd (PRT_CYT_EVENT_UP p) = 1 ∧
      t.rd (PRT_CYT_STATUS_IN_GRACE p) = 0 ∧ t.rd (PRT_CYT_STATUS_PEER_VALID p) = b2n node.isSome ∧ (∀ n, node = some n →
      t.rd (PRT_CYT_STATUS_PEER_NODE p) = n.val) ∧ t.rd (CYTX_FRESH p) = 0 ∧ (s.on (CYTX_FRESH p) = true →
      ∀ k < 8, t.rd (PRT_CYT_CRED_TX_LIM_HDR p k) = (creditOf cred k).1 ∧ t.rd (PRT_CYT_CRED_TX_LIM_DATA p k) = (creditOf cred k).2 ∧
      t.rd (PRT_CYT_CRED_TX_CONS_HDR p k) = 0) ∧ s.keepsMem t) ∧
    (∀ (p : Port), s.cyState p = cyRetrain → s.rd (CYTX_REQ p) = 0 → s.rd (CYTX_FARREQ p) = 0 →
      s.does (.retrainTimeout p) ((s.advTo (s.rd (CYTX_STATE_AT p) + ms)).enterDetect p) []) ∧
    (∀ (p : Port), s.cyState p ≠ cyRetrain → s.does (.retrainTimeout p) s []) ∧
    (∀ (n : Node) (b : BitVec 8), s.on (BKT_MOVE_PENDING (256 * n.val + b.toNat)) = true → s.inFlight (256 * n.val + b.toNat) = 0 →
      s.on (PRT_CYT_STATUS_IN_GRACE (s.bucketPort (256 * n.val + b.toNat))) = false →
      s.does (.bucketMove n b) s [(BKT_SLOT (256 * n.val + b.toNat), s.rd (BKT_MOVE_TO (256 * n.val + b.toNat))),
      (BKT_MOVE_PENDING (256 * n.val + b.toNat), 0), (BKTX_OLD (256 * n.val + b.toNat), 0)]) ∧
    (∀ (n : Node) (b : BitVec 8),
      (s.on (BKT_MOVE_PENDING (256 * n.val + b.toNat)) = false ∨ s.inFlight (256 * n.val + b.toNat) ≠ 0 ∨ s.on (PRT_CYT_STATUS_IN_GRACE (s.bucketPort (256 * n.val + b.toNat))) = true) → s.does (.bucketMove n b) s [])

/-- Tethers: units, credits, retransmission, loss of the link and the grace period. A unit in sequence is taken and one ahead of a gap is
stored and NAKed; one already received, of another generation or with a bad CRC is counted. A CREDIT block of the generation acknowledges
units and marks NAKed ones; one with bad parity loses the link, one of another generation changes nothing. The replay timer marks the
oldest unit; sixteen sends or eight expiries lose the link. A missing unit is NAKed again 2 us after its own last NAK. A lost link starts
a retrain and the grace period, whose end ends the generation, with nothing of the port left in the stages. A row slot takes the rows
received and sends what is due first: an IDLE row when nothing else is due, and nothing on a moored part. A lane marker in sequence
deskews, one out of sequence or with bad parity loses the link. Events for a tether that is not up change nothing. Forms for which a
clause concludes that exec answers a next state with the effect named, from conditions on the state and operands alone:
creditBlockReceived, replayTimeout, retxFatal, nakRepeat, creditBlockSend, rowSlot, laneMarker, linkLost, graceExpired, linkUnitReceived.
(06_cytrum_link.md) -/
def Obligations.TetherTraffic : Prop :=
  ∀ s : State, s.Inv →
    (∀ (p : Port) (ok : Bool) (gen : BitVec 8) (ack : BitVec 16) (naks : List (BitVec 16)) (cred : BitVec 256), s.tetherUp p = false →
      s.does (.creditBlockReceived p ok gen ack naks cred) s []) ∧
    (∀ (p : Port) (ok : Bool) (gen : BitVec 8) (ack : BitVec 16) (naks : List (BitVec 16)) (cred : BitVec 256), s.tetherUp p = true →
      s.mgmt.inject = [] → ok = true → gen.toNat ≠ s.rd (PRT_CYT_STATUS_GEN p) →
      s.does (.creditBlockReceived p ok gen ack naks cred) s []) ∧
    (∀ (p : Port) (ok : Bool) (gen : BitVec 8) (ack : BitVec 16) (naks : List (BitVec 16)) (cred : BitVec 256), s.tetherUp p = true →
      s.mgmt.inject = [] → ok = false → s.does (.creditBlockReceived p ok gen ack naks cred) (s.loseLink p 3) []) ∧
    (∀ (p : Port) (ok : Bool) (gen : BitVec 8) (ack : BitVec 16) (naks : List (BitVec 16)) (cred : BitVec 256), s.tetherUp p = true →
      s.mgmt.inject = [] → ok = true → gen.toNat = s.rd (PRT_CYT_STATUS_GEN p) →
      s.completes (.creditBlockReceived p ok gen ack naks cred) fun t => (∀ u ∈ t.tether.unacked, u.port = p →
      seqDist (ack.toNat + 1) u.seq = 0 ∨ 2048 < seqDist (ack.toNat + 1) u.seq) ∧ (∀ u ∈ t.tether.unacked, u.port = p →
      (∃ n ∈ naks.take 8, u.seq = n.toNat) → u.again = true) ∧ (∀ u ∈ s.tether.unacked, u.port ≠ p → u ∈ t.tether.unacked) ∧ t.out = s.out ∧
      s.keepsMem t) ∧
    (∀ (p : Port), (s.tether.unacked.find? fun u => u.port == p.val) = none → s.does (.replayTimeout p) s []) ∧
    (∀ (p : Port) (u : TUnit), (s.tether.unacked.find? fun u => u.port == p.val) = some u → s.tetherUp p = true →
      s.completes (.replayTimeout p) fun t => (∀ v ∈ t.tether.unacked, v.port = p → v.seq = u.seq → v.again = true) ∧
      t.rd (CYTX_REPLAY_N p) = (s.rd (CYTX_REPLAY_N p) + 1) % 2 ^ (CYTX_REPLAY_N p).width ∧
      t.now = max s.now (s.rd (CYTX_REPLAY_AT p) + us * s.rd (PRT_CYT_CFG_REPLAY_US p)) ∧ t.out = s.out) ∧
    (∀ (p : Port), 8 ≤ s.rd (CYTX_REPLAY_N p) → s.does (.retxFatal p) (s.loseLink p 5) []) ∧
    (∀ (p : Port), s.rd (CYTX_REPLAY_N p) < 8 → (s.tether.unacked.any fun u => u.port == p.val && decide (16 ≤ u.sends)) = false →
      s.does (.retxFatal p) s []) ∧
    (∀ (p : Port), (s.tetherUp p = false ∨ s.openGaps p = []) → s.does (.nakRepeat p) s []) ∧
    (∀ (p : Port) (q : Nat × Nat), s.tetherUp p = true → s.openGaps p = [q] → q.2 ≤ s.now →
      s.does (.nakRepeat p) (((s.advTo (q.2 + 2 * us)).nakNow p [q.1]).sendCredit p) []) ∧
    (∀ (p : Port), s.tetherUp p = true → s.does (.creditBlockSend p) (s.sendCredit p) []) ∧
    (∀ (p : Port), s.tetherUp p = false → s.does (.creditBlockSend p) s []) ∧
    (∀ (p : Port), s.moored = false → (s.tether.mgmt.find? fun x => x.1 == p.val) = none → s.rd (PRT_CFG_MODE p) = 3 → s.cyState p = cyUp →
      s.rd (PRT_CYT_STATUS_WIDTH p) < 4 → s.rd (CYTX_FILL_ROWS p) < 2046 → s.rd (CYTX_CRED_DUE p) = 0 → s.streamOf p = [] →
      (s.tether.unacked.any fun u => u.port == p.val) = false → (s.tether.sendq.any fun u => u.port == p.val) = false →
      s.doesThen (.rowSlot p []) [(CYTX_ELASTIC p, s.rd (CYTX_ELASTIC p) - 1),
      (CYTX_FILL_ROWS p, satInc (CYTX_FILL_ROWS p).width (s.rd (CYTX_FILL_ROWS p))),
      (CYTX_MARK_ROWS p, satInc (CYTX_MARK_ROWS p).width (s.rd (CYTX_MARK_ROWS p))),
      (CYTX_CRED_ROWS p, satInc (CYTX_CRED_ROWS p).width (s.rd (CYTX_CRED_ROWS p)))] (fun u => u.ctlNow p 0x0F)) ∧
    (∀ (p : Port) (rows : List (List Levels)), (s.moored = true ∨ s.rd (PRT_CFG_MODE p) ≠ 3 ∨ s.phase p = 0 ∨ 7 < s.phase p) →
      s.does (.rowSlot p rows) s []) ∧
    (∀ (p : Port) (rows : List (List Levels)), s.moored = false → s.rd (PRT_CFG_MODE p) = 3 → 1 ≤ s.phase p → s.phase p ≤ 7 →
      s.does (.rowSlot p rows) ((s.receiveRows p rows).sendSlot p) []) ∧
    (∀ (p : Port) (l : List CUnit), let v : TUnit := ⟨p, s.rd (PRT_CYT_TX_SEQ_NEXT_SEQ p), s.rd (PRT_CYT_STATUS_GEN p), l, 1, false⟩; (s.sendNew p l).rd (PRT_CYT_TX_SEQ_NEXT_SEQ p) = (s.rd (PRT_CYT_TX_SEQ_NEXT_SEQ p) + 1) % 2 ^ 16 ∧ (s.sendNew p l).tether.unacked = s.tether.unacked ++ [v] ∧ (s.sendNew p l).tether.sendq = s.tether.sendq ∧ (s.sendNew p l).streamOf p = s.streamOf p ++ unitBlocks v ∧ (s.sendNew p l).out = .unitSent v :: s.out) ∧
    (∀ (p : Port) (n : BitVec 32), s.tetherUp p = true → 4 ≤ s.rd (PRT_CYT_STATUS_WIDTH p) → s.mgmt.inject = [] →
      (s.rd (CYTX_MARK_RX p) = 0 ∨ s.rd (CYTX_MARK_RX p) = n.toNat + 1) →
      s.does (.laneMarker p true true n) s [(CYTX_MARK_RX p, (n.toNat + 1) % 2 ^ 32 + 1), (CYTX_DESKEW p, 1)]) ∧
    (∀ (p : Port) (n : BitVec 32) (ok : Bool), s.tetherUp p = true → 4 ≤ s.rd (PRT_CYT_STATUS_WIDTH p) → s.mgmt.inject = [] →
      s.does (.laneMarker p true false n) (s.loseLink p 4) [] ∧ s.does (.laneMarker p false ok n) (s.loseLink p 3) []) ∧
    (∀ (p : Port) (a b : Bool) (n : BitVec 32), s.tetherUp p = false → s.does (.laneMarker p a b n) s []) ∧
    (∀ (p : Port) (k : Fin 6), s.tetherUp p = false → s.does (.linkLost p k) s []) ∧
    (∀ (p : Port) (k : Fin 6), s.tetherUp p = true → s.rd (PRT_CYT_CFG_GRACE_MS p) ≠ 0 → s.completes (.linkLost p k) fun t =>
      t.cyState p = cyRetrain ∧ t.rd (PRT_CYT_EVENT_LINK_LOST p) = 1 ∧ t.rd (PRT_CYT_STATUS_IN_GRACE p) = 1 ∧
      t.rd (CYTX_GRACE_END p) = (s.now + s.rd (PRT_CYT_CFG_GRACE_MS p) * ms + 1) % 2 ^ (CYTX_GRACE_END p).width ∧
      t.rd (PRT_CYT_GRACE_COUNT_GRACE_START p) = satInc (PRT_CYT_GRACE_COUNT_GRACE_START p).width (s.rd (PRT_CYT_GRACE_COUNT_GRACE_START p)) ∧ t.tether = s.tether ∧ t.out = s.out ∧ s.keepsMem t) ∧
    (∀ (p : Port), s.on (PRT_CYT_STATUS_IN_GRACE p) = true →
      s.does (.graceExpired p) ((s.advTo (s.rd (CYTX_GRACE_END p) - 1)).expireGrace p (s.nextGen p)) []) ∧
    (∀ (p : Port), s.on (PRT_CYT_STATUS_IN_GRACE p) = false → s.does (.graceExpired p) s []) ∧
    (∀ (p : Port) (g : Nat), g < 256 → s.outst = [] → s.switch.txq = [] → s.switch.made = [] →
      (s.endGeneration p g).1.rd (PRT_CYT_STATUS_GEN p) = g ∧ (s.endGeneration p g).1.rd (PRT_CYT_TX_SEQ_NEXT_SEQ p) = 0 ∧
      (s.endGeneration p g).1.rd (PRT_CYT_RX_SEQ_NEXT_EXPECTED p) = 0 ∧ (s.endGeneration p g).1.rd (CYTX_FRESH p) = 1 ∧
      (∀ u ∈ (s.endGeneration p g).1.tether.unacked, u.port ≠ p) ∧ (∀ u ∈ (s.endGeneration p g).1.tether.sendq, u.port ≠ p) ∧
      (∀ x ∈ (s.endGeneration p g).1.tether.reorder, x.1 ≠ p)) ∧
    (∀ (p : Port) (u : RxUnit), s.bridle.held = [] → s.tetherUp p = false → s.does (.linkUnitReceived p u) s []) ∧
    (∀ (p : Port) (u : RxUnit), s.bridle.held = [] → s.tetherUp p = true → s.mgmt.inject = [] → u.crcOk = false →
      s.does (.linkUnitReceived p u) s [(PRT_CYT_ERR_COUNT_CRC_ERR p, satInc (PRT_CYT_ERR_COUNT_CRC_ERR p).width (s.rd (PRT_CYT_ERR_COUNT_CRC_ERR p)))]) ∧
    (∀ (p : Port) (u : RxUnit), s.bridle.held = [] → s.tetherUp p = true → s.mgmt.inject = [] → u.crcOk = true →
      u.gen.toNat ≠ s.rd (PRT_CYT_STATUS_GEN p) →
      s.does (.linkUnitReceived p u) s [(PRT_CYT_DROP_COUNT_STALE p, satInc (PRT_CYT_DROP_COUNT_STALE p).width (s.rd (PRT_CYT_DROP_COUNT_STALE p)))]) ∧
    (∀ (p : Port) (u : RxUnit), s.bridle.held = [] → s.tetherUp p = true → s.mgmt.inject = [] → u.crcOk = true →
      u.gen.toNat = s.rd (PRT_CYT_STATUS_GEN p) → s.on (PRT_CYT_STATUS_PEER_VALID p) = false →
      seqDist u.seq.toNat (s.rd (PRT_CYT_RX_SEQ_NEXT_EXPECTED p)) = 0 → u.segs = [] → (s.tether.reorder.any fun x => x.1 == p.val) = false →
      s.completes (.linkUnitReceived p u) fun t => t.rd (PRT_CYT_RX_SEQ_NEXT_EXPECTED p) = (u.seq.toNat + 1) % 2 ^ 16 ∧
      1 ≤ t.rd (CYTX_CRED_DUE p) ∧ t.tether = s.tether ∧ t.out = s.out ∧ s.keepsMem t) ∧
    (∀ (p : Port) (u : RxUnit), s.bridle.held = [] → s.tetherUp p = true → s.mgmt.inject = [] → u.crcOk = true →
      u.gen.toNat = s.rd (PRT_CYT_STATUS_GEN p) → s.on (PRT_CYT_STATUS_PEER_VALID p) = false →
      0 < seqDist u.seq.toNat (s.rd (PRT_CYT_RX_SEQ_NEXT_EXPECTED p)) → seqDist u.seq.toNat (s.rd (PRT_CYT_RX_SEQ_NEXT_EXPECTED p)) < 512 →
      (s.tether.reorder.any fun x => x.1 == p.val) = false → s.completes (.linkUnitReceived p u) fun t =>
      t.tether.reorder = s.tether.reorder ++ [(p.val, u)] ∧ t.rd (CYTX_CRED_DUE p) = 2 ∧
      t.rd (PRT_CYT_RX_SEQ_NEXT_EXPECTED p) = s.rd (PRT_CYT_RX_SEQ_NEXT_EXPECTED p) ∧
      t.rd (PRT_CYT_RETX_COUNT_NAK_SENT p) = min (2 ^ (PRT_CYT_RETX_COUNT_NAK_SENT p).width - 1) (s.rd (PRT_CYT_RETX_COUNT_NAK_SENT p) + seqDist u.seq.toNat (s.rd (PRT_CYT_RX_SEQ_NEXT_EXPECTED p))) ∧ s.keepsMem t) ∧
    (∀ (p : Port) (u : RxUnit), s.bridle.held = [] → s.tetherUp p = true → s.mgmt.inject = [] → u.crcOk = true →
      u.gen.toNat = s.rd (PRT_CYT_STATUS_GEN p) → s.on (PRT_CYT_STATUS_PEER_VALID p) = false →
      32768 ≤ seqDist u.seq.toNat (s.rd (PRT_CYT_RX_SEQ_NEXT_EXPECTED p)) →
      s.does (.linkUnitReceived p u) s [(PRT_CYT_DUP_COUNT_DUP p, satInc (PRT_CYT_DUP_COUNT_DUP p).width (s.rd (PRT_CYT_DUP_COUNT_DUP p))),
      (CYTX_CRED_DUE p, 2)]) ∧
    (∀ (p : Port), (s.tether.unacked.any fun u => u.port == p.val && decide (16 ≤ u.sends)) = true →
      s.does (.retxFatal p) (s.loseLink p 5) [])

/-- Requests between the ends of a tether, joining and leaving the fabric, and the tether commands. A retrain or width request of the far end
starts a retrain, and of two at once the one that R295 names goes on, with COLLISION for the other and its WITHDRAW queued behind the
training rows. The manager answers a JOIN_REQ with a free node ID, or refuses a serial number it has; the request is repeated each second;
JOIN_ACCEPT gives the node its ID, JOIN_REFUSE stops asking on every tether, and on a node that has an ID both change nothing; LEAVE and
SHUTDOWN take a neighbour out. PORT_TETHER_SET and the width request act on a tether and FABRIC_NODE_READ answers; PORT_TETHER_SET of
another port answers BAD_PARAMETER, a width request while one runs BUSY. Forms for which a clause concludes that exec answers a next state
with the effect named, from conditions on the state and operands alone: retrainReq, widthReq, withdraw, joinReq, joinReqRepeat,
joinAccept, joinRefuse, leave, leaveAck, shutdown, portTetherSet, portLinkWidthRequest, fabricNodeRead. (06_cytrum_link.md,
15_command_packets.md) -/
def Obligations.FabricMembership : Prop :=
  ∀ s : State, s.Inv →
    (∀ (p : Port), s.rd (CYTX_REQ p) = 0 → s.tetherUp p = true → s.completes (.retrainReq p) fun t => t.cyState p = cyRetrain ∧
      t.rd (CYTX_FARREQ p) = 1 ∧ t.out = s.out ∧ s.keepsMem t) ∧
    (∀ (p : Port), s.rd (CYTX_REQ p) = 0 → s.tetherUp p = false → s.does (.retrainReq p) s []) ∧
    (∀ (p : Port) (k : Fin 5), s.rd (CYTX_REQ p) = 0 → s.tetherUp p = true → s.completes (.widthReq p k) fun t => t.cyState p = cyRetrain ∧
      t.rd (CYTX_FARREQ p) = 2 ∧ t.rd (CYTX_WIDTH_LIMIT p) = 2 ^ k.val ∧ s.keepsMem t) ∧
    (∀ (p : Port) (k : Fin 5), s.rd (CYTX_REQ p) ≠ 0 → s.farWins p = false → s.does (.widthReq p k) s [(CYTX_FARREQ p, 2)]) ∧
    (∀ (p : Port) (k : Fin 5), s.rd (CYTX_REQ p) ≠ 0 → s.farWins p = true → 1 ≤ s.phase p → s.phase p ≤ 5 →
      s.completes (.widthReq p k) fun t => t.rd (CYTX_FARREQ p) = 2 ∧ t.rd (CYTX_REQ p) = 0 ∧
      t.rd (CYTX_WANT p) = s.rd (CYTX_REQ p) % 2 ^ (CYTX_WANT p).width ∧ t.rd (PRT_CYT_EVENT_COLLISION p) = 1 ∧
      t.tether.mgmt = s.tether.mgmt ++ [(p.val, 4, 0)] ∧ s.keepsMem t) ∧
    (∀ (p : Port), s.does (.withdraw p) s [(CYTX_FARREQ p, 0)]) ∧
    (∀ (p : Port) (n : BitVec 64), (s.tetherUp p = false ∨ s.on MGT_NODE_ID_NODE_VALID = false) → s.does (.joinReq p n) s []) ∧
    (∀ (p : Port) (n : BitVec 64) (k : Nat), s.tetherUp p = true → s.on MGT_NODE_ID_NODE_VALID = true → s.isManager = true →
      (s.mgmt.nodes.any fun x => x.2.1 == n.toNat && bitSet x.2.2 0) = false → s.freeNode = some k →
      s.does (.joinReq p n) (if n = Config.serial then s.linkMgmt p 7 2 else (s.setNode k n.toNat 1).linkMgmt p 6 k) []) ∧
    (∀ (p : Port) (n : BitVec 64), s.tetherUp p = true → s.on MGT_NODE_ID_NODE_VALID = true → s.isManager = true → (s.mgmt.nodes.any fun x =>
      x.2.1 == n.toNat && bitSet x.2.2 0) = true → s.does (.joinReq p n) (s.linkMgmt p 7 2) []) ∧
    (∀ (p : Port), s.rd (CYTX_JOIN_AT p) ≠ 0 → s.tetherUp p = true → s.on MGT_NODE_ID_NODE_VALID = false →
      s.completes (.joinReqRepeat p) fun t => t.now = max s.now (s.rd (CYTX_JOIN_AT p) - 1 + sec) ∧
      t.rd (CYTX_JOIN_AT p) = (t.now + 1) % 2 ^ (CYTX_JOIN_AT p).width ∧ s.out.length < t.out.length ∧ s.keepsMem t) ∧
    (∀ (p : Port), s.rd (CYTX_JOIN_AT p) = 0 → s.does (.joinReqRepeat p) s []) ∧
    (∀ (p : Port) (n : Node), s.on MGT_NODE_ID_NODE_VALID = false → s.completes (.joinAccept p n) fun t =>
      t.rd MGT_NODE_ID_NODE_ID = n.val ∧ t.rd MGT_NODE_ID_NODE_VALID = 1 ∧ t.rd MGT_NODE_ID_SOURCE = 3 ∧ t.rd (PRT_CYT_EVENT_JOINED p) = 1 ∧
      s.keepsMem t) ∧
    (∀ (p : Port) (n : Node), s.on MGT_NODE_ID_NODE_VALID = true → s.does (.joinAccept p n) s []) ∧
    (∀ (p : Port) (r : BitVec 8), s.on MGT_NODE_ID_NODE_VALID = false → s.completes (.joinRefuse p r) fun t =>
      ∃ u : State, t = u.logUncoded p r.toNat 0 ∧ (s.eachTether (fun _ => true) fun q v => v.wrs [(CYTX_JOIN_OFF q, 1),
      (CYTX_JOIN_AT q, 0)]).writes u [(PRT_CYT_EVENT_JOIN_REFUSED p, 1), (CYTX_REFUSED p, r.toNat)]) ∧
    (∀ (p : Port) (r : BitVec 8), s.on MGT_NODE_ID_NODE_VALID = true → s.does (.joinRefuse p r) s []) ∧
    (∀ (p : Port), s.tetherUp p = true → s.on (PRT_CYT_STATUS_PEER_VALID p) = true → s.completes (.leave p) fun t =>
      t.rd (CYTX_LEAVING p) = 1 ∧ t.rd (NRTX_LEAVING (s.rd (PRT_CYT_STATUS_PEER_NODE p))) = 1 ∧
      t.reachable (s.rd (PRT_CYT_STATUS_PEER_NODE p)) = false ∧ s.out.length < t.out.length ∧ s.keepsMem t) ∧
    (∀ (p : Port), s.tetherUp p = false → s.does (.leave p) s []) ∧
    (∀ (p : Port), s.does (.leaveAck p) s [(CYTX_LEAVE_ACKED p, 1)]) ∧
    (∀ (p : Port), s.tetherUp p = true → s.completes (.shutdown p) fun t => t.cyState p = cyLeft ∧ t.rd (PRT_CYT_EVENT_LEFT p) = 1 ∧
      (∀ u ∈ t.tether.unacked, u.port ≠ p) ∧ (s.on (PRT_CYT_STATUS_PEER_VALID p) = true →
      (t.nodeEntry (s.rd (PRT_CYT_STATUS_PEER_NODE p))).2 = 2) ∧ t.out = s.out ∧ s.keepsMem t) ∧
    (∀ (p : Port), s.tetherUp p = false → s.does (.shutdown p) s []) ∧
    (∀ (c : Cmd), s.ready 0x0203 c = true → onlyM (s.issuer c.path) = true → (cleanCmd c ([(0, 8), (8, 8), (16, 8),
      (32, 16)] ++ (List.range 8).map fun t =>
      (64 + 32 * t, 28)) true && decide (parBytes c 0 1 < 128) && decide (parBytes c 1 1 ≤ 100) && decide (1 ≤ parBytes c 2 1) && decide (parBytes c 2 1 ≤ 100) && (!opFlag c || decide (((List.range 8).map fun t => parBits c (64 + 32 * t + 16) 12).sum ≤ 2048) && decide (((List.range 8).map fun t => parBits c (64 + 32 * t) 16).sum ≤ 16384))) = true → (s.portBusy (parBytes c 0 1)) = false → s.rd (PRT_CFG_MODE (parBytes c 0 1)) = 3 → opFlag c = false → s.answers (.portTetherSet c) 0x0203 c 0 s [(PRT_CYT_CFG_GRACE_MS (parBytes c 0 1), parBytes c 1 1), (PRT_CYT_CFG_REPLAY_US (parBytes c 0 1), parBytes c 2 1), (PRT_CYT_ASYM_ASYM (parBytes c 0 1), parBytes c 4 2)]) ∧
    (∀ (c : Cmd), s.ready 0x0203 c = true → onlyM (s.issuer c.path) = true → (cleanCmd c ([(0, 8), (8, 8), (16, 8),
      (32, 16)] ++ (List.range 8).map fun t =>
      (64 + 32 * t, 28)) true && decide (parBytes c 0 1 < 128) && decide (parBytes c 1 1 ≤ 100) && decide (1 ≤ parBytes c 2 1) && decide (parBytes c 2 1 ≤ 100) && (!opFlag c || decide (((List.range 8).map fun t => parBits c (64 + 32 * t + 16) 12).sum ≤ 2048) && decide (((List.range 8).map fun t => parBits c (64 + 32 * t) 16).sum ≤ 16384))) = true → (s.portBusy (parBytes c 0 1)) = false → s.rd (PRT_CFG_MODE (parBytes c 0 1)) = 3 → opFlag c = true → s.answersWith (.portTetherSet c) 0x0203 c 0 fun t => t.rd (PRT_CYT_CFG_GRACE_MS (parBytes c 0 1)) = parBytes c 1 1 ∧ ∀ k < 8, t.rd (CYTN_HDR (parBytes c 0 1) k) = parBits c (64 + 32 * k + 16) 12 ∧ t.rd (CYTN_DATA (parBytes c 0 1) k) = parBits c (64 + 32 * k) 16) ∧
    (∀ (c : Cmd), s.ready 0x0203 c = true → onlyM (s.issuer c.path) = true → (cleanCmd c ([(0, 8), (8, 8), (16, 8),
      (32, 16)] ++ (List.range 8).map fun t =>
      (64 + 32 * t, 28)) true && decide (parBytes c 0 1 < 128) && decide (parBytes c 1 1 ≤ 100) && decide (1 ≤ parBytes c 2 1) && decide (parBytes c 2 1 ≤ 100) && (!opFlag c || decide (((List.range 8).map fun t => parBits c (64 + 32 * t + 16) 12).sum ≤ 2048) && decide (((List.range 8).map fun t => parBits c (64 + 32 * t) 16).sum ≤ 16384))) = true → s.rd (PRT_CFG_MODE (parBytes c 0 1)) ≠ 3 → exec (.portTetherSet c) s = .next (s.post c 0x0203 stBadParam 0 0 true)) ∧
    (∀ (c : Cmd), s.ready 0x0204 c = true → onlyM (s.issuer c.path) = true → (cleanCmd c [(0, 8), (8, 8),
      (16, 8)] false && parBytes c 1 1 == 1 && decide (parBytes c 0 1 < 128) && decide (parBytes c 2 1 ≤ 4)) = true →
      (s.rd (PRT_CFG_MODE (parBytes c 0 1)) != 3 || decide (s.rd (PRT_CFG_WIDTH (parBytes c 0 1)) < parBytes c 2 1)) = false →
      (s.portBusy (parBytes c 0 1)) = false → s.rd (CYTX_REQ (parBytes c 0 1)) = 0 → s.tetherUp (parBytes c 0 1) = true →
      s.answersWith (.portLinkWidthRequest c) 0x0204 c 0 fun t => t.cyState (parBytes c 0 1) = cyRetrain ∧
      t.rd (CYTX_REQ (parBytes c 0 1)) = 2 ∧ t.rd (CYTX_REQ_ARG (parBytes c 0 1)) = 2 ^ parBytes c 2 1 ∧
      t.widthLimit (parBytes c 0 1) = 2 ^ parBytes c 2 1 ∧ s.keepsMem t) ∧
    (∀ (c : Cmd), s.ready 0x0204 c = true → onlyM (s.issuer c.path) = true → (cleanCmd c [(0, 8), (8, 8),
      (16, 8)] false && parBytes c 1 1 == 1 && decide (parBytes c 0 1 < 128) && decide (parBytes c 2 1 ≤ 4)) = true →
      (s.rd (PRT_CFG_MODE (parBytes c 0 1)) != 3 || decide (s.rd (PRT_CFG_WIDTH (parBytes c 0 1)) < parBytes c 2 1)) = false →
      (s.rd (CYTX_REQ (parBytes c 0 1)) ≠ 0 ∨ s.portBusy (parBytes c 0 1) = true) →
      exec (.portLinkWidthRequest c) s = .next (s.post c 0x0204 stBusy 0 0 true)) ∧
    (∀ (c : Cmd), s.ready 0x0B03 c = true → onlyM (s.issuer c.path) = true →
      (cleanCmd c [(0, 8)] false && decide (parBytes c 0 1 < 64)) = true → s.on MGT_NODE_ID_NODE_VALID = false →
      s.answers (.fabricNodeRead c) 0x0B03 c ((s.nodeEntry (parBytes c 0 1)).2 + (s.nodeEntry (parBytes c 0 1)).1 * 2 ^ 64) s []) ∧
    (∀ (c : Cmd), s.ready 0x0B03 c = true → onlyM (s.issuer c.path) = true →
      (cleanCmd c [(0, 8)] false && decide (parBytes c 0 1 < 64)) = true → s.on MGT_NODE_ID_NODE_VALID = true →
      (parBytes c 0 1) = s.rd MGT_NODE_ID_NODE_ID → s.answers (.fabricNodeRead c) 0x0B03 c (1 + Config.serial.toNat * 2 ^ 64) s [])

/-- Requests from hosts, devices and other nodes: translation, checking and routing. A pool request to a host in reset or contained changes
nothing; one that function 1 does not accept is an Unsupported Request, a misaligned one Malformed; one held by a mooring or behind the
host's held requests waits; without an entry it counts a miss; one that the Bridle check denies gets a Completer Abort; else it is
translated by the entry that holds its offset, counted as a hit and offered to the pool. A request between ports is checked for its
source, the fence of its host and ACS, and is routed by a translation entry or upstream. A TLP of a host or a device is routed to the
position or the port it names, or refused; a PME_Turn_Off from the host turns its hierarchy off; a device request toward a host without
function 0 Bus Master Enable is refused; a posted request proxied for another node has a Requester ID of the proxy and tag 0. A TLP to a
fenced port is answered with the status of the fence, one over the maximum payload is Malformed. Requests of other nodes are fenced, held,
checked, translated and answered the same way; a TLP in transit from another node is offered to the tether of its bucket with its header
and payload as they came; without a route to its node, or with the route back to its own port, it is dropped and counted, and a non-posted
one is answered; a node without an ID passes none on. A quarantined tag is free again after twice the timeout. Forms for which a clause
concludes that exec answers a next state with the effect named, from conditions on the state and operands alone: poolRequest, peerRequest,
tlpIngress, remotePoolRequest, fabricPeerRequest, transitUnit, tagQuarantineExpire. (09_bridle_access_control.md,
08_routing_and_hierarchies.md, 12_ballast_pool.md) -/
def Obligations.OutsideRequests : Prop :=
  ∀ s : State, s.Inv →
    (∀ (h : Host) (r : MemReq), (s.on (HOSTF_IN_RESET h) = true ∨ s.contained 2 h = true) → s.awake = true →
      s.does (.poolRequest h r) (s.settleIngress s ((s.hostPort h).getD 128) r.op) []) ∧
    (∀ (h : Host) (r : MemReq), s.on (HOSTF_IN_RESET h) = false → s.contained 2 h = false →
      (s.f1Takes h = false ∨ s.inBar2 h r.addr.toNat = false ∨ r.ide = true ∨ sizedOp r.op = false) → s.awake = true →
      s.does (.poolRequest h r) ((s.unsupported h r).settleIngress s ((s.hostPort h).getD 128) r.op) []) ∧
    (∀ (h : Host) (r : MemReq), s.on (HOSTF_IN_RESET h) = false → s.contained 2 h = false → s.f1Takes h = true →
      s.inBar2 h r.addr.toNat = true → r.ide = false → sizedOp r.op = true → alignedOp r.addr.toNat r.op = false → s.awake = true →
      s.does (.poolRequest h r) ((s.f1Error h aerMalformed (detMem ((s.hostPort h).getD 0) r)).settleIngress s ((s.hostPort h).getD 128) r.op) []) ∧
    (∀ (h : Host) (r : MemReq), s.on (HOSTF_IN_RESET h) = false → s.contained 2 h = false → s.f1Takes h = true →
      s.inBar2 h r.addr.toNat = true → r.ide = false → sizedOp r.op = true → alignedOp r.addr.toNat r.op = true →
      s.gondFence h (r.pasid.map fun (x : BitVec 20) => x.toNat) = none → s.poolPaused = false → s.bridle.held = [] → s.switch.wait = [] →
      s.lookup 0 h (r.addr.toNat - s.rd (HOSTF_BAR2 h)) = none →
      (s.verdict ⟨clsTenant, spAperture, accessOf r.op, h, r.requester.toNat, r.pasid.map fun (x : BitVec 20) =>
      x.toNat, r.addr.toNat - s.rd (HOSTF_BAR2 h), accLen r.op, 0⟩) = none → s.awake = true →
      s.does (.poolRequest h r) ((((s.inc RTE_COUNT_XLAT_XLAT_MISS).wr RTE_EVENT_XLAT_MISS 1).missed h r).settleIngress s ((s.hostPort h).getD 128) r.op) []) ∧
    (∀ (h : Host) (r : MemReq) (i w : Nat) (v : Via), s.on (HOSTF_IN_RESET h) = false → s.contained 2 h = false → s.f1Takes h = true →
      s.inBar2 h r.addr.toNat = true → r.ide = false → sizedOp r.op = true → alignedOp r.addr.toNat r.op = true →
      s.gondFence h (r.pasid.map fun (x : BitVec 20) => x.toNat) = none → s.poolPaused = false → s.bridle.held = [] → s.switch.wait = [] →
      s.lookup 0 h (r.addr.toNat - s.rd (HOSTF_BAR2 h)) = some i →
      (s.verdict ⟨clsTenant, spAperture, accessOf r.op, h, r.requester.toNat, r.pasid.map fun (x : BitVec 20) =>
      x.toNat, r.addr.toNat - s.rd (HOSTF_BAR2 h), accLen r.op, 0⟩) = none → s.on (XLAT_REMOTE i) = false →
      viaOf (s.rd (XLAT_ALIAS i)) (s.translated i (r.addr.toNat - s.rd (HOSTF_BAR2 h))) r.op = some v →
      s.windowOf (s.translated i (r.addr.toNat - s.rd (HOSTF_BAR2 h))) r.op = some w → s.pastDrain = false → i < 65536 → s.awake = true →
      s.does (.poolRequest h r) (((s.inc (XLAT_HITS i)).submit ⟨0, h, v, s.translated i (r.addr.toNat - s.rd (HOSTF_BAR2 h)), r.op, r.requester.toNat, r.pasid.map fun (x : BitVec 20) => x.toNat, r.tag.toNat, w, 0, r.tc, (s.hostPort h).getD (128 + h)⟩).settleIngress s ((s.hostPort h).getD 128) r.op) []) ∧
    (∀ (h : Host) (r : MemReq) (i : Nat), s.on (HOSTF_IN_RESET h) = false → s.contained 2 h = false → s.f1Takes h = true →
      s.inBar2 h r.addr.toNat = true → r.ide = false → sizedOp r.op = true → alignedOp r.addr.toNat r.op = true →
      s.gondFence h (r.pasid.map fun (x : BitVec 20) => x.toNat) = none → s.poolPaused = false → s.bridle.held = [] → s.switch.wait = [] →
      s.lookup 0 h (r.addr.toNat - s.rd (HOSTF_BAR2 h)) = some i →
      (s.check ⟨clsTenant, spAperture, accessOf r.op, h, r.requester.toNat, r.pasid.map fun (x : BitVec 20) =>
      x.toNat, r.addr.toNat - s.rd (HOSTF_BAR2 h), accLen r.op, 0⟩).2 = false → s.on (XLAT_REMOTE i) = false → s.awake = true →
      s.does (.poolRequest h r) (((s.check ⟨clsTenant, spAperture, accessOf r.op, h, r.requester.toNat, r.pasid.map fun (x : BitVec 20) =>
      x.toNat, r.addr.toNat - s.rd (HOSTF_BAR2 h), accLen r.op, 0⟩).1.answerHost h r cplCA).settleIngress s ((s.hostPort h).getD 128) r.op) []) ∧
    (∀ (h : Host) (r : MemReq) (i : Nat), s.on (HOSTF_IN_RESET h) = false → s.contained 2 h = false → s.f1Takes h = true →
      s.inBar2 h r.addr.toNat = true → r.ide = false → sizedOp r.op = true → alignedOp r.addr.toNat r.op = true →
      s.gondFence h (r.pasid.map fun (x : BitVec 20) => x.toNat) = none →
      (s.poolPaused = true ∨ s.heldBefore (s.rd SYS_ORDER) (.pool h r) = true) → s.awake = true →
      s.does (.poolRequest h r) ((s.holdAs (s.rd SYS_ORDER) (.pool h r)).settleIngress s ((s.hostPort h).getD 128) r.op) []) ∧
    (∀ (i a : Nat), s.translated i a = s.rd (XLAT_TARGET_BASE i) + (a - s.rd (XLAT_MATCH_BASE i))) ∧
    (∀ (typ h a i : Nat), s.lookup typ h a = some i → i ∈ s.xlats ∧ s.rd (XLAT_TYPE i) = typ ∧ (typ ≠ 2 → s.rd (XLAT_HOST i) = h) ∧
      s.rd (XLAT_MATCH_BASE i) ≤ a ∧ a < s.rd (XLAT_MATCH_BASE i) + 2 ^ s.rd (XLAT_SIZE_LOG2 i)) ∧
    (∀ (h r : Nat) (q : MemReq), postedOp q.op = false → s.answerHost h q r = s.complete h q.requester.toNat q.tag.toNat r [] false q.tc ∧
      s.unsupported h q = s.complete h q.requester.toNat q.tag.toNat cplUR [] false q.tc ∧
      s.missed h q = s.complete h q.requester.toNat q.tag.toNat cplUR [] false q.tc) ∧
    (∀ (a : Nat) (n : Nat) (x y : Nat) (l : List (BitVec 8)), viaOf 0 a (.store l) = some .plain ∧ viaOf 1 a (.store l) = none ∧
      viaOf 2 a (.atomic .swap 8 x y) = some .sc ∧ viaOf 2 a (.read n) = none ∧ viaOf 1 a (.atomic .swap 8 x y) = none ∧
      viaOf 2 a (.atomic .cas 8 x y) = none) ∧
    (∀ (t : Tlp) (a : Fin 4) (op : MemOp), s.mapUp t.ingress t.requester = none → s.awake = true →
      s.does (.peerRequest t a op) (((((s.inc RTE_COUNT_XLAT_SV_FAIL).wr RTE_EVENT_SV_FAIL 1).recordNear t.ingress.val 0x0502 [(1, t.ingress.val)] 0 (detT t 0) []).refuseTlp t cplUR).settleIngress s t.ingress op) []) ∧
    (∀ (t : Tlp) (a : Fin 4) (op : MemOp) (k rid : Nat), s.mapUp t.ingress t.requester = some (k, rid) →
      (s.on (HOSTF_IN_RESET (k / 32)) = true ∨ s.contained 1 t.ingress = true) → s.awake = true →
      s.does (.peerRequest t a op) (s.settleIngress s t.ingress op) []) ∧
    (∀ (t : Tlp) (a : Fin 4) (op : MemOp) (k rid : Nat), s.mapUp t.ingress t.requester = some (k, rid) →
      s.on (HOSTF_IN_RESET (k / 32)) = false → s.contained 1 t.ingress = false → s.contained 2 (k / 32) = true → s.awake = true →
      s.does (.peerRequest t a op) ((s.fenceTlp { t with requester := rid, host := k / 32 } (2, k / 32)).settleIngress s t.ingress op) []) ∧
    (∀ (t : Tlp) (a : Fin 4) (op : MemOp) (k rid : Nat), s.mapUp t.ingress t.requester = some (k, rid) →
      s.on (HOSTF_IN_RESET (k / 32)) = false → s.contained 1 t.ingress = false → s.contained 2 (k / 32) = false →
      bitSet (s.rd (POSX_ACS k)) 1 = true → a ≠ 0 → s.awake = true →
      s.does (.peerRequest t a op) ((s.acsRefuse { t with requester := rid, host := k / 32 }).settleIngress s t.ingress op) []) ∧
    (∀ (t : Tlp) (a : Fin 4) (op : MemOp) (k rid up : Nat), s.mapUp t.ingress t.requester = some (k, rid) →
      s.on (HOSTF_IN_RESET (k / 32)) = false → s.contained 1 t.ingress = false → s.contained 2 (k / 32) = false → a = 0 →
      (s.f1Takes (k / 32) && s.inBar2 (k / 32) t.addr) = false → s.lookup 1 (k / 32) t.addr = none → ((s.siblings k).find? fun j =>
      s.inWindows j t.addr) = none → s.hostPort (k / 32) = some up → s.on (HOSTF_F0BME (k / 32)) = true → s.awake = true →
      s.does (.peerRequest t a op) ((s.ingress { t with requester := rid, host := k / 32, egress := Fin.ofNat 128 up }).settleIngress s t.ingress op) []) ∧
    (∀ (t : Tlp) (a : Fin 4) (op : MemOp) (k rid i : Nat), s.mapUp t.ingress t.requester = some (k, rid) →
      s.on (HOSTF_IN_RESET (k / 32)) = false → s.contained 1 t.ingress = false → s.contained 2 (k / 32) = false → a = 0 →
      (s.f1Takes (k / 32) && s.inBar2 (k / 32) t.addr) = false → s.lookup 1 (k / 32) t.addr = some i → s.on (XLAT_HONOUR_ACS i) = false →
      s.on (XLAT_REMOTE i) = false → s.checkerHeld = false → s.bridle.held = [] → s.switch.wait = [] → i < 65536 → s.awake = true →
      s.does (.peerRequest t a op) (((s.inc (XLAT_HITS i)).toPeer k { t with requester := rid, host := k / 32, addr := s.translated i t.addr } (s.rd (XLAT_TARGET_PORT i))).settleIngress s t.ingress op) []) ∧
    (∀ (k target : Nat) (t : Tlp), s.verdict ⟨clsTenant, spPeer, tlpAccess t, k / 32, t.requester, t.pasid, t.addr, max 1 t.payload, target⟩ = none → s.toPeer k t target = s.ingress { t with egress := Fin.ofNat 128 target }) ∧
    (∀ (t : Tlp), s.awake = true →
      s.does (.tlpIngress t true) ((s.inc (SWC_PORT_STOMP_STOMP_RX t.ingress)).leaveIngress (s.rd SYS_ORDER) t.ingress t) []) ∧
    (∀ (t : Tlp) (h : Nat), s.portHost t.ingress = some h → (isMessage t && bits t.hdr 56 8 == 0x19) = false → s.posToward h t = none →
      s.rd (PRT_CFG_MODE t.egress) ≠ 2 → s.awake = true →
      s.does (.tlpIngress t false) ((s.ingress { t with host := h } t).leaveIngress (s.rd SYS_ORDER) t.ingress t) []) ∧
    (∀ (t : Tlp) (h : Nat), s.portHost t.ingress = some h → (isMessage t && bits t.hdr 56 8 == 0x19) = false → s.posToward h t = none →
      s.rd (PRT_CFG_MODE t.egress) = 2 → t.kind ≠ .completion → s.awake = true →
      s.does (.tlpIngress t false) ((s.refuseTlp t cplUR).leaveIngress (s.rd SYS_ORDER) t.ingress t) []) ∧
    (∀ (t : Tlp) (h : Nat), s.portHost t.ingress = some h → isMessage t = true → bits t.hdr 56 8 = 0x19 → s.awake = true →
      s.does (.tlpIngress t false) ((s.turnOff h t.ingress).leaveIngress (s.rd SYS_ORDER) t.ingress t) []) ∧
    (∀ (t : Tlp), s.rd (PRT_CFG_MODE t.ingress) = 2 → t.kind ≠ .completion → s.mapUp t.ingress t.requester = none → s.awake = true →
      s.does (.tlpIngress t false) ((s.svFail t).leaveIngress (s.rd SYS_ORDER) t.ingress t) []) ∧
    (∀ (t : Tlp) (k rid : Nat), s.rd (PRT_CFG_MODE t.ingress) = 2 → s.rd (PRT_CFG_MODE t.egress) = 1 → t.kind ≠ .completion →
      t.dest = none → s.mapUp t.ingress t.requester = some (k, rid) → s.on (HOSTF_F0BME (k / 32)) = false → isMessage t = false →
      s.awake = true → s.does (.tlpIngress t false) ((s.bmeRefuse { t with requester := rid, host := k / 32 }).leaveIngress (s.rd SYS_ORDER) t.ingress t) []) ∧
    (∀ (t : Tlp) (k rid : Nat), s.rd (PRT_CFG_MODE t.ingress) = 2 → s.rd (PRT_CFG_MODE t.egress) = 1 → t.kind ≠ .completion →
      t.dest = none → s.mapUp t.ingress t.requester = some (k, rid) → s.on (HOSTF_F0BME (k / 32)) = true → s.awake = true →
      s.does (.tlpIngress t false) ((s.ingress { t with requester := rid, host := k / 32 }).leaveIngress (s.rd SYS_ORDER) t.ingress t) []) ∧
    (∀ (t : Tlp) (h k : Nat), s.portHost t.ingress = some h → (isMessage t && bits t.hdr 56 8 == 0x19) = false → s.posToward h t = some k →
      (s.on (POS_UNBINDING k) = false ∨ t.kind = .completion) → s.atomicBlocked k t = false → s.awake = true →
      s.does (.tlpIngress t false) ((s.ingress (s.crossDown k { t with host := h }) t).leaveIngress (s.rd SYS_ORDER) t.ingress t) []) ∧
    (∀ (k x : Nat), s.rd (POS_SEC_BUS k) ≤ x → x ≤ s.rd (POS_SUB_BUS k) → x - s.rd (POS_SEC_BUS k) < s.rd (POS_BUS_SPAN k) →
      s.rd (POS_SEC_BUS k) ≠ 0 → s.toFabric k x = some (s.rd (POS_FABRIC_BUS_BASE k) + (x - s.rd (POS_SEC_BUS k))) ∧
      s.toHost k (s.rd (POS_FABRIC_BUS_BASE k) + (x - s.rd (POS_SEC_BUS k))) = some x) ∧
    (∀ (t : Tlp) (f : Nat × Nat), t.dest = none → s.tlpFence t = some f → t.kind = .nonPosted → s.ingress t = s.fenceTlp t f ∧
      s.fenceTlp t f = (s.bump (DOMX_NP (domIdx f.1 f.2))).refuseTlp t (s.fenceStatus f)) ∧
    (∀ (t : Tlp), t.dest = none → s.tlpFence t = none → t.kind ≠ .completion → t.payload ≤ s.maxPayload t.egress →
      s.notExpressible t = false → s.ingress t = s.offer t) ∧
    (∀ (t : Tlp), t.dest = none → s.tlpFence t = none → t.kind ≠ .completion → s.maxPayload t.egress < t.payload →
      s.ingress t = s.uncorrectable t aerMalformed) ∧
    (∀ (p : Port) (n : Node) (r : MemReq), s.contained 5 n = true → postedOp r.op = false →
      s.does (.remotePoolRequest p n r) (State.consumePool ((s.bump (DOMX_NP (domIdx 5 n))).answerNode n r.requester.toNat r.tc r.tag.toNat cplCA 1) p (s.rd SYS_ORDER)) []) ∧
    (∀ (p : Port) (n : Node) (r : MemReq), s.contained 5 n = false → s.poolPaused = true →
      s.does (.remotePoolRequest p n r) (State.consumePool (s.holdAs (s.rd SYS_ORDER) (.remote p n r)) p (s.rd SYS_ORDER)) []) ∧
    (∀ (p : Port) (n : Node) (r : MemReq), s.contained 5 n = false → s.poolPaused = false → s.bridle.held = [] → s.switch.wait = [] →
      (s.check ⟨clsNode, spPool, accessOf r.op, n, r.requester.toNat, r.pasid.map fun (x : BitVec 20) =>
      x.toNat, r.addr.toNat % 2 ^ 40, accLen r.op, 0⟩).2 = false →
      s.does (.remotePoolRequest p n r) (State.consumePool ((s.check ⟨clsNode, spPool, accessOf r.op, n, r.requester.toNat, r.pasid.map fun (x : BitVec 20) => x.toNat, r.addr.toNat % 2 ^ 40, accLen r.op, 0⟩).1.refuseAcc ⟨0, 64 + n, .plain, r.addr.toNat % 2 ^ 40, r.op, r.requester.toNat, r.pasid.map fun (x : BitVec 20) => x.toNat, r.tag.toNat, 0, 0, r.tc, 128⟩ cplCA) p (s.rd SYS_ORDER)) []) ∧
    (∀ (p : Port) (n : Node) (r : MemReq) (v : Via) (w : Nat), s.contained 5 n = false → s.poolPaused = false → s.bridle.held = [] →
      s.switch.wait = [] → s.verdict ⟨clsNode, spPool, accessOf r.op, n, r.requester.toNat, r.pasid.map fun (x : BitVec 20) =>
      x.toNat, r.addr.toNat % 2 ^ 40, accLen r.op, 0⟩ = none → viaOf (r.addr.toNat / 2 ^ 40 % 4) (r.addr.toNat % 2 ^ 40) r.op = some v →
      s.windowOf (r.addr.toNat % 2 ^ 40) r.op = some w → sizedOp r.op = true → alignedOp (r.addr.toNat % 2 ^ 40) r.op = true →
      s.pastDrain = false →
      s.does (.remotePoolRequest p n r) (State.consumePool (s.submit ⟨0, 64 + n, v, r.addr.toNat % 2 ^ 40, r.op, r.requester.toNat, r.pasid.map fun (x : BitVec 20) => x.toNat, r.tag.toNat, w, 0, r.tc, 128⟩) p (s.rd SYS_ORDER)) []) ∧
    (∀ (p : Port) (n : Node) (r : MemReq), s.contained 5 n = false → s.poolPaused = false → s.bridle.held = [] → s.switch.wait = [] →
      s.verdict ⟨clsNode, spPool, accessOf r.op, n, r.requester.toNat, r.pasid.map fun (x : BitVec 20) =>
      x.toNat, r.addr.toNat % 2 ^ 40, accLen r.op, 0⟩ = none →
      (viaOf (r.addr.toNat / 2 ^ 40 % 4) (r.addr.toNat % 2 ^ 40) r.op = none ∨ s.windowOf (r.addr.toNat % 2 ^ 40) r.op = none) →
      postedOp r.op = false →
      s.does (.remotePoolRequest p n r) (State.consumePool (s.refuseAcc ⟨0, 64 + n, .plain, r.addr.toNat % 2 ^ 40, r.op, r.requester.toNat, r.pasid.map fun (x : BitVec 20) => x.toNat, r.tag.toNat, 0, 0, r.tc, 128⟩ cplUR) p (s.rd SYS_ORDER)) []) ∧
    (∀ (p : Port) (n : Node) (t : Tlp), s.contained 5 n = true → t.kind = .posted →
      s.does (.fabricPeerRequest p n t) (State.consumeRx (s.bump (DOMX_POSTED (domIdx 5 n))) p [0, 4]) []) ∧
    (∀ (p : Port) (n : Node) (t : Tlp), s.contained 5 n = false → s.checkerHeld = true →
      s.does (.fabricPeerRequest p n t) (State.consumeRx (s.holdAs (s.rd SYS_ORDER) (.fabric p n { t with ingress := p })) p [0, 4]) []) ∧
    (∀ (p : Port) (n : Node) (t : Tlp), s.contained 5 n = false → s.checkerHeld = false → s.bridle.held = [] → s.switch.wait = [] →
      s.lookup 2 0 t.addr = none → t.kind = .nonPosted →
      s.does (.fabricPeerRequest p n t) (State.consumeRx (((s.inc RTE_COUNT_XLAT_XLAT_MISS).wr RTE_EVENT_XLAT_MISS 1).answerFabric n { t with ingress := p } cplUR) p [0, 4]) []) ∧
    (∀ (p : Port) (n : Node) (t : Tlp) (i : Nat), s.contained 5 n = false → s.checkerHeld = false → s.bridle.held = [] →
      s.switch.wait = [] → s.lookup 2 0 t.addr = some i →
      (s.inc (XLAT_HITS i)).verdict ⟨clsNode, spPeer, tlpAccess t, n, t.requester, t.pasid, s.translated i t.addr, max 1 t.payload, s.rd (XLAT_TARGET_PORT i)⟩ = none → i < 65536 → s.does (.fabricPeerRequest p n t) (State.consumeRx ((s.inc (XLAT_HITS i)).proxy (s.rd SYS_ORDER) p n { t with ingress := p, addr := s.translated i t.addr } (s.rd (XLAT_TARGET_PORT i))) p [0, 4]) []) ∧
    (∀ (o p n q : Nat) (t : Tlp), s.portHost q = none → t.kind = .posted →
      s.tlpFence { t with egress := Fin.ofNat 128 q, host := 48, requester := s.proxyId q, tag := 0, dest := none, src := none } = none →
      s.proxy o p n t q = (s.ingress { t with egress := Fin.ofNat 128 q, host := 48, requester := s.proxyId q, tag := 0, dest := none, src := some (Fin.ofNat 64 n) }).markWhole (fun x => x.order == s.rd SYS_ORDER)) ∧
    (∀ (p : Port) (a d : Node) (k : Fin 8) (t : Tlp), s.on MGT_NODE_ID_NODE_VALID = false →
      s.does (.transitUnit p a d k t) (s.leaveIngress (s.rd SYS_ORDER) p { t with unitKind := k }) []) ∧
    (∀ (p : Port) (a d : Node) (k : Fin 8) (t : Tlp), s.on MGT_NODE_ID_NODE_VALID = true →
      s.does (.transitUnit p a d k t) ((s.ingress { t with ingress := p, dest := some d, src := some a, unitKind := k, host := 48 }).leaveIngress (s.rd SYS_ORDER) p { t with unitKind := k }) []) ∧
    (∀ (p : Port) (a d : Node) (k : Fin 8) (t : Tlp), s.tlpFence { t with ingress := p, dest := some d, src := some a, unitKind := k, host := 48, egress := Fin.ofNat 128 (s.bucketPort (bucketFrom a t.requester d t.tc)) } = none → t.kind ≠ .completion → (s.reachable d = false ∨ s.contained 5 d = true) → s.ingress { t with ingress := p, dest := some d, src := some a, unitKind := k, host := 48 } = s.noRouteTlp { t with ingress := p, dest := some d, src := some a, unitKind := k, host := 48, egress := Fin.ofNat 128 (s.bucketPort (bucketFrom a t.requester d t.tc)) }) ∧
    (∀ (p : Port) (a d : Node) (k : Fin 8) (t : Tlp), s.tlpFence { t with ingress := p, dest := some d, src := some a, unitKind := k, host := 48, egress := Fin.ofNat 128 (s.bucketPort (bucketFrom a t.requester d t.tc)) } = none → t.kind ≠ .completion → s.reachable d = true → s.contained 5 d = false → s.bucketPort (bucketFrom a t.requester d t.tc) = p.val → s.ingress { t with ingress := p, dest := some d, src := some a, unitKind := k, host := 48 } = s.loopDrop { t with ingress := p, dest := some d, src := some a, unitKind := k, host := 48, egress := Fin.ofNat 128 (s.bucketPort (bucketFrom a t.requester d t.tc)) }) ∧
    (∀ (p : Port) (a d : Node) (k : Fin 8) (t : Tlp), s.tlpFence { t with ingress := p, dest := some d, src := some a, unitKind := k, host := 48, egress := Fin.ofNat 128 (s.bucketPort (bucketFrom a t.requester d t.tc)) } = none → t.kind ≠ .completion → s.reachable d = true → s.contained 5 d = false → s.bucketPort (bucketFrom a t.requester d t.tc) ≠ p.val → s.bucketPort (bucketFrom a t.requester d t.tc) < 128 → t.payload ≤ s.maxPayload (Fin.ofNat 128 (s.bucketPort (bucketFrom a t.requester d t.tc))) → s.notExpressible { t with ingress := p, dest := some d, src := some a, unitKind := k, host := 48, egress := Fin.ofNat 128 (s.bucketPort (bucketFrom a t.requester d t.tc)) } = false → s.ingress { t with ingress := p, dest := some d, src := some a, unitKind := k, host := 48 } = s.offer { t with ingress := p, dest := some d, src := some a, unitKind := k, host := 48, egress := Fin.ofNat 128 (s.bucketPort (bucketFrom a t.requester d t.tc)) }) ∧
    (∀ (t : Tlp), t.kind = .nonPosted →
      s.loopDrop t = (((s.inc RTE_COUNT_FAB_LOOP_DROP).wr RTE_EVENT_LOOP_DROP 1).recordNear 145 0x0504 (s.tlpDoms t ++ (t.src.map fun n =>
      (5, n.val)).toList) 0 (detT t ((t.dest.map Fin.val).getD 0)) []).refuseTlp t cplCA) ∧
    (∀ (t : Tlp) (n m : Node) (st : Nat), t.kind = .nonPosted → t.dest = some n → t.src = some m →
      s.refuseTlp t st = s.answerUnits m t.requester t.tc t.unitKind t.addr t.tag st [] false true) ∧
    (∀ (k : ReqKind) (q : Port) (g : BitVec 14), s.reqOf k q g.toNat = none → s.does (.tagQuarantineExpire k q g) s []) ∧
    (∀ (k : ReqKind) (q : Port) (g : BitVec 14) (o : Outst), s.reqOf k q g.toNat = some o → o.quarantined = false →
      s.does (.tagQuarantineExpire k q g) s []) ∧
    (∀ (k : ReqKind) (q : Port) (g : BitVec 14) (o : Outst), s.reqOf k q g.toNat = some o → o.quarantined = true → s.bridle.held = [] →
      s.does (.tagQuarantineExpire k q g) ((s.advTo (o.issuedAt + 2 * o.timeout)).endReq o) []) ∧
    (∀ (o : Outst), o ∈ s.outst → (s.endReq o).outst.length + 1 = s.outst.length ∧
      (reqKey o.kind o.target, o.tag) ∈ (s.endReq o).switch.tags ∧ (s.endReq o).pool = s.pool)

/-- Containment domains, the error log, the error commands and DPC. ERROR_CONTAIN contains a domain, ERROR_RELEASE of a contained one asks for
release and leaves a handle; a domain that does not exist or is not contained answers BAD_PARAMETER, a release under way BUSY. Containment
of a window sets its state, severity, time and hold timer; a domain in RELEASING returns to NORMAL with the next generation when its hold
timer has ended and nothing admitted before it is unfinished, and not before. ERROR_CFG_SET, ERROR_TIMEOUT_SET, ERROR_FIRST_CLEAR and
ERROR_LOG_CLEAR write what they name. A record taken in its order enters the log and its hosts' rings and leaves its queue. DPC contains
its port where armed and a write of 1 to its trigger status by the bound host asks for release. A domain snapshot is due, or shows
BAD_INDEX. Forms for which a clause concludes that exec answers a next state with the effect named, from conditions on the state and
operands alone: errorContain, errorRelease, errorCfgSet, errorTimeoutSet, errorFirstClear, errorLogClear, errDomGo, containmentHoldExpire,
containmentRelease, errorRecordTake, dpcTrigger, dpcTriggerStatusWrite. (11_errors_and_containment.md) -/
def Obligations.Containment : Prop :=
  ∀ s : State, s.Inv →
    (∀ (c : Cmd), s.ready 0x0A01 c = true → onlyM (s.issuer c.path) = true → (cleanCmd c [(0, 8), (16, 16)] true && domOk c) = true →
      s.domExists (parBytes c 0 1) (parBytes c 2 2) = true →
      s.answers (.errorContain c) 0x0A01 c 0 (s.contain (parBytes c 0 1) (parBytes c 2 2) (if opFlag c then 3 else 2) false) []) ∧
    (∀ (c : Cmd), s.ready 0x0A01 c = true → onlyM (s.issuer c.path) = true → (cleanCmd c [(0, 8), (16, 16)] true && domOk c) = true →
      s.domExists (parBytes c 0 1) (parBytes c 2 2) = false → exec (.errorContain c) s = .next (s.post c 0x0A01 stBadParam 0 0 true)) ∧
    (∀ (l i sev : Nat) (d : Bool), s.trig = [] → s.contained l i = false → s.contain l i sev d = s.startContain l i sev d) ∧
    (∀ (w sev : Nat), w < 4096 → (sev = 3 ∨ bitSet (s.rd ERR_CFG_AUTO_RELEASE) 3 = false) → s.pool.waiting = [] → sev < 4 →
      (s.startContain 4 w sev false).domState 4 w = 1 ∧ (s.startContain 4 w sev false).rd (DOM_SEV (domIdx 4 w)) = sev ∧
      (s.startContain 4 w sev false).rd (DOM_TRIGGER_TIME (domIdx 4 w)) = s.ft ∧
      (s.startContain 4 w sev false).rd (DOMX_HOLD_END (domIdx 4 w)) = (s.now + ms * s.rd ERR_CFG_HOLD_MS) % 2 ^ (DOMX_HOLD_END 0).width ∧
      (s.startContain 4 w sev false).pool.resv = (s.pool.resv.filter fun r => !s.inWindow w r.line 1)) ∧
    (∀ (w : Nat), w < 4096 → bitSet (s.rd ERR_CFG_AUTO_RELEASE) 3 = true → s.pool.waiting = [] →
      (s.startContain 4 w 2 false).domState 4 w = 2 ∧ (s.startContain 4 w 2 false).rd (DOM_AUTO (domIdx 4 w)) = 1) ∧
    (∀ (l i : Nat), s.domState l i = 1 → l < 6 → i < 4096 → s.writes (s.requestRelease l i) [(DOM_STATE (domIdx l i), 2)]) ∧
    (∀ (c : Cmd), s.ready 0x0A02 c = true → onlyM (s.issuer c.path) = true → (cleanCmd c [(0, 8), (16, 16)] false && domOk c) = true →
      s.contained (parBytes c 0 1) (parBytes c 2 2) = true → s.rd (DOMX_RELREQ (domIdx (parBytes c 0 1) (parBytes c 2 2))) = 0 →
      parBytes c 0 1 ≠ 4 → s.domState (parBytes c 0 1) (parBytes c 2 2) ≤ 2 → s.opsFull (s.issuer c.path) = false →
      ∃ u : State, exec (.errorRelease c) s = .next (u.startOp c 0x0A02 0 1 0 0) ∧
      s.writes u [(DOM_STATE (domIdx (parBytes c 0 1) (parBytes c 2 2)), 2),
      (DOMX_RELREQ (domIdx (parBytes c 0 1) (parBytes c 2 2)), s.nextHandle)]) ∧
    (∀ (c : Cmd), s.ready 0x0A02 c = true → onlyM (s.issuer c.path) = true → (cleanCmd c [(0, 8), (16, 16)] false && domOk c) = true →
      s.contained (parBytes c 0 1) (parBytes c 2 2) = false → exec (.errorRelease c) s = .next (s.post c 0x0A02 stBadParam 0 0 true)) ∧
    (∀ (c : Cmd), s.ready 0x0A02 c = true → onlyM (s.issuer c.path) = true → (cleanCmd c [(0, 8), (16, 16)] false && domOk c) = true →
      s.contained (parBytes c 0 1) (parBytes c 2 2) = true → s.rd (DOMX_RELREQ (domIdx (parBytes c 0 1) (parBytes c 2 2))) ≠ 0 →
      exec (.errorRelease c) s = .next (s.post c 0x0A02 stBusy 0 0 true)) ∧
    (∀ (c : Cmd), s.ready 0x0A03 c = true → onlyM (s.issuer c.path) = true → (cleanCmd c [(0, 16), (16, 5),
      (32, 16)] false && decide (1 ≤ parBytes c 0 2) && decide (parBytes c 0 2 ≤ 1000) && decide (1 ≤ parBytes c 4 2) && decide (parBytes c 4 2 ≤ 1000)) = true → s.answers (.errorCfgSet c) 0x0A03 c 0 s [(ERR_CFG_HOLD_MS, parBytes c 0 2), (ERR_CFG_AUTO_RELEASE, parBits c 16 5), (ERR_CFG_FABRIC_TIMEOUT_MS, parBytes c 4 2)]) ∧
    (∀ (c : Cmd), s.ready 0x0A04 c = true → onlyM (s.issuer c.path) = true → (cleanCmd c [(0, 8),
      (8, 8)] false && decide (parBytes c 0 1 < 128) && decide (parBytes c 1 1 < 16)) = true →
      s.answers (.errorTimeoutSet c) 0x0A04 c 0 s [(ERR_PORT_CTO_DS_TIMEOUT (parBytes c 0 1), parBytes c 1 1)]) ∧
    (∀ (c : Cmd), s.ready 0x0A05 c = true → onlyM (s.issuer c.path) = true → (cleanCmd c [(0, 8), (16, 16)] false && domOk c) = true →
      s.answers (.errorFirstClear c) 0x0A05 c 0 s [(DOM_FIRST (domIdx (parBytes c 0 1) (parBytes c 2 2)), 0),
      (DOM_FIRST_VALID (domIdx (parBytes c 0 1) (parBytes c 2 2)), 0)]) ∧
    (∀ (c : Cmd), s.ready 0x0A06 c = true → onlyM (s.issuer c.path) = true → cleanCmd c [] false = true →
      s.answersWith (.errorLogClear c) 0x0A06 c 0 fun t => t.rd ERR_STATUS_LOG_WR = 0 ∧ t.rd ERR_LOG_RD_LOG_RD = 0 ∧ t.rd ERRL_UNREAD = 0 ∧
      t = { s with regs := t.regs }) ∧
    (∀ (v : BitVec 31), domCount (v.toNat % 8) ≤ v.toNat / 8 % 4096 → s.completes (.errDomGo v) fun t =>
      t.rd ERR_DOM_SEL_LEVEL = v.toNat % 8 ∧ t.rd ERR_DOM_SEL_INDEX = v.toNat / 8 % 4096 ∧ t.rd ERR_DOM_STATUS_BAD_INDEX = 1 ∧
      t.rd ERR_DOM_STATUS_DONE = 0 ∧ (∀ k < 20, t.rd (ERR_DOM_DATA_WORD k) = 0) ∧ t = { s with regs := t.regs }) ∧
    (∀ (v : BitVec 31), v.toNat / 8 % 4096 < domCount (v.toNat % 8) → s.completes (.errDomGo v) fun t =>
      t.rd ERR_DOM_SEL_LEVEL = v.toNat % 8 ∧ t.rd ERR_DOM_SEL_INDEX = v.toNat / 8 % 4096 ∧ t.rd ERR_DOM_STATUS_BAD_INDEX = 0 ∧
      t.rd ERR_DOM_STATUS_DONE = 0 ∧ bitSet (t.rd SNAPX_DUE) 3 = true ∧ t = { s with regs := t.regs }) ∧
    (∀ (l : Fin 6) (i : Fin 4096), s.contained l i = true → i.val < domCount l →
      s.does (.containmentHoldExpire l i) (s.advTo (s.rd (DOMX_HOLD_END (domIdx l i)))) []) ∧
    (∀ (l : Fin 6) (i : Fin 4096), s.contained l i = false → s.does (.containmentHoldExpire l i) s []) ∧
    (∀ (l : Fin 6) (i : Fin 4096), (s.domState l i ≠ 2 ∨ s.now < s.rd (DOMX_HOLD_END (domIdx l i)) ∨ s.oldCount l i ≠ 0 ∨ (l.val = 4 ∧
      s.windowFailed i = true)) → s.does (.containmentRelease l i) s []) ∧
    (∀ (l : Fin 6) (i : Fin 4096), s.domState l i = 2 → i.val < domCount l → s.rd (DOMX_HOLD_END (domIdx l i)) ≤ s.now →
      s.oldCount l i = 0 → (l.val ≠ 4 ∨ s.windowFailed i = false) → exec (.containmentRelease l i) s = .next (s.releaseDom l i)) ∧
    (∀ (l i : Nat), (l = 3 ∨ l = 4) → i < domCount l → s.rd (DOMX_RELREQ (domIdx l i)) = 0 → s.bridle.held = [] → s.pool.waiting = [] →
      (s.releaseDom l i).domState l i = 0 ∧
      (s.releaseDom l i).rd (DOM_CGEN (domIdx l i)) = (s.rd (DOM_CGEN (domIdx l i)) + 1) % 2 ^ (DOM_CGEN 0).width ∧
      (s.releaseDom l i).rd ERR_EVENT_CONTAIN_RELEASE = 1 ∧ s.keepsMem (s.releaseDom l i)) ∧
    (∀ (i : Nat), s.trig = [] → s.errq[i]? = none → s.does (.errorRecordTake i) s []) ∧
    (∀ (i : Nat) (r : Rec), s.trig = [] → s.errq[i]? = some r → ((s.errq.take i).all fun x =>
      x.source != r.source && (x.level != r.level || x.dom != r.dom)) = true →
      exec (.errorRecordTake i) s = .next ((s.recHosts r).foldl (fun u h => u.hostRecord h r) ((s.dequeueRec i r).logWrite r))) ∧
    (∀ (i : Nat) (r : Rec), s.trig = [] → s.errq[i]? = some r → ((s.errq.take i).all fun x =>
      x.source != r.source && (x.level != r.level || x.dom != r.dom)) = false → s.does (.errorRecordTake i) s []) ∧
    (∀ (i : Nat) (r : Rec), s.errq[i]? = some r → s.rd ERRL_UNREAD < 1024 → r.source < 256 →
      ((s.dequeueRec i r).logWrite r).errq = s.errq.eraseIdx i ∧
      ((s.dequeueRec i r).logWrite r).rd (ERR_LOG_RECORD (s.rd ERR_STATUS_LOG_WR)) = r.enc % 2 ^ (ERR_LOG_RECORD 0).width ∧
      ((s.dequeueRec i r).logWrite r).rd ERR_STATUS_LOG_WR = (s.rd ERR_STATUS_LOG_WR + 1) % 2 ^ ERR_STATUS_LOG_WR.width ∧
      ((s.dequeueRec i r).logWrite r).rd ERRL_UNREAD = s.rd ERRL_UNREAD + 1) ∧
    (∀ (h : Host) (r : Rec), r.sev = 0 →
      (s.hostRecord h r).rd (HV_ERR_RING h (s.rd (HV_ERR_INDEX_WR h) % 32)) = r.enc % 2 ^ (HV_ERR_RING 0 0).width ∧
      (s.hostRecord h r).rd (HV_ERR_INDEX_WR h) = (s.rd (HV_ERR_INDEX_WR h) + 1) % 2 ^ (HV_ERR_INDEX_WR 0).width ∧
      s.keepsRegs (s.hostRecord h r) [HV_ERR_RING h (s.rd (HV_ERR_INDEX_WR h) % 32), HV_ERR_INDEX_WR h]) ∧
    (∀ (p : Port) (r : Fin 4) (f : Bool), s.dpcArmed p = false → s.does (.dpcTrigger p r f) s []) ∧
    (∀ (p : Port) (r : Fin 4) (f : Bool), s.dpcArmed p = true → (r.val = 0 ∨ r.val = 3) → s.trig = [] →
      ∃ u : State, exec (.dpcTrigger p r f) s = .next (u.startContain 1 p (if f then 3 else 2) true) ∧ s.writes u [(PRTX_DPC_STATUS p, 1),
      (PRTX_DPC_REASON p, r.val), (PRT_EVENT_DPC_TRIGGERED p, 1)]) ∧
    (∀ (p : Port) (f : Bool), s.dpcArmed p = true → s.trig = [] →
      ∃ u : State, exec (.dpcTrigger p 2 f) s = .next (u.startContain 1 p 3 true) ∧
      ({ s.recSev 3 p 0x0202 1 p 0 0 [] with trig := [] }).writes u [(PRTX_DPC_STATUS p, 1), (PRTX_DPC_REASON p, 2),
      (PRT_EVENT_DPC_TRIGGERED p, 1)]) ∧
    (∀ (h : Host) (p : Port), s.boundHost p = some h.val → s.on (DOM_DPC (domIdx 1 p)) = true → s.domState 1 p = 1 →
      s.does (.dpcTriggerStatusWrite h p) s [(DOM_STATE (domIdx 1 p), 2)]) ∧
    (∀ (h : Host) (p : Port), s.boundHost p ≠ some h.val → s.does (.dpcTriggerStatusWrite h p) s [])

/-- Gondola creation, freeze, thaw, save, restore, reset and removal. GONDOLA_CREATE makes the gondola RUNNING when every check of its draw
passes, and else answers the status of the first that fails; FREEZE of a RUNNING gondola makes it FREEZING, GONDOLA_QUIESCED makes a quiet
FREEZING one FROZEN, THAW of a FROZEN one makes it RUNNING with its latched doorbells, paused operations and appends; SAVE of a FROZEN one
and RESTORE start a long operation; RESET and DESTROY of a RUNNING or FROZEN one put it into RESETTING and DESTROYING, and
GONDOLA_RESET_DONE ends a reset in RUNNING when it has drained. In another state FREEZE, RESET and DESTROY answer BUSY, THAW and SAVE
BAD_PARAMETER, and THAW during a save BUSY. A snapshot of a gondola is due. Forms for which a clause concludes that exec answers a next
state with the effect named, from conditions on the state and operands alone: gondolaCreate, gondolaFreeze, gondolaQuiesced, gondolaThaw,
gondolaSave, gondolaRestore, gondolaReset, gondolaDestroy, gondolaResetDone, ycpGndGo. (16_gondolas.md) -/
def Obligations.Gondolas : Prop :=
  ∀ s : State, s.Inv →
    (∀ (c : Cmd) (g : Nat), s.ready 0x0701 c = true → onlyM (s.issuer c.path) = true → cleanCmd c [(0, 8), (16, 16), (32, 20), (64, 16),
      (80, 16), (96, 16), (112, 8), (120, 1), (128, 32), (160, 16), (192, 64)] false = true → (s.drawChecks (drawOfCmd c)).all (fun x =>
      !x.1) = true → s.drawNumber (drawOfCmd c) = some g → (drawOfCmd c).shaped = false →
      s.answers (.gondolaCreate c) 0x0701 c g ((s.makeGond (drawOfCmd c) g 1).saveGond) []) ∧
    (∀ (c : Cmd) (b : Bool) (st : Nat), s.ready 0x0701 c = true → onlyM (s.issuer c.path) = true → cleanCmd c [(0, 8), (16, 16), (32, 20),
      (64, 16), (80, 16), (96, 16), (112, 8), (120, 1), (128, 32), (160, 16), (192, 64)] false = true →
      (s.drawChecks (drawOfCmd c)).find? (fun x => x.1) = some (b, st) →
      exec (.gondolaCreate c) s = .next (s.post c 0x0701 st 0 0 true)) ∧
    (∀ (d : Draw) (g : Nat), d.shaped = false → g < 1024 → d.host < 48 → (s.freeSlot d.host).isSome = true → s.drawInRange d = true →
      s.contained 3 g = false → (s.makeGond d g 1).rd (GND_STATE g) = 1 ∧ (s.makeGond d g 1).on (GND_VALID g) = true ∧
      (s.makeGond d g 1).rd (GND_HOST g) = d.host ∧ (s.makeGond d g 1).rd (GND_PASID g) = d.pasid ∧
      (s.makeGond d g 1).rd (GND_SPOOL_QUOTA g) = d.spools ∧ (s.makeGond d g 1).rd (GND_RULE_QUOTA g) = d.rules ∧
      (s.makeGond d g 1).rd (GND_OP_LIMIT g) = d.ops ∧ (s.makeGond d g 1).pool = s.pool) ∧
    (∀ (c : Cmd), s.ready 0x0704 c = true → onlyM (s.issuer c.path) = true →
      (cleanCmd c [(0, 16)] false && decide (parBytes c 0 2 < 1024)) = true → s.rd (GND_STATE (parBytes c 0 2)) = 1 →
      s.opsFull (s.issuer c.path) = false → s.starts (.gondolaFreeze c) 0x0704 0 1 0 0 c [(GND_STATE (parBytes c 0 2), 2)]) ∧
    (∀ (c : Cmd), s.ready 0x0704 c = true → onlyM (s.issuer c.path) = true →
      (cleanCmd c [(0, 16)] false && decide (parBytes c 0 2 < 1024)) = true → s.rd (GND_STATE (parBytes c 0 2)) ≠ 1 →
      exec (.gondolaFreeze c) s = .next (s.post c 0x0704 stBusy 0 0 true)) ∧
    (∀ (g : Gond), (s.rd (GND_STATE g) ≠ 2 ∨ s.quiesced g = false) → s.does (.gondolaQuiesced g) s []) ∧
    (∀ (g : Gond), s.rd (GND_STATE g) = 2 → s.quiesced g = true → ((s.wr (GND_STATE g) 3).saveGond).gondOp [opFreeze] g = none →
      s.does (.gondolaQuiesced g) ((s.wr (GND_STATE g) 3).saveGond) []) ∧
    (∀ (c : Cmd), s.ready 0x0705 c = true → onlyM (s.issuer c.path) = true →
      (cleanCmd c [(0, 16)] false && decide (parBytes c 0 2 < 1024)) = true → s.rd (GND_STATE (parBytes c 0 2)) ≠ 3 →
      exec (.gondolaThaw c) s = .next (s.post c 0x0705 stBadParam 0 0 true)) ∧
    (∀ (c : Cmd), s.ready 0x0705 c = true → onlyM (s.issuer c.path) = true →
      (cleanCmd c [(0, 16)] false && decide (parBytes c 0 2 < 1024)) = true → s.rd (GND_STATE (parBytes c 0 2)) = 3 →
      (s.gondOp [opSave] (parBytes c 0 2)).isSome = true → exec (.gondolaThaw c) s = .next (s.post c 0x0705 stBusy 0 0 true)) ∧
    (∀ (c : Cmd), s.ready 0x0705 c = true → onlyM (s.issuer c.path) = true →
      (cleanCmd c [(0, 16)] false && decide (parBytes c 0 2 < 1024)) = true → s.rd (GND_STATE (parBytes c 0 2)) = 3 →
      s.gondOp [opSave] (parBytes c 0 2) = none →
      (s.wr (GND_STATE (parBytes c 0 2)) 1).hostOpen (s.rd (GND_HOST (parBytes c 0 2))) = false →
      s.answers (.gondolaThaw c) 0x0705 c 0 ((((((s.wr (GND_STATE (parBytes c 0 2)) 1).applyLatches (parBytes c 0 2)).resumeOps (parBytes c 0 2)).resumeAppends (parBytes c 0 2)).saveGond)) []) ∧
    (∀ (g : Nat) (o : Op), o ∈ s.ops → o.issuer = .g g → { o with paused := false } ∈ (s.resumeOps g).ops ∧
      (s.resumeOps g).regs = s.regs) ∧
    (∀ (c : Cmd), s.ready 0x0706 c = true → onlyM (s.issuer c.path) = true → (cleanCmd c [(0, 16), (64, 64),
      (128, 32)] false && decide (parBytes c 0 2 < 1024)) = true → s.rd (GND_STATE (parBytes c 0 2)) = 3 → s.mgmtHost.isSome = true →
      s.gondOp [opSave] (parBytes c 0 2) = none → s.opsFull (s.issuer c.path) = false → s.starts (.gondolaSave c) 0x0706 0 0 0 0 c []) ∧
    (∀ (c : Cmd), s.ready 0x0706 c = true → onlyM (s.issuer c.path) = true → (cleanCmd c [(0, 16), (64, 64),
      (128, 32)] false && decide (parBytes c 0 2 < 1024)) = true → s.rd (GND_STATE (parBytes c 0 2)) ≠ 3 →
      exec (.gondolaSave c) s = .next (s.post c 0x0706 stBadParam 0 0 true)) ∧
    (∀ (c : Cmd), s.ready 0x0707 c = true → onlyM (s.issuer c.path) = true → cleanCmd c [(0, 8), (16, 16), (32, 20), (64, 64),
      (128, 32)] false = true → s.mgmtHost.isSome = true → s.opsFull (s.issuer c.path) = false →
      s.starts (.gondolaRestore c) 0x0707 0 0 0 0 c []) ∧
    (∀ (c : Cmd), s.ready 0x0703 c = true → (s.issuer c.path = .m ∨ s.issuer c.path = .g (parBytes c 0 2)) →
      (cleanCmd c [(0, 16)] true && decide (parBytes c 0 2 < 1024)) = true →
      (s.rd (GND_STATE (parBytes c 0 2)) = 1 ∨ s.rd (GND_STATE (parBytes c 0 2)) = 3) → s.gondOp [opSave] (parBytes c 0 2) = none →
      s.opsFull (s.issuer c.path) = false →
      exec (.gondolaReset c) s = .next ((s.startOp c 0x0703 0 1 0 0).beginReset (parBytes c 0 2) (opFlag c) false (s.gondIn (parBytes c 0 2) [3]))) ∧
    (∀ (c : Cmd), s.ready 0x0703 c = true → (s.issuer c.path = .m ∨ s.issuer c.path = .g (parBytes c 0 2)) →
      (cleanCmd c [(0, 16)] true && decide (parBytes c 0 2 < 1024)) = true → s.rd (GND_STATE (parBytes c 0 2)) ≠ 1 →
      s.rd (GND_STATE (parBytes c 0 2)) ≠ 3 → exec (.gondolaReset c) s = .next (s.post c 0x0703 stBusy 0 0 true)) ∧
    (∀ (c : Cmd), s.ready 0x0702 c = true → onlyM (s.issuer c.path) = true →
      (cleanCmd c [(0, 16)] true && decide (parBytes c 0 2 < 1024)) = true →
      (s.rd (GND_STATE (parBytes c 0 2)) = 1 ∨ s.rd (GND_STATE (parBytes c 0 2)) = 3) → s.gondOp [opSave] (parBytes c 0 2) = none →
      (findFrom (fun w => s.on (WIN_VALID w) && s.on (WIN_OWNER_VALID w) && s.rd (WIN_OWNER w) == parBytes c 0 2) 0 4096) = none →
      s.releasing 3 (parBytes c 0 2) = false → s.opsFull (s.issuer c.path) = false →
      exec (.gondolaDestroy c) s = .next ((s.startOp c 0x0702 0 0 0 0).beginReset (parBytes c 0 2) (opFlag c) true (s.gondIn (parBytes c 0 2) [3]))) ∧
    (∀ (c : Cmd), s.ready 0x0702 c = true → onlyM (s.issuer c.path) = true →
      (cleanCmd c [(0, 16)] true && decide (parBytes c 0 2 < 1024)) = true → s.rd (GND_STATE (parBytes c 0 2)) ≠ 1 →
      s.rd (GND_STATE (parBytes c 0 2)) ≠ 3 → exec (.gondolaDestroy c) s = .next (s.post c 0x0702 stBusy 0 0 true)) ∧
    (∀ (g : Nat), g < 1024 → s.stoppedAppends g = [] → (s.beginReset g false false false).rd (GND_STATE g) = 4 ∧
      (s.beginReset g false true false).rd (GND_STATE g) = 5) ∧
    (∀ (g : Gond), s.rd (GND_STATE g) ≠ 4 → s.rd (GND_STATE g) ≠ 5 → s.does (.gondolaResetDone g) s []) ∧
    (∀ (g : Gond), s.rd (GND_STATE g) = 4 → s.resetDrained g = true → (s.clearGond g).gondOp [opReset, opDestroy] g = none →
      s.does (.gondolaResetDone g) (s.clearGond g) [(GND_STATE g, 1)]) ∧
    (∀ (g : Gond) (o : Op), s.rd (GND_STATE g) = 4 → s.resetDrained g = true → (s.clearGond g).gondOp [opReset, opDestroy] g = some o →
      (s.clearGond g).contained 3 g = false → o.opcode = opReset →
      s.does (.gondolaResetDone g) (((s.clearGond g).wr (GND_STATE g) 1).finishOp o.handle stOk 0) []) ∧
    (∀ (v : BitVec 31), s.completes (.ycpGndGo v) fun t => t.rd YCP_GND_SEL_GONDOLA = v.toNat % 1024 ∧ t.rd YCP_GND_STATUS_DONE = 0 ∧
      bitSet (t.rd SNAPX_DUE) 6 = true ∧ t = { s with regs := t.regs })

/-- The input qualifier and its events; the steps of long operations and the completions they wait for. An input qualified at its present
level and a masked one keep their raw level only, and a dead one does nothing; slot inputs live at every start-up stage but not while a
mooring holds them; a first level is held and raises its event, none for the chain or a removed pack; a new level is held, raises its
event and is counted for the mask, which 32 edges in a second set. DEVICE_INPUT_REARM clears the mask and the count. A step of a long
operation that has no such operation, a stopped part, a paused operation, a faulted engine or the wrong group does nothing; else it
carries out the cancel, ends or pauses the operation of a contained or frozen gondola, or runs one step. A completion without a request is
logged as unexpected, of a quarantined tag counted as late; a part is kept; the last part answers or delivers and ends the request, an
error fails it. Forms for which a clause concludes that exec answers a next state with the effect named, from conditions on the state and
operands alone: inputQualified, slotPresenceChange, attentionButton, wakeIn, pwrFailIn, liftInserted, liftRemoved, chainTokenEdge,
deviceInputRearm, longOpStep, completionArrival. (02_package_and_signals.md, 14_penek_engines.md, 11_errors_and_containment.md) -/
def Obligations.InputsAndLongOperations : Prop :=
  ∀ s : State, s.Inv →
    (∀ (i : Fin 80) (level : Bool) (id : BitVec 1024) (mv : BitVec 16) (t : BitVec 8), s.inputLive i = false →
      s.does (.inputQualified i level id mv t) s []) ∧
    (∀ (i : Fin 80) (level : Bool) (id : BitVec 1024) (mv : BitVec 16) (t : BitVec 8), isInput i = true → s.inputLive i = true →
      (bitSet (s.rd (inputFld i)) 2 = true ∨ (bitSet (s.rd (inputFld i)) 1 = true ∧ bitSet (s.rd (inputFld i)) 0 = level)) →
      s.does (.inputQualified i level id mv t) s [(inputFld i, s.rd (inputFld i) % 8 + 8 * b2n level)]) ∧
    (∀ (c : Slot) (p : Bool), s.inputLive (16 + c) = false → s.does (.slotPresenceChange c p) s []) ∧
    (∀ (c : Slot) (p : Bool), s.inputLive (16 + c) = true →
      (bitSet (s.rd (inputFld (16 + c))) 2 = true ∨ (bitSet (s.rd (inputFld (16 + c))) 1 = true ∧
      bitSet (s.rd (inputFld (16 + c))) 0 = p)) →
      s.does (.slotPresenceChange c p) s [(inputFld (16 + c), s.rd (inputFld (16 + c)) % 8 + 8 * b2n p)]) ∧
    (∀ (c : Slot), s.inputLive (48 + c) = false → s.does (.attentionButton c) s []) ∧
    (∀ (c : Slot), s.inputLive (48 + c) = true → (bitSet (s.rd (inputFld (48 + c))) 2 = true ∨ (bitSet (s.rd (inputFld (48 + c))) 1 = true ∧
      bitSet (s.rd (inputFld (48 + c))) 0 = true)) →
      s.does (.attentionButton c) s [(inputFld (48 + c), s.rd (inputFld (48 + c)) % 8 + 8 * b2n true)]) ∧
    (s.inputLive 1 = false → s.does .wakeIn s []) ∧
    (s.inputLive 1 = true → (bitSet (s.rd (inputFld 1)) 2 = true ∨ (bitSet (s.rd (inputFld 1)) 1 = true ∧
      bitSet (s.rd (inputFld 1)) 0 = true)) → s.does .wakeIn s [(inputFld 1, s.rd (inputFld 1) % 8 + 8 * b2n true)]) ∧
    (s.inputLive 0 = false → s.does .pwrFailIn s []) ∧
    (s.inputLive 0 = true → (bitSet (s.rd (inputFld 0)) 2 = true ∨ (bitSet (s.rd (inputFld 0)) 1 = true ∧
      bitSet (s.rd (inputFld 0)) 0 = true)) → s.does .pwrFailIn s [(inputFld 0, s.rd (inputFld 0) % 8 + 8 * b2n true)]) ∧
    (∀ (id : BitVec 1024) (mv : BitVec 16) (t : BitVec 8), s.inputLive 2 = false → s.does (.liftInserted id mv t) s []) ∧
    (∀ (id : BitVec 1024) (mv : BitVec 16) (t : BitVec 8), s.inputLive 2 = true →
      (bitSet (s.rd (inputFld 2)) 2 = true ∨ (bitSet (s.rd (inputFld 2)) 1 = true ∧ bitSet (s.rd (inputFld 2)) 0 = true)) →
      s.does (.liftInserted id mv t) s [(inputFld 2, s.rd (inputFld 2) % 8 + 8 * b2n true)]) ∧
    (s.inputLive 2 = false → s.does .liftRemoved s []) ∧
    (s.inputLive 2 = true → (bitSet (s.rd (inputFld 2)) 2 = true ∨ (bitSet (s.rd (inputFld 2)) 1 = true ∧
      bitSet (s.rd (inputFld 2)) 0 = false)) → s.does .liftRemoved s [(inputFld 2, s.rd (inputFld 2) % 8 + 8 * b2n false)]) ∧
    (s.inputLive 3 = false → s.does .chainTokenEdge s []) ∧
    (s.inputLive 3 = true → (bitSet (s.rd (inputFld 3)) 2 = true ∨ (bitSet (s.rd (inputFld 3)) 1 = true ∧
      bitSet (s.rd (inputFld 3)) 0 = true)) → s.does .chainTokenEdge s [(inputFld 3, s.rd (inputFld 3) % 8 + 8 * b2n true)]) ∧
    (∀ (i : Fin 80) (level : Bool) (id : BitVec 1024) (mv : BitVec 16) (t : BitVec 8), isInput i = true → s.inputLive i = true →
      bitSet (s.rd (inputFld i)) 1 = false → bitSet (s.rd (inputFld i)) 2 = false →
      s.does (.inputQualified i level id mv t) ((s.wr (inputFld i) (2 + b2n level * 9)).inputEvent i level true id.toNat mv.toNat t.toNat) []) ∧
    (∀ (i : Fin 80) (level : Bool) (id : BitVec 1024) (mv : BitVec 16) (t : BitVec 8), isInput i = true → s.inputLive i = true →
      bitSet (s.rd (inputFld i)) 1 = true → bitSet (s.rd (inputFld i)) 2 = false → bitSet (s.rd (inputFld i)) 0 ≠ level →
      s.does (.inputQualified i level id mv t) (((s.wr (inputFld i) (2 + b2n level * 9)).inputEvent i level false id.toNat mv.toNat t.toNat).chatter i) []) ∧
    (∀ (c : Slot), s.inputLive (16 + c) = true → bitSet (s.rd (inputFld (16 + c))) 1 = false → bitSet (s.rd (inputFld (16 + c))) 2 = false →
      s.does (.slotPresenceChange c false) s [(PDI_SC_STATUS_PRSNT c, 2)]) ∧
    (∀ (c : Slot), s.inputLive (16 + c) = true → bitSet (s.rd (inputFld (16 + c))) 1 = false → bitSet (s.rd (inputFld (16 + c))) 2 = false →
      s.does (.slotPresenceChange c true) ((s.wr (PDI_SC_STATUS_PRSNT c) 11).slotInput c false true) []) ∧
    (∀ (c : Slot), s.inputLive (48 + c) = true → bitSet (s.rd (inputFld (48 + c))) 1 = false → bitSet (s.rd (inputFld (48 + c))) 2 = false →
      s.does (.attentionButton c) ((s.wr (PDI_SC_STATUS_BTN c) 11).slotInput c true true) []) ∧
    (s.inputLive 1 = true → bitSet (s.rd (inputFld 1)) 1 = false → bitSet (s.rd (inputFld 1)) 2 = false → s.on SYS_OFF = false →
      s.does .wakeIn s [(GLB_INPUT_STATUS_WAKE_IN, 11)]) ∧
    (s.inputLive 1 = true → bitSet (s.rd (inputFld 1)) 1 = false → bitSet (s.rd (inputFld 1)) 2 = false → s.on SYS_OFF = true →
      s.does .wakeIn ((((s.wr GLB_INPUT_STATUS_WAKE_IN 11).wr SYS_OFF 0).startEvent 2 wakePin 4).qualView) []) ∧
    (s.inputLive 0 = true → bitSet (s.rd (inputFld 0)) 1 = false → bitSet (s.rd (inputFld 0)) 2 = false →
      s.does .pwrFailIn (((s.wr GLB_INPUT_STATUS_PWR_FAIL_IN 11).earlyWarning 1).qualView) []) ∧
    (∀ (id : BitVec 1024) (mv : BitVec 16) (t : BitVec 8), s.inputLive 2 = true → bitSet (s.rd (inputFld 2)) 1 = false →
      bitSet (s.rd (inputFld 2)) 2 = false →
      s.does (.liftInserted id mv t) ((s.wr GLB_INPUT_STATUS_LIFT_PRES_N 11).packIn id.toNat mv.toNat t.toNat) []) ∧
    (s.inputLive 2 = true → bitSet (s.rd (inputFld 2)) 1 = false → bitSet (s.rd (inputFld 2)) 2 = false →
      s.does .liftRemoved s [(GLB_INPUT_STATUS_LIFT_PRES_N, 2)]) ∧
    (s.inputLive 2 = true → bitSet (s.rd (inputFld 2)) 1 = true → bitSet (s.rd (inputFld 2)) 0 = true →
      bitSet (s.rd (inputFld 2)) 2 = false → s.does .liftRemoved ((((s.wr GLB_INPUT_STATUS_LIFT_PRES_N 2).packOut)).chatter 2) []) ∧
    (s.inputLive 3 = true → bitSet (s.rd (inputFld 3)) 1 = false → bitSet (s.rd (inputFld 3)) 2 = false → s.rd CHNX_FB_AT ≠ 0 →
      s.does .chainTokenEdge s [(GLB_INPUT_STATUS_CHAIN_IN, 11), (GLB_INPUT_STATUS_CHAIN_INITIAL, 1)]) ∧
    (s.inputLive 3 = true → bitSet (s.rd (inputFld 3)) 1 = true → bitSet (s.rd (inputFld 3)) 0 = false →
      bitSet (s.rd (inputFld 3)) 2 = false → s.on CHNX_EDGE = false → s.rd GLB_BOOT_STATUS_STAGE = 6 →
      s.on GLB_INPUT_STATUS_CHAIN_INITIAL = false → s.hasIdentity = false → s.completes .chainTokenEdge fun t =>
      ∃ u : State, t = (u.cell 0 true).chatter 3 ∧ s.writes u [(GLB_INPUT_STATUS_CHAIN_IN, 11), (CHNX_EDGE, 1), (CHNX_EDGE_AT, s.now),
      (CHNX_NBIT, 0), (CHNX_VAL, 0), (CHNX_CARRY, 1), (CHNX_TX_AT, s.now + 12 * ms + 1), (CHNX_TX_OK, 0)]) ∧
    (s.inputLive 3 = true → bitSet (s.rd (inputFld 3)) 1 = true → bitSet (s.rd (inputFld 3)) 0 = false →
      bitSet (s.rd (inputFld 3)) 2 = false → s.on CHNX_EDGE = false → s.rd GLB_BOOT_STATUS_STAGE = 6 →
      s.on GLB_INPUT_STATUS_CHAIN_INITIAL = false → s.hasIdentity = true → s.completes .chainTokenEdge fun t =>
      ∃ u : State, t = (u.log 171 0x0E05 0 0).chatter 3 ∧ s.writes u [(GLB_INPUT_STATUS_CHAIN_IN, 11), (MGT_CHAIN_STATUS_LATE, 1)]) ∧
    (∀ (c : Cmd), s.ready 0x0107 c = true → onlyM (s.issuer c.path) = true →
      (cleanCmd c [(0, 8)] false && isInput (parBytes c 0 1)) = true → s.answersWith (.deviceInputRearm c) 0x0107 c 0 fun t =>
      t.rd (inputFld (parBytes c 0 1)) = clrBit (s.rd (inputFld (parBytes c 0 1))) 2 ∧ s.keepsRegs t [inputFld (parBytes c 0 1)] ∧
      t.mgmt.edges = (s.mgmt.edges.filter fun (x : Nat × Nat) => x.1 != 256 + parBytes c 0 1) ∧ s.keepsMem t) ∧
    (∀ (i : Nat), 32 ≤ (recent (((s.mgmt.edges.filter fun (x : Nat × Nat) =>
      x.1 != 256 + i || decide (s.now < x.2 + sec)) ++ [(256 + i, s.now)])) (256 + i) s.now sec).length → i < 3 →
      bitSet ((s.chatter i).rd (inputFld i)) 2 = true) ∧
    (∀ (h : Fin 65552) (e : Eng) (n : Nat) (ok : Bool), (s.ops.find? fun o => o.handle == h.val && o.final.isNone) = none →
      s.does (.longOpStep h e n ok) s []) ∧
    (∀ (h : Fin 65552) (e : Eng) (n : Nat) (ok : Bool) (o : Op), (s.ops.find? fun o => o.handle == h.val && o.final.isNone) = some o →
      (s.on SYS_FW_UP = false ∨ s.on SYS_DRAINING = true ∨ s.moored = true ∨ o.paused = true ∨ s.engFaulted e = true ∨ s.rd (PEN_ENG_STATUS_GROUP e) ≠ opGroup o.opcode) → s.does (.longOpStep h e n ok) s []) ∧
    (∀ (h : Fin 65552) (e : Eng) (n : Nat) (ok : Bool) (o : Op), (s.ops.find? fun o => o.handle == h.val && o.final.isNone) = some o →
      s.on SYS_FW_UP = true → s.on SYS_DRAINING = false → s.moored = false → o.paused = false → s.engFaulted e = false →
      s.rd (PEN_ENG_STATUS_GROUP e) = opGroup o.opcode → o.cancel = true → s.does (.longOpStep h e n ok) (s.cancelOp o) []) ∧
    (∀ (h : Fin 65552) (e : Eng) (n : Nat) (ok : Bool) (o : Op) (g : Nat), (s.ops.find? fun o =>
      o.handle == h.val && o.final.isNone) = some o → s.on SYS_FW_UP = true → s.on SYS_DRAINING = false → s.moored = false →
      o.paused = false → s.engFaulted e = false → s.rd (PEN_ENG_STATUS_GROUP e) = opGroup o.opcode → o.cancel = false → o.issuer = .g g →
      s.contained 3 g = true → s.does (.longOpStep h e n ok) (s.endOp o.handle stHwError 0) []) ∧
    (∀ (h : Fin 65552) (e : Eng) (n : Nat) (ok : Bool) (o : Op) (g : Nat), (s.ops.find? fun o =>
      o.handle == h.val && o.final.isNone) = some o → s.on SYS_FW_UP = true → s.on SYS_DRAINING = false → s.moored = false →
      o.paused = false → s.engFaulted e = false → s.rd (PEN_ENG_STATUS_GROUP e) = opGroup o.opcode → o.cancel = false → o.issuer = .g g →
      s.contained 3 g = false → (s.rd (GND_STATE g) = 2 ∨ s.rd (GND_STATE g) = 3) →
      s.does (.longOpStep h e n ok) ((s.idleEngine o.engine).setOp o.handle fun p => { p with paused := true, engine := 128 }) []) ∧
    (∀ (h : Fin 65552) (e : Eng) (n : Nat) (ok : Bool) (o : Op), (s.ops.find? fun o => o.handle == h.val && o.final.isNone) = some o →
      s.on SYS_FW_UP = true → s.on SYS_DRAINING = false → s.moored = false → o.paused = false → s.engFaulted e = false →
      s.rd (PEN_ENG_STATUS_GROUP e) = opGroup o.opcode → o.cancel = false → o.issuer = .m → s.hasTurn o = true →
      s.does (.longOpStep h e n ok) ((s.runOn o e).stepOp { o with engine := e } n ok) []) ∧
    (∀ (o : Op), (o.opcode = opCrc ∨ o.opcode = opZero ∨ o.opcode = opCopy) → s.cancelOp o = s.endOp o.handle stCancelled 0) ∧
    (∀ (k : ReqKind) (q : Port) (g : BitVec 14) (st : Fin 8) (data : List (BitVec 8)) (po la : Bool), s.reqOf k q g.toNat = none →
      k ≠ .host → s.does (.completionArrival k q g st data po la) (s.recordNear 173 0x0207 (reqDomain k q) 0 (s.detAsk (s.askPort k q) 0 g.toNat 0 0 0) []) []) ∧
    (∀ (k : ReqKind) (q : Port) (g : BitVec 14) (st : Fin 8) (data : List (BitVec 8)) (po la : Bool) (o : Outst), s.reqOf k q g.toNat = some o → o.quarantined = true → k ≠ .host → la = false → s.does (.completionArrival k q g st data po la) (((s.inc ERR_CPL_COUNT_LATE_CPL).wr ERR_EVENT_LATE_CPL 1).recordNear 173 0x0206 (reqDomain k q) 0 (s.detReq o 0) []) []) ∧
    (∀ (k : ReqKind) (q : Port) (g : BitVec 14) (st : Fin 8) (data : List (BitVec 8)) (po la : Bool) (o : Outst), s.reqOf k q g.toNat = some o → o.quarantined = false → k ≠ .host → o.waiter = 0 → (st.val ≠ 0 ∨ la = true) → exec (.completionArrival k q g st data po la) s = .next ((s.answerReq o st.val (if st.val = 0 then o.data ++ data else data) (o.poison || po)).completed o true)) ∧
    (∀ (k : ReqKind) (q : Port) (g : BitVec 14) (st : Fin 8) (data : List (BitVec 8)) (po la : Bool) (o : Outst), s.reqOf k q g.toNat = some o → o.quarantined = false → k ≠ .host → st.val = 0 → la = false → (o.waiter ≠ 0 ∨ o.src < 64 ∨ 128 ≤ o.src) → exec (.completionArrival k q g st data po la) s = .next (s.partData o data po)) ∧
    (∀ (k : ReqKind) (q : Port) (g : BitVec 14) (st : Fin 8) (data : List (BitVec 8)) (po la : Bool) (o : Outst), s.reqOf k q g.toNat = some o → o.quarantined = false → k ≠ .host → st.val = 0 → la = false → o.waiter = 0 → 64 ≤ o.src → o.src < 128 → exec (.completionArrival k q g st data po la) s = .next ((s.answerReq o 0 data po false).advanceReq o data.length)) ∧
    (∀ (k : ReqKind) (q : Port) (g : BitVec 14) (st : Fin 8) (data : List (BitVec 8)) (po la : Bool) (o : Outst), s.reqOf k q g.toNat = some o → o.quarantined = false → k ≠ .host → o.waiter ≠ 0 → st.val = 0 → la = true → o.poison = false → po = false → exec (.completionArrival k q g st data po la) s = .next ((s.deliverData o.waiter (o.data ++ data)).completed o true)) ∧
    (∀ (k : ReqKind) (q : Port) (g : BitVec 14) (st : Fin 8) (data : List (BitVec 8)) (po la : Bool) (o : Outst), s.reqOf k q g.toNat = some o → o.quarantined = false → k ≠ .host → o.waiter ≠ 0 → (st.val ≠ 0 ∨ la = true ∧ (o.poison = true ∨ po = true)) → exec (.completionArrival k q g st data po la) s = .next ((s.failWaiter o.waiter stHwError).completed o true)) ∧
    (∀ (k : ReqKind) (q : Port) (g : BitVec 14) (st : Fin 8) (data : List (BitVec 8)) (po la : Bool) (o : Outst), s.reqOf .host q g.toNat = some o → o.quarantined = false → s.contained 2 q.val = true → s.does (.completionArrival .host q g st data po la) s []) ∧
    (∀ (o : Outst), s.bridle.held = [] → s.completed o true = s.endReq o ∧ s.completed o false = s)

/-- Engines: their groups, allocation, restart, and faults. DEVICE_ENGINE_ALLOC starts as a long operation; an allocation gives every engine
the group that its number has, and one that changes group while it works becomes idle. DEVICE_ENGINE_RESTART returns a faulted engine to
the general group; it answers BAD_PARAMETER for an engine that is not faulted, NOT_PERMITTED for a faulted one of the first eight. A
watchdog or an uncorrected local-memory error faults an engine in service, a corrected one is counted; an engine that is faulted or not in
service takes neither. Forms for which a clause concludes that exec answers a next state with the effect named, from conditions on the
state and operands alone: deviceEngineAlloc, deviceEngineRestart, engineWatchdog, lmemError. (14_penek_engines.md) -/
def Obligations.EnginesInService : Prop :=
  ∀ s : State, s.Inv →
    (∀ (c : Cmd), s.ready 0x0108 c = true → onlyM (s.issuer c.path) = true → (cleanCmd c [(0, 8), (8, 8), (16, 8),
      (24, 8)] false && decide (2 ≤ parBytes c 0 1) && decide (parBytes c 0 1 ≤ 16) && decide (1 ≤ parBytes c 1 1) && decide (parBytes c 1 1 ≤ 32) && parBytes c 2 1 == 1 && parBytes c 3 1 == 1 && decide (36 + 2 + parBytes c 0 1 + parBytes c 1 1 ≤ 88)) = true → (s.opBusy [0x0D04] (fun _ => true)) = false → s.opsFull (s.issuer c.path) = false → s.starts (.deviceEngineAlloc c) 0x0108 0 1 0 0 c []) ∧
    (∀ (c : Cmd), s.ready 0x0109 c = true → onlyM (s.issuer c.path) = true →
      (cleanCmd c [(0, 8)] false && decide (parBytes c 0 1 < 96)) = true → parBytes c 0 1 < 8 → s.engFaulted (parBytes c 0 1) = true →
      exec (.deviceEngineRestart c) s = .next (s.post c 0x0109 stNotPermitted 0 0 true)) ∧
    (∀ (c : Cmd), s.ready 0x0109 c = true → onlyM (s.issuer c.path) = true →
      (cleanCmd c [(0, 8)] false && decide (parBytes c 0 1 < 96)) = true → s.engFaulted (parBytes c 0 1) = false →
      exec (.deviceEngineRestart c) s = .next (s.post c 0x0109 stBadParam 0 0 true)) ∧
    (∀ (c : Cmd), s.ready 0x0109 c = true → onlyM (s.issuer c.path) = true →
      (cleanCmd c [(0, 8)] false && decide (parBytes c 0 1 < 96)) = true → 8 ≤ parBytes c 0 1 → s.engFaulted (parBytes c 0 1) = true →
      s.answersWith (.deviceEngineRestart c) 0x0109 c 0 fun t => t.rd (PEN_ENG_STATUS_STATE (parBytes c 0 1)) = 1 ∧
      t.rd (PEN_ENG_STATUS_GROUP (parBytes c 0 1)) = grpGeneral ∧ t.rd (PEN_ENG_STATUS_FAULT_CAUSE (parBytes c 0 1)) = 0 ∧
      t.rd PEN_ALLOC_GENERAL = (t.inGroup grpGeneral).length % 2 ^ PEN_ALLOC_GENERAL.width ∧ s.keepsMem t) ∧
    (∀ (e : Nat), e < 96 → (s.allocEngines 4 8).rd (PEN_ENG_STATUS_GROUP e) = groupOf 4 8 e ∧
      (s.allocEngines 4 8).rd (PEN_ENG_STATUS_STATE e) = (if s.rd (PEN_ENG_STATUS_STATE e) = 2 ∧
      s.rd (PEN_ENG_STATUS_GROUP e) ≠ groupOf 4 8 e then 1 else s.rd (PEN_ENG_STATUS_STATE e))) ∧
    (∀ (e : Nat), (e < 8 → groupOf 4 8 e = grpControl) ∧ (8 ≤ e → e < 12 → groupOf 4 8 e = grpMirror) ∧ groupOf 4 8 12 = grpHotPlug ∧
      groupOf 4 8 13 = grpPatrol ∧ (14 ≤ e → e < 22 → groupOf 4 8 e = grpLog) ∧ (22 ≤ e → groupOf 4 8 e = grpGeneral)) ∧
    (∀ (e : Eng), (s.rd (PEN_ENG_STATUS_STATE e) = 4 ∨ s.rd (PEN_ENG_STATUS_STATE e) = 0) → s.does (.engineWatchdog e) s []) ∧
    (∀ (e : Eng), s.rd (PEN_ENG_STATUS_STATE e) ≠ 4 → s.rd (PEN_ENG_STATUS_STATE e) ≠ 0 →
      s.does (.engineWatchdog e) ((s.wr PEN_EVENT_WATCHDOG 1).faultEngine e 1) []) ∧
    (∀ (e : Eng) (k : Bool), (s.rd (PEN_ENG_STATUS_STATE e) = 4 ∨ s.rd (PEN_ENG_STATUS_STATE e) = 0) → s.does (.lmemError e k) s []) ∧
    (∀ (e : Eng), s.rd (PEN_ENG_STATUS_STATE e) ≠ 4 → s.rd (PEN_ENG_STATUS_STATE e) ≠ 0 →
      s.does (.lmemError e true) s [(PEN_LMEM_ECC_LMEM_CE, satInc PEN_LMEM_ECC_LMEM_CE.width (s.rd PEN_LMEM_ECC_LMEM_CE)),
      (PEN_EVENT_LMEM_CE, 1)]) ∧
    (∀ (e : Eng), s.rd (PEN_ENG_STATUS_STATE e) ≠ 4 → s.rd (PEN_ENG_STATUS_STATE e) ≠ 0 →
      s.does (.lmemError e false) ((s.inc PEN_LMEM_ECC_LMEM_UE).faultEngine e 2) []) ∧
    (∀ (e : Eng) (k : Nat), s.rd (PEN_ENG_STATUS_GROUP e) = grpGeneral → s.ops = [] → 8 ≤ e.val → k < 4 →
      (s.faultEngine e k).rd (PEN_ENG_STATUS_STATE e) = 4 ∧ (s.faultEngine e k).rd (PEN_ENG_STATUS_FAULT_CAUSE e) = k ∧
      (s.faultEngine e k).rd PEN_EVENT_ENG_FAULT = 1 ∧ s.keepsMem (s.faultEngine e k))

/-- POOL_ZERO, POOL_COPY and POOL_CRC64, and the steps of their operations. POOL_ZERO, POOL_COPY and POOL_CRC64 start as long operations over
ranges in windows; POOL_ZERO answers BUSY while the pool is being restored, POOL_COPY BAD_PARAMETER outside the windows. A step of
POOL_CRC64 over one line takes that line's CRC; the CRC of R671 of the nine digits is its known value. A step of POOL_ZERO puts a line of
zeros into the buffer of its engine's cluster. Forms for which a clause concludes that exec answers a next state with the effect named,
from conditions on the state and operands alone: poolZero, poolCopy, poolCrc64. (14_penek_engines.md) -/
def Obligations.DataServices : Prop :=
  ∀ s : State, s.Inv →
    (∀ (c : Cmd), s.ready 0x0609 c = true → (cleanCmd c [(0, 8), (64, 64),
      (128, 64)] false && decide (parBytes c 0 1 ≤ 16) && s.svcRange (parBytes c 8 8) (parBytes c 16 8)) = true → s.poolBusy = false →
      (s.issuer c.path = .m ∨ s.inWindowsAll (parBytes c 8 8) (parBytes c 16 8) = true) → s.opsFull (s.issuer c.path) = false →
      s.starts (.poolZero c) 0x0609 0 (parBytes c 16 8) 0 0 c []) ∧
    (∀ (c : Cmd), s.ready 0x0609 c = true → (cleanCmd c [(0, 8), (64, 64),
      (128, 64)] false && decide (parBytes c 0 1 ≤ 16) && s.svcRange (parBytes c 8 8) (parBytes c 16 8)) = true → s.poolBusy = true →
      (s.issuer c.path = .m ∨ s.inWindowsAll (parBytes c 8 8) (parBytes c 16 8) = true) →
      exec (.poolZero c) s = .next (s.post c 0x0609 stBusy 0 0 true)) ∧
    (∀ (c : Cmd), s.ready 0x060A c = true → (cleanCmd c [(0, 8), (8, 8), (64, 64), (128, 64),
      (192, 64)] false && decide (parBytes c 0 1 ≤ 16) && decide (parBytes c 1 1 < 3) && (parBytes c 1 1 == 2 || s.svcRange (parBytes c 8 8) (parBytes c 24 8)) && (parBytes c 1 1 == 1 || s.svcRange (parBytes c 16 8) (parBytes c 24 8)) && parBytes c 24 8 % 64 == 0 && decide (0 < parBytes c 24 8) && parBytes c 8 8 % 64 == 0 && parBytes c 16 8 % 64 == 0) = true → s.poolBusy = false → parBytes c 1 1 = 0 → s.inWindowsAll (parBytes c 8 8) (parBytes c 24 8) = true → s.inWindowsAll (parBytes c 16 8) (parBytes c 24 8) = true → s.opsFull (s.issuer c.path) = false → s.starts (.poolCopy c) 0x060A 0 (parBytes c 24 8) 0 0 c []) ∧
    (∀ (c : Cmd), s.ready 0x060A c = true → (cleanCmd c [(0, 8), (8, 8), (64, 64), (128, 64),
      (192, 64)] false && decide (parBytes c 0 1 ≤ 16) && decide (parBytes c 1 1 < 3) && (parBytes c 1 1 == 2 || s.svcRange (parBytes c 8 8) (parBytes c 24 8)) && (parBytes c 1 1 == 1 || s.svcRange (parBytes c 16 8) (parBytes c 24 8)) && parBytes c 24 8 % 64 == 0 && decide (0 < parBytes c 24 8) && parBytes c 8 8 % 64 == 0 && parBytes c 16 8 % 64 == 0) = true → s.poolBusy = false → parBytes c 1 1 = 0 → s.inWindowsAll (parBytes c 8 8) (parBytes c 24 8) = false → exec (.poolCopy c) s = .next (s.post c 0x060A stBadParam 0 0 true)) ∧
    (∀ (c : Cmd), s.ready 0x060B c = true → (cleanCmd c [(64, 64),
      (128, 64)] false && s.svcRange (parBytes c 8 8) (parBytes c 16 8)) = true → s.poolBusy = false →
      s.inWindowsAll (parBytes c 8 8) (parBytes c 16 8) = true → s.opsFull (s.issuer c.path) = false →
      s.starts (.poolCrc64 c) 0x060B 0 (parBytes c 16 8) 0 (2 ^ 64 - 1) c []) ∧
    (∀ (src base len done acc : Nat), done < len → s.svcBad (base + done) = false → s.mgmt.inject = [] → (s.pool.wb.filter fun e =>
      e.src == src) = [] → s.crcLines src base len done acc 1 = (s, done + 64, crc64 acc (s.loadBytes (base + done) 64), none)) ∧
    (crc64 (2 ^ 64 - 1) [0x31#8, 0x32#8, 0x33#8, 0x34#8, 0x35#8, 0x36#8, 0x37#8, 0x38#8, 0x39#8] ^^^ (2 ^ 64 - 1) = 0x995DC9BBDF1939FA) ∧
    (∀ (o : Op) (base len done disc : Nat) (u : State), (s.zeroLines o base len done disc 1).1 = u → done < len → s.pastDrain = false →
      s.svcStoreMeets (clusterSrc o.engine) (base + done) = 0 → (base + done) % 64 = 0 → (s.pool.wb.any fun e =>
      e.line == base + done) = false → (s.zeroLines o base len done disc 1).2 = (done + 64, disc) ∧
      (∃ e ∈ u.pool.wb, e.src = clusterSrc o.engine ∧ e.line = base + done ∧ e.mask = fullMask ∧ e.data = 0 ∧ e.tags = [o.handle]) ∧
      s.keepsMem u)

/-- Commit logs: creation, appends, batches, trimming and deletion. A log is created, trimmed and deleted, OVERLAP answers a second creation,
and BAD_PARAMETER a trim past the last record and an append to no log; an append whose payload is inline waits with it; one whose payload
is whole is tried, takes the next LSN, past the end of the ring at its start, and fails in a full log; a full batch ends with a close of
its domain, and its statuses follow the close. A read of a log's LSNs latches their upper halves. Forms for which a clause concludes that
exec answers a next state with the effect named, from conditions on the state and operands alone: poolLogCreate, poolLogDelete,
poolLogTrim, poolLogAppend, logPayloadFetched, logBatchEnd, logBatchStatus, penLogLoRead. (14_penek_engines.md) -/
def Obligations.CommitLogs : Prop :=
  ∀ s : State, s.Inv →
    (∀ (c : Cmd), s.ready 0x060C c = true → onlyM (s.issuer c.path) = true → (cleanCmd c [(0, 8), (8, 8), (16, 8), (24, 8), (32, 16),
      (64, 64), (128, 64)] true && decide (parBytes c 0 1 < 64) && decide (parBytes c 1 1 < 16) && decide (16 ≤ parBytes c 2 1) && decide (parBytes c 2 1 ≤ 36) && decide (parBytes c 3 1 ≤ 100) && decide (parBytes c 4 2 ≤ 1024) && parBytes c 8 8 % 2 ^ parBytes c 2 1 == 0 && parBytes c 16 8 % 4096 == 0) = true → s.poolBusy = false → s.on (PEN_LOG_CFG_VALID (parBytes c 0 1)) = false → s.touchesLock (parBytes c 8 8) (2 ^ parBytes c 2 1) = false → s.touchesLock (parBytes c 16 8) 4096 = false → s.firstDenied .m (if opFlag c then 0 else 1) (parBytes c 16 8) 4096 = none → (opFlag c = false ∨ s.svcBad (parBytes c 16 8) = false) → s.covered (fun w => !s.on (WIN_STRICT w) && s.winDom w == some (parBytes c 1 1)) (parBytes c 8 8) (2 ^ parBytes c 2 1) 4096 = true → s.covered (fun w => !s.on (WIN_STRICT w) && s.winDom w == some (parBytes c 1 1)) (parBytes c 16 8) 4096 4096 = true → s.on (ORD_DOM_CFG_MIRROR_TARGET (parBytes c 1 1)) = false → s.logClash (parBytes c 0 1) (parBytes c 8 8) (2 ^ parBytes c 2 1) (parBytes c 16 8) = false → (parBytes c 16 8 + 4096 ≤ parBytes c 8 8 ∨ parBytes c 8 8 + 2 ^ parBytes c 2 1 ≤ parBytes c 16 8) → s.answers (.poolLogCreate c) 0x060C c ((s.putLog c).rd (LOGX_TAIL (parBytes c 0 1))) (s.putLog c) []) ∧
    (∀ (c : Cmd), s.ready 0x060C c = true → onlyM (s.issuer c.path) = true → (cleanCmd c [(0, 8), (8, 8), (16, 8), (24, 8), (32, 16),
      (64, 64), (128, 64)] true && decide (parBytes c 0 1 < 64) && decide (parBytes c 1 1 < 16) && decide (16 ≤ parBytes c 2 1) && decide (parBytes c 2 1 ≤ 36) && decide (parBytes c 3 1 ≤ 100) && decide (parBytes c 4 2 ≤ 1024) && parBytes c 8 8 % 2 ^ parBytes c 2 1 == 0 && parBytes c 16 8 % 4096 == 0) = true → s.poolBusy = false → s.on (PEN_LOG_CFG_VALID (parBytes c 0 1)) = true → s.covered (fun w => !s.on (WIN_STRICT w) && s.winDom w == some (parBytes c 1 1)) (parBytes c 8 8) (2 ^ parBytes c 2 1) 4096 = true → s.covered (fun w => !s.on (WIN_STRICT w) && s.winDom w == some (parBytes c 1 1)) (parBytes c 16 8) 4096 4096 = true → s.on (ORD_DOM_CFG_MIRROR_TARGET (parBytes c 1 1)) = false → (opFlag c = false ∨ s.svcBad (parBytes c 16 8) = false) → exec (.poolLogCreate c) s = .next (s.post c 0x060C stOverlap 0 0 true)) ∧
    (∀ (c : Cmd), s.ready 0x060D c = true → onlyM (s.issuer c.path) = true →
      (cleanCmd c [(0, 8)] false && decide (parBytes c 0 1 < 64)) = true → (s.pool.appends.any fun a => a.log == parBytes c 0 1) = false →
      s.on (PEN_LOG_CFG_VALID (parBytes c 0 1)) = true → s.answers (.poolLogDelete c) 0x060D c 0 s [(PEN_LOG_CFG_VALID (parBytes c 0 1), 0),
      (PEN_LOG_CFG_DOMAIN (parBytes c 0 1), 0), (PEN_LOG_CFG_RING_LOG2 (parBytes c 0 1), 0), (PEN_LOG_CFG_WINDOW_US (parBytes c 0 1), 0),
      (PEN_LOG_CFG_MAX_BATCH (parBytes c 0 1), 0), (PEN_LOG_CFG_LAST_DEGRADED (parBytes c 0 1), 0)]) ∧
    (∀ (c : Cmd), s.ready 0x060F c = true →
      ((match s.issuer c.path with | .g _ => false | _ => true) && s.logGranted (parBytes c 0 1) (s.issuer c.path)) = true →
      (cleanCmd c [(0, 8), (64, 64)] false && decide (parBytes c 0 1 < 64)) = true → s.on (PEN_LOG_CFG_VALID (parBytes c 0 1)) = true →
      parBytes c 8 8 ≤ s.rd (LOGX_PREV (parBytes c 0 1)) → s.rd (LOGX_HEAD (parBytes c 0 1)) ≤ parBytes c 8 8 →
      s.boundary (parBytes c 0 1) (s.rd (LOGX_HEAD (parBytes c 0 1))) (parBytes c 8 8) (s.ringSize (parBytes c 0 1) / 64) = true →
      s.answers (.poolLogTrim c) 0x060F c 0 s [(LOGX_HEAD (parBytes c 0 1), parBytes c 8 8)]) ∧
    (∀ (c : Cmd), s.ready 0x060F c = true →
      ((match s.issuer c.path with | .g _ => false | _ => true) && s.logGranted (parBytes c 0 1) (s.issuer c.path)) = true →
      (cleanCmd c [(0, 8), (64, 64)] false && decide (parBytes c 0 1 < 64)) = true → s.rd (LOGX_PREV (parBytes c 0 1)) < parBytes c 8 8 →
      exec (.poolLogTrim c) s = .next (s.post c 0x060F stBadParam 0 0 true)) ∧
    (∀ (c : Cmd), s.ready 0x060E c = true → s.logGranted (parBytes c 0 1) (s.issuer c.path) = true →
      (cleanCmd c ((if parBits c 8 1 == 1 then [(64, 320)] else [(64, 64)]) ++ [(0, 8), (8, 1),
      (16, 16)]) false && decide (parBytes c 0 1 < 64) && decide (1 ≤ parBytes c 2 2) && decide (parBytes c 2 2 ≤ 16368) && (!(parBits c 8 1 == 1) || decide (parBytes c 2 2 ≤ 40))) = true → s.poolBusy = false → s.on (PEN_LOG_CFG_VALID (parBytes c 0 1)) = false → exec (.poolLogAppend c) s = .next (s.post c 0x060E stBadParam 0 0 true)) ∧
    (∀ (c : Cmd), s.ready 0x060E c = true → s.logGranted (parBytes c 0 1) (s.issuer c.path) = true →
      (cleanCmd c ((if parBits c 8 1 == 1 then [(64, 320)] else [(64, 64)]) ++ [(0, 8), (8, 1),
      (16, 16)]) false && decide (parBytes c 0 1 < 64) && decide (1 ≤ parBytes c 2 2) && decide (parBytes c 2 2 ≤ 16368) && (!(parBits c 8 1 == 1) || decide (parBytes c 2 2 ≤ 40))) = true → s.poolBusy = false → s.on (PEN_LOG_CFG_VALID (parBytes c 0 1)) = true → parBits c 8 1 = 1 → s.completes (.poolLogAppend c) fun t => ∃ u : State, t = u.tryAppend (s.rd SYS_ORDER) ∧ u.late = s.late ++ [⟨0x060E, c, s.rd SYS_ORDER, false⟩] ∧ u.pool.appends = s.pool.appends ++ [⟨s.rd SYS_ORDER, parBytes c 0 1, c, s.issuer c.path, parBytes c 2 2, leBytes (parBytes c 2 2) (parBytes c 8 (parBytes c 2 2)), none, 0, none, none⟩]) ∧
    (∀ (i : Nat), (s.pool.appends.find? fun x => x.id == i) = none → s.does (.logPayloadFetched i) s []) ∧
    (∀ (i : Nat) (a : Append), (s.pool.appends.find? fun x => x.id == i) = some a → a.len ≤ a.payload.length →
      s.does (.logPayloadFetched i) (s.tryAppend i) []) ∧
    (∀ (i : Nat) (a : Append), (s.pool.appends.find? fun x => x.id == i) = some a → a.payload.length < a.len → (s.outst.any fun x =>
      x.waiter == appendWaiter i) = true → s.does (.logPayloadFetched i) s []) ∧
    (∀ (i : Nat) (a : Append), (s.pool.appends.find? fun x => x.id == i) = some a → a.lsn = none → a.payload.length = a.len →
      s.appendBehind a = false → s.checkerHeld = false → s.issuerFrozen a.issuer = false → s.batchTakes a.log = true →
      s.itemPasses a.issuer = (s, true) → s.tryAppend i = s.writeRecord a) ∧
    (∀ (a : Append), s.rd (LOGX_HEAD a.log) + s.ringSize a.log < s.nextLsn a.log (recBytes a.len) + recBytes a.len → a.log < 64 →
      s.writeRecord a = ((s.inc (PEN_LOG_COUNT_FULL a.log)).wr PEN_EVENT_LOG_FULL 1).failAppend a.id stNoResource) ∧
    (∀ (n size : Nat), s.rd (LOGX_TAIL n) % s.ringSize n + size ≤ s.ringSize n → s.nextLsn n size = s.rd (LOGX_TAIL n)) ∧
    (∀ (n size : Nat), s.ringSize n < s.rd (LOGX_TAIL n) % s.ringSize n + size →
      s.nextLsn n size = (s.rd (LOGX_TAIL n) / s.ringSize n + 1) * s.ringSize n) ∧
    (∀ (n : Fin 64), (s.rd (LOGX_OPEN_AT n) = 0 ∨ s.on (PEN_LOG_CFG_VALID n) = false ∨ s.checkerHeld = true) →
      s.does (.logBatchEnd n) s []) ∧
    (∀ (n : Fin 64), s.rd (LOGX_OPEN_AT n) ≠ 0 → s.on (PEN_LOG_CFG_VALID n) = true → s.checkerHeld = false →
      s.firstDenied .m 1 (s.rd (LOGX_HEADER n)) 64 = none → s.rd (PEN_LOG_CFG_MAX_BATCH n) ≤ (s.openBatch n).length →
      s.on (ORD_DOM_CFG_VALID (s.rd (PEN_LOG_CFG_DOMAIN n))) = true → s.completes (.logBatchEnd n) fun t =>
      ∃ u : State, t = u.requestClose (s.rd (PEN_LOG_CFG_DOMAIN n)) (.log n (s.rd (LOGX_BATCH n))) ∧ u.rd (LOGX_OPEN_AT n) = 0 ∧
      u.rd (LOGX_BATCH n) = (s.rd (LOGX_BATCH n) + 1) % 2 ^ (LOGX_BATCH 0).width ∧ u.openBatch n = []) ∧
    (∀ (n : Fin 64), (s.pool.appends.find? fun a => a.log == n.val && a.closed.isSome) = none → s.does (.logBatchStatus n) s []) ∧
    (∀ (n : Fin 64) (a : Append) (deg : Bool) (k v : Nat), (s.pool.appends.find? fun x => x.log == n.val && x.closed.isSome) = some a →
      a.closed = some (deg, false, k) → a.tail = some v → (s.pool.appends.filter fun x =>
      x.log == n.val && x.batch == a.batch && x.closed.isSome) = [a] →
      exec (.logBatchStatus n) s = .next ((s.wr (PEN_LOG_CFG_LAST_DEGRADED n) (b2n deg)).postAppend a)) ∧
    (∀ (a : Append) (deg : Bool) (k l : Nat), a.closed = some (deg, false, k) → a.lsn = some l →
      s.postAppend a = (({ s with pool := { s.pool with appends := s.pool.appends.filter fun x => x.id != a.id } }).inc (PEN_LOG_COUNT_APPENDS a.log)).finishLates 0x060E a.id (if deg then stDegraded else stOk) (appendResult l k true deg)) ∧
    (∀ (n : Fin 64), exec (.penLogLoRead n 0) s = giveRead (s.latch (PEN_LOG_TAIL_LO_LSN n) (PEN_LOG_TAIL_HI_LSN n) (s.rd (LOGX_TAIL n))) ∧
      exec (.penLogLoRead n 1) s = giveRead (s.latch (PEN_LOG_COMMIT_LO_LSN n) (PEN_LOG_COMMIT_HI_LSN n) (s.rd (LOGX_PREV n))) ∧
      exec (.penLogLoRead n 2) s = giveRead (s.latch (PEN_LOG_HEAD_LO_LSN n) (PEN_LOG_HEAD_HI_LSN n) (s.rd (LOGX_HEAD n)))) ∧
    (∀ (n : Fin 64) (w : Fin 3), s.completes (.penLogLoRead n w) fun t => s.keepsMem t ∧ t.pool = s.pool ∧ t.ops = s.ops)

/-- SMBus, address resolution, JTAG, the debug access port, firmware images and the debug commands. SMBus and JTAG do nothing while the switch
die is off. IDENTIFY, STATUS, REG_ADDR, the register commands, the recovery data and run, the command write, the alert response and the
address resolution answer and write as each clause says; a register access over SMBus waits while a Bridle session holds the checker, and
while one waits another does nothing; a register write, recovery data, a recovery run and a command without a right PEC are counted and
discarded. EXTEST, SAMPLE, IDCODE and BYPASS load the instruction and shift their register. A debug access starts when none waits;
DEBUG_OVERRIDE is written by the debug access port alone. The FIRMWARE commands start or select, FIRMWARE_WRITE of the running image
answers NOT_PERMITTED; FABRIC_LEAVE starts, and answers NOT_PERMITTED with mirrored domains and no flag; DEBUG_INJECT arms a fault; an
indicator frame sends 64 bits and the load pulse; a temperature sample shows NOW, and at 115 C sets both flags. Forms for which a clause
concludes that exec answers a next state with the effect named, from conditions on the state and operands alone: smbIdentify, smbRegAddr,
smbRegDataRead, smbRegDataWrite, smbStatus, smbRecoveryData, alertResponse, arpPrepareToArp, arpResetDevice, arpGetUdid, arpAssignAddress,
extest, samplePreload, idcode, bypass, dapRead, dapWrite, indicatorFrame, thermalSample, smbRecoveryRun, smbCmd, debugOverrideWrite,
debugInject, firmwareWrite, firmwareVerify, firmwareSelect, firmwareActivate, fabricLeave. (20_management_and_debug.md,
21_electrical_and_thermal.md) -/
def Obligations.Management : Prop :=
  ∀ s : State, s.Inv →
    (s.sideUp = false → s.does .smbIdentify s []) ∧
    (∀ (a : BitVec 32), s.sideUp = false → s.does (.smbRegAddr a) s []) ∧
    (s.sideUp = false → s.does .smbRegDataRead s []) ∧
    (∀ (v : BitVec 32) (k : Bool), s.sideUp = false → s.does (.smbRegDataWrite v k) s []) ∧
    (s.sideUp = false → s.does .smbStatus s []) ∧
    (∀ (l : List (BitVec 8)) (k : Bool), s.sideUp = false → s.does (.smbRecoveryData l k) s []) ∧
    (s.sideUp = false → s.does .alertResponse s []) ∧
    (s.sideUp = false → s.does .arpPrepareToArp s []) ∧
    (s.sideUp = false → s.does .arpResetDevice s []) ∧
    (∀ (k : Bool), s.sideUp = false → s.does (.arpGetUdid k) s []) ∧
    (∀ (k : Bool) (a : BitVec 7), s.sideUp = false → s.does (.arpAssignAddress k a) s []) ∧
    (∀ (v : BitVec 1024), s.sideUp = false → s.does (.extest v) s []) ∧
    (∀ (v : BitVec 1024), s.sideUp = false → s.does (.samplePreload v) s []) ∧
    (s.sideUp = false → s.does .idcode s []) ∧
    (s.sideUp = false → s.does .bypass s []) ∧
    (∀ (a : Option (BitVec 66)) (k : Bool), s.sideUp = false → s.does (.dapRead a k) s []) ∧
    (∀ (a : Option (BitVec 66)) (k : Bool) (d : BitVec 64), s.sideUp = false → s.does (.dapWrite a k d) s []) ∧
    (s.sideUp = false → s.does .indicatorFrame s []) ∧
    (∀ (t : BitVec 8), s.sideUp = false → s.does (.thermalSample t) s []) ∧
    (∀ (v : BitVec 8) (k : Bool), s.sideUp = false → s.does (.smbRecoveryRun v k) s []) ∧
    (∀ (w : BitVec 512) (k : Bool), s.sideUp = false → s.does (.smbCmd w k) s []) ∧
    (s.sideUp = true → s.does .smbIdentify (s.smbRead 0x01 (16 :: (natBytes 2 0x1F3C ++ natBytes 2 0x5256 ++ [0x11, s.rd MGT_NODE_ID_NODE_ID + 128 * s.rd MGT_NODE_ID_NODE_VALID, 0, 0] ++ natBytes 8 Config.serial.toNat))) []) ∧
    (∀ (code : Nat) (l : List Nat), s.smbRead code l = s.emit (.smbus (l ++ [pec ([2 * s.rd MGT_NODE_ID_SMB_ADDR, code, 2 * s.rd MGT_NODE_ID_SMB_ADDR + 1] ++ l)]))) ∧
    (∀ (a : BitVec 32), s.sideUp = true → s.does (.smbRegAddr a) s [(SYS_SMB_ADDR, a.toNat)]) ∧
    (∀ (t : State) (l : List (BitVec 8)), s.sideUp = true → s.rd SMBX_OP = 0 → s.checkerHeld = false → ((s.wrs [(SMBX_OP, 1),
      (SMBX_AT, s.rd SYS_SMB_ADDR), (SMBX_DATA, 0),
      (SYS_SMB_ADDR, s.rd SYS_SMB_ADDR + 4)]).wr SMBX_OP 0).verdict (regCheck 2 0 (s.rd SYS_SMB_ADDR) 4) = none → ((s.wrs [(SMBX_OP, 1),
      (SMBX_AT, s.rd SYS_SMB_ADDR), (SMBX_DATA, 0),
      (SYS_SMB_ADDR, s.rd SYS_SMB_ADDR + 4)]).wr SMBX_OP 0).barLoad (s.rd SYS_SMB_ADDR) 4 = (t, l) →
      exec .smbRegDataRead s = .next (t.smbRead 0x11 (l.map fun b => b.toNat))) ∧
    (s.sideUp = true → s.rd SMBX_OP = 0 → s.checkerHeld = true → s.does .smbRegDataRead s [(SMBX_OP, 1), (SMBX_AT, s.rd SYS_SMB_ADDR),
      (SMBX_DATA, 0), (SYS_SMB_ADDR, s.rd SYS_SMB_ADDR + 4)]) ∧
    (∀ (v : BitVec 32) (k : Bool), s.sideUp = true → s.rd SMBX_OP ≠ 0 → s.does .smbRegDataRead s [] ∧
      s.does (.smbRegDataWrite v k) s []) ∧
    (∀ (v : BitVec 32), s.sideUp = true → s.rd SMBX_OP = 0 →
      s.does (.smbRegDataWrite v false) s [(MGT_SMB_STATUS_PEC_ERR, satInc MGT_SMB_STATUS_PEC_ERR.width (s.rd MGT_SMB_STATUS_PEC_ERR))]) ∧
    (∀ (v : BitVec 32), s.sideUp = true → s.rd SMBX_OP = 0 → s.checkerHeld = false → ((s.wrs [(SMBX_OP, 2), (SMBX_AT, s.rd SYS_SMB_ADDR),
      (SMBX_DATA, v.toNat), (SYS_SMB_ADDR, s.rd SYS_SMB_ADDR + 4)]).wr SMBX_OP 0).verdict (regCheck 2 1 (s.rd SYS_SMB_ADDR) 4) = none →
      s.does (.smbRegDataWrite v true) (((s.wrs [(SMBX_OP, 2), (SMBX_AT, s.rd SYS_SMB_ADDR), (SMBX_DATA, v.toNat),
      (SYS_SMB_ADDR, s.rd SYS_SMB_ADDR + 4)]).wr SMBX_OP 0).barStore 48 (s.rd SYS_SMB_ADDR) (leBytes 4 v.toNat)) []) ∧
    (∀ (v : BitVec 32), s.sideUp = true → s.rd SMBX_OP = 0 → s.checkerHeld = false → (((s.wrs [(SMBX_OP, 2), (SMBX_AT, s.rd SYS_SMB_ADDR),
      (SMBX_DATA, v.toNat), (SYS_SMB_ADDR, s.rd SYS_SMB_ADDR + 4)]).wr SMBX_OP 0).check (regCheck 2 1 (s.rd SYS_SMB_ADDR) 4)).2 = false →
      s.does (.smbRegDataWrite v true) ((((s.wrs [(SMBX_OP, 2), (SMBX_AT, s.rd SYS_SMB_ADDR), (SMBX_DATA, v.toNat),
      (SYS_SMB_ADDR, s.rd SYS_SMB_ADDR + 4)]).wr SMBX_OP 0).check (regCheck 2 1 (s.rd SYS_SMB_ADDR) 4)).1.emit (.smbus [])) []) ∧
    (s.sideUp = true → s.mgmt.smbq = [] → s.does .smbStatus (s.smbRead 0x21 [0]) []) ∧
    (∀ (w : Nat) (l : List Nat), s.sideUp = true → s.mgmt.smbq = w :: l →
      s.does .smbStatus ((State.alert { s with mgmt := { s.mgmt with smbq := l } }).smbRead 0x21 (32 :: natBytes 32 w)) []) ∧
    (∀ (l : List (BitVec 8)) (k : Bool), s.sideUp = true → (k = false ∨ s.on SYS_RECOVERY = false) →
      s.does (.smbRecoveryData l k) s [(MGT_SMB_STATUS_PEC_ERR, satInc MGT_SMB_STATUS_PEC_ERR.width (s.rd MGT_SMB_STATUS_PEC_ERR))]) ∧
    (∀ (l : List (BitVec 8)), s.sideUp = true → s.on SYS_RECOVERY = true → l.length ≤ 128 →
      exec (.smbRecoveryData l true) s = .next ({ s with mgmt := { s.mgmt with recovery := s.mgmt.recovery ++ l } })) ∧
    (∀ (v : BitVec 8) (k : Bool), s.sideUp = true → (k = false ∨ v ≠ 0x5A ∨ s.on SYS_RECOVERY = false) →
      s.does (.smbRecoveryRun v k) s [(MGT_SMB_STATUS_PEC_ERR, satInc MGT_SMB_STATUS_PEC_ERR.width (s.rd MGT_SMB_STATUS_PEC_ERR))]) ∧
    (s.sideUp = true → s.on SYS_RECOVERY = true →
      imageCode s.mgmt.recovery ((s.mgmt.recovery.drop 0x1000).take (headerOf s.mgmt.recovery).2.1) ≠ 0 →
      s.does (.smbRecoveryRun 0x5A true) s []) ∧
    (s.sideUp = true → s.on SYS_RECOVERY = true →
      imageCode s.mgmt.recovery ((s.mgmt.recovery.drop 0x1000).take (headerOf s.mgmt.recovery).2.1) = 0 →
      s.does (.smbRecoveryRun 0x5A true) ((((s.wr SYS_RECOVERY 0).strapPorts.runImage 2 s.mgmt.recovery)).alert) []) ∧
    (∀ (w : BitVec 512) (k : Bool), s.sideUp = true → s.smbAdmits (packetOpcode w) = false →
      s.does (.smbCmd w k) (s.emit (.smbus [])) []) ∧
    (∀ (w : BitVec 512), s.sideUp = true → s.smbAdmits (packetOpcode w) = true →
      s.does (.smbCmd w false) s [(MGT_SMB_STATUS_PEC_ERR, satInc MGT_SMB_STATUS_PEC_ERR.width (s.rd MGT_SMB_STATUS_PEC_ERR))]) ∧
    (∀ (w : BitVec 512), s.sideUp = true → s.smbAdmits (packetOpcode w) = true → s.rd PWR_STATUS_STATE = 0 →
      s.on PWR_STATUS_ENTERING = false → s.does (.smbCmd w true) (s.runOpcode (packetOpcode w) (packetCmd .smbus w)) []) ∧
    (∀ (c : Cmd), s.ready 0x0101 c = true → s.runOpcode 0x0101 c = afterOf s (exec (.deviceInfo c) s) ∧
      s.runOpcode 0x0609 c = afterOf s (exec (.poolZero c) s) ∧ s.runOpcode 0x0A02 c = afterOf s (exec (.errorRelease c) s)) ∧
    (∀ (o : Nat) (c : Cmd), (opTable.find? fun e => e.1 == o).isNone = true → s.ready o c = true →
      s.runOpcode o c = s.post c o stBadOpcode 0 0 true) ∧
    (s.sideUp = true → s.on MGT_SMB_STATUS_ALERT = true →
      s.does .alertResponse ((s.emit (.smbus [2 * s.rd MGT_NODE_ID_SMB_ADDR])).alert) []) ∧
    (s.sideUp = true → s.on MGT_SMB_STATUS_ALERT = false → s.does .alertResponse ((s.emit (.smbus [])).alert) []) ∧
    (s.sideUp = true → s.does .arpPrepareToArp s [(MGT_SMB_STATUS_AR, 0)]) ∧
    (s.sideUp = true → s.does .arpResetDevice s [(MGT_SMB_STATUS_AR, 0)]) ∧
    (∀ (k : Bool), s.sideUp = true → k = false → s.on MGT_SMB_STATUS_AR = true → s.does (.arpGetUdid k) (s.emit (.smbus [])) []) ∧
    (∀ (k : Bool), s.sideUp = true → (k = true ∨ s.on MGT_SMB_STATUS_AR = false) →
      s.does (.arpGetUdid k) (s.emit (.smbus ((17 :: udid ++ [2 * s.rd MGT_NODE_ID_SMB_ADDR + 1]) ++ [pec ([0xC2, 0x03, 0xC3] ++ (17 :: udid ++ [2 * s.rd MGT_NODE_ID_SMB_ADDR + 1]))]))) []) ∧
    (∀ (a : BitVec 7), s.sideUp = true → s.does (.arpAssignAddress true a) s [(MGT_NODE_ID_SMB_ADDR, a.toNat), (MGT_SMB_STATUS_AR, 1)]) ∧
    (∀ (a : BitVec 7), s.does (.arpAssignAddress false a) s []) ∧
    (∀ (v : BitVec 1024), s.sideUp = true → s.doesThen (.extest v) [(JTGX_IR, 0), (DBG_STATUS_TAP_ACTIVE, 1), (JTGX_BSR, v.toNat)] (fun u =>
      u.emit (.jtag v.toNat 1024))) ∧
    (∀ (v : BitVec 1024), s.sideUp = true → s.completes (.samplePreload v) fun t => t.rd JTGX_IR = 1 ∧ t.rd DBG_STATUS_TAP_ACTIVE = 1 ∧
      t.rd JTGX_BSR = v.toNat ∧ s.keepsRegs t [JTGX_IR, DBG_STATUS_TAP_ACTIVE, JTGX_BSR] ∧ s.keepsMem t) ∧
    (s.sideUp = true → s.doesThen .idcode [(JTGX_IR, 2), (DBG_STATUS_TAP_ACTIVE, 1)] (fun u => u.emit (.jtag 0x152560FF 32))) ∧
    (s.sideUp = true → s.doesThen .bypass [(JTGX_IR, 0xFF), (DBG_STATUS_TAP_ACTIVE, 1)] (fun u => u.emit (.jtag 0 1))) ∧
    (∀ (a : Option (BitVec 66)) (k : Bool), s.sideUp = true → s.rd DAPX_OP ≠ 0 → s.does (.dapRead a k) s []) ∧
    (∀ (a : Option (BitVec 66)) (k : Bool) (d : BitVec 64), s.sideUp = true → s.rd DAPX_OP ≠ 0 → s.does (.dapWrite a k d) s []) ∧
    (∀ (a : BitVec 66) (k : Bool), s.sideUp = true → s.rd DAPX_OP = 0 → s.rd PWR_STATUS_STATE = 0 → s.on PWR_STATUS_ENTERING = false →
      s.completes (.dapRead (some a) k) fun t => ∃ u : State, t = u.dapRun ∧ s.writes u [(DAPX_SPACE, a.toNat / 2 ^ 64), (DAPX_OP, 1),
      (DAPX_AT, a.toNat % 2 ^ 64), (DAPX_ASP, a.toNat / 2 ^ 64), (DAPX_WIDE, b2n k), (DAPX_WDATA, 0),
      (DAPX_ADDR, a.toNat % 2 ^ 64 + if k then 8 else 4), (JTGX_IR, 0x22), (DBG_STATUS_TAP_ACTIVE, 1),
      (DBG_STATUS_DAP_ACCESSES, satInc DBG_STATUS_DAP_ACCESSES.width (s.rd DBG_STATUS_DAP_ACCESSES))]) ∧
    (∀ (k : Bool) (d : BitVec 64), s.sideUp = true → s.rd DAPX_OP = 0 → s.rd PWR_STATUS_STATE = 0 → s.on PWR_STATUS_ENTERING = false →
      s.completes (.dapWrite none k d) fun t => ∃ u : State, t = u.dapRun ∧ s.writes u [(DAPX_OP, 2), (DAPX_AT, s.rd DAPX_ADDR),
      (DAPX_ASP, s.rd DAPX_SPACE), (DAPX_WIDE, b2n k), (DAPX_WDATA, d.toNat), (DAPX_ADDR, s.rd DAPX_ADDR + if k then 8 else 4),
      (JTGX_IR, 0x22), (DBG_STATUS_TAP_ACTIVE, 1),
      (DBG_STATUS_DAP_ACCESSES, satInc DBG_STATUS_DAP_ACCESSES.width (s.rd DBG_STATUS_DAP_ACCESSES))]) ∧
    ((s.rd DAPX_OP = 0 ∨ s.checkerHeld = true) → s.dapRun = s) ∧
    (s.rd DAPX_OP = 1 → s.checkerHeld = false → 2 ≤ s.rd DAPX_ASP → s.dapRun = s.dapEnd 0 true false) ∧
    (∀ (w : Fin 50) (v : Bool), w.val ≠ byDap → s.does (.debugOverrideWrite w v) s []) ∧
    (∀ (v : Bool), s.completes (.debugOverrideWrite 49 v) fun t => t.rd DBG_CTRL_DEBUG_OVERRIDE = b2n v ∧ s.keepsMem t) ∧
    (∀ (c : Cmd), s.ready 0x0C01 c = true → onlyM (s.issuer c.path) = true → ((cleanCmd c [(0, 8), (8, 8),
      (64, 64)] false && decide (1 ≤ parBytes c 0 1) && decide (parBytes c 0 1 ≤ 6) && (if parBytes c 0 1 = 3 ∨ parBytes c 0 1 = 4 then decide (parBytes c 8 8 < s.poolC) && (s.mapAddr (parBytes c 8 8)).1 == parBytes c 1 1 else decide (parBytes c 1 1 < 128))) = true) → s.answers (.debugInject c) 0x0C01 c 0 ({ s with mgmt := { s.mgmt with inject := s.mgmt.inject ++ [(parBytes c 0 1, parBytes c 1 1, parBytes c 8 8)] } }) []) ∧
    (∀ (c : Cmd), s.ready 0x0D01 c = true → onlyM (s.issuer c.path) = true → (cleanCmd c [(0, 8), (32, 32), (64, 64),
      (128, 32)] false && decide (parBytes c 0 1 < 2) && parBytes c 4 4 % 4096 == 0 && parBytes c 16 4 % 4096 == 0 && decide (0 < parBytes c 16 4) && decide (parBytes c 4 4 + parBytes c 16 4 ≤ 0x1100000)) = true → (s.imageBusy (parBytes c 0 1)) = false → s.mgmtHost.isSome = true → (¬(parBytes c 4 4 < 0x1000000 ∧ s.rd BOOTX_FROM = parBytes c 0 1)) → s.opsFull (s.issuer c.path) = false → s.starts (.firmwareWrite c) 0x0D01 0 (parBytes c 16 4) 0 0 c []) ∧
    (∀ (c : Cmd), s.ready 0x0D01 c = true → onlyM (s.issuer c.path) = true → (cleanCmd c [(0, 8), (32, 32), (64, 64),
      (128, 32)] false && decide (parBytes c 0 1 < 2) && parBytes c 4 4 % 4096 == 0 && parBytes c 16 4 % 4096 == 0 && decide (0 < parBytes c 16 4) && decide (parBytes c 4 4 + parBytes c 16 4 ≤ 0x1100000)) = true → s.mgmtHost.isSome = true → parBytes c 4 4 < 0x1000000 → s.rd BOOTX_FROM = parBytes c 0 1 → exec (.firmwareWrite c) s = .next (s.post c 0x0D01 stNotPermitted 0 0 true)) ∧
    (∀ (c : Cmd), s.ready 0x0D02 c = true → onlyM (s.issuer c.path) = true →
      (cleanCmd c [(0, 8)] false && decide (parBytes c 0 1 < 2)) = true → s.opsFull (s.issuer c.path) = false →
      s.starts (.firmwareVerify c) 0x0D02 0 (headerOf (s.flashBytes (parBytes c 0 1) 0 16)).2.1 0 0 c []) ∧
    (∀ (c : Cmd), s.ready 0x0D03 c = true → onlyM (s.issuer c.path) = true →
      (cleanCmd c [(0, 8)] false && (decide (parBytes c 0 1 < 2) || parBytes c 0 1 == 0xFF)) = true →
      s.answers (.firmwareSelect c) 0x0D03 c 0 s [(MGT_FLASH_STATUS_SELECT, if parBytes c 0 1 = 0xFF then 0 else parBytes c 0 1 + 1)]) ∧
    (∀ (c : Cmd), s.ready 0x0D04 c = true → onlyM (s.issuer c.path) = true →
      (cleanCmd c [(0, 8)] true && decide (parBytes c 0 1 < 2) && opFlag c) = true → (s.opBusy [opFwActivate] (fun _ => true)) = false →
      (s.imageBusy (parBytes c 0 1)) = false → bits (headerOf (s.flashBytes (parBytes c 0 1) 0 16)).2.2.1 16 8 = s.rd PEN_FW_VERSION_MAJOR →
      s.opsFull (s.issuer c.path) = false → s.starts (.firmwareActivate c) 0x0D04 0 (countN 96 fun e =>
      decide (8 ≤ e) && !s.engFaulted e) 0 0 c []) ∧
    (∀ (c : Cmd), s.ready 0x0B02 c = true → onlyM (s.issuer c.path) = true → cleanCmd c [] true = true → (s.opBusy [opLeave] (fun _ =>
      true)) = false → opFlag c = false → (idxs 16 fun d =>
      s.on (ORD_DOM_CFG_VALID d) && (s.on (ORD_DOM_CFG_MIRRORED d) || s.on (ORD_DOM_CFG_MIRROR_TARGET d))) = [] →
      s.opsFull (s.issuer c.path) = false → s.starts (.fabricLeave c) 0x0B02 0 4 0 0 c []) ∧
    (∀ (c : Cmd), s.ready 0x0B02 c = true → onlyM (s.issuer c.path) = true → cleanCmd c [] true = true → opFlag c = false → (idxs 16 fun d =>
      s.on (ORD_DOM_CFG_VALID d) && (s.on (ORD_DOM_CFG_MIRRORED d) || s.on (ORD_DOM_CFG_MIRROR_TARGET d))) ≠ [] →
      exec (.fabricLeave c) s = .next (s.post c 0x0B02 stNotPermitted 0 0 true)) ∧
    (s.sideUp = true → s.completes .indicatorFrame fun t => t = ((((List.range 64).foldl (fun (u : State) (k : Nat) =>
      u.emit (.pin 8 k (bitSet s.indicators (63 - k)))) s).emit (.pin 9 0 true)).emit (.pin 9 0 false)) ∧
      ∀ c < 32, bitSet s.indicators (2 * c) = (match s.slotPort c with | some p => lit (bits (s.rd (SLTX_CTL p)) 8 2) s.now | none => false) ∧ bitSet s.indicators (2 * c + 1) = (match s.slotPort c with | some p => lit (bits (s.rd (SLTX_CTL p)) 6 2) s.now | none => false)) ∧
    (∀ (t : BitVec 8), s.sideUp = true → t.toInt < 105 → s.on THRMX_SEEN = true →
      t.toInt ≤ (BitVec.ofNat 8 (s.rd GLB_THERMAL_TJ_PEAK)).toInt → s.does (.thermalSample t) s [(GLB_THERMAL_TJ_NOW, t.toNat)]) ∧
    (∀ (t : BitVec 8), s.sideUp = true → 115 ≤ t.toInt → s.completes (.thermalSample t) fun u => u.rd GLB_THERMAL_TJ_NOW = t.toNat ∧
      u.rd GLB_THERMAL_HOT = 1 ∧ u.rd GLB_THERMAL_CRIT = 1 ∧
      s.keepsRegs u [GLB_THERMAL_TJ_NOW, GLB_THERMAL_TJ_PEAK, THRMX_SEEN, GLB_THERMAL_HOT, GLB_THERMAL_CRIT])

/-- The fetch of commands from mailboxes and spools, snapshots of spools, and configuration requests. A mailbox that is empty, has a FENCE
behind unfinished commands or no room for the response, and a spool that is not valid, do nothing at a fetch; a mailbox with an admitted
command advances its head and runs it. A snapshot of a spool is due. A configuration request to a host without a port, in reset, contained
or asleep changes nothing; one before READY is answered with retry status; afterwards one to no function is an Unsupported Request, a
write to function 0 or 1 writes its register and is answered, and a read of the identity of function 1 gives its IDs. Forms for which a
clause concludes that exec answers a next state with the effect named, from conditions on the state and operands alone: commandFetch,
ycpIndGo, configRequest. (15_command_packets.md, 05_pcie_ports.md, 08_routing_and_hierarchies.md) -/
def Obligations.FetchesAndConfiguration : Prop :=
  ∀ s : State, s.Inv →
    (∀ (m : Fin 1073), s.rd (YCP_MBX_REQ_HEAD m) = s.rd (YCP_MBX_REQ_TAIL m) → s.does (.commandFetch (.mailbox m)) s []) ∧
    (∀ (m : Fin 1073), s.rd (YCP_MBX_REQ_HEAD m) ≠ s.rd (YCP_MBX_REQ_TAIL m) → s.rd (YCP_MBX_STATUS_NOT_FINAL m) = 0 →
      s.rd (YCP_MBX_RSP_TAIL m) = s.rd (YCP_MBX_RSP_HEAD m) →
      s.takesCmd (packetOpcode (BitVec.ofNat 512 (s.rd (YCP_MBX_REQ_SLOT m (s.rd (YCP_MBX_REQ_HEAD m) % 32))))) = true →
      s.pathOpen (packetCmd (mailboxPath m) (BitVec.ofNat 512 (s.rd (YCP_MBX_REQ_SLOT m (s.rd (YCP_MBX_REQ_HEAD m) % 32))))) = true →
      s.rd PWR_STATUS_STATE = 0 →
      s.does (.commandFetch (.mailbox m)) ((s.wr (YCP_MBX_REQ_HEAD m) (s.rd (YCP_MBX_REQ_HEAD m) + 1)).runOpcode (packetOpcode (BitVec.ofNat 512 (s.rd (YCP_MBX_REQ_SLOT m (s.rd (YCP_MBX_REQ_HEAD m) % 32))))) (packetCmd (mailboxPath m) (BitVec.ofNat 512 (s.rd (YCP_MBX_REQ_SLOT m (s.rd (YCP_MBX_REQ_HEAD m) % 32)))))) []) ∧
    (∀ (m : Fin 1073), fenceFlag (packetCmd (mailboxPath m) (BitVec.ofNat 512 (s.rd (YCP_MBX_REQ_SLOT m (s.rd (YCP_MBX_REQ_HEAD m) % 32))))) = true → s.rd (YCP_MBX_STATUS_NOT_FINAL m) ≠ 0 → s.does (.commandFetch (.mailbox m)) s []) ∧
    (∀ (m : Fin 1073), 32 < 2 * (s.rd (YCP_MBX_STATUS_NOT_FINAL m) + 1) → s.does (.commandFetch (.mailbox m)) s []) ∧
    (∀ (n : Fin 32768) (w : BitVec 512), s.on (SPL_VALID n) = false → s.does (.commandFetch (.spool n w)) s []) ∧
    (∀ (v : BitVec 31), s.completes (.ycpIndGo v) fun t => t.rd YCP_IND_SEL_SPOOL = v.toNat % 32768 ∧ t.rd YCP_IND_STATUS_DONE = 0 ∧
      bitSet (t.rd SNAPX_DUE) 5 = true ∧ t = { s with regs := t.regs }) ∧
    (∀ (h : Host) (r : CfgReq), s.hostPort h = none → s.awake = true → s.does (.configRequest h r) s []) ∧
    (∀ (h : Host) (r : CfgReq) (p : Nat), s.hostPort h = some p →
      (s.on (HOSTF_PERST h) = true ∨ s.contained 2 h = true ∨ 2 ≤ s.rd PWR_STATUS_STATE) → s.awake = true →
      s.does (.configRequest h r) s []) ∧
    (∀ (h : Host) (r : CfgReq) (p : Nat), s.hostPort h = some p → s.on (HOSTF_PERST h) = false → s.contained 2 h = false →
      s.rd PWR_STATUS_STATE = 0 → s.rd GLB_BOOT_STATUS_STAGE ≠ 6 → s.awake = true →
      s.does (.configRequest h r) (s.complete h r.requester.toNat r.tag.toNat 2 [] false) []) ∧
    (∀ (h : Host) (r : CfgReq) (p : Nat), s.hostPort h = some p → s.on (HOSTF_PERST h) = false → s.contained 2 h = false →
      s.rd PWR_STATUS_STATE = 0 → s.rd GLB_BOOT_STATUS_STAGE = 6 → r.bus = none → (r.dev.val ≠ 0 ∨ 2 ≤ r.fn.val) → s.awake = true →
      s.does (.configRequest h r) (s.complete h r.requester.toNat r.tag.toNat cplUR [] false) []) ∧
    (∀ (h : Host) (r : CfgReq) (p : Nat), s.hostPort h = some p → s.on (HOSTF_PERST h) = false → s.contained 2 h = false →
      s.rd PWR_STATUS_STATE = 0 → s.rd GLB_BOOT_STATUS_STAGE = 6 → r.bus = none → r.dev = 0 → r.fn = 1 → r.wr = none → r.reg = .ident →
      s.awake = true → s.does (.configRequest h r) (s.complete h r.requester.toNat r.tag.toNat 0 [0x3C, 0x1F, 0x56, 0x52] false) []) ∧
    (∀ (h : Host) (r : CfgReq) (p : Nat) (v : BitVec 32) (be : BitVec 4), s.hostPort h = some p → s.on (HOSTF_PERST h) = false →
      s.contained 2 h = false → s.rd PWR_STATUS_STATE = 0 → s.rd GLB_BOOT_STATUS_STAGE = 6 → r.bus = none → r.dev = 0 → r.fn = 1 →
      r.wr = some (v, be) → s.awake = true →
      s.does (.configRequest h r) ((s.writeF1 h v.toNat be.toNat r.reg).complete h r.requester.toNat r.tag.toNat 0 [] false) []) ∧
    (∀ (h : Host) (r : CfgReq) (p : Nat) (v : BitVec 32) (be : BitVec 4), s.hostPort h = some p → s.on (HOSTF_PERST h) = false →
      s.contained 2 h = false → s.rd PWR_STATUS_STATE = 0 → s.rd GLB_BOOT_STATUS_STAGE = 6 → r.bus = none → r.dev = 0 → r.fn = 0 →
      r.wr = some (v, be) → s.awake = true →
      s.does (.configRequest h r) ((s.writeF0 h p v.toNat be.toNat r.reg).complete h r.requester.toNat r.tag.toNat 0 [] false) []) ∧
    (∀ (h : Host) (r : CfgReq) (p : Nat) (x : BitVec 8), s.hostPort h = some p → s.on (HOSTF_PERST h) = false → s.contained 2 h = false →
      s.rd PWR_STATUS_STATE = 0 → s.rd GLB_BOOT_STATUS_STAGE = 6 → r.bus = some x → x.toNat = s.rd (RTE_HIER_BUS_SEC_BUS h) →
      (s.rd (RTE_HIER_CFG_VB_COUNT h) ≤ r.dev.val ∨ r.fn.val ≠ 0) → s.awake = true →
      s.does (.configRequest h r) (s.complete h r.requester.toNat r.tag.toNat cplUR [] false) []) ∧
    (∀ (h v : Nat), h < 48 → bitSet (s.writeF1 h v 15 .command |>.rd (HOSTF_MSE h)) 0 = bitSet v 1 ∧
      s.keepsMem (s.writeF1 h v 3 .aerUncSta) ∧
      (s.writeF1 h v 15 .aerUncSta).rd (HOSTF_AER_UNC h) = s.rd (HOSTF_AER_UNC h) - (s.rd (HOSTF_AER_UNC h) &&& (v % 2 ^ 32)))

/-- R384: the address that a translation entry gives. The translated address of a matched address a by entry i is TARGET_BASE of i plus a
minus MATCH_BASE of i. (R384) -/
def Obligations.TranslatedAddress : Prop :=
  ∀ s : State, s.Inv →
    (∀ (i a : Nat), s.rd (XLAT_MATCH_BASE i) ≤ a → s.translated i a = s.rd (XLAT_TARGET_BASE i) + (a - s.rd (XLAT_MATCH_BASE i)))

/-- R671: the CRC-64 of the data services. POOL_CRC64 starts its register at all ones and ends by posting the register XOR all ones; each byte
is taken into the register reflected, with the bit reversal of 0x42F0E1EBA9EA3693 as polynomial; over the nine ASCII bytes 123456789 the
result is 0x995DC9BBDF1939FA. The form poolCrc64 completes under the stated conditions. (R671) -/
def Obligations.Crc64OfServices : Prop :=
  ∀ s : State, s.Inv →
    (∀ (v : Nat) (b : BitVec 8) (l : List (BitVec 8)), crc64 v (l ++ [b]) = (fun f : Nat → Nat =>
      f (f (f (f (f (f (f (f (crc64 v l ^^^ b.toNat))))))))) (fun x => if x % 2 = 1 then (x / 2) ^^^ crc64Poly else x / 2)) ∧
    (∀ k < 64, bitSet crc64Poly k = bitSet 0x42F0E1EBA9EA3693 (63 - k)) ∧
    (crc64 (2 ^ 64 - 1) [0x31, 0x32, 0x33, 0x34, 0x35, 0x36, 0x37, 0x38, 0x39] ^^^ (2 ^ 64 - 1) = 0x995DC9BBDF1939FA) ∧
    (∀ (c : Cmd), s.ready 0x060B c = true → (cleanCmd c [(64, 64),
      (128, 64)] false && s.svcRange (parBytes c 8 8) (parBytes c 16 8)) = true → s.poolBusy = false →
      s.inWindowsAll (parBytes c 8 8) (parBytes c 16 8) = true → s.opsFull (s.issuer c.path) = false →
      s.starts (.poolCrc64 c) 0x060B 0 (parBytes c 16 8) 0 (2 ^ 64 - 1) c []) ∧
    (∀ (o : Op), o.phase ≠ 0 → o.total = o.done + 64 → s.svcBad (parBytes o.cmd 8 8 + o.done) = false → s.mgmt.inject = [] →
      (s.pool.wb.filter fun e => e.src == clusterSrc o.engine) = [] → s.stepCrc o 1 = (s.setOp o.handle fun p =>
      { p with phase := 1, done := o.done + 64, acc := crc64 o.acc (s.loadBytes (parBytes o.cmd 8 8 + o.done) 64) }).finishOp o.handle stOk (crc64 o.acc (s.loadBytes (parBytes o.cmd 8 8 + o.done) 64) ^^^ (2 ^ 64 - 1)))

/-- R638: the order in which engines are assigned to groups. With m mirror and l commit-log engines, the engines from 8 on are assigned in
ascending number: m to the mirror, one to hot-plug, one to patrol, l to the commit log and the rest to the general group; with the
defaults these are PE8 to PE11, PE12, PE13, PE14 to PE21 and PE22 to PE95. (R638) -/
def Obligations.EngineGroups : Prop :=
  ∀ s : State, s.Inv →
    (∀ (m l : Nat), m + l ≤ 86 → (List.range 88).map (fun k =>
      groupOf m l (8 + k)) = List.replicate m grpMirror ++ [grpHotPlug] ++ [grpPatrol] ++ List.replicate l grpLog ++ List.replicate (86 - m - l) grpGeneral) ∧
    (∀ (m l e : Nat), e < 96 → (s.allocEngines m l).rd (PEN_ENG_STATUS_GROUP e) = groupOf m l e) ∧
    (∀ (e : Nat), (8 ≤ e → e ≤ 11 → groupOf 4 8 e = grpMirror) ∧ groupOf 4 8 12 = grpHotPlug ∧ groupOf 4 8 13 = grpPatrol ∧ (14 ≤ e →
      e ≤ 21 → groupOf 4 8 e = grpLog) ∧ (22 ≤ e → e ≤ 95 → groupOf 4 8 e = grpGeneral)) ∧
    (s.startEngines = (s.forN (fun e t => t.wrs [(PEN_ENG_STATUS_STATE e, 1), (PEN_ENG_STATUS_FAULT_CAUSE e, 0)]) 96).allocEngines 4 8)

/-- R367: the map between host buses and fabric buses at a position. A host bus X is mapped to FABRIC_BUS_BASE + (X − S) when S ≤ X ≤ U and X
− S < BUS_SPAN, and to none otherwise; where the host has programmed the position, a fabric bus is mapped back by the inverse. (R367) -/
def Obligations.BusMap : Prop :=
  ∀ s : State, s.Inv →
    (∀ (k x b : Nat), (s.toFabric k x = some b ↔ (s.rd (POS_SEC_BUS k) ≤ x ∧ x ≤ s.rd (POS_SUB_BUS k) ∧
      x - s.rd (POS_SEC_BUS k) < s.rd (POS_BUS_SPAN k) ∧ b = s.rd (POS_FABRIC_BUS_BASE k) + (x - s.rd (POS_SEC_BUS k))))) ∧
    (∀ (k x b : Nat), s.rd (POS_SEC_BUS k) ≠ 0 → (s.toHost k b = some x ↔ s.toFabric k x = some b))

/-- R492: INTERVAL of a rate, and the rates that are rejected. INTERVAL is 8000 × 2^19 / R rounded to the nearest integer; a SCHED_SHAPER_SET
whose rate lies outside 1 to 512,000 Mb/s completes with BAD_PARAM and nothing else. The form schedShaperSet completes under the stated
conditions. (R492) -/
def Obligations.ShaperInterval : Prop :=
  ∀ s : State, s.Inv →
    (∀ (r : Nat), 0 < r → 2 * (r * shaperInterval r) ≤ 2 * (8000 * 2 ^ 19) + r ∧ 2 * (8000 * 2 ^ 19) < 2 * (r * shaperInterval r) + r) ∧
    (∀ (i kind p t g r w : Nat), i < 4096 → 0 < r → r ≤ 512000 →
      (s.allotShaper i kind p t g r w).rd (SHP_INTERVAL i) = shaperInterval r % 2 ^ (SHP_INTERVAL 0).width) ∧
    (∀ (c : Cmd), s.ready 0x0504 c = true → onlyM (s.issuer c.path) = true → opFlag c = false →
      (parBytes c 8 4 = 0 ∨ 512000 < parBytes c 8 4) → exec (.schedShaperSet c) s = .next (s.post c 0x0504 stBadParam 0 0 true))

/-- R495: what a charge adds to E of a shaper. A charge of L bytes at time t sets E to the larger of E and t − BURST × 64 × INTERVAL and then
adds L × INTERVAL, in units of 2^-19 ns. (R495) -/
def Obligations.ShaperCharge : Prop :=
  ∀ s : State, s.Inv →
    (∀ (i l : Nat), i < 4096 → l < 2 ^ 16 → s.now < 2 ^ 64 →
      (s.charge i l).rd (SHPX_E i) = (max (s.rd (SHPX_E i)) (s.now * 2 ^ 19 - s.rd (SHP_BURST i) * 64 * s.rd (SHP_INTERVAL i)) + l * s.rd (SHP_INTERVAL i)) % 2 ^ 128 ∧ s.keepsRegs (s.charge i l) [SHPX_E i, SHPX_LEVEL i, SHP_ELIGIBLE i])

/-- R903: the Address Resolved flag and the address. An address taken from the chain comes with the Address Resolved flag set;
ARP_RESET_DEVICE clears the flag; ARP_ASSIGN_ADDRESS replaces SMB_ADDR and leaves node ID and SOURCE. Forms for which a clause concludes
that exec answers a next state with the effect named, from conditions on the state and operands alone: chainStopSample, arpResetDevice,
arpAssignAddress. (R903) -/
def Obligations.ResolvedAddress : Prop :=
  ∀ s : State, s.Inv →
    (∀ (v : Fin 64), (s.takeIdentity v 2).rd MGT_NODE_ID_SMB_ADDR = 0x20 + v ∧ (s.takeIdentity v 2).rd MGT_NODE_ID_NODE_ID = v ∧
      (s.takeIdentity v 2).rd MGT_NODE_ID_NODE_VALID = 1 ∧ (s.takeIdentity v 2).rd MGT_NODE_ID_SOURCE = 2 ∧
      (s.takeIdentity v 2).rd MGT_SMB_STATUS_AR = 1) ∧
    (s.chainUp = true → s.on CHNX_EDGE = true → s.rd CHNX_NBIT = 7 → bitSet (s.rd GLB_INPUT_STATUS_CHAIN_IN) 0 = true → s.rd CHNX_VAL ≤ 63 →
      s.completes .chainStopSample fun t => ∃ u : State, t = (u.takeIdentity (s.rd CHNX_VAL) 2).cell 8 true ∧
      (s.advTo (s.rd CHNX_EDGE_AT + 102 * ms)).writes u [(CHNX_EDGE, 0), (MGT_CHAIN_STATUS_RX_VALUE, s.rd CHNX_VAL),
      (MGT_CHAIN_STATUS_TX_VALUE, s.rd CHNX_VAL + 1), (MGT_CHAIN_STATUS_RX_VALID, 1), (CHNX_TX_OK, 1)]) ∧
    (s.sideUp = true → s.does .arpResetDevice s [(MGT_SMB_STATUS_AR, 0)]) ∧
    (∀ (a : BitVec 7), s.sideUp = true → s.completes (.arpAssignAddress true a) fun t => t.rd MGT_NODE_ID_SMB_ADDR = a.toNat ∧
      t.rd MGT_NODE_ID_NODE_ID = s.rd MGT_NODE_ID_NODE_ID ∧ t.rd MGT_NODE_ID_NODE_VALID = s.rd MGT_NODE_ID_NODE_VALID ∧
      t.rd MGT_NODE_ID_SOURCE = s.rd MGT_NODE_ID_SOURCE)

/-- R140: the re-arm of a masked input. DEVICE_INPUT_REARM clears the mask of the input it names; the input qualified at its frozen level then
keeps its raw level only, and at the other level takes it and raises its event. Forms for which a clause concludes that exec answers a
next state with the effect named, from conditions on the state and operands alone: deviceInputRearm, inputQualified. (R140) -/
def Obligations.InputRearm : Prop :=
  ∀ s : State, s.Inv →
    (∀ (c : Cmd), s.ready 0x0107 c = true → onlyM (s.issuer c.path) = true →
      (cleanCmd c [(0, 8)] false && isInput (parBytes c 0 1)) = true → s.answersWith (.deviceInputRearm c) 0x0107 c 0 fun t =>
      t.rd (inputFld (parBytes c 0 1)) = clrBit (s.rd (inputFld (parBytes c 0 1))) 2 ∧ s.keepsRegs t [inputFld (parBytes c 0 1)]) ∧
    (∀ (i : Fin 80) (level : Bool) (id : BitVec 1024) (mv : BitVec 16) (t : BitVec 8), isInput i = true → s.inputLive i = true →
      bitSet (s.rd (inputFld i)) 1 = true → bitSet (s.rd (inputFld i)) 0 = level →
      s.does (.inputQualified i level id mv t) s [(inputFld i, s.rd (inputFld i) % 8 + 8 * b2n level)]) ∧
    (∀ (i : Fin 80) (level : Bool) (id : BitVec 1024) (mv : BitVec 16) (t : BitVec 8), isInput i = true → s.inputLive i = true →
      bitSet (s.rd (inputFld i)) 1 = true → bitSet (s.rd (inputFld i)) 2 = false → bitSet (s.rd (inputFld i)) 0 ≠ level →
      s.does (.inputQualified i level id mv t) (((s.wr (inputFld i) (2 + b2n level * 9)).inputEvent i level false id.toNat mv.toNat t.toNat).chatter i) [])

/-- R107, R686: a read of a LO register latches the HI half of the same sample. A read of MGT_FT_TIME_LO, or of a PEN_LOG LO register, gives
the low half of the count and leaves its bits 63 to 32 in the HI register. Forms for which a clause concludes that exec answers a next
state with the effect named, from conditions on the state and operands alone: mgtFtTimeLoRead, penLogLoRead. (R107, R686) -/
def Obligations.LatchedReads : Prop :=
  ∀ s : State, s.Inv →
    (s.doesThen .mgtFtTimeLoRead [(MGT_FT_TIME_LO_TIME_LO, s.ft), (MGT_FT_TIME_HI_TIME_HI, s.ft / 2 ^ 32)] (fun u =>
      u.emit (.readData (s.ft % 2 ^ 32)))) ∧
    (∀ (n : Fin 64), s.doesThen (.penLogLoRead n 0) [(PEN_LOG_TAIL_LO_LSN n, s.rd (LOGX_TAIL n)),
      (PEN_LOG_TAIL_HI_LSN n, s.rd (LOGX_TAIL n) / 2 ^ 32)] (fun u => u.emit (.readData (s.rd (LOGX_TAIL n) % 2 ^ 32)))) ∧
    (∀ (n : Fin 64), s.doesThen (.penLogLoRead n 1) [(PEN_LOG_COMMIT_LO_LSN n, s.rd (LOGX_PREV n)),
      (PEN_LOG_COMMIT_HI_LSN n, s.rd (LOGX_PREV n) / 2 ^ 32)] (fun u => u.emit (.readData (s.rd (LOGX_PREV n) % 2 ^ 32)))) ∧
    (∀ (n : Fin 64), s.doesThen (.penLogLoRead n 2) [(PEN_LOG_HEAD_LO_LSN n, s.rd (LOGX_HEAD n)),
      (PEN_LOG_HEAD_HI_LSN n, s.rd (LOGX_HEAD n) / 2 ^ 32)] (fun u => u.emit (.readData (s.rd (LOGX_HEAD n) % 2 ^ 32))))

/-- R608: at most 4,096 reservations, the oldest evicted. A load-reserved that finds no reservation free evicts the oldest and counts it; the
count held stays at most 4,096. (R608) -/
def Obligations.ReservationLimit : Prop :=
  ∀ s : State, s.Inv →
    (∀ (a : PAcc), s.pool.resv.length ≤ 4096 → (s.reserve a).pool.resv.length ≤ 4096) ∧
    (∀ (a : PAcc) (r : Resv) (l : List Resv), s.pool.resv = r :: l → (s.pool.resv.all fun x => !sameHolder x a) = true →
      4096 ≤ s.pool.resv.length → (s.reserve a).pool.resv = l ++ [⟨a.src, a.requester, a.pasid, a.addr / 64 * 64, s.now, s.aloneSince a⟩] ∧
      (s.reserve a).rd ORD_COUNT_RESV_EVICT = satInc ORD_COUNT_RESV_EVICT.width (s.rd ORD_COUNT_RESV_EVICT)) ∧
    (∀ (a : PAcc), (s.pool.resv.filter fun x => !sameHolder x a).length < 4096 →
      (s.reserve a).rd ORD_COUNT_RESV_EVICT = s.rd ORD_COUNT_RESV_EVICT)

/-- R539: the completion timeout of each kind of request. Toward a host the timeout is that of the host's Completion Timeout Value; toward a
downstream port that of the port's DS_TIMEOUT in the same encodings, 40 ms at reset and set by ERROR_TIMEOUT_SET; toward a node
FABRIC_TIMEOUT in ms, 10 at reset and refused outside 1 to 1,000. Forms for which a clause concludes that exec answers a next state with
the effect named, from conditions on the state and operands alone: errorTimeoutSet, errorCfgSet. (R539) -/
def Obligations.CompletionTimeouts : Prop :=
  ∀ s : State, s.Inv →
    (∀ (n : Nat), s.timeoutOf .host n = ctovNs (s.rd (HOSTF_CTOV n)) ∧ s.timeoutOf .port n = ctovNs (s.rd (ERR_PORT_CTO_DS_TIMEOUT n)) ∧
      s.timeoutOf .node n = ms * s.rd ERR_CFG_FABRIC_TIMEOUT_MS) ∧
    (∀ (p : Nat), State.reset.timeoutOf .port p = 40 * ms ∧ State.reset.timeoutOf .node p = 10 * ms ∧ ctovNs 0 = 40 * ms ∧
      ctovNs 1 = 80 * us ∧ ctovNs 2 = 8 * ms ∧ ctovNs 5 = 40 * ms ∧ ctovNs 6 = 160 * ms ∧ ctovNs 9 = 640 * ms ∧ ctovNs 10 = 2500 * ms) ∧
    (∀ (c : Cmd), s.ready 0x0A04 c = true → onlyM (s.issuer c.path) = true → (cleanCmd c [(0, 8),
      (8, 8)] false && decide (parBytes c 0 1 < 128) && decide (parBytes c 1 1 < 16)) = true →
      s.answers (.errorTimeoutSet c) 0x0A04 c 0 s [(ERR_PORT_CTO_DS_TIMEOUT (parBytes c 0 1), parBytes c 1 1)]) ∧
    (∀ (c : Cmd), s.ready 0x0A03 c = true → onlyM (s.issuer c.path) = true → (parBytes c 4 2 = 0 ∨ 1000 < parBytes c 4 2) →
      exec (.errorCfgSet c) s = .next (s.post c 0x0A03 stBadParam 0 0 true)) ∧
    (∀ (c : Cmd), s.ready 0x0A03 c = true → onlyM (s.issuer c.path) = true → (cleanCmd c [(0, 16), (16, 5),
      (32, 16)] false && decide (1 ≤ parBytes c 0 2) && decide (parBytes c 0 2 ≤ 1000) && decide (1 ≤ parBytes c 4 2) && decide (parBytes c 4 2 ≤ 1000)) = true → s.answersWith (.errorCfgSet c) 0x0A03 c 0 fun t => t.rd ERR_CFG_FABRIC_TIMEOUT_MS = parBytes c 4 2 ∧ t = { s with regs := t.regs })

/-- A step runs the command at the front of the queue; an empty queue idles. For every command c and state s, a step of s with c at the front
of its queue is exec of c on s with the queue's rest; on an empty queue a step is a tick and the work that needs no command (the model's
choice, log entry 23). (01_architecture.md) -/
def Obligations.StepTakesTheFront : Prop :=
  ∀ (s : State) (c : Instr) (q : List Instr),
  step { s with pending := c :: q } = exec c { s with pending := q } ∧ step { s with pending := [] } = .next (State.idle { s with pending := [] })

/-- No command stops the machine. For every command and every state, whether a run reaches it or not, exec answers a next state: no command
faults or is refused. (95_what_each_step_holds.md) -/
def Obligations.EveryCommandRuns : Prop :=
  ∀ (c : Instr) (s : State), ∃ t, exec c s = .next t

/-- No command changes the queue of waiting commands. Whatever a command does, the queue of commands that wait is afterwards what it was
before: commands come from outside only (the model's queue, log entry 24). (01_architecture.md) -/
def Obligations.QueueIsTheSendersOwn : Prop :=
  ∀ (c : Instr) (s t : State), exec c s = .next t → t.pending = s.pending

/-- Every step keeps the stores in canonical form. From every state whose register store, pool memory and flash are in canonical form (keys
strictly rising and no entry at its reset value), and not only in runs from reset, a step that answers a next state answers one in which
they are again: equal contents are equal data. (12_ballast_pool.md, 20_management_and_debug.md) -/
def Obligations.StepKeepsTheStores : Prop :=
  ∀ s t : State, s.Inv → step s = .next t → t.Inv

/-- The state after reset meets the invariant. The register store, the pool memory and the flash of the state after reset are in canonical
form: nothing is listed. (03_clocks_time_reset.md) -/
def Obligations.ResetHoldsTheStores : Prop :=
  State.reset.Inv ∧ State.reset.pending = []

/-- What reset leaves. After reset every register field reads its reset value, no command, request, record or operation is held, no memory
byte is listed, and the registers named here read the values that the spec gives for reset: the boot stage 0, the default timeouts and the
default engine and link settings. (03_clocks_time_reset.md, 11_errors_and_containment.md) -/
def Obligations.ResetValues : Prop :=
  (∀ f : Fld, State.reset.rd f = f.rst % 2 ^ f.width) ∧ (∀ a, State.reset.loadByte a = 0) ∧
  State.reset.errq = [] ∧ State.reset.trig = [] ∧ State.reset.ops = [] ∧ State.reset.held = [] ∧ State.reset.late = [] ∧ State.reset.outst = [] ∧
  State.reset.out = [] ∧ State.reset.pending = [] ∧ State.reset.rd GLB_BOOT_STATUS_STAGE = 0 ∧ State.reset.rd ERR_CFG_FABRIC_TIMEOUT_MS = 10 ∧
  (∀ h < 48, State.reset.rd (HOSTF_IN_RESET h) = 1) ∧ State.reset.rd BRD_STATUS_LOCK_UNKNOWN = Fld.rst BRD_STATUS_LOCK_UNKNOWN % 2

/-- A status posted on each path. A status on a mailbox goes to the slot TAIL mod 32 of its response ring, with PHASE 1 on even passes, and
TAIL advances; on a command spool to the paired status spool in host memory, or it is held while Bus Master Enable of the owner's host is
0, or it is discarded when a spool is stopped or gone; on SMBus to its queue; a replayed command's failure is counted.
(15_command_packets.md) -/
def Obligations.StatusPosting : Prop :=
  ∀ s : State, s.Inv →
    (∀ (m : Fin 1073) (w : Nat), ∃ u : State, s.postMailbox m w = u.mailboxSignal m ∧
      s.writes u [(YCP_MBX_RSP_SLOT m (s.rd (YCP_MBX_RSP_TAIL m) % 32), withPhase w (s.rd (YCP_MBX_RSP_TAIL m) / 32 % 2 == 0)),
      (YCP_MBX_RSP_TAIL m, s.rd (YCP_MBX_RSP_TAIL m) + 1)]) ∧
    (∀ (c : Cmd) (m : Nat) (o st hd rs : Nat) (fin : Bool), mailbox c.path = some m →
      s.post c o st hd rs fin = s.postMailbox m (statusWord c o st hd rs fin)) ∧
    (∀ (c : Cmd) (n : Fin 32768) (o st hd rs : Nat) (fin : Bool), c.path = .spool n →
      (s.on (SPL_VALID n) = false ∨ s.on (SPL_VALID (s.rd (SPL_PAIRED n))) = false ∨ s.on (SPL_STOPPED n) = true ∨ s.on (SPL_STOPPED (s.rd (SPL_PAIRED n))) = true) → s.post c o st hd rs fin = s) ∧
    (∀ (c : Cmd) (n : Fin 32768) (o st hd rs : Nat) (fin : Bool), c.path = .spool n → s.on (SPL_VALID n) = true →
      s.on (SPL_VALID (s.rd (SPL_PAIRED n))) = true → s.on (SPL_STOPPED n) = false → s.on (SPL_STOPPED (s.rd (SPL_PAIRED n))) = false →
      s.hostOpen (s.rd (SPL_HOST (s.rd (SPL_PAIRED n)))) = true →
      s.post c o st hd rs fin = s.writeSpool (s.rd (SPL_PAIRED n)) (statusWord c o st hd rs fin) (intrFlag c && fin)) ∧
    (∀ (c : Cmd) (n : Fin 32768) (o st hd rs : Nat) (fin : Bool), c.path = .spool n → s.on (SPL_VALID n) = true →
      s.on (SPL_VALID (s.rd (SPL_PAIRED n))) = true → s.on (SPL_STOPPED n) = false → s.on (SPL_STOPPED (s.rd (SPL_PAIRED n))) = false →
      s.hostOpen (s.rd (SPL_HOST (s.rd (SPL_PAIRED n)))) = false →
      s.post c o st hd rs fin = (({ s with held := s.held ++ [Held.mk (s.rd (SPL_PAIRED n)) n (statusWord c o st hd rs fin) (intrFlag c && fin)] }).wr YCP_EVENT_STATUS_HELD 1).wakeHost (s.rd (SPL_HOST (s.rd (SPL_PAIRED n))))) ∧
    (∀ (c : Cmd) (o st hd rs : Nat) (fin : Bool), c.path = .smbus →
      (s.post c o st hd rs fin).mgmt.smbq = s.mgmt.smbq ++ [withPhase (statusWord c o st hd rs fin) (s.rd SYS_SMB_COUNT / 32 % 2 == 0)] ∧
      (s.post c o st hd rs fin).pool = s.pool) ∧
    (∀ (c : Cmd) (o st hd rs : Nat) (fin : Bool), c.path = .flash → st ≠ stOk →
      (s.post c o st hd rs fin).rd MGT_FLASH_STATUS_CMD_FAILED = satInc MGT_FLASH_STATUS_CMD_FAILED.width (s.rd MGT_FLASH_STATUS_CMD_FAILED)) ∧
    (∀ (c : Cmd) (o st hd rs : Nat) (fin : Bool), st < 256 → o < 65536 → hd < 65536 → rs < 2 ^ 192 →
      bits (statusWord c o st hd rs fin) 0 16 = c.tag.toNat ∧ bits (statusWord c o st hd rs fin) 16 8 = st ∧
      bitSet (statusWord c o st hd rs fin) 24 = fin ∧ bits (statusWord c o st hd rs fin) 32 16 = hd ∧
      bits (statusWord c o st hd rs fin) 48 16 = o ∧ bits (statusWord c o st hd rs fin) 64 192 = rs)

/-- The order of a command's checks, and what follows when they pass. A command that is not taken does nothing. Of one that is taken the first
check that fails decides: opcode, issuer, parameters, then the chapter's rules in their order; it receives one status with FINAL 1 and
handle 0, and nothing else changes. One that passes posts its status, starts a long operation, or waits with its path's NOT_FINAL counted
up. (15_command_packets.md) -/
def Obligations.CommandChecks : Prop :=
  ∀ s : State, s.Inv →
    (∀ (o : Nat) (perm : Issuer → Bool) (valid : Bool) (body : Issuer → CmdRes) (c : Cmd), s.ready o c = false →
      s.command o perm valid body c = s) ∧
    (∀ (o : Nat) (c : Cmd), s.ready o c = true → (opTable.find? fun e => e.1 == o).isNone = true →
      s.runOpcode o c = s.post c o stBadOpcode 0 0 true) ∧
    (∀ (o : Nat) (perm : Issuer → Bool) (valid : Bool) (body : Issuer → CmdRes) (c : Cmd), s.ready o c = true →
      perm (s.issuer c.path) = false → s.command o perm valid body c = s.post c o stNotPermitted 0 0 true) ∧
    (∀ (o : Nat) (perm : Issuer → Bool) (valid : Bool) (body : Issuer → CmdRes) (c : Cmd), s.ready o c = true →
      perm (s.issuer c.path) = true → valid = false → s.command o perm valid body c = s.post c o stBadParam 0 0 true) ∧
    (∀ (o : Nat) (perm : Issuer → Bool) (valid : Bool) (c : Cmd) (st : Nat), s.ready o c = true → perm (s.issuer c.path) = true →
      valid = true → s.command o perm valid (fun _ => .fail st) c = s.post c o st 0 0 true) ∧
    (∀ (o : Nat) (perm : Issuer → Bool) (valid : Bool) (c : Cmd) (r : Nat) (t : State), s.ready o c = true → perm (s.issuer c.path) = true →
      valid = true → s.command o perm valid (fun _ => .ok r t) c = t.post c o stOk 0 r true) ∧
    (∀ (o : Nat) (perm : Issuer → Bool) (valid : Bool) (c : Cmd) (e n ph a : Nat) (t : State), s.ready o c = true →
      perm (s.issuer c.path) = true → valid = true → s.opsFull (s.issuer c.path) = true → s.command o perm valid (fun _ =>
      .long e n ph a t) c = s.post c o stNoResource 0 0 true) ∧
    (∀ (o : Nat) (perm : Issuer → Bool) (valid : Bool) (c : Cmd) (e n ph a : Nat) (t : State), s.ready o c = true →
      perm (s.issuer c.path) = true → valid = true → s.opsFull (s.issuer c.path) = false → s.command o perm valid (fun _ =>
      .long e n ph a t) c = t.startOp c o e n ph a) ∧
    (∀ (o : Nat) (perm : Issuer → Bool) (valid : Bool) (c : Cmd) (k : Nat) (t : State), s.ready o c = true → perm (s.issuer c.path) = true →
      valid = true → s.command o perm valid (fun _ => .later k t) c = { t.openCmd c.path with late := t.late ++ [⟨o, c, k, false⟩] }) ∧
    (∀ (l : List (Bool × Nat)) (st : Nat) (m : List (Bool × Nat)) (r : CmdRes), l.all (fun x => !x.1) = true →
      firstFail (l ++ (true, st) :: m) r = .fail st ∧ firstFail l r = r) ∧
    (∀ (c : Cmd) (o e n ph a : Nat), ∃ x, (s.startOp c o e n ph a).ops = s.ops ++ [x] ∧ x.handle = s.nextHandle ∧ x.opcode = o ∧ x.cmd = c ∧
      x.total = n ∧ x.final = none ∧ (s.startOp c o e n ph a).pool = s.pool) ∧
    (s.ops.length ≤ 1024 → s.nextHandle ≠ 0 ∧ s.nextHandle < 65536 ∧ (s.ops.all fun x => x.handle != s.nextHandle) = true)
end

