-- ==== Sys2Proof/Laws/State.lean ====
section
/-! SUPPORT. What each named update of the state leaves unchanged, one lemma per component, and the register fields under an update of
another component. -/

namespace Sys2Proof.Machine

/-- Register fields are read from the field store alone. -/
@[simp] theorem State.rd_clk (s : State) (x : Clock) (f : Fld) : ({ s with clk := x } : State).rd f = s.rd f := rfl

/-- Register fields are read from the field store alone. -/
@[simp] theorem State.rd_errq (s : State) (x : List Rec) (f : Fld) : ({ s with errq := x } : State).rd f = s.rd f := rfl

/-- Register fields are read from the field store alone. -/
@[simp] theorem State.rd_trig (s : State) (x : List Rec) (f : Fld) : ({ s with trig := x } : State).rd f = s.rd f := rfl

/-- Register fields are read from the field store alone. -/
@[simp] theorem State.rd_ops (s : State) (x : List Op) (f : Fld) : ({ s with ops := x } : State).rd f = s.rd f := rfl

/-- Register fields are read from the field store alone. -/
@[simp] theorem State.rd_held (s : State) (x : List Held) (f : Fld) : ({ s with held := x } : State).rd f = s.rd f := rfl

/-- Register fields are read from the field store alone. -/
@[simp] theorem State.rd_late (s : State) (x : List Late) (f : Fld) : ({ s with late := x } : State).rd f = s.rd f := rfl

/-- Register fields are read from the field store alone. -/
@[simp] theorem State.rd_pool (s : State) (x : Pool) (f : Fld) : ({ s with pool := x } : State).rd f = s.rd f := rfl

/-- Register fields are read from the field store alone. -/
@[simp] theorem State.rd_switch (s : State) (x : Switch) (f : Fld) : ({ s with switch := x } : State).rd f = s.rd f := rfl

/-- Register fields are read from the field store alone. -/
@[simp] theorem State.rd_outst (s : State) (x : List Outst) (f : Fld) : ({ s with outst := x } : State).rd f = s.rd f := rfl

/-- Register fields are read from the field store alone. -/
@[simp] theorem State.rd_tether (s : State) (x : Tether) (f : Fld) : ({ s with tether := x } : State).rd f = s.rd f := rfl

/-- Register fields are read from the field store alone. -/
@[simp] theorem State.rd_bridle (s : State) (x : Bridle) (f : Fld) : ({ s with bridle := x } : State).rd f = s.rd f := rfl

/-- Register fields are read from the field store alone. -/
@[simp] theorem State.rd_mooring (s : State) (x : Mooring) (f : Fld) : ({ s with mooring := x } : State).rd f = s.rd f := rfl

/-- Register fields are read from the field store alone. -/
@[simp] theorem State.rd_mgmt (s : State) (x : Mgmt) (f : Fld) : ({ s with mgmt := x } : State).rd f = s.rd f := rfl

/-- Register fields are read from the field store alone. -/
@[simp] theorem State.rd_out (s : State) (x : List Out) (f : Fld) : ({ s with out := x } : State).rd f = s.rd f := rfl

/-- Register fields are read from the field store alone. -/
@[simp] theorem State.rd_free (s : State) (x : Nat) (f : Fld) : ({ s with free := x } : State).rd f = s.rd f := rfl

/-- Register fields are read from the field store alone. -/
@[simp] theorem State.rd_pending (s : State) (x : List Instr) (f : Fld) : ({ s with pending := x } : State).rd f = s.rd f := rfl

@[simp] theorem State.wr_clk (s : State) (f : Fld) (v : Nat) : (s.wr f v).clk = s.clk := rfl
@[simp] theorem State.wr_errq (s : State) (f : Fld) (v : Nat) : (s.wr f v).errq = s.errq := rfl
@[simp] theorem State.wr_trig (s : State) (f : Fld) (v : Nat) : (s.wr f v).trig = s.trig := rfl
@[simp] theorem State.wr_ops (s : State) (f : Fld) (v : Nat) : (s.wr f v).ops = s.ops := rfl
@[simp] theorem State.wr_held (s : State) (f : Fld) (v : Nat) : (s.wr f v).held = s.held := rfl
@[simp] theorem State.wr_late (s : State) (f : Fld) (v : Nat) : (s.wr f v).late = s.late := rfl
@[simp] theorem State.wr_pool (s : State) (f : Fld) (v : Nat) : (s.wr f v).pool = s.pool := rfl
@[simp] theorem State.wr_switch (s : State) (f : Fld) (v : Nat) : (s.wr f v).switch = s.switch := rfl
@[simp] theorem State.wr_outst (s : State) (f : Fld) (v : Nat) : (s.wr f v).outst = s.outst := rfl
@[simp] theorem State.wr_tether (s : State) (f : Fld) (v : Nat) : (s.wr f v).tether = s.tether := rfl
@[simp] theorem State.wr_bridle (s : State) (f : Fld) (v : Nat) : (s.wr f v).bridle = s.bridle := rfl
@[simp] theorem State.wr_mooring (s : State) (f : Fld) (v : Nat) : (s.wr f v).mooring = s.mooring := rfl
@[simp] theorem State.wr_mgmt (s : State) (f : Fld) (v : Nat) : (s.wr f v).mgmt = s.mgmt := rfl
@[simp] theorem State.wr_out (s : State) (f : Fld) (v : Nat) : (s.wr f v).out = s.out := rfl
@[simp] theorem State.wr_free (s : State) (f : Fld) (v : Nat) : (s.wr f v).free = s.free := rfl
@[simp] theorem State.wr_pending (s : State) (f : Fld) (v : Nat) : (s.wr f v).pending = s.pending := rfl

@[simp] theorem State.inc_clk (s : State) (f : Fld) : (s.inc f).clk = s.clk := rfl
@[simp] theorem State.inc_errq (s : State) (f : Fld) : (s.inc f).errq = s.errq := rfl
@[simp] theorem State.inc_trig (s : State) (f : Fld) : (s.inc f).trig = s.trig := rfl
@[simp] theorem State.inc_ops (s : State) (f : Fld) : (s.inc f).ops = s.ops := rfl
@[simp] theorem State.inc_held (s : State) (f : Fld) : (s.inc f).held = s.held := rfl
@[simp] theorem State.inc_late (s : State) (f : Fld) : (s.inc f).late = s.late := rfl
@[simp] theorem State.inc_pool (s : State) (f : Fld) : (s.inc f).pool = s.pool := rfl
@[simp] theorem State.inc_switch (s : State) (f : Fld) : (s.inc f).switch = s.switch := rfl
@[simp] theorem State.inc_outst (s : State) (f : Fld) : (s.inc f).outst = s.outst := rfl
@[simp] theorem State.inc_tether (s : State) (f : Fld) : (s.inc f).tether = s.tether := rfl
@[simp] theorem State.inc_bridle (s : State) (f : Fld) : (s.inc f).bridle = s.bridle := rfl
@[simp] theorem State.inc_mooring (s : State) (f : Fld) : (s.inc f).mooring = s.mooring := rfl
@[simp] theorem State.inc_mgmt (s : State) (f : Fld) : (s.inc f).mgmt = s.mgmt := rfl
@[simp] theorem State.inc_out (s : State) (f : Fld) : (s.inc f).out = s.out := rfl
@[simp] theorem State.inc_free (s : State) (f : Fld) : (s.inc f).free = s.free := rfl
@[simp] theorem State.inc_pending (s : State) (f : Fld) : (s.inc f).pending = s.pending := rfl

@[simp] theorem State.incBy_clk (s : State) (f : Fld) (n : Nat) : (s.incBy f n).clk = s.clk := rfl
@[simp] theorem State.incBy_errq (s : State) (f : Fld) (n : Nat) : (s.incBy f n).errq = s.errq := rfl
@[simp] theorem State.incBy_trig (s : State) (f : Fld) (n : Nat) : (s.incBy f n).trig = s.trig := rfl
@[simp] theorem State.incBy_ops (s : State) (f : Fld) (n : Nat) : (s.incBy f n).ops = s.ops := rfl
@[simp] theorem State.incBy_held (s : State) (f : Fld) (n : Nat) : (s.incBy f n).held = s.held := rfl
@[simp] theorem State.incBy_late (s : State) (f : Fld) (n : Nat) : (s.incBy f n).late = s.late := rfl
@[simp] theorem State.incBy_pool (s : State) (f : Fld) (n : Nat) : (s.incBy f n).pool = s.pool := rfl
@[simp] theorem State.incBy_switch (s : State) (f : Fld) (n : Nat) : (s.incBy f n).switch = s.switch := rfl
@[simp] theorem State.incBy_outst (s : State) (f : Fld) (n : Nat) : (s.incBy f n).outst = s.outst := rfl
@[simp] theorem State.incBy_tether (s : State) (f : Fld) (n : Nat) : (s.incBy f n).tether = s.tether := rfl
@[simp] theorem State.incBy_bridle (s : State) (f : Fld) (n : Nat) : (s.incBy f n).bridle = s.bridle := rfl
@[simp] theorem State.incBy_mooring (s : State) (f : Fld) (n : Nat) : (s.incBy f n).mooring = s.mooring := rfl
@[simp] theorem State.incBy_mgmt (s : State) (f : Fld) (n : Nat) : (s.incBy f n).mgmt = s.mgmt := rfl
@[simp] theorem State.incBy_out (s : State) (f : Fld) (n : Nat) : (s.incBy f n).out = s.out := rfl
@[simp] theorem State.incBy_free (s : State) (f : Fld) (n : Nat) : (s.incBy f n).free = s.free := rfl
@[simp] theorem State.incBy_pending (s : State) (f : Fld) (n : Nat) : (s.incBy f n).pending = s.pending := rfl

@[simp] theorem State.bump_clk (s : State) (f : Fld) : (s.bump f).clk = s.clk := rfl
@[simp] theorem State.bump_errq (s : State) (f : Fld) : (s.bump f).errq = s.errq := rfl
@[simp] theorem State.bump_trig (s : State) (f : Fld) : (s.bump f).trig = s.trig := rfl
@[simp] theorem State.bump_ops (s : State) (f : Fld) : (s.bump f).ops = s.ops := rfl
@[simp] theorem State.bump_held (s : State) (f : Fld) : (s.bump f).held = s.held := rfl
@[simp] theorem State.bump_late (s : State) (f : Fld) : (s.bump f).late = s.late := rfl
@[simp] theorem State.bump_pool (s : State) (f : Fld) : (s.bump f).pool = s.pool := rfl
@[simp] theorem State.bump_switch (s : State) (f : Fld) : (s.bump f).switch = s.switch := rfl
@[simp] theorem State.bump_outst (s : State) (f : Fld) : (s.bump f).outst = s.outst := rfl
@[simp] theorem State.bump_tether (s : State) (f : Fld) : (s.bump f).tether = s.tether := rfl
@[simp] theorem State.bump_bridle (s : State) (f : Fld) : (s.bump f).bridle = s.bridle := rfl
@[simp] theorem State.bump_mooring (s : State) (f : Fld) : (s.bump f).mooring = s.mooring := rfl
@[simp] theorem State.bump_mgmt (s : State) (f : Fld) : (s.bump f).mgmt = s.mgmt := rfl
@[simp] theorem State.bump_out (s : State) (f : Fld) : (s.bump f).out = s.out := rfl
@[simp] theorem State.bump_free (s : State) (f : Fld) : (s.bump f).free = s.free := rfl
@[simp] theorem State.bump_pending (s : State) (f : Fld) : (s.bump f).pending = s.pending := rfl

@[simp] theorem State.dec_clk (s : State) (f : Fld) : (s.dec f).clk = s.clk := rfl
@[simp] theorem State.dec_errq (s : State) (f : Fld) : (s.dec f).errq = s.errq := rfl
@[simp] theorem State.dec_trig (s : State) (f : Fld) : (s.dec f).trig = s.trig := rfl
@[simp] theorem State.dec_ops (s : State) (f : Fld) : (s.dec f).ops = s.ops := rfl
@[simp] theorem State.dec_held (s : State) (f : Fld) : (s.dec f).held = s.held := rfl
@[simp] theorem State.dec_late (s : State) (f : Fld) : (s.dec f).late = s.late := rfl
@[simp] theorem State.dec_pool (s : State) (f : Fld) : (s.dec f).pool = s.pool := rfl
@[simp] theorem State.dec_switch (s : State) (f : Fld) : (s.dec f).switch = s.switch := rfl
@[simp] theorem State.dec_outst (s : State) (f : Fld) : (s.dec f).outst = s.outst := rfl
@[simp] theorem State.dec_tether (s : State) (f : Fld) : (s.dec f).tether = s.tether := rfl
@[simp] theorem State.dec_bridle (s : State) (f : Fld) : (s.dec f).bridle = s.bridle := rfl
@[simp] theorem State.dec_mooring (s : State) (f : Fld) : (s.dec f).mooring = s.mooring := rfl
@[simp] theorem State.dec_mgmt (s : State) (f : Fld) : (s.dec f).mgmt = s.mgmt := rfl
@[simp] theorem State.dec_out (s : State) (f : Fld) : (s.dec f).out = s.out := rfl
@[simp] theorem State.dec_free (s : State) (f : Fld) : (s.dec f).free = s.free := rfl
@[simp] theorem State.dec_pending (s : State) (f : Fld) : (s.dec f).pending = s.pending := rfl

@[simp] theorem State.clearRange_clk (s : State) (lo n : Nat) : (s.clearRange lo n).clk = s.clk := rfl
@[simp] theorem State.clearRange_errq (s : State) (lo n : Nat) : (s.clearRange lo n).errq = s.errq := rfl
@[simp] theorem State.clearRange_trig (s : State) (lo n : Nat) : (s.clearRange lo n).trig = s.trig := rfl
@[simp] theorem State.clearRange_ops (s : State) (lo n : Nat) : (s.clearRange lo n).ops = s.ops := rfl
@[simp] theorem State.clearRange_held (s : State) (lo n : Nat) : (s.clearRange lo n).held = s.held := rfl
@[simp] theorem State.clearRange_late (s : State) (lo n : Nat) : (s.clearRange lo n).late = s.late := rfl
@[simp] theorem State.clearRange_pool (s : State) (lo n : Nat) : (s.clearRange lo n).pool = s.pool := rfl
@[simp] theorem State.clearRange_switch (s : State) (lo n : Nat) : (s.clearRange lo n).switch = s.switch := rfl
@[simp] theorem State.clearRange_outst (s : State) (lo n : Nat) : (s.clearRange lo n).outst = s.outst := rfl
@[simp] theorem State.clearRange_tether (s : State) (lo n : Nat) : (s.clearRange lo n).tether = s.tether := rfl
@[simp] theorem State.clearRange_bridle (s : State) (lo n : Nat) : (s.clearRange lo n).bridle = s.bridle := rfl
@[simp] theorem State.clearRange_mooring (s : State) (lo n : Nat) : (s.clearRange lo n).mooring = s.mooring := rfl
@[simp] theorem State.clearRange_mgmt (s : State) (lo n : Nat) : (s.clearRange lo n).mgmt = s.mgmt := rfl
@[simp] theorem State.clearRange_out (s : State) (lo n : Nat) : (s.clearRange lo n).out = s.out := rfl
@[simp] theorem State.clearRange_free (s : State) (lo n : Nat) : (s.clearRange lo n).free = s.free := rfl
@[simp] theorem State.clearRange_pending (s : State) (lo n : Nat) : (s.clearRange lo n).pending = s.pending := rfl

@[simp] theorem State.emit_regs (s : State) (o : Out) : (s.emit o).regs = s.regs := rfl
@[simp] theorem State.emit_clk (s : State) (o : Out) : (s.emit o).clk = s.clk := rfl
@[simp] theorem State.emit_errq (s : State) (o : Out) : (s.emit o).errq = s.errq := rfl
@[simp] theorem State.emit_trig (s : State) (o : Out) : (s.emit o).trig = s.trig := rfl
@[simp] theorem State.emit_ops (s : State) (o : Out) : (s.emit o).ops = s.ops := rfl
@[simp] theorem State.emit_held (s : State) (o : Out) : (s.emit o).held = s.held := rfl
@[simp] theorem State.emit_late (s : State) (o : Out) : (s.emit o).late = s.late := rfl
@[simp] theorem State.emit_pool (s : State) (o : Out) : (s.emit o).pool = s.pool := rfl
@[simp] theorem State.emit_switch (s : State) (o : Out) : (s.emit o).switch = s.switch := rfl
@[simp] theorem State.emit_outst (s : State) (o : Out) : (s.emit o).outst = s.outst := rfl
@[simp] theorem State.emit_tether (s : State) (o : Out) : (s.emit o).tether = s.tether := rfl
@[simp] theorem State.emit_bridle (s : State) (o : Out) : (s.emit o).bridle = s.bridle := rfl
@[simp] theorem State.emit_mooring (s : State) (o : Out) : (s.emit o).mooring = s.mooring := rfl
@[simp] theorem State.emit_mgmt (s : State) (o : Out) : (s.emit o).mgmt = s.mgmt := rfl
@[simp] theorem State.emit_free (s : State) (o : Out) : (s.emit o).free = s.free := rfl
@[simp] theorem State.emit_pending (s : State) (o : Out) : (s.emit o).pending = s.pending := rfl
@[simp] theorem State.rd_emit (s : State) (o : Out) (f : Fld) : (s.emit o).rd f = s.rd f := rfl

@[simp] theorem State.takeFree_regs (s : State)  : (s.takeFree).regs = s.regs := rfl
@[simp] theorem State.takeFree_clk (s : State)  : (s.takeFree).clk = s.clk := rfl
@[simp] theorem State.takeFree_errq (s : State)  : (s.takeFree).errq = s.errq := rfl
@[simp] theorem State.takeFree_trig (s : State)  : (s.takeFree).trig = s.trig := rfl
@[simp] theorem State.takeFree_ops (s : State)  : (s.takeFree).ops = s.ops := rfl
@[simp] theorem State.takeFree_held (s : State)  : (s.takeFree).held = s.held := rfl
@[simp] theorem State.takeFree_late (s : State)  : (s.takeFree).late = s.late := rfl
@[simp] theorem State.takeFree_pool (s : State)  : (s.takeFree).pool = s.pool := rfl
@[simp] theorem State.takeFree_switch (s : State)  : (s.takeFree).switch = s.switch := rfl
@[simp] theorem State.takeFree_outst (s : State)  : (s.takeFree).outst = s.outst := rfl
@[simp] theorem State.takeFree_tether (s : State)  : (s.takeFree).tether = s.tether := rfl
@[simp] theorem State.takeFree_bridle (s : State)  : (s.takeFree).bridle = s.bridle := rfl
@[simp] theorem State.takeFree_mooring (s : State)  : (s.takeFree).mooring = s.mooring := rfl
@[simp] theorem State.takeFree_mgmt (s : State)  : (s.takeFree).mgmt = s.mgmt := rfl
@[simp] theorem State.takeFree_out (s : State)  : (s.takeFree).out = s.out := rfl
@[simp] theorem State.takeFree_pending (s : State)  : (s.takeFree).pending = s.pending := rfl
@[simp] theorem State.rd_takeFree (s : State)  (f : Fld) : (s.takeFree).rd f = s.rd f := rfl

@[simp] theorem State.advTo_regs (s : State) (t : Nat) : (s.advTo t).regs = s.regs := rfl
@[simp] theorem State.advTo_errq (s : State) (t : Nat) : (s.advTo t).errq = s.errq := rfl
@[simp] theorem State.advTo_trig (s : State) (t : Nat) : (s.advTo t).trig = s.trig := rfl
@[simp] theorem State.advTo_ops (s : State) (t : Nat) : (s.advTo t).ops = s.ops := rfl
@[simp] theorem State.advTo_held (s : State) (t : Nat) : (s.advTo t).held = s.held := rfl
@[simp] theorem State.advTo_late (s : State) (t : Nat) : (s.advTo t).late = s.late := rfl
@[simp] theorem State.advTo_pool (s : State) (t : Nat) : (s.advTo t).pool = s.pool := rfl
@[simp] theorem State.advTo_switch (s : State) (t : Nat) : (s.advTo t).switch = s.switch := rfl
@[simp] theorem State.advTo_outst (s : State) (t : Nat) : (s.advTo t).outst = s.outst := rfl
@[simp] theorem State.advTo_tether (s : State) (t : Nat) : (s.advTo t).tether = s.tether := rfl
@[simp] theorem State.advTo_bridle (s : State) (t : Nat) : (s.advTo t).bridle = s.bridle := rfl
@[simp] theorem State.advTo_mooring (s : State) (t : Nat) : (s.advTo t).mooring = s.mooring := rfl
@[simp] theorem State.advTo_mgmt (s : State) (t : Nat) : (s.advTo t).mgmt = s.mgmt := rfl
@[simp] theorem State.advTo_out (s : State) (t : Nat) : (s.advTo t).out = s.out := rfl
@[simp] theorem State.advTo_free (s : State) (t : Nat) : (s.advTo t).free = s.free := rfl
@[simp] theorem State.advTo_pending (s : State) (t : Nat) : (s.advTo t).pending = s.pending := rfl
@[simp] theorem State.rd_advTo (s : State) (t : Nat) (f : Fld) : (s.advTo t).rd f = s.rd f := rfl

@[simp] theorem State.wr_now (s : State) (f : Fld) (v : Nat) : (s.wr f v).now = s.now := rfl
@[simp] theorem State.wr_ft (s : State) (f : Fld) (v : Nat) : (s.wr f v).ft = s.ft := rfl
@[simp] theorem State.inc_now (s : State) (f : Fld) : (s.inc f).now = s.now := rfl
@[simp] theorem State.inc_ft (s : State) (f : Fld) : (s.inc f).ft = s.ft := rfl
@[simp] theorem State.incBy_now (s : State) (f : Fld) (n : Nat) : (s.incBy f n).now = s.now := rfl
@[simp] theorem State.incBy_ft (s : State) (f : Fld) (n : Nat) : (s.incBy f n).ft = s.ft := rfl
@[simp] theorem State.bump_now (s : State) (f : Fld) : (s.bump f).now = s.now := rfl
@[simp] theorem State.bump_ft (s : State) (f : Fld) : (s.bump f).ft = s.ft := rfl
@[simp] theorem State.dec_now (s : State) (f : Fld) : (s.dec f).now = s.now := rfl
@[simp] theorem State.dec_ft (s : State) (f : Fld) : (s.dec f).ft = s.ft := rfl
@[simp] theorem State.clearRange_now (s : State) (lo n : Nat) : (s.clearRange lo n).now = s.now := rfl
@[simp] theorem State.clearRange_ft (s : State) (lo n : Nat) : (s.clearRange lo n).ft = s.ft := rfl
@[simp] theorem State.emit_now (s : State) (o : Out) : (s.emit o).now = s.now := rfl
@[simp] theorem State.emit_ft (s : State) (o : Out) : (s.emit o).ft = s.ft := rfl
@[simp] theorem State.takeFree_now (s : State)  : (s.takeFree).now = s.now := rfl
@[simp] theorem State.takeFree_ft (s : State)  : (s.takeFree).ft = s.ft := rfl

@[simp] theorem State.emit_out (s : State) (o : Out) : (s.emit o).out = o :: s.out := rfl
@[simp] theorem State.takeFree_free (s : State) : s.takeFree.free = s.free + 1 := rfl

end Sys2Proof.Machine
end

