-- ==== Sys2Proof/Laws/Ops.lean ====
section
/-! SUPPORT. The laws of the field store, of a register field read after a write, and of a list of writes. -/

namespace Sys2Proof.Machine

/-! The field store. -/

theorem regsWfFrom_cons (b : Option Nat) (a v : Nat) (t : Regs) :
    regsWfFrom b ((a, v) :: t) = true ↔ (∀ k, b = some k → k < a) ∧ v ≠ 0 ∧ regsWfFrom (some a) t = true := by
  cases b <;> simp [regsWfFrom, and_assoc]

/-- A weaker lower bound keeps the form. -/
theorem regsWfFrom_mono {b : Option Nat} {k : Nat} {r : Regs} (h : regsWfFrom (some k) r = true) (hb : ∀ x, b = some x → x ≤ k) :
    regsWfFrom b r = true := by
  cases r with
  | nil => rfl
  | cons p t =>
    obtain ⟨a, v⟩ := p
    rw [regsWfFrom_cons] at h ⊢
    exact ⟨fun x hx => lt_of_le_of_lt (hb x hx) (h.1 k rfl), h.2⟩

theorem regsPut_wfFrom (r : Regs) (b : Option Nat) (k v : Nat) (h : regsWfFrom b r = true) (hb : ∀ x, b = some x → x < k) :
    regsWfFrom b (regsPut r k v) = true := by
  induction r generalizing b with
  | nil =>
    unfold regsPut
    split
    · rfl
    · rw [regsWfFrom_cons]; exact ⟨hb, by assumption, rfl⟩
  | cons p t ih =>
    obtain ⟨a, w⟩ := p
    rw [regsWfFrom_cons] at h
    unfold regsPut
    split
    · subst_vars
      split
      · exact regsWfFrom_mono h.2.2 fun x hx => Nat.le_of_lt (h.1 x hx)
      · rw [regsWfFrom_cons]; exact ⟨h.1, by assumption, h.2.2⟩
    · split
      · split
        · rw [regsWfFrom_cons]; exact h
        · rw [regsWfFrom_cons, regsWfFrom_cons]
          exact ⟨hb, by assumption, fun x hx => by cases hx; assumption, h.2⟩
      · rw [regsWfFrom_cons]
        exact ⟨h.1, h.2.1, ih (some a) h.2.2 fun x hx => by cases hx; omega⟩

/-- A write of one field keeps the canonical form of the store. -/
theorem regsPut_wf (r : Regs) (k v : Nat) (h : r.wf = true) : Regs.wf (regsPut r k v) = true :=
  regsPut_wfFrom r none k v h fun _ hx => nomatch hx

theorem regsFilter_wfFrom (p : Nat × Nat → Bool) (r : Regs) (b : Option Nat) (h : regsWfFrom b r = true) :
    regsWfFrom b (r.filter p) = true := by
  induction r generalizing b with
  | nil => rfl
  | cons q t ih =>
    obtain ⟨a, v⟩ := q
    rw [regsWfFrom_cons] at h
    rw [List.filter_cons]
    split
    · rw [regsWfFrom_cons]; exact ⟨h.1, h.2.1, ih (some a) h.2.2⟩
    · exact regsWfFrom_mono (ih (some a) h.2.2) fun x hx => Nat.le_of_lt (h.1 x hx)

/-- Removing entries keeps the canonical form of the store. -/
theorem regsFilter_wf (p : Nat × Nat → Bool) (r : Regs) (h : r.wf = true) : Regs.wf (r.filter p) = true :=
  regsFilter_wfFrom p r none h

theorem regsGet_below {r : Regs} {b k : Nat} (h : regsWfFrom (some b) r = true) (hk : k ≤ b) : regsGet r k = 0 := by
  cases r with
  | nil => rfl
  | cons p t =>
    obtain ⟨a, v⟩ := p
    rw [regsWfFrom_cons] at h
    have := h.1 b rfl
    unfold regsGet
    rw [if_neg (by omega), if_pos (by omega)]

/-- Reading back what was put. -/
theorem regsGet_put_same (r : Regs) (k v : Nat) (h : r.wf = true) : regsGet (regsPut r k v) k = v := by
  suffices ∀ b, regsWfFrom b r = true → regsGet (regsPut r k v) k = v from this none h
  clear h
  induction r with
  | nil => intro b _; unfold regsPut; split <;> simp_all [regsGet]
  | cons p t ih =>
    intro b h
    obtain ⟨a, w⟩ := p
    rw [regsWfFrom_cons] at h
    unfold regsPut
    split
    · subst_vars
      split
      · subst_vars; exact regsGet_below h.2.2 (Nat.le_refl _)
      · simp [regsGet]
    · split
      · split
        · subst_vars; simp [regsGet, *]
        · simp [regsGet]
      · have := ih _ h.2.2
        simp_all [regsGet]

/-- Putting at one address leaves every other address. -/
theorem regsGet_put_ne (r : Regs) (k v j : Nat) (h : r.wf = true) (hj : j ≠ k) : regsGet (regsPut r k v) j = regsGet r j := by
  suffices ∀ b, regsWfFrom b r = true → regsGet (regsPut r k v) j = regsGet r j from this none h
  clear h
  have hk : k ≠ j := fun e => hj e.symm
  induction r with
  | nil => intro b _; unfold regsPut; split <;> simp [regsGet, hk]
  | cons p t ih =>
    intro b h
    obtain ⟨a, w⟩ := p
    rw [regsWfFrom_cons] at h
    unfold regsPut
    split
    · subst_vars
      split
      · rw [regsGet.eq_2, if_neg hk]
        split
        · exact regsGet_below h.2.2 (by omega)
        · rfl
      · simp [regsGet, hk]
    · split
      · split
        · rfl
        · simp only [regsGet]
          rw [if_neg hk]
          split
          · rw [if_neg (by omega), if_pos (by omega)]
          · rfl
      · have := ih _ h.2.2
        simp_all [regsGet]

/-! Register fields. -/

@[simp] theorem State.wr_wf (s : State) (f : Fld) (v : Nat) (h : s.regs.wf = true) : (s.wr f v).regs.wf = true := regsPut_wf _ _ _ h

/-- A written field reads as what of the value fits its width. -/
theorem State.rd_wr_same (s : State) (f : Fld) (v : Nat) (h : s.regs.wf = true) : (s.wr f v).rd f = v % 2 ^ f.width := by
  show (regsGet (regsPut s.regs f.key _) f.key ^^^ f.rst) % 2 ^ f.width = _
  rw [regsGet_put_same _ _ _ h, Nat.xor_assoc, Nat.xor_self, Nat.xor_zero, Nat.mod_mod]

/-- A field never reads wider than it is. -/
theorem State.rd_lt (s : State) (f : Fld) : s.rd f < 2 ^ f.width := Nat.mod_lt _ (Nat.two_pow_pos _)

/-- Another field reads as before. -/
theorem State.rd_wr_ne (s : State) (f g : Fld) (v : Nat) (h : s.regs.wf = true) (hne : g.key ≠ f.key) : (s.wr f v).rd g = s.rd g := by
  show (regsGet (regsPut s.regs f.key _) g.key ^^^ g.rst) % _ = (regsGet s.regs g.key ^^^ g.rst) % _
  rw [regsGet_put_ne _ _ _ _ h hne]

theorem State.clearRange_wf (s : State) (lo n : Nat) (h : s.regs.wf = true) : (s.clearRange lo n).regs.wf = true := regsFilter_wf _ _ h

@[simp] theorem State.wrs_nil (s : State) : s.wrs [] = s := rfl
@[simp] theorem State.wrs_cons (s : State) (p : Fld × Nat) (l : List (Fld × Nat)) : s.wrs (p :: l) = (s.wr p.1 p.2).wrs l := rfl

theorem State.wrs_wf (s : State) (l : List (Fld × Nat)) (h : s.regs.wf = true) : (s.wrs l).regs.wf = true := by
  induction l generalizing s with
  | nil => exact h
  | cons p l ih => exact ih _ (s.wr_wf _ _ h)

theorem State.wrs_eq (s : State) (l : List (Fld × Nat)) : s.wrs l = { s with regs := (s.wrs l).regs } := by
  induction l generalizing s with
  | nil => rfl
  | cons p l ih => exact ih (s.wr p.1 p.2)

theorem State.rd_wrs_ne (s : State) (l : List (Fld × Nat)) (g : Fld) (h : s.regs.wf = true) (hg : g.key ∉ l.map fun p => p.1.key) :
    (s.wrs l).rd g = s.rd g := by
  induction l generalizing s with
  | nil => rfl
  | cons p l ih =>
    simp only [List.map_cons, List.mem_cons, not_or] at hg
    rw [State.wrs_cons, ih _ (s.wr_wf _ _ h) hg.2, State.rd_wr_ne _ _ _ _ h hg.1]

/-- Nothing written. -/
theorem State.writes_nil (s : State) : s.writes s [] := by
  refine ⟨fun p hp => (by cases hp), fun _ _ => rfl, ⟨fun _ => rfl, fun _ => rfl⟩, rfl⟩

/-- A list of writes to fields of different names is what it says. -/
theorem State.writes_wrs (s : State) (l : List (Fld × Nat)) (h : s.regs.wf = true) (hn : (l.map fun p => p.1.key).Nodup) :
    s.writes (s.wrs l) l := by
  refine ⟨?_, fun f hf => State.rd_wrs_ne s l f h (by simpa [List.map_map, Function.comp_def] using hf), ?_, State.wrs_eq s l⟩
  · induction l generalizing s with
    | nil => intro p hp; cases hp
    | cons q l ih =>
      intro p hp
      simp only [List.map_cons, List.nodup_cons] at hn
      rw [State.wrs_cons]
      rcases List.mem_cons.1 hp with rfl | hp
      · rw [State.rd_wrs_ne _ _ _ (s.wr_wf _ _ h) hn.1, State.rd_wr_same _ _ _ h]
      · exact ih _ (s.wr_wf _ _ h) hn.2 p hp
  · constructor <;> intro a <;> rw [State.wrs_eq s l]

/-! TLPs that the part makes. -/

/-- Everything that `make` changes: the list of TLPs made, and the count of the order. -/
theorem State.make_eq (s : State) (t : Tlp) (o : OwnTlp) :
    s.make t o = { s with
      regs := (s.wr SYS_ORDER (s.rd SYS_ORDER + 1)).regs
      switch := { s.switch with made := s.switch.made ++ [(s.rd SYS_ORDER, t, o)] } } := rfl

@[simp] theorem State.make_pool (s : State) (t : Tlp) (o : OwnTlp) : (s.make t o).pool = s.pool := rfl
@[simp] theorem State.make_tether (s : State) (t : Tlp) (o : OwnTlp) : (s.make t o).tether = s.tether := rfl
@[simp] theorem State.make_outst (s : State) (t : Tlp) (o : OwnTlp) : (s.make t o).outst = s.outst := rfl
@[simp] theorem State.make_out (s : State) (t : Tlp) (o : OwnTlp) : (s.make t o).out = s.out := rfl
@[simp] theorem State.make_clk (s : State) (t : Tlp) (o : OwnTlp) : (s.make t o).clk = s.clk := rfl
@[simp] theorem State.make_txq (s : State) (t : Tlp) (o : OwnTlp) : (s.make t o).switch.txq = s.switch.txq := rfl

/-- A register field but the count of the order reads as before. -/
theorem State.rd_make_ne (s : State) (t : Tlp) (o : OwnTlp) (f : Fld) (h : s.regs.wf = true) (hf : f.key ≠ SYS_ORDER.key) :
    (s.make t o).rd f = s.rd f := State.rd_wr_ne s SYS_ORDER f _ h hf

/-- What goes to a host is made as a TLP of its kind, class, size, tag and PASID for its upstream port, or nothing happens. -/
theorem State.toHostPort_cases (s : State) (h : Nat) (k : TlpKind) (n tag : Nat) (o : Out) (tc : Nat) (x : Option Nat) :
    (s.hostPort h = none ∧ s.toHostPort h k n tag o tc x = s)
      ∨ ∃ (p : Nat) (t : Tlp), s.hostPort h = some p ∧ t.kind = k ∧ t.egress = Fin.ofNat 128 p ∧ t.tc = Fin.ofNat 8 tc ∧ t.payload = n ∧ t.tag = tag
        ∧ t.pasid = x ∧ s.toHostPort h k n tag o tc x = s.make t (.out o) := by
  unfold State.toHostPort
  cases hp : s.hostPort h with
  | none => exact .inl ⟨rfl, rfl⟩
  | some p => exact .inr ⟨p, _, rfl, rfl, rfl, rfl, rfl, rfl, rfl, rfl⟩

end Sys2Proof.Machine
end

