-- ==== Sys2Proof/Laws/Memory.lean ====
section
/-! SUPPORT. The laws of the pool's memory and the flash: reading after writing, and that every memory operation keeps the canonical form. -/

namespace Sys2Proof.Machine

/-! The list of cells. -/

theorem cellsWfFrom_cons (b : Option Nat) (k : Nat) (v : BitVec 8) (t : List Host.Cell) :
    cellsWfFrom b ((k, v) :: t) = true ↔ (∀ x, b = some x → x < k) ∧ v ≠ 0 ∧ cellsWfFrom (some k) t = true := by
  cases b <;> simp [cellsWfFrom, and_assoc]

theorem cellsWfFrom_mono {b : Option Nat} {k : Nat} {m : List Host.Cell} (h : cellsWfFrom (some k) m = true)
    (hb : ∀ x, b = some x → x ≤ k) : cellsWfFrom b m = true := by
  cases m with
  | nil => rfl
  | cons p t =>
    rw [cellsWfFrom_cons] at h ⊢
    exact ⟨fun x hx => lt_of_le_of_lt (hb x hx) (h.1 k rfl), h.2⟩

theorem cellPut_wfFrom (m : List Host.Cell) (b : Option Nat) (a : Nat) (v : BitVec 8) (h : cellsWfFrom b m = true)
    (hb : ∀ x, b = some x → x < a) : cellsWfFrom b (cellPut m a v) = true := by
  induction m generalizing b with
  | nil =>
    unfold cellPut
    split
    · rfl
    · exact (cellsWfFrom_cons ..).2 ⟨hb, by assumption, rfl⟩
  | cons p t ih =>
    obtain ⟨k, w⟩ := p
    have h0 := (cellsWfFrom_cons ..).1 h
    unfold cellPut
    split_ifs with e1 e2 e3 e4
    · exact cellsWfFrom_mono h0.2.2 fun x hx => (h0.1 x hx).le
    · subst e1; exact (cellsWfFrom_cons ..).2 ⟨h0.1, e2, h0.2.2⟩
    · exact h
    · exact (cellsWfFrom_cons ..).2 ⟨hb, e4, (cellsWfFrom_cons ..).2 ⟨fun x hx => by cases hx; exact e3, h0.2⟩⟩
    · exact (cellsWfFrom_cons ..).2 ⟨h0.1, h0.2.1, ih (some k) h0.2.2 fun x hx => by cases hx; omega⟩

/-- A byte written keeps the canonical form. -/
theorem cellPut_wf {m : List Host.Cell} (a : Nat) (v : BitVec 8) (h : Memory.wf m = true) : Memory.wf (cellPut m a v) = true :=
  cellPut_wfFrom m none a v h fun _ hx => nomatch hx

theorem cellsFilter_wfFrom (p : Host.Cell → Bool) (m : List Host.Cell) (b : Option Nat) (h : cellsWfFrom b m = true) :
    cellsWfFrom b (m.filter p) = true := by
  induction m generalizing b with
  | nil => rfl
  | cons q t ih =>
    have h0 := (cellsWfFrom_cons ..).1 h
    rw [List.filter_cons]
    split
    · exact (cellsWfFrom_cons ..).2 ⟨h0.1, h0.2.1, ih _ h0.2.2⟩
    · exact cellsWfFrom_mono (ih _ h0.2.2) fun x hx => (h0.1 x hx).le

/-- Losing some bytes keeps the canonical form. -/
theorem cellsFilter_wf {m : List Host.Cell} (p : Host.Cell → Bool) (h : Memory.wf m = true) : Memory.wf (m.filter p) = true :=
  cellsFilter_wfFrom p m none h

theorem cellGet_below {m : List Host.Cell} {b a : Nat} (h : cellsWfFrom (some b) m = true) (ha : a ≤ b) : cellGet m a = 0 := by
  cases m with
  | nil => rfl
  | cons p t =>
    have := ((cellsWfFrom_cons ..).1 h).1 b rfl
    simp only [cellGet]
    rw [if_neg (by omega), if_pos (by omega)]

/-- Reading back the byte that was written. -/
theorem cellGet_put_same {m : List Host.Cell} (a : Nat) (v : BitVec 8) (h : Memory.wf m = true) : cellGet (cellPut m a v) a = v := by
  suffices ∀ b, cellsWfFrom b m = true → cellGet (cellPut m a v) a = v from this none h
  clear h
  induction m with
  | nil => intro b _; unfold cellPut; split <;> simp_all [cellGet]
  | cons p t ih =>
    intro b h
    obtain ⟨k, w⟩ := p
    have h0 := (cellsWfFrom_cons ..).1 h
    unfold cellPut
    split_ifs with e1 e2 e3 e4
    · rw [e2]; exact cellGet_below h0.2.2 (by omega)
    · simp [cellGet]
    · simp [cellGet, e1, e3, e4]
    · simp [cellGet]
    · simp [cellGet, e1, e3, ih _ h0.2.2]

/-- Writing one byte leaves every other byte. -/
theorem cellGet_put_ne {m : List Host.Cell} (a j : Nat) (v : BitVec 8) (h : Memory.wf m = true) (hj : j ≠ a) :
    cellGet (cellPut m a v) j = cellGet m j := by
  suffices ∀ b, cellsWfFrom b m = true → cellGet (cellPut m a v) j = cellGet m j from this none h
  clear h
  induction m with
  | nil => intro b _; unfold cellPut; split <;> simp [cellGet, Ne.symm hj]
  | cons p t ih =>
    intro b h
    obtain ⟨k, w⟩ := p
    have h0 := (cellsWfFrom_cons ..).1 h
    unfold cellPut
    split_ifs with e1 e2 e3 e4
    · subst e1
      simp only [cellGet]
      rw [if_neg (Ne.symm hj)]
      split
      · exact cellGet_below h0.2.2 (by omega)
      · rfl
    · subst e1; simp [cellGet, Ne.symm hj]
    · rfl
    · simp only [cellGet]
      rw [if_neg (Ne.symm hj)]
      split
      · rw [if_neg (by omega), if_pos (by omega)]
      · rfl
    · simp only [cellGet, ih _ h0.2.2]

/-! The pool. -/

/-- A byte stored in the pool keeps the canonical form of its memory. -/
theorem State.storeByte_wf (s : State) (a : Nat) (v : BitVec 8) (h : Memory.wf s.pool.cells = true) :
    Memory.wf (s.storeByte a v).pool.cells = true := cellPut_wf _ _ h

/-- A byte stored reads back at its address, and at every other name of the same place. -/
theorem State.loadByte_storeByte_same (s : State) (a b : Nat) (v : BitVec 8) (h : Memory.wf s.pool.cells = true) (e : s.phys b = s.phys a) :
    (s.storeByte a v).loadByte b = v := by
  show cellGet (cellPut s.pool.cells (s.phys a) v) ((s.storeByte a v).phys b) = v
  rw [show (s.storeByte a v).phys b = s.phys a from e]; exact cellGet_put_same _ _ h

/-- A byte stored leaves every byte elsewhere. -/
theorem State.loadByte_storeByte_ne (s : State) (a b : Nat) (v : BitVec 8) (h : Memory.wf s.pool.cells = true) (e : s.phys b ≠ s.phys a) :
    (s.storeByte a v).loadByte b = s.loadByte b := cellGet_put_ne _ _ _ h e

theorem State.storeBytes_wf (s : State) (a : Nat) (l : List (BitVec 8)) (h : Memory.wf s.pool.cells = true) :
    Memory.wf (s.storeBytes a l).pool.cells = true := by
  induction l generalizing s a with
  | nil => exact h
  | cons v t ih => exact ih _ _ (s.storeByte_wf a v h)

theorem State.storeMasked_wf (s : State) (line mask data n : Nat) (h : Memory.wf s.pool.cells = true) :
    Memory.wf (s.storeMasked line mask data n).pool.cells = true := by
  induction n with
  | zero => exact h
  | succ n ih =>
    unfold State.storeMasked
    split
    · exact State.storeByte_wf _ _ _ ih
    · exact ih

/-- Losing a channel's contents keeps the canonical form. -/
theorem State.loseChannel_wf (s : State) (c : Nat) (h : Memory.wf s.pool.cells = true) : Memory.wf (s.loseChannel c).pool.cells = true := by
  unfold State.loseChannel
  rw [State.wrs_eq]
  exact cellsFilter_wf _ h

/-! The flash. -/

/-- Programming a flash device keeps the canonical form. -/
theorem State.programFlash_wf (s : State) (d off : Nat) (l : List (BitVec 8)) (h : Memory.wf s.mgmt.flash = true) :
    Memory.wf (s.programFlash d off l).mgmt.flash = true := by
  show Memory.wf ((List.range l.length).foldl _ s.mgmt.flash) = true
  generalize List.range l.length = r
  generalize s.mgmt.flash = m at h ⊢
  induction r generalizing m with
  | nil => exact h
  | cons i t ih => exact ih _ (cellPut_wf _ _ h)

/-- Reset memory lists nothing: the canonical form. -/
theorem State.reset_inv : State.reset.Inv := by decide +kernel

end Sys2Proof.Machine
end

