-- ==== Sys2Proof/Tests/Help.lean ====
section
/-! SUPPORT. Small states that the tests start from. -/

namespace Sys2Proof.Tests
open Sys2Proof.Machine

/-- The control firmware runs, and host 1, at upstream port 3, is the management host. -/
def up : State := State.reset.wrs [(SYS_FW_UP, 1), (PRT_CFG_MODE 3, 1), (PRT_CFG_HOST 3, 1), (HOSTF_PORT 1, 4), (MGT_MGMT_HOST_VALID, 1),
  (MGT_MGMT_HOST_HOST, 1)]

/-- A command of the management host's mailbox with these parameter bytes. -/
def pkt (p : BitVec 448) : Cmd := ⟨.mgmt, 7, 0, p⟩

/-- A posted TLP from port 9 to port 10, in class 0. -/
def tlp : Tlp := ⟨.posted, 0x60, 0, 100, 80, 9, 10, 2, 5, 1, none, 0x1000, false, false, false, false, false, 0, none, 0, List.replicate 84 0, none⟩

/-- The same TLP as request number 7 in its queue. -/
def qt : QTlp := ⟨tlp, 240, 2, 0, 7, false, true, true, false, 0, none, false, none, 2⟩

/-- Port 10 in L0 with credit, and TLPs `l` queued. -/
def queued (l : List QTlp) : State := { State.reset.wrs [(PRT_CFG_MODE 10, 2), (PRT_LINK_STATUS_LTSSM 10, 3), (SWX_LNKCR 10, 0xFFFFFF)] with
  switch := { State.reset.switch with txq := l } }

/-- One channel of 16 GiB, ACTIVE. -/
def pool1 : State := up.wrs [(BAL_STATUS_N, 1), (BAL_STATUS_W, 1), (BAL_STATUS_CAPACITY, 16), (BAL_STATUS_DIMM_SIZE, 1), (BAL_CH_STATUS_STATE 0, 2)]

/-- An access number 7 of host 2 to pool address 0. -/
def acc (op : MemOp) : PAcc := ⟨7, 2, .plain, 0, op, 5, none, 1, 0, 3, 0, 128⟩

/-- That pool with access `a` in its queue. -/
def withAcc (a : PAcc) : State := { pool1 with pool := { pool1.pool with queue := [a] } }

/-- A whole-line store of host 2 to pool address 0. -/
def ent : WbEnt := ⟨2, 2, 0, fullMask, 5, 0, 3, false, [], false⟩

/-- That pool with store `e` in its buffer. -/
def withStore (e : WbEnt) : State := { pool1 with pool := { pool1.pool with wb := [e] } }

/-- That pool with a close of domain 0 at stage `n`. -/
def closing (n : Nat) : State := { pool1 with pool := { pool1.pool with closes := [⟨0, false, n, [], 0, 0⟩] } }

/-- Port 9 as a tether of one lane, lane 16, in training state `st`. -/
def cyt (st : Nat) : State := up.wrs [(PRT_CFG_MODE 9, 3), (PRT_CYT_STATUS_STATE 9, st), (LAN_STATUS_OWNED 16, 1),
  (LAN_STATUS_OWNER_PORT 16, 9), (LAN_STATUS_CYTRUM 16, 1)]

/-- A unit of node 3 that port 9 has sent and holds. -/
def unit9 : TUnit := ⟨9, 0, 0, [⟨0, 0, 0, 3, 0, true, true, false, none, 0, true, none, 0, 0, 16⟩], 1, false⟩

/-- A unit without segments as it arrives. -/
def rxUnit (seq gen tc : Nat) : RxUnit :=
  let b := leBytes 2 seq ++ leBytes 1 gen ++ leBytes 1 tc ++ List.replicate 248 0
  ⟨b, BitVec.ofNat 32 (crc32 b), []⟩

/-- Lane 16 with the last 64 headers as `h` says. -/
def headers (s : State) (h : Nat) : State := s.wrs [(LANX_HIST 16, h), (LANX_HIST_N 16, 64)]

/-- That tether in UP with unit `u` unacknowledged. -/
def sent (u : TUnit) : State := { cyt 7 with tether := { (cyt 7).tether with unacked := [u] } }

/-- That state with a checker whose default policy permits everything. -/
def permitting (s : State) : State := { s with bridle := { s.bridle with active := { s.bridle.active with policy := 0xFFFF } } }

/-- A record of the management source. -/
def rec0 : Rec := ⟨0, 0x0904, 0, false, false, false, 0, 171, 0, 0, 0, 0, []⟩

/-- That state with a rule that locks all of space MGMT. -/
def locking (s : State) : State := { s with bridle := { s.bridle with active := [(RULE_VALID 0, 1), (RULE_CLASS 0, clsInternal),
  (RULE_SPACE 0, spMgmt), (RULE_LOCK 0, 1), (RULE_LIMIT 0, 2 ^ 25)].foldl (fun t x => t.put x.1 x.2) s.bridle.active } }

end Sys2Proof.Tests
end

