-- ==== Sys2Proof/WellFormed.lean ====
section
/-! DEFINITION. Which operands a command or event can have at all: the sizes that the spec gives the packets, requests, units and samples that
arrive. Rules that a command is checked against, and that decide its status, are in its meaning. -/

namespace Sys2Proof

/-- A read or store of 1 to 4,096 bytes, or an AtomicOp of 4 or 8 bytes, or a CAS of 16, with operands of that size (R579). -/
def MemOp.wf : MemOp → Bool
  | .read n => decide (1 ≤ n ∧ n ≤ 4096)
  | .store l => decide (1 ≤ l.length ∧ l.length ≤ 4096)
  | .atomic k size a b => (size == 4 || size == 8 || (size == 16 && k == .cas)) && decide (a < 2 ^ (8 * size)) && decide (b < 2 ^ (8 * size))

/-- A memory request whose operation is well formed. -/
def MemReq.wf (r : MemReq) : Bool := r.op.wf

/-- A TLP whose header fields fit (R307): Requester ID 16 bits, tag 14, PASID 20, address 64, and at most 4,096 bytes of payload;
header, OHC and ECRC take at most 64 bytes beside it, so that a payload of 512 bytes makes 9 cells (R309). -/
def Tlp.wf (t : Tlp) : Bool :=
  decide (t.fmtType < 256 ∧ t.host < 64 ∧ t.requester < 2 ^ 16 ∧ t.tag < 2 ^ 14 ∧ t.addr < 2 ^ 64 ∧ t.payload ≤ 4096 ∧ t.payload ≤ t.stored ∧ t.stored ≤ t.payload + 64 ∧ t.rest.length ≤ t.stored)
    && t.pasid.all fun p => decide (p < 2 ^ 20)

/-- A segment's content: a completion carries a three-bit status and at most 4,096 bytes (R257, R258). -/
def SegBody.wf : SegBody → Bool
  | .request => true
  | .completion _ _ st data _ _ => decide (st < 8 ∧ data.length ≤ 4096)
  | .copyRejected _ => true
  | .joinReq _ _ => true
  | .joinAnswer _ _ => true

/-- A link unit: 252 bytes before the CRC, and at most 49 segments of 5 bytes and more (R256, R257). -/
def RxUnit.wf (u : RxUnit) : Bool :=
  decide (u.bytes.length = 252 ∧ u.infos.length ≤ 49) && u.infos.all fun x => x.body.wf && decide (x.payload ≤ 4096)

/-- A DIMM has a size and a rank at least; which ones the part accepts is the meaning's to say (R550). -/
def Dimm.wf (d : Dimm) : Bool := decide (1 ≤ d.size ∧ 1 ≤ d.ranks)

/-- The operands of a command or event are such as can arrive. -/
def Instr.wf : Instr → Bool
  | .deviceInfo _ => true
  | .deviceOpQuery _ => true
  | .deviceOpCancel _ => true
  | .deviceMgmtSet _ => true
  | .deviceSpoolCreate _ => true
  | .deviceSpoolDelete _ => true
  | .deviceInputRearm _ => true
  | .deviceEngineAlloc _ => true
  | .deviceEngineRestart _ => true
  | .portConfig _ => true
  | .portFwdSet _ => true
  | .portTetherSet _ => true
  | .portLinkRetrain _ => true
  | .portLinkWidthRequest _ => true
  | .portLinkDisable _ => true
  | .portLinkEnable _ => true
  | .portSlot _ => true
  | .routeHierSet _ => true
  | .routeBind _ => true
  | .routeUnbind _ => true
  | .routeXlatWrite _ => true
  | .routeXlatClear _ => true
  | .routeNodeSet _ => true
  | .routeMcSet _ => true
  | .routeMcMap _ => true
  | .bridleRuleWrite _ => true
  | .bridleRuleClear _ => true
  | .bridleStageReset _ => true
  | .bridleBegin _ => true
  | .bridleCommit _ => true
  | .bridleAbort _ => true
  | .bridlePolicySet _ => true
  | .bridleRebuild _ => true
  | .schedGateWrite _ => true
  | .schedGateArm _ => true
  | .schedGateCancel _ => true
  | .schedShaperSet _ => true
  | .schedTcSet _ => true
  | .schedAlphaSet _ => true
  | .poolMapSet _ => true
  | .poolWindowSet _ => true
  | .poolWindowClear _ => true
  | .poolApertureSet _ => true
  | .poolScrubSet _ => true
  | .poolDomainSet _ => true
  | .poolMirrorResync _ => true
  | .poolEpochClose _ => true
  | .poolZero _ => true
  | .poolCopy _ => true
  | .poolCrc64 _ => true
  | .poolLogCreate _ => true
  | .poolLogDelete _ => true
  | .poolLogAppend _ => true
  | .poolLogTrim _ => true
  | .gondolaCreate _ => true
  | .gondolaDestroy _ => true
  | .gondolaReset _ => true
  | .gondolaFreeze _ => true
  | .gondolaThaw _ => true
  | .gondolaSave _ => true
  | .gondolaRestore _ => true
  | .powerVote _ => true
  | .powerOff _ => true
  | .powerScSet _ => true
  | .powerScRearm _ => true
  | .mooringSpillSet _ => true
  | .mooringPolicySet _ => true
  | .mooringLiftTest _ => true
  | .mooringLogRead _ => true
  | .errorContain _ => true
  | .errorRelease _ => true
  | .errorCfgSet _ => true
  | .errorTimeoutSet _ => true
  | .errorFirstClear _ => true
  | .errorLogClear _ => true
  | .fabricTimeSet _ => true
  | .fabricLeave _ => true
  | .fabricNodeRead _ => true
  | .debugInject _ => true
  | .firmwareWrite _ => true
  | .firmwareVerify _ => true
  | .firmwareSelect _ => true
  | .firmwareActivate _ => true
  | .mbxReqTailWrite _ _ => true
  | .mbxRspHeadWrite _ _ => true
  | .spoolDoorbellWrite _ _ _ _ => true
  | .commandFetch _ => true
  | .spoolReadFailed _ => true
  | .longOpStep _ _ n _ => decide (0 < n)
  | .handleExpire _ => true
  | .handleAreaExpire => true
  | .smbIdentify => true
  | .smbRegAddr _ => true
  | .smbRegDataRead => true
  | .smbRegDataWrite _ _ => true
  | .smbCmd _ _ => true
  | .smbStatus => true
  | .smbRecoveryData l _ => decide (1 ≤ l.length ∧ l.length ≤ 128)
  | .smbRecoveryRun _ _ => true
  | .arpPrepareToArp => true
  | .arpResetDevice => true
  | .arpGetUdid _ => true
  | .arpAssignAddress _ _ => true
  | .alertResponse => true
  | .dapRead _ _ => true
  | .dapWrite _ _ _ => true
  | .extest _ => true
  | .samplePreload _ => true
  | .idcode => true
  | .bypass => true
  | .debugOverrideWrite _ _ => true
  | .registerWrite _ _ _ => true
  | .readClear _ => true
  | .mgtFtTimeLoRead => true
  | .ordDomEpochLoRead _ => true
  | .penLogLoRead _ _ => true
  | .pdiMtrLoRead _ _ => true
  | .morTimeLoRead _ => true
  | .rteIndGo _ => true
  | .brdIndGo _ => true
  | .schIndGo _ => true
  | .errDomGo _ => true
  | .balWinGo _ => true
  | .ycpIndGo _ => true
  | .ycpGndGo _ => true
  | .snapshotDone _ => true
  | .testEnWrite _ _ => true
  | .prbsInject _ => true
  | .flapRearm _ => true
  | .sfFallbackRearm _ => true
  | .ordBarLoad _ _ _ => true
  | .ordBarStore _ _ _ => true
  | .ordBarFull _ _ _ => true
  | .barrierComplete _ => true
  | .ordEpochClose _ _ _ _ => true
  | .epochDrainDone _ => true
  | .configRequest _ _ => true
  | .slotPowerOnWrite _ _ => true
  | .slotPowerOffWrite _ _ => true
  | .secondaryBusReset _ _ _ => true
  | .bmeClear _ => true
  | .bmeSet _ => true
  | .d3hotEntry _ => true
  | .d0Return _ => true
  | .hostVoteWithdraw _ => true
  | .flrWrite _ => true
  | .dpcTrigger _ _ _ => true
  | .dpcTriggerStatusWrite _ _ => true
  | .wakeEventHost _ => true
  | .poolRequest _ r => r.wf
  | .bar0Bar4Request _ r => r.wf
  | .peerRequest t _ op => t.wf && op.wf
  | .tlpIngress t _ => t.wf
  | .tlpAdmitWaiting _ => true
  | .multicastTlp t _ => t.wf
  | .egressSelect _ _ _ => true
  | .tlpSent _ _ => true
  | .cutThroughReady _ _ _ => true
  | .badTail _ _ => true
  | .underrun _ => true
  | .stompFallback _ => true
  | .ageLimitExpiry _ => true
  | .agedExit _ => true
  | .completionArrival _ _ _ _ data _ _ => decide (data.length ≤ 4096)
  | .completionTimeout _ _ _ => true
  | .tagQuarantineExpire _ _ _ => true
  | .poolStorePerform _ _ => true
  | .poolRead _ _ => true
  | .atomicOp _ => true
  | .loadReserved _ _ => true
  | .storeConditional _ => true
  | .reservationExpire => true
  | .strictStoreDone _ => true
  | .patrolStep _ _ => true
  | .channelFailed _ _ => true
  | .poolInitDone => true
  | .zqCalibration _ => true
  | .dqsAdjust _ => true
  | .dimmEventHot _ => true
  | .dimmEventRelease _ => true
  | .mirrorCopySend _ => true
  | .mirrorCopyReceived _ _ _ _ _ _ => true
  | .closeMarkerReceived _ _ _ => true
  | .mirrorAckReceived _ => true
  | .remotePoolRequest _ _ r => r.wf
  | .fabricPeerRequest _ _ t => t.wf
  | .transitUnit _ _ _ _ t => t.wf
  | .bucketMove _ _ => true
  | .logBatchEnd _ => true
  | .logPayloadFetched _ => true
  | .logBatchStatus _ => true
  | .engineWatchdog _ => true
  | .lmemError _ _ => true
  | .gondolaQuiesced _ => true
  | .gondolaResetDone _ => true
  | .bridleSessionTimeout => true
  | .bridleSaveCopyWritten => true
  | .bridleOldDrained => true
  | .errorRecordTake _ => true
  | .containmentHoldExpire _ _ => true
  | .containmentRelease _ _ => true
  | .linkUnitReceived _ u => u.wf
  | .creditBlockReceived _ _ _ _ naks _ => decide (naks.length ≤ 8)
  | .replayTimeout _ => true
  | .retxFatal _ => true
  | .nakRepeat _ => true
  | .creditBlockSend _ => true
  | .rowSlot _ rows => decide (rows.length ≤ 2) && rows.all fun r => decide (r.length ≤ 16) && r.all fun l => decide (l.length ≤ 600)
  | .laneMarker _ _ _ _ => true
  | .timeRequestReceived _ _ _ _ => true
  | .timeResponseReceived _ _ _ _ _ _ => true
  | .timeExchangeTick _ => true
  | .parentChange => true
  | .tapRequest _ _ _ _ _ _ _ => true
  | .eqLimit _ => true
  | .detectExit _ => true
  | .blockLockAcquired _ _ => true
  | .blockLockLost _ => true
  | .alignTimeout _ _ => true
  | .configAgreed _ _ _ _ _ _ _ => true
  | .configTimeout _ => true
  | .eqDone _ => true
  | .eqTimeout _ => true
  | .verifyEnd _ _ => true
  | .init _ _ _ _ _ => true
  | .initTimeout _ => true
  | .retrainTimeout _ => true
  | .failedTimeout _ => true
  | .linkLost _ _ => true
  | .graceExpired _ => true
  | .retrainReq _ => true
  | .widthReq _ _ => true
  | .withdraw _ => true
  | .joinReq _ _ => true
  | .joinReqRepeat _ => true
  | .joinAccept _ _ => true
  | .joinRefuse _ _ => true
  | .leave _ => true
  | .leaveAck _ => true
  | .shutdown _ => true
  | .selfNodeId => true
  | .chainTimeout => true
  | .chainTokenEdge => true
  | .chainBitSample _ => true
  | .chainStopSample => true
  | .chainHeadStart => true
  | .ftPpsEdge _ _ _ => true
  | .ftRefChange _ => true
  | .ftHoldoverEntry => true
  | .gateEntryBoundary _ => true
  | .gateCycleBoundary _ => true
  | .reelWheelSlot => true
  | .sysRefSwitch => true
  | .sysRefRecovered => true
  | .refLost _ => true
  | .refReturn _ => true
  | .losAssert _ => true
  | .losDeassert _ => true
  | .lolAssert _ => true
  | .lolDeassert _ => true
  | .l1DeepEntry _ _ => true
  | .linkDownUpstream _ _ => true
  | .surpriseLinkDown _ => true
  | .hotResetReceived _ => true
  | .perstNFall _ => true
  | .perstNRise _ => true
  | .resetNFall => true
  | .resetDrainDone => true
  | .startupBegin _ _ _ _ => true
  | .sysPllRefDetected _ => true
  | .imageChecked => true
  | .ddrBringupDone dimms _ _ => decide (dimms.length = 16) && dimms.all fun d => match d with
      | some d => d.wf
      | none => true
  | .configApplied => true
  | .ready => true
  | .inputQualified _ _ _ _ _ => true
  | .slotPresenceChange _ _ => true
  | .attentionButton _ => true
  | .wakeIn => true
  | .pwrFailIn => true
  | .feedLost _ _ => true
  | .feedReturn _ => true
  | .feedReverse _ _ => true
  | .mooringDrainDone => true
  | .retainEstimate => true
  | .spillStart => true
  | .spillDrivesReady => true
  | .spillDone => true
  | .spillFail _ _ => true
  | .feedQualified => true
  | .slotGroupPowerOn => true
  | .resumeComplete => true
  | .supersededWrite => true
  | .imageStaleRetry _ => true
  | .restoreStart h0 h1 => (h0.all fun l => decide (720 ≤ l.length ∧ l.length ≤ 4096)) && h1.all fun l => decide (720 ≤ l.length ∧ l.length ≤ 4096)
  | .restoreComplete dir chunks => decide (dir.length ≤ 132 * 2 ^ 10) && chunks.all fun c => c.all fun x => decide (x.data.length ≤ 2 ^ 20)
  | .bkpBusCollapse => true
  | .bkpBusRestore => true
  | .bkpRailEnRise => true
  | .packEmpty => true
  | .chargeCcDone => true
  | .chargeBalDone => true
  | .chargeRestart => true
  | .chargeHold _ => true
  | .healthTestStart _ => true
  | .healthTestEnd _ _ => true
  | .healthTestDue => true
  | .liftInserted _ _ _ => true
  | .liftRemoved => true
  | .liftHourlyLog => true
  | .meterTick l _ _ _ => decide (l.length ≤ 36)
  | .scPowerOnRequest _ => true
  | .scPrechargeDone _ => true
  | .gateStuck _ => true
  | .scPgood _ => true
  | .scFault _ _ => true
  | .fastTrip _ => true
  | .scCooldownEnd _ => true
  | .scPgoodHeld _ => true
  | .fetShort _ => true
  | .scPowerOffRequest _ => true
  | .slotPerstRelease _ => true
  | .indicatorFrame => true
  | .idleEntry => true
  | .idleExit => true
  | .sleepDelayEnd => true
  | .sleepEntryDone => true
  | .sleepAbandoned _ _ => true
  | .wake _ _ => true
  | .powerOffEntry => true
  | .pcieLinkUp _ _ _ _ _ _ _ _ => true
  | .scVoutDischarged _ => true
  | .slotChannelOpen _ => true
  | .prbsCheckerLock _ => true
  | .thermalSample _ => true
  | .chargeHoldClear _ => true
  | .spoolCoalesceExpiry _ => true
  | .ptmRequest _ => true
  | .railsSettled => true

end Sys2Proof
end

