-- ==== Sys2Proof/Tests/Slice0.lean ====
section
/-! SUPPORT. Tests against the spec's own worked examples and tables, one step or one operation each, and an ill-formed command for every
check of `Instr.wf`. -/

set_option Elab.async false

namespace Sys2Proof.Tests
open Sys2Proof.Machine

/-- The next state of an outcome; the state after reset for one that has none. -/
def after (o : Host.Outcome State Fault Refusal) : State := match o with
  | .next t => t
  | .fault _ => State.reset
  | .refused _ => State.reset

/-! Well-formedness: a command that each check refuses, and one that it takes. -/

theorem test_wf_step_count : (Instr.longOpStep 1 8 0 true).wf = false ∧ (Instr.longOpStep 1 8 1 true).wf = true := by decide
theorem test_wf_recovery_block : (Instr.smbRecoveryData [] true).wf = false ∧ (Instr.smbRecoveryData [1] true).wf = true := by decide
theorem test_wf_read_size : (Instr.poolRequest 0 ⟨0, 0, none, 0, 0, .read 4097, false⟩).wf = false ∧
    (Instr.poolRequest 0 ⟨0, 0, none, 0, 0, .read 4096, false⟩).wf = true := by decide
theorem test_wf_empty_store : (Instr.bar0Bar4Request 0 ⟨0, 0, none, 0, 0, .store [], false⟩).wf = false := by decide
theorem test_wf_atomic_size : (Instr.remotePoolRequest 9 1 ⟨0, 0, none, 0, 0, .atomic .swap 16 0 0, false⟩).wf = false ∧
    (Instr.remotePoolRequest 9 1 ⟨0, 0, none, 0, 0, .atomic .cas 16 0 0, false⟩).wf = true := by decide
theorem test_wf_atomic_operand : (MemOp.atomic .fetchAdd 4 (2 ^ 32) 0).wf = false := by decide
theorem test_wf_tag : (Instr.tlpIngress { tlp with tag := 2 ^ 14 } false).wf = false ∧ (Instr.tlpIngress tlp false).wf = true := by decide
theorem test_wf_pasid : (Instr.multicastTlp { tlp with pasid := some (2 ^ 20) } 0).wf = false := by decide
theorem test_wf_requester : (Instr.peerRequest { tlp with requester := 2 ^ 16 } 0 (.read 4)).wf = false := by decide
theorem test_wf_payload : (Instr.fabricPeerRequest 9 1 { tlp with payload := 4097 }).wf = false := by decide
theorem test_wf_completion_data : (Instr.completionArrival .host 9 0 0 (List.replicate 4097 0) false true).wf = false := by decide +kernel
theorem test_wf_transit_payload : (Instr.transitUnit 9 1 2 0 { tlp with payload := 4097 }).wf = false := by decide
theorem test_wf_unit_status : (Instr.linkUnitReceived 9 { rxUnit 0 0 0 with infos := [⟨0, .completion 1 0 8 [] false true⟩] }).wf = false := by
  decide +kernel
theorem test_wf_unit_segments : (Instr.linkUnitReceived 9 { rxUnit 0 0 0 with infos := List.replicate 50 ⟨0, .request⟩ }).wf = false := by
  decide +kernel
theorem test_wf_unit_length : (Instr.linkUnitReceived 9 { rxUnit 0 0 0 with bytes := [] }).wf = false := by decide
theorem test_wf_unit_payload : (Instr.linkUnitReceived 9 { rxUnit 0 0 0 with infos := [⟨4097, .request⟩] }).wf = false := by
  decide +kernel
theorem test_wf_stored : (Instr.tlpIngress { tlp with stored := tlp.payload + 65 } false).wf = false := by decide
theorem test_wf_naks : (Instr.creditBlockReceived 9 true 0 0 (List.replicate 9 0) 0).wf = false := by decide
theorem test_wf_dimm_list : (Instr.ddrBringupDone [] 0 0).wf = false := by decide
theorem test_wf_dimm : (Instr.ddrBringupDone (some ⟨false, 0, 1, true, 0⟩ :: List.replicate 15 none) 0 0).wf = false := by decide
theorem test_wf_header : (Instr.restoreStart (some []) none).wf = false := by decide
theorem test_wf_chunk : (Instr.restoreComplete (List.replicate 135169 0) []).wf = false := by
  simp only [Instr.wf, List.length_replicate]; decide
theorem test_wf_meters : (Instr.meterTick (List.replicate 37 (0, 0)) 0 0 0).wf = false := by decide

/-! The queue of commands (this row's step). -/

theorem test_step_idle : (after (step State.reset)).pending = [] := by decide +kernel
theorem test_step_front : (after (step { up with pending := [.readClear 0, .deviceInfo (pkt 0)] })).pending = [.deviceInfo (pkt 0)] := by
  decide +kernel
theorem test_no_table_word : decodeTableWord 32 5 = none := rfl

/-! Fabric time: reading two halves (R107), and the exchange of the example in chapter 03. -/

theorem test_time_halves : let s := { State.reset with clk := { State.reset.clk with ft := 15384901888 } }
    let t := after (execMgtFtTimeLoRead s)
    t.out = [.readData 0x9502F900] ∧ t.rd MGT_FT_TIME_HI_TIME_HI = 3 := by decide +kernel

theorem test_exchange_differences : ftDiff 999999995 1000000000 = -5 ∧ ftDiff 1000000450 1000000395 = 55 := by decide +kernel

/-- Offset −30 ns and delay 25 ns, however the part rounds. -/
theorem test_exchange_result (r : Nat) : sixteenths (8 * (-5) - 8 * 55) r = -30 ∧ sixteenths (8 * (-5 + 55)) r = 25 := by
  have h : ((r % 16 : Nat) : Int) < 16 := by omega
  simp only [sixteenths, Int.fdiv_eq_ediv_of_nonneg _ (by decide : (0 : Int) ≤ 16)]
  constructor <;> omega

/-! Lane training: the example on lane 37 of chapter 04. Taps and answers are those of the example's table. -/

theorem test_taps_inc : tapActs (presetTaps 1) false 0 0 1 0 = (⟨0, 0, 9, 0⟩, [0, 0, 1, 0]) := by decide
theorem test_taps_inc_again : tapActs ⟨0, 0, 10, 0⟩ false 0 1 0 0 = (⟨0, 1, 10, 0⟩, [0, 1, 0, 0]) ∧ (Taps.mk 0 1 10 0).main = 53 := by decide
theorem test_taps_preset : (presetTaps 5).main = 40 ∧ tapActs (presetTaps 5) false 0 0 1 0 = (⟨0, 8, 16, 0⟩, [0, 0, 2, 0]) := by decide
theorem test_tx_coef_word : ((cyt 7).setTaps 37 (presetTaps 5)).readWord 0x189408 = 0x38 * 2 ^ 6 + 0x28 * 2 ^ 12 + 0x30 * 2 ^ 19 := by
  decide +kernel

/-! Credits across a wrap (chapter 06). -/

/-- Tether 9 with data credit limit `lim` in class 3, 0xFF80 consumed. -/
def credits (lim : Nat) : State := (cyt 7).wrs [(PRT_CYT_CRED_TX_LIM_HDR 9 3, 256), (PRT_CYT_CRED_TX_LIM_DATA 9 3, lim),
  (PRT_CYT_CRED_TX_CONS_DATA 9 3, 0xFF80)]

theorem test_credit_wrap : (credits 0x310).linkCredit 9 3 0 512 = true := by decide +kernel
theorem test_credit_short : (credits 0xFF88).linkCredit 9 3 0 512 = false := by decide +kernel

/-! One lost unit (chapter 06). -/

/-- A unit whose CRC is wrong. -/
def badUnit (n : Nat) : RxUnit := { rxUnit n 0 0 with crc := ~~~(rxUnit n 0 0).crc }

/-- Units up to 101 released. -/
def wants102 : State := (cyt 7).wr (PRT_CYT_RX_SEQ_NEXT_EXPECTED 9) 102

theorem test_lost_unit : (after (execLinkUnitReceived 9 (badUnit 102) wants102)).rd (PRT_CYT_ERR_COUNT_CRC_ERR 9) = 1 := by decide +kernel
theorem test_unit_after_gap : let t := after (execLinkUnitReceived 9 (rxUnit 103 0 0) wants102)
    t.rd (PRT_CYT_RX_SEQ_REORDER_USED 9) = 1 ∧ t.rd (PRT_CYT_RETX_COUNT_NAK_SENT 9) = 1 ∧ t.rd (PRT_CYT_RX_SEQ_NEXT_EXPECTED 9) = 102 := by
  decide +kernel
theorem test_lost_unit_again :
    let s := { wants102.wr (PRT_CYT_RX_SEQ_REORDER_USED 9) 1 with tether := { wants102.tether with reorder := [(9, rxUnit 103 0 0)] } }
    let t := after (execLinkUnitReceived 9 (rxUnit 102 0 0) s)
    t.rd (PRT_CYT_RX_SEQ_NEXT_EXPECTED 9) = 104 ∧ t.rd (PRT_CYT_RX_SEQ_REORDER_USED 9) = 0 := by decide +kernel

/-! The switch core: cut-through thresholds (chapter 07) and three congested queues. -/

theorem test_cut_through_cells : cutCells 528 63008 118000 = 4 ∧ cutCells 528 118000 128000 = 1 := by decide
theorem test_stored_cells : cellsOf 528 = 9 := by decide

/-- 252,928 shared cells free, and queue 240 with exponent `a` and `d` cells. -/
def congested (a d : Nat) : State := State.reset.wrs [(SWC_CELL_STATUS_FREE_SHARED, 252928), (SWC_QUEUE_ALPHA 240, a), (SWC_QUEUE_DEPTH 240, d)]

theorem test_threshold_one : (congested 4 252936).admits 240 1 = true ∧ (congested 4 252937).admits 240 1 = false := by decide +kernel
theorem test_threshold_half : (congested 3 126472).admits 240 1 = true ∧ (congested 3 126473).admits 240 1 = false := by decide +kernel

/-! Four requests from H5 (chapter 08). -/

/-- The example's entries 2048 to 2051 of host 5. -/
def h5 : State := up.wrs ([(2048, 0x0, 34, 0x1000000000), (2049, 0x400000000, 34, 0x1000000000), (2050, 0x800000000, 34, 0x1000000000),
  (2051, 0x1000000000, 36, 0x2000000000)].flatMap fun e => [(XLAT_VALID e.1, 1), (XLAT_HOST e.1, 5), (XLAT_MATCH_BASE e.1, e.2.1),
    (XLAT_SIZE_LOG2 e.1, e.2.2.1), (XLAT_TARGET_BASE e.1, e.2.2.2)])

theorem test_xlat_local : h5.lookup 0 5 0x123456780 = some 2048 ∧ h5.translated 2048 0x123456780 = 0x1123456780 := by decide +kernel
theorem test_xlat_alias : h5.lookup 0 5 0x400000040 = some 2049 ∧ h5.translated 2049 0x400000040 = 0x1000000040 := by decide +kernel
theorem test_xlat_remote : h5.lookup 0 5 0x1000001000 = some 2051 ∧ h5.translated 2051 0x1000001000 = 0x2000001000 := by decide +kernel
theorem test_xlat_none : h5.lookup 0 5 0xC00000000 = none ∧ h5.lookup 0 5 0x2000000000 = none := by decide +kernel

/-! The shaper of 25 Gb/s (chapter 10). -/

theorem test_shaper_interval : shaperInterval 25000 = 167772 := by decide

/-- Shaper 900 of the example at 1,000 ns, with E = 400 ns before its class becomes active. -/
def shaper900 : State := { State.reset.wrs [(SHP_INTERVAL 900, 167772), (SHP_BURST 900, 64), (SHPX_E 900, 400 * 524288)] with
  clk := { State.reset.clk with now := 1000 } }

theorem test_shaper_charge : let t := (shaper900.newlyActive 900).charge 900 282
    slotStart (t.rd (SHPX_E 900)) = 1096 ∧ t.rd (SHPX_E 900) = 1000 * 524288 + 282 * 167772 := by decide +kernel

/-! The pool map (chapter 12): one address under two maps. -/

/-- Eight channels, 1 TiB, stripes of `w` channels. -/
def tebibyte (w : Nat) : State := up.wrs [(BAL_STATUS_N, 8), (BAL_STATUS_W, w), (BAL_STATUS_CAPACITY, 1024), (BAL_STATUS_DIMM_SIZE, 3)]

theorem test_map_eight : (tebibyte 8).mapAddr 0x1123456780 = (7, 0x22468AC80) ∧ (tebibyte 8).dimmSlot 0x1123456780 = 0 := by decide +kernel
theorem test_map_four : (tebibyte 4).mapAddr 0x1123456780 = (3, 0x448D15980) := by decide +kernel

/-! An increment that loses once (chapter 13). -/

/-- A reservation of host 2 on the line at 0. -/
def reservedLine : State := { pool1 with pool := { pool1.pool with resv := [⟨2, 5, none, 0, 0, true⟩] } }

theorem test_store_clears_reservation : (reservedLine.performLine 0 0 fullMask 100).pool.resv = [] ∧
    (reservedLine.performLine 0 0 fullMask 100).loadByte 0 = 100 := by decide +kernel
theorem test_degraded_epoch : closeValue 5002 false true = 0x800000000000138A := by decide
theorem test_barrier_word : (up.wr (HOSTF_DISC_NODE 3) 3).barrierWord 3 = 0x30003 := by decide +kernel

/-! A POOL_ZERO packet (chapter 15): the bytes of the example, and what the fields read. -/

/-- The example's packet of 64 bytes, byte 0 lowest. -/
def poolZero : BitVec 512 := BitVec.ofNat 512 (0x00410609 + 0x1 * 2 ^ 32 + 0x8 * 2 ^ 64 + 0x1000000000 * 2 ^ 128 + 0x1000000000 * 2 ^ 192)

theorem test_packet_fields : packetOpcode poolZero = 0x0609 ∧ (packetCmd .mgmt poolZero).tag = 0x41 ∧
    intrFlag (packetCmd .mgmt poolZero) = true ∧ parBytes (packetCmd .mgmt poolZero) 8 8 = 0x1000000000 ∧
    parBytes (packetCmd .mgmt poolZero) 16 8 = 0x1000000000 := by decide +kernel
theorem test_packet_runs : let s := (pool1.wrs [(BAL_STATUS_CAPACITY, 1024), (WIN_VALID 20, 1), (WIN_BASE 20, 0), (WIN_LIMIT 20, 2 ^ 39)])
    ((after (execPoolZero (packetCmd .mgmt poolZero) s)).ops.map fun o => (o.opcode, o.total)) = [(0x0609, 0x1000000000)] := by decide +kernel

/-! Power: waking from sleep (chapter 17), the pack's energy and the retention budget (chapters 18 and 19). -/

theorem test_last_wake : let t := (State.reset.wr PWR_STATUS_STATE 2).wake 1 16
    t.rd PWR_STATUS_STATE = 0 ∧ t.readWord 0x70000C = 0x1041 := by decide +kernel
theorem test_pack_energy : availOf 50000 21600 = 9639 ∧ availOf 50000 11360 = 1201 ∧ availOf 50000 9000 = 0 := by decide

/-! The chain (chapter 20): the second unit adds one to the first unit's cells. -/

/-- Unit 1 has raised its start cell, and the head's cell is high or low. -/
def chain (n carry cell : Nat) : State := State.reset.wrs [(GLB_BOOT_STATUS_STAGE, 6), (CHNX_EDGE, 1), (CHNX_NBIT, n), (CHNX_CARRY, carry), (GLB_INPUT_STATUS_CHAIN_IN, cell)]

theorem test_chain_bit_0 : let t := after (execChainBitSample 0 (chain 0 1 1))
    t.out = [.pin 3 1 false] ∧ t.rd CHNX_CARRY = 1 ∧ t.rd CHNX_VAL = 1 := by decide +kernel
theorem test_chain_bit_1 : let t := after (execChainBitSample 1 (chain 1 1 0))
    t.out = [.pin 3 2 true] ∧ t.rd CHNX_CARRY = 0 := by decide +kernel
theorem test_chain_stop : let t := after (execChainStopSample ((chain 7 0 1).wr CHNX_VAL 1))
    t.rd MGT_NODE_ID_SMB_ADDR = 0x21 ∧ t.rd MGT_NODE_ID_NODE_ID = 1 ∧ t.rd MGT_NODE_ID_NODE_VALID = 1 := by decide +kernel

/-! A shared port with an escalation (chapter 11). -/

/-- Port 86 contained by DPC as the example has it. -/
def port86 : State := after (execDpcTrigger 86 2 false (up.wrs [(PRT_CFG_MODE 86, 2), (PRTX_DPC_EN 86, 1), (ERR_CFG_HOLD_MS, 10)]))

theorem test_dpc_contains : port86.contained 1 86 = true ∧ port86.rd (PRTX_DPC_STATUS 86) = 1 ∧ port86.rd (PRTX_DPC_REASON 86) = 2 := by
  decide +kernel
theorem test_timeout_values : ctovNs 0 = 40 * ms ∧ State.reset.timeoutOf .port 9 = 40 * ms := by decide +kernel

/-! Two appends in one batch (chapter 14): 200 bytes take 4 lines and 1,000 bytes 16. -/

theorem test_record_lines : recBytes 200 / 64 = 4 ∧ recBytes 1000 / 64 = 16 := by decide

end Sys2Proof.Tests
end

