-- ==== Sys2Proof/Tests/Witness.lean ====
section
/-! SUPPORT. For every clause of a statement that has hypotheses, a state and operands that meet all of them together. -/

set_option linter.unusedVariables false
set_option Elab.async false

namespace Sys2Proof.Tests
open Sys2Proof.Machine

theorem leBytes_length (n v : Nat) : (leBytes n v).length = n := by
  induction n generalizing v with
  | zero => rfl
  | succ n ih => simp [leBytes, ih]

theorem leNat_leBytes (n v : Nat) : leNat (leBytes n v) = v % 256 ^ n := by
  induction n generalizing v with
  | zero => simp [leBytes, leNat, Nat.mod_one]
  | succ n ih =>
    have h := Nat.mod_mul (x := v) (a := 256) (b := 256 ^ n)
    simp only [leBytes, leNat, ih, BitVec.toNat_ofNat]
    have e : (256 : Nat) ^ (n + 1) = 256 * 256 ^ n := Nat.pow_succ'
    rw [e, h]

theorem crcBit_lt {v : Nat} (h : v < 2 ^ 64) : crcBit crc64Poly v < 2 ^ 64 := by
  unfold crcBit
  split
  · exact Nat.xor_lt_two_pow (by omega) (by decide)
  · omega

theorem crc64_lt (l : List (BitVec 8)) (v : Nat) (h : v < 2 ^ 64) : crc64 v l < 2 ^ 64 := by
  induction l generalizing v with
  | nil => exact h
  | cons b l ih =>
    refine ih _ ?_
    have : v ^^^ b.toNat < 2 ^ 64 := Nat.xor_lt_two_pow h (by have := b.isLt; omega)
    unfold crcByte
    exact crcBit_lt (crcBit_lt (crcBit_lt (crcBit_lt (crcBit_lt (crcBit_lt (crcBit_lt (crcBit_lt this)))))))

theorem crc64Of_lt (l : List (BitVec 8)) : crc64Of l < 2 ^ 64 := by
  unfold crc64Of
  exact Nat.xor_lt_two_pow (crc64_lt l _ (by decide)) (by decide)

theorem leNat_leBytes_8 {v : Nat} (h : v < 2 ^ 64) : leNat (leBytes 8 v) = v := by
  rw [leNat_leBytes]; exact Nat.mod_eq_of_lt (lt_of_lt_of_eq h (by norm_num))

/-- The field at byte `k` of bytes that go on with `b` there. -/
theorem at_append {a b c : List (BitVec 8)} {k n : Nat} (ha : a.length = k) (hb : b.length = n) : at_ (a ++ (b ++ c)) k n = leNat b := by
  subst ha; subst hb; rw [at_, List.drop_left, List.take_left]

/-- The fields MAGIC, FORMAT and STATE of a spill header in state DONE. -/
def headerStart : List (BitVec 8) := leBytes 4 0x4C495053 ++ leBytes 4 0x2000001

/-- `n` zero bytes. -/
def zeros (n : Nat) : List (BitVec 8) := List.replicate n 0

theorem zeros_length (n : Nat) : (zeros n).length = n := List.length_replicate

/-- The 712 bytes of such a header with the part's serial number and the rest zero. -/
def headerBody : List (BitVec 8) := headerStart ++ (leBytes 8 Config.serial.toNat ++ (zeros 688 ++ zeros 8))

theorem headerBody_length : headerBody.length = 712 := by
  simp only [headerBody, headerStart, List.length_append, leBytes_length, zeros_length]

/-- That header with its CRC-64. -/
def headerOk : List (BitVec 8) := headerBody ++ (leBytes 8 (crc64Of headerBody) ++ [])

def restoring : State := State.reset.wrs [(GLB_BOOT_STATUS_STAGE, 6), (MOR_STATUS_STATE, 6)]

theorem headerOk_take : headerOk.take 712 = headerBody := by
  rw [headerOk, ← headerBody_length, List.take_left]

theorem headerOk_crc : at_ headerOk 712 8 = crc64Of headerBody := by
  rw [headerOk, at_append headerBody_length (leBytes_length 8 _), leNat_leBytes_8 (crc64Of_lt _)]

theorem headerOk_serial : at_ headerOk 8 8 = Config.serial.toNat := by
  rw [headerOk, headerBody, List.append_assoc, List.append_assoc,
    at_append (by simp only [headerStart, List.length_append, leBytes_length]) (leBytes_length 8 _), leNat_leBytes_8 Config.serial.isLt]

theorem headerOk_fixed : at_ headerOk 0 4 = 0x4C495053 ∧ at_ headerOk 4 2 = 1 ∧ at_ headerOk 7 1 = 2 := ⟨rfl, rfl, rfl⟩

theorem headerOk_capacity : at_ headerOk 704 8 = 0 := by
  have h : headerOk = (headerStart ++ (leBytes 8 Config.serial.toNat ++ zeros 688)) ++ (zeros 8 ++ leBytes 8 (crc64Of headerBody)) := by
    rw [headerOk, headerBody]; simp only [List.append_assoc, List.append_nil]
  rw [h, at_append (by simp only [headerStart, List.length_append, leBytes_length, zeros_length]) (zeros_length 8)]; rfl

theorem restoring_capacity : restoring.poolC = 0 := by decide +kernel

theorem headerOk_passes : restoring.headerFails headerOk headerOk = 0 := by
  have e := headerOk_fixed
  unfold State.headerFails
  rw [if_neg (not_not.mpr (by rw [headerOk_take, headerOk_crc])), if_neg (by rw [e.1, e.2.1]; decide), if_neg (by rw [e.2.2]; decide),
    if_neg (not_not.mpr headerOk_serial), if_neg (not_not.mpr rfl), if_neg (by rw [headerOk_capacity, restoring_capacity]; decide)]

/-- Node 4 lies behind port 9 alone, whatever the bucket of a flow. -/
def behind9 : State := (cyt 7).wrs [(MGT_NODE_ID_NODE_VALID, 1), (NRT_VALID 4, 1), (NRT_LISTED 4, 1), (tetherFld 4 0, 9), (tetherFld 4 1, 9),
  (tetherFld 4 2, 9), (tetherFld 4 3, 9)]

theorem behind9_port : ∀ v : BitVec 8, behind9.bucketPort (256 * 4 + v.toNat) = 9 := by decide +kernel

/-- A TLP of node 3 for node 4, come on port `p`, that goes on by bucket `b`. -/
def viaBucket (s : State) (p : Port) (b : Nat) : Tlp :=
  { tlp with ingress := p, dest := some 4, src := some 3, unitKind := 0, host := 48, egress := Fin.ofNat 128 (s.bucketPort b) }

theorem fence9 : ∀ v : BitVec 8, behind9.tlpFence (viaBucket behind9 9 (256 * 4 + v.toNat)) = none := by decide +kernel

theorem fence10 : ∀ v : BitVec 8, behind9.tlpFence (viaBucket behind9 10 (256 * 4 + v.toNat)) = none := by decide +kernel

theorem fence0 : ∀ v : BitVec 8, (State.reset.wr MGT_NODE_ID_NODE_VALID 1).tlpFence
    (viaBucket (State.reset.wr MGT_NODE_ID_NODE_VALID 1) 9 (256 * 4 + v.toNat)) = none := by decide +kernel

theorem room9 : ∀ v : BitVec 8, behind9.bucketPort (256 * 4 + v.toNat) < 128 := by decide +kernel

theorem size9 : ∀ v : BitVec 8, tlp.payload ≤ behind9.maxPayload (Fin.ofNat 128 (behind9.bucketPort (256 * 4 + v.toNat))) := by decide +kernel

theorem expr9 : ∀ v : BitVec 8, behind9.notExpressible (viaBucket behind9 10 (256 * 4 + v.toNat)) = false := by decide +kernel

/-! MailboxIndices -/

theorem witness_mailbox_indices_1 :
    (∃ (s : State) (m : Fin 1073) (v : BitVec 16), s.Inv ∧ ((v.toNat + 65536 - s.rd (YCP_MBX_REQ_HEAD m)) % 65536 ≤ 32)) ∧
    (∃ (s : State) (m : Fin 1073) (v : BitVec 16), s.Inv ∧ (32 < (v.toNat + 65536 - s.rd (YCP_MBX_REQ_HEAD m)) % 65536)) ∧
    (∃ (s : State) (m : Fin 1073) (v : BitVec 16), s.Inv ∧
      ((v.toNat + 65536 - s.rd (YCP_MBX_RSP_HEAD m)) % 65536 ≤ (s.rd (YCP_MBX_RSP_TAIL m) + 65536 - s.rd (YCP_MBX_RSP_HEAD m)) % 65536)) ∧
    (∃ (s : State) (m : Fin 1073) (v : BitVec 16), s.Inv ∧
      ((s.rd (YCP_MBX_RSP_TAIL m) + 65536 - s.rd (YCP_MBX_RSP_HEAD m)) % 65536 < (v.toNat + 65536 - s.rd (YCP_MBX_RSP_HEAD m)) % 65536)) ∧
    (∃ (s : State) (h : Host) (d : Fin 512) (v : BitVec 16) (n : Nat), s.Inv ∧ (s.rd (HDB_SPOOL h d) = n + 1) ∧
      (s.on (SPL_STOPPED n) = false) ∧ (s.rd (SPL_KIND n) = 0) ∧ (v.toNat < 2 ^ s.rd (SPL_SIZE_LOG2 n)) ∧
      ((s.rd (SPL_TAIL n) + 2 ^ s.rd (SPL_SIZE_LOG2 n) - s.rd (SPL_HEAD n)) % 2 ^ s.rd (SPL_SIZE_LOG2 n) ≤ (v.toNat + 2 ^ s.rd (SPL_SIZE_LOG2 n) - s.rd (SPL_HEAD n)) % 2 ^ s.rd (SPL_SIZE_LOG2 n))) ∧
    (∃ (s : State) (h : Host) (d : Fin 512) (v : BitVec 16) (n : Nat), s.Inv ∧ (s.rd (HDB_SPOOL h d) = n + 1) ∧
      (s.on (SPL_STOPPED n) = false) ∧ (s.rd (SPL_KIND n) = 0) ∧ (v.toNat < 2 ^ s.rd (SPL_SIZE_LOG2 n)) ∧
      ((v.toNat + 2 ^ s.rd (SPL_SIZE_LOG2 n) - s.rd (SPL_HEAD n)) % 2 ^ s.rd (SPL_SIZE_LOG2 n) < (s.rd (SPL_TAIL n) + 2 ^ s.rd (SPL_SIZE_LOG2 n) - s.rd (SPL_HEAD n)) % 2 ^ s.rd (SPL_SIZE_LOG2 n))) ∧
    (∃ (s : State) (h : Host) (d : Fin 512) (v : BitVec 16) (n : Nat), s.Inv ∧ (s.rd (HDB_SPOOL h d) = n + 1) ∧
      (s.on (SPL_STOPPED n) = false) ∧ (s.rd (SPL_KIND n) = 1) ∧ (v.toNat < 2 ^ s.rd (SPL_SIZE_LOG2 n)) ∧
      ((v.toNat + 2 ^ s.rd (SPL_SIZE_LOG2 n) - s.rd (SPL_HEAD n)) % 2 ^ s.rd (SPL_SIZE_LOG2 n) ≤ (s.rd (SPL_TAIL n) + 2 ^ s.rd (SPL_SIZE_LOG2 n) - s.rd (SPL_HEAD n)) % 2 ^ s.rd (SPL_SIZE_LOG2 n))) ∧
    (∃ (s : State) (h : Host) (d : Fin 512) (v : BitVec 16) (n : Nat), s.Inv ∧ (s.rd (HDB_SPOOL h d) = n + 1) ∧
      (s.on (SPL_STOPPED n) = false) ∧ (s.rd (SPL_KIND n) = 1) ∧ (v.toNat < 2 ^ s.rd (SPL_SIZE_LOG2 n)) ∧
      ((s.rd (SPL_TAIL n) + 2 ^ s.rd (SPL_SIZE_LOG2 n) - s.rd (SPL_HEAD n)) % 2 ^ s.rd (SPL_SIZE_LOG2 n) < (v.toNat + 2 ^ s.rd (SPL_SIZE_LOG2 n) - s.rd (SPL_HEAD n)) % 2 ^ s.rd (SPL_SIZE_LOG2 n))) :=
  ⟨⟨State.reset, 5, 32, by decide +kernel⟩,
    ⟨State.reset, 5, 33, by decide +kernel⟩,
    ⟨State.reset.wr (YCP_MBX_RSP_TAIL 5) 2, 5, 2, by decide +kernel⟩,
    ⟨State.reset.wr (YCP_MBX_RSP_TAIL 5) 2, 5, 3, by decide +kernel⟩,
    ⟨State.reset.wrs [(HDB_SPOOL 2 3, 8), (SPL_SIZE_LOG2 7, 3), (SPL_KIND 7, 0), (SPL_TAIL 7, 4)], 2, 3, 6, 7, by decide +kernel⟩,
    ⟨State.reset.wrs [(HDB_SPOOL 2 3, 8), (SPL_SIZE_LOG2 7, 3), (SPL_KIND 7, 0), (SPL_TAIL 7, 4)], 2, 3, 3, 7, by decide +kernel⟩,
    ⟨State.reset.wrs [(HDB_SPOOL 2 3, 8), (SPL_SIZE_LOG2 7, 3), (SPL_KIND 7, 1), (SPL_TAIL 7, 4)], 2, 3, 4, 7, by decide +kernel⟩,
    ⟨State.reset.wrs [(HDB_SPOOL 2 3, 8), (SPL_SIZE_LOG2 7, 3), (SPL_KIND 7, 1), (SPL_TAIL 7, 4)], 2, 3, 5, 7, by decide +kernel⟩⟩

theorem witness_mailbox_indices_2 :
    (∃ (s : State) (h : Host) (d : Fin 512) (v : BitVec 16) (n : Nat), s.Inv ∧ (s.rd (HDB_SPOOL h d) = n + 1) ∧
      (s.on (SPL_STOPPED n) = false) ∧ (2 ^ s.rd (SPL_SIZE_LOG2 n) ≤ v.toNat)) ∧
    (∃ (s : State) (h : Host) (d : Fin 512) (v : BitVec 16) (n : Nat), s.Inv ∧ (s.rd (HDB_SPOOL h d) = n + 1) ∧
      (s.on (SPL_STOPPED n) = true)) ∧
    (∃ (s : State) (h : Host) (d : Fin 512) (v : BitVec 16), s.Inv ∧ (s.rd (HDB_SPOOL h d) = 0)) ∧
    (∃ (s : State) (h : Host) (g : Gond) (d : Fin 512) (v : BitVec 16), s.Inv ∧ (s.rd (GDB_SPOOL g d) ≠ 0) ∧ (s.contained 3 g = false) ∧
      (s.latches g = true)) ∧
    (∃ (s : State) (h : Host) (g : Gond) (d : Fin 512) (v : BitVec 16), s.Inv ∧ (s.rd (GDB_SPOOL g d) = 0 ∨ s.contained 3 g = true)) ∧
    (∃ (s : State) (h : Host) (g : Gond) (d : Fin 512) (v : BitVec 16), s.Inv ∧ (s.rd (GDB_SPOOL g d) ≠ 0) ∧ (s.contained 3 g = false) ∧
      (s.latches g = false)) ∧
    (∃ (s : State) (n : Fin 32768), s.Inv ∧ (s.on (SPL_VALID n) = true) ∧ (s.rd (SPL_KIND n) = 0)) :=
  ⟨⟨State.reset.wrs [(HDB_SPOOL 2 3, 8), (SPL_SIZE_LOG2 7, 3), (SPL_KIND 7, 0), (SPL_TAIL 7, 4)], 2, 3, 8, 7, by decide +kernel⟩,
    ⟨(State.reset.wrs [(HDB_SPOOL 2 3, 8), (SPL_SIZE_LOG2 7, 3), (SPL_KIND 7, 0),
      (SPL_TAIL 7, 4)]).wr (SPL_STOPPED 7) 1, 2, 3, 8, 7, by decide +kernel⟩,
    ⟨State.reset, 2, 3, 8, by decide +kernel⟩,
    ⟨State.reset.wrs [(GDB_SPOOL 2 3, 8), (GND_STATE 2, 3)], 0, 2, 3, 8, by decide +kernel⟩,
    ⟨State.reset, 0, 2, 3, 8, by decide +kernel⟩,
    ⟨State.reset.wrs [(GDB_SPOOL 2 3, 8), (GND_STATE 2, 1)], 0, 2, 3, 8, by decide +kernel⟩,
    ⟨State.reset.wr (SPL_VALID 5) 1, 5, by decide +kernel⟩⟩

/-! DeviceCommands -/

theorem witness_device_commands_1 :
    (∃ (s : State) (c : Cmd), s.Inv ∧ (s.ready 0x0101 c = true) ∧ (cleanCmd c [] false = true)) ∧
    (∃ (s : State) (c : Cmd) (o : Op), s.Inv ∧ (s.ready 0x0102 c = true) ∧ (ownsOp o (s.issuer c.path) = true) ∧
      (cleanCmd c [(0, 16)] false = true) ∧ (s.opOf (parBytes c 0 2) = some o) ∧ (o.final = none)) ∧
    (∃ (s : State) (c : Cmd) (o : Op), s.Inv ∧ (s.ready 0x0102 c = true) ∧ (ownsOp o (s.issuer c.path) = true) ∧
      (cleanCmd c [(0, 16)] false = true) ∧ (s.opOf (parBytes c 0 2) = some o) ∧ (o.final.isSome = true) ∧ (o.recorded = false)) ∧
    (∃ (s : State) (c : Cmd) (o : Op), s.Inv ∧ (s.ready 0x0103 c = true) ∧ (ownsOp o (s.issuer c.path) = true) ∧
      (cleanCmd c [(0, 16)] false = true) ∧ (s.opOf (parBytes c 0 2) = some o) ∧ (o.final.isSome = true ∨ o.lastStep = true)) ∧
    (∃ (s : State) (c : Cmd) (o : Op), s.Inv ∧ (s.ready 0x0103 c = true) ∧ (ownsOp o (s.issuer c.path) = true) ∧
      (cleanCmd c [(0, 16)] false = true) ∧ (s.opOf (parBytes c 0 2) = some o) ∧ (o.final = none) ∧ (o.lastStep = false) ∧
      (o.paused = false)) ∧
    (∃ (s : State) (c : Cmd) (o : Op), s.Inv ∧ (s.ready 0x0103 c = true) ∧ (ownsOp o (s.issuer c.path) = true) ∧
      (cleanCmd c [(0, 16)] false = true) ∧ (s.opOf (parBytes c 0 2) = some o) ∧ (o.final = none) ∧ (o.lastStep = false) ∧
      (o.paused = true)) ∧
    (∃ (s : State) (c : Cmd), s.Inv ∧ (s.ready 0x0104 c = true) ∧ (onlyM (s.issuer c.path) = true) ∧
      ((cleanCmd c [(0, 8)] false && decide (parBytes c 0 1 < 48)) = true) ∧ (((s.hostPort (parBytes c 0 1)).isNone) = false) ∧
      (s.mgmtHost = none)) ∧
    (∃ (s : State) (c : Cmd) (o : Nat), s.Inv ∧ (s.ready 0x0104 c = true) ∧ (onlyM (s.issuer c.path) = true) ∧
      ((cleanCmd c [(0, 8)] false && decide (parBytes c 0 1 < 48)) = true) ∧ (((s.hostPort (parBytes c 0 1)).isNone) = false) ∧
      (s.mgmtHost = some o) ∧ (o < 48) ∧ (o ≠ parBytes c 0 1)) :=
  ⟨⟨up, (pkt 0x0#448), by decide +kernel⟩,
    ⟨{ up with ops := [⟨5, 0x0C02, pkt 0, .m, 128, 3, 9, 0, 0, false, none, 0, false, false, false, false⟩] }, (pkt 0x5#448), ⟨5, 0x0C02, pkt 0, .m, 128, 3, 9, 0, 0, false, none, 0, false, false, false, false⟩, by decide +kernel⟩,
    ⟨{ up with ops := [⟨5, 0x0C02, pkt 0, .m, 128, 3, 9, 0, 0, false, some 0, 0, false, false, false, false⟩] }, (pkt 0x5#448), ⟨5, 0x0C02, pkt 0, .m, 128, 3, 9, 0, 0, false, (some 0), 0, false, false, false, false⟩, by decide +kernel⟩,
    ⟨{ up with ops := [⟨5, 0x0C02, pkt 0, .m, 128, 3, 9, 0, 0, false, some 0, 0, false, false, false, false⟩] }, (pkt 0x5#448), ⟨5, 0x0C02, pkt 0, .m, 128, 3, 9, 0, 0, false, (some 0), 0, false, false, false, false⟩, by decide +kernel⟩,
    ⟨{ up with ops := [⟨5, 0x0C02, pkt 0, .m, 128, 3, 9, 0, 0, false, none, 0, false, false, false, false⟩] }, (pkt 0x5#448), ⟨5, 0x0C02, pkt 0, .m, 128, 3, 9, 0, 0, false, none, 0, false, false, false, false⟩, by decide +kernel⟩,
    ⟨{ up with ops := [⟨5, 0x0C02, pkt 0, .m, 128, 3, 9, 0, 0, false, none, 0, false, false, true, false⟩] }, (pkt 0x5#448), ⟨5, 0x0C02, pkt 0, .m, 128, 3, 9, 0, 0, false, none, 0, false, false, true, false⟩, by decide +kernel⟩,
    ⟨up.wr MGT_MGMT_HOST_VALID 0, (pkt 0x1#448), by decide +kernel⟩,
    ⟨up.wrs [(HOSTF_PORT 2, 5)], (pkt 0x2#448), 1, by decide +kernel⟩⟩

theorem witness_device_commands_2 :
    (∃ (s : State) (c : Cmd) (n k : Nat), s.Inv ∧ (s.ready 0x0105 c = true) ∧ (ownsHost (parBytes c 17 1) (s.issuer c.path) = true) ∧
      ((cleanCmd c [(0, 8), (8, 8), (16, 16), (32, 16), (48, 16), (64, 64), (128, 8), (136, 8), (144, 16), (160, 1)] false
      && decide (parBytes c 0 1 ≤ 1) && decide (1 ≤ parBytes c 1 1) && decide (parBytes c 1 1 ≤ 16) && decide (parBytes c 2 2 < 32768) && decide (parBytes c 4 2 < 2048)
      && decide (parBytes c 6 2 ≤ 1000) && parBytes c 8 8 % 4096 == 0 && (parBytes c 0 1 == 1 || decide (1 ≤ parBytes c 16 1) && decide (parBytes c 16 1 ≤ 64))
      && decide (parBytes c 17 1 < 48) && decide (parBytes c 18 2 < 1024)) = true) ∧ (parBits c 160 1 = 0) ∧ (parBytes c 0 1 = 1) ∧ (n < 32768) ∧ (k < 512) ∧ (s.freeSpool = some n) ∧ (findFrom (fun d => s.rd (HDB_SPOOL (parBytes c 17 1) d) == 0) 0 512 = some k) ∧ (s.rd QUOTA_SPOOLS + s.rd QUOTA_HOSTSPOOLS < 32768)) ∧
    (∃ (s : State) (c : Cmd) (n k : Nat), s.Inv ∧ (s.ready 0x0105 c = true) ∧ (ownsHost (parBytes c 17 1) (s.issuer c.path) = true) ∧
      ((cleanCmd c [(0, 8), (8, 8), (16, 16), (32, 16), (48, 16), (64, 64), (128, 8), (136, 8), (144, 16), (160, 1)] false
      && decide (parBytes c 0 1 ≤ 1) && decide (1 ≤ parBytes c 1 1) && decide (parBytes c 1 1 ≤ 16) && decide (parBytes c 2 2 < 32768) && decide (parBytes c 4 2 < 2048)
      && decide (parBytes c 6 2 ≤ 1000) && parBytes c 8 8 % 4096 == 0 && (parBytes c 0 1 == 1 || decide (1 ≤ parBytes c 16 1) && decide (parBytes c 16 1 ≤ 64))
      && decide (parBytes c 17 1 < 48) && decide (parBytes c 18 2 < 1024)) = true) ∧ (parBits c 160 1 = 0) ∧ (parBytes c 0 1 = 0) ∧ (n < 32768) ∧ (k < 512) ∧ (s.freeSpool = some n) ∧ (findFrom (fun d => s.rd (HDB_SPOOL (parBytes c 17 1) d) == 0) 0 512 = some k) ∧ (s.rd QUOTA_SPOOLS + s.rd QUOTA_HOSTSPOOLS < 32768) ∧ (s.on (SPL_VALID (parBytes c 2 2)) = true) ∧ (s.rd (SPL_KIND (parBytes c 2 2)) = 1) ∧ (s.rd (SPL_HOST (parBytes c 2 2)) = parBytes c 17 1) ∧ (s.on (SPL_GONDOLA_OWNED (parBytes c 2 2)) = false) ∧ (s.rd (SPLX_CMDS (parBytes c 2 2)) < 64) ∧ (s.ownsSpool (parBytes c 2 2) (s.issuer c.path) = true)) ∧
    (∃ (s : State) (c : Cmd) (n k : Nat), s.Inv ∧ (s.ready 0x0105 c = true) ∧ (s.ownsGond (parBytes c 18 2) (s.issuer c.path) = true) ∧
      ((cleanCmd c [(0, 8), (8, 8), (16, 16), (32, 16), (48, 16), (64, 64), (128, 8), (136, 8), (144, 16), (160, 1)] false
      && decide (parBytes c 0 1 ≤ 1) && decide (1 ≤ parBytes c 1 1) && decide (parBytes c 1 1 ≤ 16) && decide (parBytes c 2 2 < 32768) && decide (parBytes c 4 2 < 2048)
      && decide (parBytes c 6 2 ≤ 1000) && parBytes c 8 8 % 4096 == 0 && (parBytes c 0 1 == 1 || decide (1 ≤ parBytes c 16 1) && decide (parBytes c 16 1 ≤ 64))
      && decide (parBytes c 17 1 < 48) && decide (parBytes c 18 2 < 1024)) = true) ∧ (parBits c 160 1 = 1) ∧ (parBytes c 0 1 = 1) ∧ (n < 32768) ∧ (k < 512) ∧ (s.freeSpool = some n) ∧ (findFrom (fun d => s.rd (GDB_SPOOL (parBytes c 18 2) d) == 0) 0 512 = some k) ∧ (s.on (GND_VALID (parBytes c 18 2)) = true) ∧ (s.rd (GND_HOST (parBytes c 18 2)) = parBytes c 17 1) ∧ (s.rd (GND_SPOOLS_USED (parBytes c 18 2)) < s.rd (GND_SPOOL_QUOTA (parBytes c 18 2)))) ∧
    (∃ (s : State) (c : Cmd) (n k : Nat), s.Inv ∧ (s.ready 0x0105 c = true) ∧ (s.ownsGond (parBytes c 18 2) (s.issuer c.path) = true) ∧
      ((cleanCmd c [(0, 8), (8, 8), (16, 16), (32, 16), (48, 16), (64, 64), (128, 8), (136, 8), (144, 16), (160, 1)] false
      && decide (parBytes c 0 1 ≤ 1) && decide (1 ≤ parBytes c 1 1) && decide (parBytes c 1 1 ≤ 16) && decide (parBytes c 2 2 < 32768) && decide (parBytes c 4 2 < 2048)
      && decide (parBytes c 6 2 ≤ 1000) && parBytes c 8 8 % 4096 == 0 && (parBytes c 0 1 == 1 || decide (1 ≤ parBytes c 16 1) && decide (parBytes c 16 1 ≤ 64))
      && decide (parBytes c 17 1 < 48) && decide (parBytes c 18 2 < 1024)) = true) ∧ (parBits c 160 1 = 1) ∧ (parBytes c 0 1 = 0) ∧ (n < 32768) ∧ (k < 512) ∧ (s.freeSpool = some n) ∧ (findFrom (fun d => s.rd (GDB_SPOOL (parBytes c 18 2) d) == 0) 0 512 = some k) ∧ (s.on (GND_VALID (parBytes c 18 2)) = true) ∧ (s.rd (GND_HOST (parBytes c 18 2)) = parBytes c 17 1) ∧ (s.rd (GND_SPOOLS_USED (parBytes c 18 2)) < s.rd (GND_SPOOL_QUOTA (parBytes c 18 2))) ∧ (s.on (SPL_VALID (parBytes c 2 2)) = true) ∧ (s.rd (SPL_KIND (parBytes c 2 2)) = 1) ∧ (s.rd (SPL_HOST (parBytes c 2 2)) = parBytes c 17 1) ∧ (s.on (SPL_GONDOLA_OWNED (parBytes c 2 2)) = true) ∧ (s.rd (SPLX_CMDS (parBytes c 2 2)) < 64) ∧ (s.rd (SPL_GONDOLA (parBytes c 2 2)) = parBytes c 18 2) ∧ (s.ownsSpool (parBytes c 2 2) (s.issuer c.path) = true)) ∧
    (∃ (s : State) (c : Cmd), s.Inv ∧ (s.ready 0x0106 c = true) ∧ ((cleanCmd c [(0, 16)] false && decide (parBytes c 0 2 < 32768)) = true) ∧
      (s.on (SPL_VALID (parBytes c 0 2)) = true) ∧ (s.ownsSpool (parBytes c 0 2) (s.issuer c.path) = true) ∧
      (s.on (SPL_GONDOLA_OWNED (parBytes c 0 2)) = false) ∧ (s.rd (SPL_HOST (parBytes c 0 2)) < 48) ∧
      (s.rd (SPL_DB_SLOT (parBytes c 0 2)) < 512) ∧ (s.rd (SPL_NOT_FINAL (parBytes c 0 2)) = 0) ∧ (s.rd (SPL_KIND (parBytes c 0 2)) = 1) ∧
      (s.rd (SPLX_CMDS (parBytes c 0 2)) = 0) ∧
      ((match c.path with | .spool k => k.val == parBytes c 0 2 || s.rd (SPL_PAIRED k.val) == parBytes c 0 2 | _ => false) = false)) ∧
    (∃ (s : State) (h : BitVec 16) (o : Op), s.Inv ∧ (s.opOf h.toNat = some o) ∧ (o.final.isSome = true) ∧ (o.recorded = false)) ∧
    (∃ (s : State) (h : BitVec 16), s.Inv ∧ (s.opOf h.toNat = none)) ∧
    (∃ (s : State), s.Inv ∧ (s.on READYX_AREA = true)) :=
  ⟨⟨up, (pkt 0x10000000000000010000000000000000401#448), 0, 0, by decide +kernel⟩,
    ⟨up.wrs [(SPL_VALID 0, 1), (SPL_KIND 0, 1), (SPL_HOST 0, 1),
      (HDB_SPOOL 1 0, 1)], (pkt 0x10200000000000010000000000000000400#448), 1, 1, by decide +kernel⟩,
    ⟨up.wrs [(GND_VALID 6, 1), (GND_HOST 6, 1),
      (GND_SPOOL_QUOTA 6, 4)], (pkt 0x10006010000000000000010000000000000000401#448), 0, 0, by decide +kernel⟩,
    ⟨up.wrs [(GND_VALID 6, 1), (GND_HOST 6, 1), (GND_SPOOL_QUOTA 6, 4), (SPL_VALID 0, 1), (SPL_KIND 0, 1), (SPL_HOST 0, 1),
      (SPL_GONDOLA_OWNED 0, 1), (SPL_GONDOLA 0, 6),
      (GDB_SPOOL 6 0, 1)], (pkt 0x10006010200000000000010000000000000000400#448), 1, 1, by decide +kernel⟩,
    ⟨up.wrs [(SPL_VALID 4, 1), (SPL_KIND 4, 1), (SPL_HOST 4, 1), (HDB_SPOOL 1 0, 5),
      (YCP_STATUS_SPOOLS_USED, 1)], (pkt 0x4#448), by decide +kernel⟩,
    ⟨{ up with ops := [⟨5, 0x0C02, pkt 0, .m, 128, 3, 9, 0, 0, false, some 0, 0, false, false, false, false⟩] }, 5, ⟨5, 0x0C02, pkt 0, .m, 128, 3, 9, 0, 0, false, (some 0), 0, false, false, false, false⟩, by decide +kernel⟩,
    ⟨State.reset, 5, by decide +kernel⟩,
    ⟨State.reset.wr READYX_AREA 1, by decide +kernel⟩⟩

theorem witness_device_commands_3 :
    ∃ (s : State) (q : Fin 32768), s.Inv ∧ (s.rd (SPLX_COAL_DUE q) ≠ 0) :=
  ⟨State.reset.wr (SPLX_COAL_DUE 4) 9, 4, by decide +kernel⟩

/-! HostFunctionEvents -/

theorem witness_host_function_events_1 :
    (∃ (s : State) (h : Host) (p : Nat), s.Inv ∧ (s.on (HOSTF_BME h) = true) ∧ (s.hostPort h = some p) ∧ (p < 128) ∧ (s.awake = true)) ∧
    (∃ (s : State) (h : Host), s.Inv ∧ (s.on (HOSTF_BME h) = false) ∧ (s.awake = true)) ∧
    (∃ (s : State) (h : Host), s.Inv ∧ (s.on (HOSTF_BME h) = true) ∧ (s.hostPort h = none) ∧ (s.awake = true)) ∧
    (∃ (s : State) (h : Host), s.Inv ∧ (s.on (HOSTF_BME h) = true) ∧ (s.awake = true)) ∧
    (∃ (s : State) (h : Host), s.Inv ∧ (s.rd (HOSTF_PM h) = 3)) ∧
    (∃ (s : State) (h : Host) (p : Nat), s.Inv ∧ (s.rd (HOSTF_PM h) ≠ 3) ∧ (s.hostPort h = some p) ∧ (p < 128)) ∧
    (∃ (s : State) (h : Host), s.Inv ∧ (s.rd (HOSTF_PM h) ≠ 3) ∧ (s.awake = true)) ∧
    (∃ (s : State) (h : Host), s.Inv ∧ (s.rd (HOSTF_PM h) = 3) ∧ (s.awake = true)) :=
  ⟨⟨(up.wr (HOSTF_BME 1) 1), 1, 3, by decide +kernel⟩,
    ⟨up, 1, by decide +kernel⟩,
    ⟨(State.reset.wr (HOSTF_BME 1) 1), 1, by decide +kernel⟩,
    ⟨(up.wr (HOSTF_BME 1) 1), 1, by decide +kernel⟩,
    ⟨(up.wr (HOSTF_PM 1) 3), 1, by decide +kernel⟩,
    ⟨up, 1, 3, by decide +kernel⟩,
    ⟨up, 1, by decide +kernel⟩,
    ⟨(up.wr (HOSTF_PM 1) 3), 1, by decide +kernel⟩⟩

theorem witness_host_function_events_2 :
    (∃ (s : State) (h : Host), s.Inv ∧ (s.on (HOSTF_D3EMPTY h) = true) ∧ (s.hostBufEmpty h = true)) ∧
    (∃ (s : State) (h : Host), s.Inv ∧ (s.on (HOSTF_D3EMPTY h) = false ∨ s.hostBufEmpty h = false)) ∧
    (∃ (s : State) (h : Host), s.Inv ∧ (s.on (HOSTF_PMEEN h) = false)) ∧
    (∃ (s : State) (h : Host) (p : Nat), s.Inv ∧ (s.on (HOSTF_PMEEN h) = true) ∧ (s.rd (HOSTF_PM h) = 3) ∧ (s.hostPort h = some p) ∧
      (p < 128) ∧ (s.rd MOR_STATUS_STATE = 0) ∧ (s.rd (PRT_LINK_STATUS_LTSSM p) = 3)) ∧
    (∃ (s : State) (h : Host) (p : Nat), s.Inv ∧ (s.on (HOSTF_PMEEN h) = true) ∧ (s.rd (HOSTF_PM h) = 3) ∧ (s.hostPort h = some p) ∧
      (p < 128) ∧ (s.rd MOR_STATUS_STATE = 0) ∧ (s.rd (PRT_LINK_STATUS_LTSSM p) = 7)) ∧
    (∃ (s : State) (h : Host) (p : Nat), s.Inv ∧ (s.rd (HOSTF_PM h) ≠ 3) ∧ (s.hostPort h = some p) ∧
      (s.on (PRT_HOST_STATUS_PERST_ACTIVE p) = false)) :=
  ⟨⟨(up.wr (HOSTF_D3EMPTY 1) 1), 1, by decide +kernel⟩,
    ⟨up, 1, by decide +kernel⟩,
    ⟨up, 1, by decide +kernel⟩,
    ⟨up.wrs [(HOSTF_PMEEN 1, 1), (HOSTF_PM 1, 3), (PRT_LINK_STATUS_LTSSM 3, 3)], 1, 3, by decide +kernel⟩,
    ⟨up.wrs [(HOSTF_PMEEN 1, 1), (HOSTF_PM 1, 3), (PRT_LINK_STATUS_LTSSM 3, 7)], 1, 3, by decide +kernel⟩,
    ⟨up, 1, 3, by decide +kernel⟩⟩

/-! RegisterAccess -/

theorem witness_register_access_1 :
    (∃ (s : State) (who : Fin 50) (a v : BitVec 32), s.Inv ∧ (plainOffset a.toNat = true)) ∧
    (∃ (s : State) (who : Fin 50) (a v : BitVec 32), s.Inv ∧ (0x390000 ≤ a.toNat) ∧ (a.toNat < 0x3A0000) ∧ (a.toNat % 4 = 0) ∧
      (who.val ≠ 49)) ∧
    (∃ (s : State) (who : Fin 50) (a v : BitVec 32), s.Inv ∧ (0x1000000 ≤ a.toNat) ∧ (a.toNat < 0x1300000) ∧ (a.toNat % 4 = 0) ∧
      (who.val ≠ 49) ∧ (who.val ≠ (a.toNat - 0x1000000) / 0x10000)) ∧
    (∃ (s : State) (a v m : Nat) (r : RegRow), s.Inv ∧ (s.blockLive a = true) ∧ (((rowsAt a).map fun x => (x.field a).key).Nodup) ∧
      (r ∈ rowsAt a) ∧ (r.acc = .ro ∨ r.acc = .rc ∨ r.acc = .wo)) ∧
    (∃ (s : State) (a v m : Nat) (r : RegRow), s.Inv ∧ (s.blockLive a = true) ∧ (((rowsAt a).map fun x => (x.field a).key).Nodup) ∧
      (r ∈ rowsAt a) ∧ (r.acc = .rw) ∧ (r.vbit = 0) ∧ (r.w = r.width)) ∧
    (∃ (s : State) (a v m : Nat) (r : RegRow), s.Inv ∧ (s.blockLive a = true) ∧ (((rowsAt a).map fun x => (x.field a).key).Nodup) ∧
      (r ∈ rowsAt a) ∧ (r.acc = .w1c) ∧ (s.rd (r.field a) < 2 ^ r.width)) ∧
    (∃ (s : State) (a : BitVec 32), s.Inv ∧ (plainOffset a.toNat = true) ∧ (0x500100 ≤ a.toNat ∨ (a.toNat < 0x300000 ∧ 0x20000 ≤ a.toNat)) ∧
      (inRow a.toNat 0x504008 0x40 64 = false) ∧ (inRow a.toNat 0x504010 0x40 64 = false) ∧ (inRow a.toNat 0x504018 0x40 64 = false)) ∧
    (∃ (s : State) (a : Nat) (r : RegRow), s.Inv ∧ (r ∈ rowsAt a) ∧ (r.acc = .rc)) :=
  ⟨⟨State.reset, 3, 0x500000, 5, by decide +kernel⟩,
    ⟨State.reset, 3, 0x390000, 5, by decide +kernel⟩,
    ⟨State.reset, 3, 0x1000000, 5, by decide +kernel⟩,
    ⟨State.reset, 0x40, 0, 0, ⟨0x40, [], 0, 7, .ro, 0, 0, 0, 7, 0⟩, by decide +kernel⟩,
    ⟨State.reset, 0x380004, 0, 0, ⟨0x380004, [], 0, 10, .rw, 0, 0, 0, 10, 0⟩, by decide +kernel⟩,
    ⟨State.reset, 0x4C, 0, 0, ⟨0x4C, [], 22, 1, .w1c, 0, 22, 0, 1, 0⟩, by decide +kernel⟩,
    ⟨State.reset, 0x100000, by decide +kernel⟩,
    ⟨State.reset, 0x1C0004, ⟨0x1C0004, [], 0, 20, .rc, 0, 0, 0, 20, 0⟩, by decide +kernel⟩⟩

theorem witness_register_access_2 :
    (∃ (s : State) (k : Fin 7), s.Inv ∧ (bitSet (s.rd SNAPX_DUE) k = true)) ∧
    (∃ (s : State) (k : Fin 7), s.Inv ∧ (bitSet (s.rd SNAPX_DUE) k = false)) ∧
    (∃ (s : State) (h : Host) (r : MemReq), s.Inv ∧ (s.bridle.held = []) ∧ (s.on (HOSTF_IN_RESET h) = true ∨ s.contained 2 h = true) ∧
      (s.awake = true)) ∧
    (∃ (s : State) (h : Host) (r : MemReq), s.Inv ∧ (s.bridle.held = []) ∧ (s.on (HOSTF_IN_RESET h) = false) ∧ (s.contained 2 h = false) ∧
      (s.f1Takes h = false ∨ r.ide = true) ∧ (s.awake = true)) ∧
    (∃ (s : State) (h : Host) (r : MemReq) (l : List (BitVec 8)) (o : Nat), s.Inv ∧ (s.bridle.held = []) ∧
      (s.on (HOSTF_IN_RESET h) = false) ∧ (s.contained 2 h = false) ∧ (s.f1Takes h = true) ∧ (r.ide = false) ∧ (r.op = .store l) ∧
      (r.addr.toNat = s.rd (HOSTF_BAR0 h) + o) ∧ (o + l.length ≤ 2 ^ 25) ∧ (s.bar0Takes h o = true) ∧ (s.checkerHeld = false) ∧
      (s.heldBefore (s.rd SYS_ORDER) (.regs h r) = false) ∧ (s.bufFull h = false) ∧
      ((s.check ⟨clsTenant, spMgmt, accessOf r.op, h, r.requester.toNat, r.pasid.map (fun (x : BitVec 20) =>
      x.toNat), o, accLen r.op, 0⟩).2 = true) ∧ (s.awake = true)) ∧
    (∃ (s : State) (h : Host) (r : MemReq) (l : List (BitVec 8)) (o : Nat), s.Inv ∧ (s.bridle.held = []) ∧
      (s.on (HOSTF_IN_RESET h) = false) ∧ (s.contained 2 h = false) ∧ (s.f1Takes h = true) ∧ (r.ide = false) ∧ (r.op = .store l) ∧
      (r.addr.toNat = s.rd (HOSTF_BAR0 h) + o) ∧ (o + l.length ≤ 2 ^ 25) ∧ (s.bar0Takes h o = true) ∧ (s.checkerHeld = false) ∧
      (s.heldBefore (s.rd SYS_ORDER) (.regs h r) = false) ∧ (s.bufFull h = false) ∧
      ((s.check ⟨clsTenant, spMgmt, accessOf r.op, h, r.requester.toNat, r.pasid.map (fun (x : BitVec 20) =>
      x.toNat), o, accLen r.op, 0⟩).2 = false) ∧ (s.awake = true)) :=
  ⟨⟨State.reset.wr SNAPX_DUE 8, 3, by decide +kernel⟩,
    ⟨State.reset, 3, by decide +kernel⟩,
    ⟨State.reset.wr (HOSTF_IN_RESET 0) 1, 0, ⟨0, 0, none, 0, 0, .read 4, false⟩, by decide +kernel⟩,
    ⟨State.reset.wr (HOSTF_IN_RESET 0) 0, 0, ⟨0, 0, none, 0, 0, .read 4, true⟩, by decide +kernel⟩,
    ⟨up.wrs [(HOSTF_IN_RESET 1, 0), (HOSTF_MSE 1, 1)], 1, ⟨0, 0, none, 0, 8, .store [5], false⟩, [5], 8, by decide +kernel⟩,
    ⟨{ up.wrs [(HOSTF_IN_RESET 1, 0), (HOSTF_MSE 1, 1)] with bridle := { up.bridle with active := { up.bridle.active with policy := 0 } } }, 1, ⟨0, 0, none, 0, 8, .store [5], false⟩, [5], 8, by decide +kernel⟩⟩

/-! ClockReference -/

theorem witness_clock_reference :
    (∃ (s : State) (g : Nat), s.Inv ∧ (s.on GLB_CLK_STATUS_SYS_PLL_LOCK = true) ∧ (s.on GLB_CLK_STATUS_SYS_REF_LOST = false) ∧
      (lowPair (clrBit (s.rd GLB_CLK_STATUS_CLKREF_DET) (s.rd GLB_CLK_STATUS_SYS_REF)) = some g)) ∧
    (∃ (s : State), s.Inv ∧ (s.on GLB_CLK_STATUS_SYS_PLL_LOCK = true) ∧ (s.on GLB_CLK_STATUS_SYS_REF_LOST = false) ∧
      (lowPair (clrBit (s.rd GLB_CLK_STATUS_CLKREF_DET) (s.rd GLB_CLK_STATUS_SYS_REF)) = none)) ∧
    (∃ (s : State) (g : Nat), s.Inv ∧ (s.on GLB_CLK_STATUS_SYS_REF_LOST = true) ∧ (lowPair (s.rd GLB_CLK_STATUS_CLKREF_DET) = some g)) ∧
    (∃ (s : State), s.Inv ∧ (s.on GLB_CLK_STATUS_SYS_REF_LOST = false)) :=
  ⟨⟨State.reset.wrs [(GLB_CLK_STATUS_SYS_PLL_LOCK, 1), (GLB_CLK_STATUS_CLKREF_DET, 6), (GLB_CLK_STATUS_SYS_REF, 1)], 2, by decide +kernel⟩,
    ⟨State.reset.wrs [(GLB_CLK_STATUS_SYS_PLL_LOCK, 1), (GLB_CLK_STATUS_CLKREF_DET, 2), (GLB_CLK_STATUS_SYS_REF, 1)], by decide +kernel⟩,
    ⟨State.reset.wrs [(GLB_CLK_STATUS_SYS_REF_LOST, 1), (GLB_CLK_STATUS_CLKREF_DET, 6)], 1, by decide +kernel⟩,
    ⟨State.reset, by decide +kernel⟩⟩

/-! FabricTime -/

theorem witness_fabric_time_1 :
    (∃ (s : State), s.Inv ∧ (s.on SYS_OFF = false) ∧ (s.on MORX_DEAD = false) ∧ (s.rd PWR_STATUS_STATE ≠ 3) ∧
      (s.rd MGT_FT_STATUS_ROLE ≠ 1)) ∧
    (∃ (s : State), s.Inv ∧ (s.on SYS_OFF = false) ∧ (s.on MORX_DEAD = false) ∧ (s.rd PWR_STATUS_STATE ≠ 3) ∧
      (s.rd MGT_FT_STATUS_ROLE = 1)) ∧
    (∃ (s : State), s.Inv ∧ (s.on SYS_OFF = false) ∧ (s.on MORX_DEAD = false) ∧ (s.rd PWR_STATUS_STATE ≠ 3) ∧
      (s.rd MGT_FT_STATUS_ROLE = 1) ∧ (s.bestParent 128 = none)) ∧
    (∃ (s : State), s.Inv ∧ (s.on SYS_OFF = false) ∧ (s.on MORX_DEAD = false) ∧ (s.rd PWR_STATUS_STATE ≠ 3) ∧
      (s.rd MGT_FT_STATUS_ROLE = 0) ∧ (s.bestParent 128 = none)) ∧
    (∃ (s : State), s.Inv ∧ (s.on SYS_OFF = false) ∧ (s.on MORX_DEAD = false) ∧ (s.rd PWR_STATUS_STATE = 3) ∧
      (s.rd MGT_FT_STATUS_ROLE = 1)) ∧
    (∃ (s : State), s.Inv ∧ (s.on SYS_OFF = false) ∧ (s.on MORX_DEAD = false) ∧ (s.rd PWR_STATUS_STATE = 3) ∧
      (s.rd MGT_FT_STATUS_ROLE = 1) ∧ (s.bestParent 128 = none)) ∧
    (∃ (s : State) (q : Nat), s.Inv ∧ (s.bestParent (s.rd MGT_FT_STATUS_PARENT_PORT) = some q) ∧ (q < 128) ∧
      (q ≠ s.rd MGT_FT_STATUS_PARENT_PORT) ∧ (s.rd MGT_FT_STATUS_ROLE = 2) ∧
      (s.rd (CYTX_HOPS (s.rd MGT_FT_STATUS_PARENT_PORT)) = 15 ∨ 10 ≤ s.rd (CYTX_MISSED (s.rd MGT_FT_STATUS_PARENT_PORT)))) ∧
    (∃ (s : State), s.Inv ∧ (s.bestParent (s.rd MGT_FT_STATUS_PARENT_PORT) = none)) :=
  ⟨⟨State.reset, by decide +kernel⟩,
    ⟨State.reset.wr MGT_FT_STATUS_ROLE 1, by decide +kernel⟩,
    ⟨State.reset.wr MGT_FT_STATUS_ROLE 1, by decide +kernel⟩,
    ⟨State.reset, by decide +kernel⟩,
    ⟨State.reset.wrs [(MGT_FT_STATUS_ROLE, 1), (PWR_STATUS_STATE, 3)], by decide +kernel⟩,
    ⟨State.reset.wrs [(MGT_FT_STATUS_ROLE, 1), (PWR_STATUS_STATE, 3)], by decide +kernel⟩,
    ⟨State.reset.wrs [(MGT_FT_STATUS_ROLE, 2), (CYTX_HOPS 0, 15), (CYTX_HOPS 5, 3), (PRT_CFG_MODE 5, 3),
      (PRT_CYT_STATUS_STATE 5, 7)], 5, by decide +kernel⟩,
    ⟨State.reset, by decide +kernel⟩⟩

theorem witness_fabric_time_2 :
    (∃ (s : State) (present : Bool), s.Inv ∧ (s.on SYS_OFF = true)) ∧
    (∃ (s : State), s.Inv ∧ (s.rd MGT_FT_STATUS_ROLE = 1)) ∧
    (∃ (s : State), s.Inv ∧ (s.rd MGT_FT_STATUS_ROLE = 2) ∧ (s.bestParent (s.rd MGT_FT_STATUS_PARENT_PORT) = none)) ∧
    (∃ (s : State) (c : Cmd), s.Inv ∧ (s.ready 0x0B01 c = true) ∧ (onlyM (s.issuer c.path) = true) ∧
      ((cleanCmd c [(0, 64)] false && parBytes c 0 8 % 1000000000 == 0) = true) ∧ ((s.rd MGT_FT_STATUS_ROLE != ftRoot) = false)) ∧
    (∃ (s : State) (low high gap : BitVec 32), s.Inv ∧ (s.rd MGT_FT_STATUS_ROLE = 1) ∧ (s.on MGT_FT_STATUS_REF_PRESENT = true) ∧
      (s.on GLB_CLK_STATUS_SYS_PLL_LOCK = true ∨ s.rd PWR_STATUS_STATE = 3) ∧ (100 ≤ low.toNat) ∧ (50 ≤ high.toNat) ∧
      (s.on FTX_HAD_PPS = false ∨ 900 * ms ≤ gap.toNat) ∧ (s.on MGT_FT_STATUS_FT_HOLDOVER = false) ∧ (s.on MGT_FT_STATUS_LOCKED = true) ∧
      (1000 < s.ppsError.natAbs)) ∧
    (∃ (s : State) (low high gap : BitVec 32), s.Inv ∧ (s.rd MGT_FT_STATUS_ROLE = 1) ∧ (s.on MGT_FT_STATUS_REF_PRESENT = true) ∧
      (s.on GLB_CLK_STATUS_SYS_PLL_LOCK = true ∨ s.rd PWR_STATUS_STATE = 3) ∧ (100 ≤ low.toNat) ∧ (50 ≤ high.toNat) ∧
      (s.on FTX_HAD_PPS = false ∨ 900 * ms ≤ gap.toNat) ∧ (s.on MGT_FT_STATUS_LOCKED = false) ∧ (s.on FTX_SET_VALID = true)) ∧
    (∃ (s : State) (low high gap : BitVec 32), s.Inv ∧ (low.toNat < 100 ∨ high.toNat < 50 ∨ (s.on FTX_HAD_PPS = true ∧
      gap.toNat < 900 * ms) ∨ s.rd MGT_FT_STATUS_ROLE ≠ 1)) ∧
    (∃ (s : State) (p : Port), s.Inv ∧ (s.tetherUp p = true) ∧ (s.rd (CYTX_TIME_AT p) = 0) ∧ (s.on (CYTX_EXCH_OPEN p) = false)) :=
  ⟨⟨State.reset.wr SYS_OFF 1, true, by decide +kernel⟩,
    ⟨State.reset.wrs [(MGT_FT_STATUS_ROLE, 1), (MGT_FT_STATUS_REF_PRESENT, 1)], by decide +kernel⟩,
    ⟨State.reset.wr MGT_FT_STATUS_ROLE 2, by decide +kernel⟩,
    ⟨up.wr MGT_FT_STATUS_ROLE 1, (pkt 0x77359400#448), by decide +kernel⟩,
    ⟨{ (State.reset.wrs [(MGT_FT_STATUS_ROLE, 1), (MGT_FT_STATUS_REF_PRESENT, 1), (GLB_CLK_STATUS_SYS_PLL_LOCK, 1), (MGT_FT_STATUS_LOCKED, 1)]) with clk := ⟨0, 5000, 0, 4294967296⟩ }, 100, 50, 0, by decide +kernel⟩,
    ⟨State.reset.wrs [(MGT_FT_STATUS_ROLE, 1), (MGT_FT_STATUS_REF_PRESENT, 1), (GLB_CLK_STATUS_SYS_PLL_LOCK, 1),
      (FTX_SET_VALID, 1)], 100, 50, 0, by decide +kernel⟩,
    ⟨State.reset, 99, 50, 0, by decide +kernel⟩,
    ⟨State.reset.wrs [(PRT_CFG_MODE 5, 3), (PRT_CYT_STATUS_STATE 5, 7)], 5, by decide +kernel⟩⟩

theorem witness_fabric_time_3 :
    (∃ (s : State) (p : Port), s.Inv ∧ (s.tetherUp p = false) ∧ (s.parentPort p = false)) ∧
    (∃ (s : State) (p : Port), s.Inv ∧ (s.tetherUp p = false) ∧ (s.parentPort p = true) ∧ (s.rd (CYTX_TIME_AT p) = 0)) ∧
    (∃ (s : State) (p : Port) (exch : BitVec 8) (hops : BitVec 4) (u : State), s.Inv ∧ (s.tetherUp p = true) ∧ (s.injected 6 p = false) ∧
      (u = s.heardHops p hops.toNat)) ∧
    (∃ (s : State) (p : Port) (exch : BitVec 8) (hops : BitVec 4) (t2 t3 : BitVec 64) (u : State), s.Inv ∧ (s.tetherUp p = true) ∧
      (s.injected 6 p = false) ∧ (u = s.heardHops p hops.toNat) ∧ (u.on (CYTX_EXCH_OPEN p) = false ∨ u.rd (CYTX_EXCH p) ≠ exch.toNat)) ∧
    (∃ (s : State) (p : Port) (exch : BitVec 8) (hops : BitVec 4) (t2 t3 : BitVec 64) (u : State), s.Inv ∧ (s.tetherUp p = true) ∧
      (s.injected 6 p = false) ∧ (u = s.heardHops p hops.toNat) ∧ (u.on (CYTX_EXCH_OPEN p) = true) ∧ (u.rd (CYTX_EXCH p) = exch.toNat) ∧
      (u.rd MGT_FT_STATUS_ROLE ≠ 2)) :=
  ⟨⟨State.reset, 5, by decide +kernel⟩,
    ⟨State.reset.wrs [(MGT_FT_STATUS_ROLE, 2), (MGT_FT_STATUS_PARENT_VALID, 1), (MGT_FT_STATUS_PARENT_PORT, 5)], 5, by decide +kernel⟩,
    ⟨(State.reset.wrs [(PRT_CFG_MODE 5, 3), (PRT_CYT_STATUS_STATE 5, 7),
      (CYTX_HOPS 5, 3)]), 5, 1, 3, ((State.reset.wrs [(PRT_CFG_MODE 5, 3), (PRT_CYT_STATUS_STATE 5, 7),
      (CYTX_HOPS 5, 3)])).heardHops 5 3, by decide +kernel⟩,
    ⟨(State.reset.wrs [(PRT_CFG_MODE 5, 3), (PRT_CYT_STATUS_STATE 5, 7),
      (CYTX_HOPS 5, 3)]), 5, 1, 3, 0, 0, ((State.reset.wrs [(PRT_CFG_MODE 5, 3), (PRT_CYT_STATUS_STATE 5, 7),
      (CYTX_HOPS 5, 3)])).heardHops 5 3, by decide +kernel⟩,
    ⟨(State.reset.wrs [(PRT_CFG_MODE 5, 3), (PRT_CYT_STATUS_STATE 5, 7), (CYTX_HOPS 5, 3), (CYTX_EXCH_OPEN 5, 1),
      (CYTX_EXCH 5, 1)]), 5, 1, 15, 0, 0, ((State.reset.wrs [(PRT_CFG_MODE 5, 3), (PRT_CYT_STATUS_STATE 5, 7), (CYTX_HOPS 5, 3),
      (CYTX_EXCH_OPEN 5, 1), (CYTX_EXCH 5, 1)])).heardHops 5 15, by decide +kernel⟩⟩

/-! Identity -/

theorem witness_identity_1 :
    (∃ (s : State), s.Inv ∧ (s.on GLB_STRAPS_CHAIN_HEAD = true) ∧ (s.chainUp = true) ∧ (s.rd CHNX_TX_AT = 0)) ∧
    (∃ (s : State), s.Inv ∧ (s.on GLB_STRAPS_CHAIN_HEAD = false)) ∧
    (∃ (s : State) (k : Fin 7), s.Inv ∧ (s.chainUp = true) ∧ (s.on CHNX_EDGE = true) ∧ (s.rd CHNX_NBIT = k)) ∧
    (∃ (s : State) (k : Fin 7), s.Inv ∧ (s.on CHNX_EDGE = false)) ∧
    (∃ (s : State), s.Inv ∧ (s.chainUp = true) ∧ (s.on CHNX_EDGE = true) ∧ (s.rd CHNX_NBIT = 7) ∧
      (bitSet (s.rd GLB_INPUT_STATUS_CHAIN_IN) 0 = true) ∧ (s.rd CHNX_VAL ≤ 63)) ∧
    (∃ (s : State), s.Inv ∧ (s.chainUp = true) ∧ (s.on CHNX_EDGE = true) ∧ (s.rd CHNX_NBIT = 7) ∧
      (bitSet (s.rd GLB_INPUT_STATUS_CHAIN_IN) 0 = false) ∧ (s.rd CHNX_FB_AT = 0)) ∧
    (∃ (s : State), s.Inv ∧ (s.rd GLB_BOOT_STATUS_STAGE = 6) ∧ (s.hasIdentity = false) ∧ (s.on CHNX_EDGE = false) ∧
      (s.rd CHNX_FB_AT = 0)) ∧
    (∃ (s : State), s.Inv ∧ (s.hasIdentity = true)) :=
  ⟨⟨State.reset.wrs [(GLB_STRAPS_CHAIN_HEAD, 1), (GLB_BOOT_STATUS_STAGE, 6)], by decide +kernel⟩,
    ⟨State.reset, by decide +kernel⟩,
    ⟨State.reset.wrs [(GLB_BOOT_STATUS_STAGE, 6), (CHNX_EDGE, 1)], 0, by decide +kernel⟩,
    ⟨State.reset, 0, by decide +kernel⟩,
    ⟨State.reset.wrs [(GLB_BOOT_STATUS_STAGE, 6), (CHNX_EDGE, 1), (CHNX_NBIT, 7), (GLB_INPUT_STATUS_CHAIN_IN, 3)], by decide +kernel⟩,
    ⟨State.reset.wrs [(GLB_BOOT_STATUS_STAGE, 6), (CHNX_EDGE, 1), (CHNX_NBIT, 7)], by decide +kernel⟩,
    ⟨State.reset.wr GLB_BOOT_STATUS_STAGE 6, by decide +kernel⟩,
    ⟨State.reset.wr MGT_NODE_ID_SOURCE 2, by decide +kernel⟩⟩

theorem witness_identity_2 :
    (∃ (s : State) (h : Nat), s.Inv ∧ (s.rd GLB_BOOT_STATUS_STAGE = 6) ∧ (s.rd CHNX_FB_AT ≠ 0) ∧ (s.on MGT_NODE_ID_NODE_VALID = false) ∧
      (s.mgmtHost = some h) ∧ (((List.range 128).all fun q => !s.tetherUp q) = true)) ∧
    (∃ (s : State), s.Inv ∧ (s.on MGT_NODE_ID_NODE_VALID = true)) :=
  ⟨⟨up.wrs [(GLB_BOOT_STATUS_STAGE, 6), (CHNX_FB_AT, 5)], 1, by decide +kernel⟩,
    ⟨State.reset.wr MGT_NODE_ID_NODE_VALID 1, by decide +kernel⟩⟩

/-! PowerStates -/

theorem witness_power_states_1 :
    (∃ (s : State), s.Inv ∧ (s.rd PWR_STATUS_STATE = 0) ∧ (s.on PWR_STATUS_ENTERING = false) ∧ (s.rd GLB_BOOT_STATUS_STAGE = 6) ∧
      (s.quietCore = true) ∧ ((s.ops.all fun o => o.final.isSome) = true)) ∧
    (∃ (s : State) (p : Port), s.Inv ∧ ((s.rd (PRT_CFG_MODE p) = 1 ∨ s.rd (PRT_CFG_MODE p) = 2)) ∧ (s.rd (PRT_LINK_STATUS_LTSSM p) = 3) ∧
      (2 ≤ s.rd (PRTX_ASPM p))) ∧
    (∃ (s : State) (p : Port), s.Inv ∧ ((s.rd (PRT_CFG_MODE p) = 1 ∨ s.rd (PRT_CFG_MODE p) = 2)) ∧
      (s.rd (PRT_LINK_STATUS_LTSSM p) = 5 ∨ s.rd (PRT_LINK_STATUS_LTSSM p) = 6)) ∧
    (∃ (s : State) (p : Port), s.Inv ∧ (s.rd PWR_STATUS_STATE = 2)) ∧
    (∃ (s : State) (t : Tlp) (n : Bool) (a : Fin 4) (o : MemOp) (h : Host) (p : Port), s.Inv ∧ (s.on PWR_STATUS_ENTERING = false) ∧
      (s.rd PWR_STATUS_STATE = 1 ∨ s.rd PWR_STATUS_STATE = 2)) ∧
    (∃ (s : State), s.Inv ∧ (s.quietCore = false ∨ s.rd PWR_STATUS_STATE ≠ 0)) ∧
    (∃ (s : State), s.Inv ∧ (s.rd PWR_STATUS_STATE = 1)) ∧
    (∃ (s : State), s.Inv ∧ (s.rd PWR_STATUS_STATE ≠ 1)) :=
  ⟨⟨State.reset.wr GLB_BOOT_STATUS_STAGE 6, by decide +kernel⟩,
    ⟨up.wrs [(PRT_CFG_MODE 9, 2), (PRT_LINK_STATUS_LTSSM 9, 3), (PRTX_ASPM 9, 2)], 9, by decide +kernel⟩,
    ⟨up.wrs [(PRT_CFG_MODE 9, 2), (PRT_LINK_STATUS_LTSSM 9, 6)], 9, by decide +kernel⟩,
    ⟨up.wrs [(PRT_CFG_MODE 9, 2), (PWR_STATUS_STATE, 2)], 9, by decide +kernel⟩,
    ⟨up.wrs [(PRT_CFG_MODE 9, 2), (PWR_STATUS_STATE, 2)], tlp, false, 0, .read 64, 3, 9, by decide +kernel⟩,
    ⟨State.reset.wr PWR_STATUS_STATE 2, by decide +kernel⟩,
    ⟨State.reset.wr PWR_STATUS_STATE 1, by decide +kernel⟩,
    ⟨State.reset, by decide +kernel⟩⟩

theorem witness_power_states_2 :
    (∃ (s : State), s.Inv ∧ (s.delayRuns = true)) ∧
    (∃ (s : State), s.Inv ∧ (s.delayRuns = false)) ∧
    (∃ (s : State), s.Inv ∧ (s.on PWR_STATUS_ENTERING = true) ∧ (s.quietCore = true)) ∧
    (∃ (s : State) (src : Fin 16) (idx : Fin 128), s.Inv ∧ (s.rd PWR_STATUS_STATE = 2)) ∧
    (∃ (s : State) (src : Fin 16) (idx : Fin 128), s.Inv ∧ (s.rd PWR_STATUS_STATE ≠ 2)) ∧
    (∃ (s : State) (src : Fin 16) (idx : Fin 128), s.Inv ∧ (s.on PWR_STATUS_ENTERING = true) ∧ (s.rd PWR_STATUS_STATE ≠ 2)) ∧
    (∃ (s : State) (src : Fin 16) (idx : Fin 128), s.Inv ∧ (s.on PWR_STATUS_ENTERING = false)) ∧
    (∃ (s : State) (c : Cmd), s.Inv ∧ (s.ready 0x0801 c = true) ∧ (onlyM (s.issuer c.path) = true) ∧ (cleanCmd c [(0, 31),
      (32, 1)] false = true)) :=
  ⟨⟨State.reset.wrs [(GLB_BOOT_STATUS_STAGE, 6), (PWR_MGMT_VOTE_HELD, 0)], by decide +kernel⟩,
    ⟨State.reset, by decide +kernel⟩,
    ⟨State.reset.wr PWR_STATUS_ENTERING 1, by decide +kernel⟩,
    ⟨State.reset.wr PWR_STATUS_STATE 2, 9, 0, by decide +kernel⟩,
    ⟨State.reset, 9, 0, by decide +kernel⟩,
    ⟨State.reset.wr PWR_STATUS_ENTERING 1, 9, 0, by decide +kernel⟩,
    ⟨State.reset, 9, 0, by decide +kernel⟩,
    ⟨up, (pkt 0x5#448), by decide +kernel⟩⟩

/-! SlotChannels -/

theorem witness_slot_channels_1 :
    (∃ (s : State) (c : Slot), s.Inv ∧ (s.scState c = 1)) ∧
    (∃ (s : State) (c : Slot), s.Inv ∧ (s.scState c ≠ 1)) ∧
    (∃ (s : State) (c : Slot), s.Inv ∧ (s.scState c = 2) ∧ (s.on (PDI_SC_STATUS_TIMER_RUNNING c) = false)) ∧
    (∃ (s : State) (c : Slot), s.Inv ∧ (s.scState c ≠ 2 ∨ s.on (PDI_SC_STATUS_TIMER_RUNNING c) = true)) ∧
    (∃ (s : State) (c : Slot), s.Inv ∧ (s.on (SCX_VOUT_HI c) = true) ∧ (s.rd (SCX_WAIT c) = 0)) ∧
    (∃ (s : State) (c : Slot), s.Inv ∧ (s.on (SCX_VOUT_HI c) = true) ∧ (s.rd (SCX_WAIT c) ≠ 0)) ∧
    (∃ (s : State) (c : Slot), s.Inv ∧ (s.scState c = 3)) ∧
    (∃ (s : State) (c : Slot), s.Inv ∧ (s.scState c ≠ 3)) :=
  ⟨⟨State.reset.wr (PDI_SC_STATUS_STATE 4) 1, 4, by decide +kernel⟩,
    ⟨State.reset, 4, by decide +kernel⟩,
    ⟨State.reset.wr (PDI_SC_STATUS_STATE 4) 2, 4, by decide +kernel⟩,
    ⟨State.reset, 4, by decide +kernel⟩,
    ⟨State.reset.wr (SCX_VOUT_HI 4) 1, 4, by decide +kernel⟩,
    ⟨State.reset.wrs [(SCX_VOUT_HI 4, 1), (SCX_WAIT 4, 1)], 4, by decide +kernel⟩,
    ⟨State.reset.wr (PDI_SC_STATUS_STATE 4) 3, 4, by decide +kernel⟩,
    ⟨State.reset, 4, by decide +kernel⟩⟩

theorem witness_slot_channels_2 :
    (∃ (s : State) (c : Slot), s.Inv ∧ (s.scState c = 4) ∧ (s.rd (SCX_WAIT c) = 0) ∧ (s.rd (SCX_OFF_AT c) = 0) ∧
      (s.on (SCX_VOUT_HI c) = true)) ∧
    (∃ (s : State) (c : Slot), s.Inv ∧ (s.scState c = 4) ∧ (s.rd (SCX_WAIT c) = 0) ∧ (s.rd (SCX_OFF_AT c) = 0) ∧
      (s.on (SCX_VOUT_HI c) = false)) ∧
    (∃ (s : State) (c : Slot) (k : Fin 3), s.Inv ∧ (s.scLive c = true) ∧ (s.on SYS_OFF = false) ∧ (k ≠ 2 ∨ s.scState c = 2) ∧
      (k ≠ 1 ∨ s.slotFrozen c = false) ∧ (s.rd PWR_STATUS_STATE ≠ 2) ∧ (s.on PWR_STATUS_ENTERING = false) ∧ (s.rd (SCX_BUSY c) = 0) ∧
      (s.slotPort c = none) ∧ (s.rd (PDI_SC_STATUS_RETRIES_LEFT c) ≠ 0) ∧ (s.on (SCX_NEWRETRY c) = false)) ∧
    (∃ (s : State) (c : Slot) (k : Fin 3), s.Inv ∧ (s.scLive c = true) ∧ (s.on SYS_OFF = false) ∧ (k ≠ 2 ∨ s.scState c = 2) ∧
      (k ≠ 1 ∨ s.slotFrozen c = false) ∧ (s.rd PWR_STATUS_STATE ≠ 2) ∧ (s.on PWR_STATUS_ENTERING = false) ∧ (s.rd (SCX_BUSY c) = 0) ∧
      (s.slotPort c = none) ∧ (s.rd (PDI_SC_STATUS_RETRIES_LEFT c) = 0) ∧ (s.on (SCX_NEWRETRY c) = false)) ∧
    (∃ (s : State) (c : Slot), s.Inv ∧ (s.scLive c = true) ∧ (s.rd PWR_STATUS_STATE ≠ 2) ∧ (s.on PWR_STATUS_ENTERING = false) ∧
      (s.rd (SCX_BUSY c) = 0) ∧ (s.slotPort c = none) ∧ (s.rd (PDI_SC_STATUS_RETRIES_LEFT c) ≠ 0) ∧ (s.on (SCX_NEWRETRY c) = false)) ∧
    (∃ (s : State) (c : Slot), s.Inv ∧ (s.scLive c = true) ∧ (s.rd PWR_STATUS_STATE ≠ 2) ∧ (s.on PWR_STATUS_ENTERING = false) ∧
      (s.rd (SCX_BUSY c) = 0) ∧ (s.slotPort c = none) ∧ (s.rd (PDI_SC_STATUS_RETRIES_LEFT c) = 0) ∧ (s.on (SCX_NEWRETRY c) = false)) ∧
    (∃ (s : State) (c : Slot) (k : Fin 3), s.Inv ∧ (s.scLive c = false ∨ s.on SYS_OFF = true)) ∧
    (∃ (s : State) (c : Slot), s.Inv ∧ (s.slotFrozen c = true)) :=
  ⟨⟨State.reset.wrs [(PDI_SC_STATUS_STATE 4, 4), (SCX_VOUT_HI 4, 1)], 4, by decide +kernel⟩,
    ⟨State.reset.wrs [(PDI_SC_STATUS_STATE 4, 4)], 4, by decide +kernel⟩,
    ⟨State.reset.wrs [(PDI_SC_STATUS_STATE 4, 2), (PDI_SC_STATUS_RETRIES_LEFT 4, 2)], 4, 0, by decide +kernel⟩,
    ⟨State.reset.wrs [(PDI_SC_STATUS_STATE 4, 2), (PDI_SC_STATUS_RETRIES_LEFT 4, 0)], 4, 0, by decide +kernel⟩,
    ⟨State.reset.wrs [(PDI_SC_STATUS_STATE 4, 2), (PDI_SC_STATUS_RETRIES_LEFT 4, 2)], 4, by decide +kernel⟩,
    ⟨State.reset.wrs [(PDI_SC_STATUS_STATE 4, 2), (PDI_SC_STATUS_RETRIES_LEFT 4, 0)], 4, by decide +kernel⟩,
    ⟨State.reset, 4, 0, by decide +kernel⟩,
    ⟨State.reset.wrs [(RETX_FROZEN, 1)], 4, by decide +kernel⟩⟩

theorem witness_slot_channels_3 :
    (∃ (s : State) (c : Slot), s.Inv ∧ (s.scLive c = false)) ∧
    (∃ (s : State) (c : Slot), s.Inv ∧ (s.scState c = 1) ∧ (s.rd (SCX_BUSY c) = 0) ∧ (s.slotPort c = none)) ∧
    (∃ (s : State) (c : Slot), s.Inv ∧ (s.scState c = 0 ∨ s.scState c = 4) ∧ (s.on (SCX_VOUT_HI c) = true) ∧ (s.rd (SCX_BUSY c) = 0) ∧
      (s.slotPort c = none)) ∧
    (∃ (s : State) (c : Slot), s.Inv ∧ (s.on (SCX_VOUT_HI c) = false)) ∧
    (∃ (s : State) (c : Slot), s.Inv ∧ (s.scState c = 3) ∧ (s.on (PDI_SC_STATUS_PERST_LOW c) = true) ∧ (s.rd (SCX_OFF_AT c) = 0) ∧
      (s.rd (SCX_BUSY c) ≠ 1)) ∧
    (∃ (s : State) (c : Slot), s.Inv ∧ (s.rd (SCX_OFF_AT c) ≠ 0) ∧ (s.rd (SCX_BUSY c) ≠ 2) ∧ (s.scState c ≠ 5)) ∧
    (∃ (s : State) (c : Slot), s.Inv ∧ (s.rd (SCX_OFF_AT c) = 0)) ∧
    (∃ (s : State) (c : Slot), s.Inv ∧ (s.moored = true ∨ s.on SYS_OFF = true ∨ s.rd PWR_STATUS_STATE = 3)) :=
  ⟨⟨State.reset, 4, by decide +kernel⟩,
    ⟨State.reset.wr (PDI_SC_STATUS_STATE 4) 1, 4, by decide +kernel⟩,
    ⟨State.reset.wr (SCX_VOUT_HI 4) 1, 4, by decide +kernel⟩,
    ⟨State.reset, 4, by decide +kernel⟩,
    ⟨State.reset.wrs [(PDI_SC_STATUS_STATE 4, 3), (PDI_SC_STATUS_PERST_LOW 4, 1)], 4, by decide +kernel⟩,
    ⟨State.reset.wrs [(PDI_SC_STATUS_STATE 4, 3), (SCX_OFF_AT 4, 9)], 4, by decide +kernel⟩,
    ⟨State.reset, 4, by decide +kernel⟩,
    ⟨State.reset.wr SYS_OFF 1, 4, by decide +kernel⟩⟩

theorem witness_slot_channels_4 :
    (∃ (s : State) (c : Slot), s.Inv ∧ (s.on MORX_DEAD = false) ∧ (s.on SYS_OFF = false) ∧ (s.moored = false) ∧
      (s.rd PWR_STATUS_STATE ≠ 3) ∧ (s.rd (SCX_BUSY c) ≠ 0)) ∧
    (∃ (s : State) (c : Slot), s.Inv ∧ (s.on MORX_DEAD = false) ∧ (s.on SYS_OFF = false) ∧ (s.moored = false) ∧
      (s.rd PWR_STATUS_STATE ≠ 3) ∧ (s.rd (SCX_BUSY c) = 0) ∧ (s.scState c = 0) ∧ (s.on (PDI_SC_CFG_ENABLE c) = true) ∧
      (s.on (SCX_VOUT_HI c) = false)) ∧
    (∃ (s : State) (c : Slot), s.Inv ∧ (s.on MORX_DEAD = false) ∧ (s.on SYS_OFF = false) ∧ (s.moored = false) ∧
      (s.rd PWR_STATUS_STATE ≠ 3) ∧ (s.rd (SCX_BUSY c) = 0) ∧ (s.scState c = 0) ∧ (s.on (PDI_SC_CFG_ENABLE c) = true) ∧
      (s.on (SCX_VOUT_HI c) = true)) ∧
    (∃ (s : State) (c : Slot), s.Inv ∧ (s.rd (SCX_BUSY c) ≠ 0)) ∧
    (∃ (s : State) (c : Slot), s.Inv ∧ (s.rd (SCX_BUSY c) = 0) ∧ (s.scState c ≠ 0) ∧ (s.scState c ≠ 5)) ∧
    (∃ (s : State) (c : Cmd), s.Inv ∧ (s.ready 0x0804 c = true) ∧ (onlyM (s.issuer c.path) = true) ∧
      ((cleanCmd c [(0, 8)] false && decide (parBytes c 0 1 < 32)) = true) ∧ (s.scState (parBytes c 0 1) = 5)) ∧
    (∃ (s : State) (c : Cmd), s.Inv ∧ (s.ready 0x0804 c = true) ∧ (onlyM (s.issuer c.path) = true) ∧
      ((cleanCmd c [(0, 8)] false && decide (parBytes c 0 1 < 32)) = true) ∧ (s.scState (parBytes c 0 1) ≠ 5)) ∧
    (∃ (s : State) (c : Cmd) (k : Nat), s.Inv ∧ (s.ready 0x0803 c = true) ∧ (onlyM (s.issuer c.path) = true) ∧ ((cleanCmd c [(0, 8), (8, 1),
      (16, 16), (32, 16), (48, 8)] false && decide (parBytes c 0 1 < 32) && decide (500 ≤ parBytes c 2 2) && decide (parBytes c 2 2 ≤ 8000) && decide (1 ≤ parBytes c 4 2) && decide (parBytes c 4 2 ≤ 200) && decide (parBytes c 6 1 ≤ 7)) = true) ∧ (k = parBytes c 0 1) ∧ (s.rd (PDI_SC_CFG_RETRIES k) = parBytes c 6 1) ∧ (s.slotPort k = none)) :=
  ⟨⟨State.reset.wr (SCX_BUSY 4) 2, 4, by decide +kernel⟩,
    ⟨State.reset.wr (PDI_SC_CFG_ENABLE 4) 1, 4, by decide +kernel⟩,
    ⟨State.reset.wrs [(PDI_SC_CFG_ENABLE 4, 1), (SCX_VOUT_HI 4, 1)], 4, by decide +kernel⟩,
    ⟨State.reset.wr (SCX_BUSY 4) 2, 4, by decide +kernel⟩,
    ⟨State.reset.wr (PDI_SC_STATUS_STATE 4) 3, 4, by decide +kernel⟩,
    ⟨up.wr (PDI_SC_STATUS_STATE 4) 5, (pkt 0x4#448), by decide +kernel⟩,
    ⟨up, (pkt 0x4#448), by decide +kernel⟩,
    ⟨up, (pkt 0x3000902580004#448), 4, by decide +kernel⟩⟩

theorem witness_slot_channels_5 :
    (∃ (s : State) (c : Cmd) (k p : Nat), s.Inv ∧ (s.ready 0x0803 c = true) ∧ (onlyM (s.issuer c.path) = true) ∧ ((cleanCmd c [(0, 8),
      (8, 1), (16, 16), (32, 16),
      (48, 8)] false && decide (parBytes c 0 1 < 32) && decide (500 ≤ parBytes c 2 2) && decide (parBytes c 2 2 ≤ 8000) && decide (1 ≤ parBytes c 4 2) && decide (parBytes c 4 2 ≤ 200) && decide (parBytes c 6 1 ≤ 7)) = true) ∧ (k = parBytes c 0 1) ∧ (s.rd (PDI_SC_CFG_RETRIES k) = parBytes c 6 1) ∧ (s.slotPort k = some p) ∧ (parBits c 8 1 = 1)) ∧
    (∃ (s : State) (h : Host) (p : Port), s.Inv ∧ (s.slotOwned p = true) ∧ (s.boundHost p = some h.val)) ∧
    (∃ (s : State) (h : Host) (p : Port), s.Inv ∧ (s.slotOwned p = false ∨ s.boundHost p ≠ some h.val)) ∧
    (∃ (s : State) (c : Cmd), s.Inv ∧ (s.ready 0x0205 c = true) ∧ (onlyM (s.issuer c.path) = true) ∧ ((cleanCmd c [(0, 8), (8, 8),
      (16, 4)] false && decide (parBytes c 0 1 < 128) && decide (parBytes c 1 1 ≤ 2)) = true) ∧
      ((s.rd (PRT_CFG_MODE (parBytes c 0 1)) != 2 || !s.on (PRT_CFG_SLOT_VALID (parBytes c 0 1))) = false) ∧
      ((s.slotOwned (parBytes c 0 1)) = false) ∧ ((s.unbindBusy (parBytes c 0 1)) = false) ∧ ((s.opsFull (s.issuer c.path)) = false)) :=
  ⟨⟨up.wrs [(PRT_CFG_MODE 9, 2), (PRT_CFG_SLOT_VALID 9, 1), (PRT_CFG_SLOT_CH 9, 4)], (pkt 0x3000902580104#448), 4, 9, by decide +kernel⟩,
    ⟨State.reset.wrs [(PRT_CFG_MODE 9, 2), (BINDX_COUNT 9, 1), (BINDX_HOST 9, 1), (PRT_CFG_SLOT_VALID 9, 1)], 1, 9, by decide +kernel⟩,
    ⟨State.reset, 1, 9, by decide +kernel⟩,
    ⟨up.wrs [(PRT_CFG_MODE 9, 2), (PRT_CFG_SLOT_VALID 9, 1), (PRT_CFG_SLOT_CH 9, 4)], (pkt 0x109#448), by decide +kernel⟩⟩

/-! LiftPack -/

theorem witness_lift_pack_1 :
    (∃ (s : State), s.Inv ∧ (s.rd PDI_STATUS_CONV_MODE = 1)) ∧
    (∃ (s : State), s.Inv ∧ (s.rd PDI_STATUS_CONV_MODE ≠ 1)) ∧
    (∃ (s : State), s.Inv ∧ (s.rd PDI_STATUS_CONV_MODE = 2) ∧ (s.on LIFTX_FIRST = false)) ∧
    (∃ (s : State), s.Inv ∧ (s.rd PDI_STATUS_CONV_MODE = 2) ∧ (s.on LIFTX_FIRST = true)) ∧
    (∃ (s : State), s.Inv ∧ (s.rd PDI_STATUS_CONV_MODE = 0) ∧ (s.on LIFTX_FULL = true) ∧ (s.mayCharge = true)) ∧
    (∃ (s : State), s.Inv ∧ (s.rd PDI_STATUS_CONV_MODE = 0) ∧ (s.on LIFTX_FULL = true) ∧ (s.mayCharge = false)) ∧
    (∃ (s : State) (t : BitVec 8), s.Inv ∧ (s.on PDI_LIFT_STATUS_PRESENT = true) ∧ (55 < t.toNat) ∧ (s.rd PWR_STATUS_STATE ≠ 2) ∧
      (s.on PWR_STATUS_ENTERING = false) ∧ (s.rd MOR_STATUS_STATE = 0)) ∧
    (∃ (s : State) (t : BitVec 8), s.Inv ∧ (t.toNat ≤ 55)) :=
  ⟨⟨State.reset.wr PDI_STATUS_CONV_MODE 1, by decide +kernel⟩,
    ⟨State.reset, by decide +kernel⟩,
    ⟨State.reset.wr PDI_STATUS_CONV_MODE 2, by decide +kernel⟩,
    ⟨State.reset.wrs [(PDI_STATUS_CONV_MODE, 2), (LIFTX_FIRST, 1)], by decide +kernel⟩,
    ⟨State.reset.wrs [(LIFTX_FULL, 1), (PDI_STATUS_FEED_A_OK, 1), (LIFTX_MASK, 3), (PDI_LIFT_STATUS_HEALTHY, 1),
      (PDI_LIFT_STATUS_FET_CLOSED, 1)], by decide +kernel⟩,
    ⟨State.reset.wr LIFTX_FULL 1, by decide +kernel⟩,
    ⟨State.reset.wr PDI_LIFT_STATUS_PRESENT 1, 60, by decide +kernel⟩,
    ⟨State.reset, 20, by decide +kernel⟩⟩

theorem witness_lift_pack_2 :
    (∃ (s : State) (t : BitVec 8), s.Inv ∧ (s.on PDI_LIFT_STATUS_CHARGE_HOLD = true) ∧ (t.toNat ≤ 55)) ∧
    (∃ (s : State) (t : BitVec 8), s.Inv ∧ (s.on PDI_LIFT_STATUS_CHARGE_HOLD = false)) ∧
    (∃ (s : State), s.Inv ∧ (s.on PDI_LIFT_STATUS_ID_VALID = true) ∧ (s.on LIFTX_DUE = false) ∧ (s.on LIFTX_FIRST = false)) ∧
    (∃ (s : State), s.Inv ∧ (s.on LIFTX_DUE = true)) ∧
    (∃ (s : State) (v : BitVec 16), s.Inv ∧ (s.testReady = true)) ∧
    (∃ (s : State) (v : BitVec 16), s.Inv ∧ (s.testReady = false)) ∧
    (∃ (s : State) (v : BitVec 16) (t : BitVec 32), s.Inv ∧ (s.on PDI_LIFT_STATUS_TEST_RUNNING = true) ∧ (s.rd PDI_STATUS_CONV_MODE = 4) ∧
      ((s.ops.all fun o => o.opcode != opLiftTest) = true)) ∧
    (∃ (s : State) (v : BitVec 16) (t : BitVec 32), s.Inv ∧ (s.on PDI_LIFT_STATUS_TEST_RUNNING = false)) :=
  ⟨⟨State.reset.wr PDI_LIFT_STATUS_CHARGE_HOLD 1, 20, by decide +kernel⟩,
    ⟨State.reset, 20, by decide +kernel⟩,
    ⟨State.reset.wr PDI_LIFT_STATUS_ID_VALID 1, by decide +kernel⟩,
    ⟨State.reset.wr LIFTX_DUE 1, by decide +kernel⟩,
    ⟨State.reset.wrs [(LIFTX_DUE, 1), (LIFTX_FULL, 1), (PDI_LIFT_STATUS_HEALTHY, 1),
      (PDI_LIFT_STATUS_FET_CLOSED, 1)], 21600, by decide +kernel⟩,
    ⟨State.reset, 21600, by decide +kernel⟩,
    ⟨State.reset.wrs [(PDI_LIFT_STATUS_TEST_RUNNING, 1), (PDI_STATUS_CONV_MODE, 4)], 21000, 5400, by decide +kernel⟩,
    ⟨State.reset, 21000, 5400, by decide +kernel⟩⟩

theorem witness_lift_pack_3 :
    (∃ (s : State) (c : Cmd), s.Inv ∧ (s.ready 0x0903 c = true) ∧ (onlyM (s.issuer c.path) = true) ∧ (cleanCmd c [] false = true) ∧
      ((s.opBusy [opLiftTest] (fun _ => true)) = false) ∧ ((s.opsFull (s.issuer c.path)) = false)) ∧
    (∃ (s : State), s.Inv ∧ (s.on PDI_LIFT_STATUS_ID_VALID = true) ∧ (s.rd PDI_LIFT_STATUS_TEMP_C < 40) ∧ (s.packMv < 16000)) ∧
    (∃ (s : State), s.Inv ∧ (s.moored = true) ∧ (s.rd PDI_STATUS_CONV_MODE = 3)) ∧
    (∃ (s : State), s.Inv ∧ (s.on PDI_STATUS_BKP_L = true) ∧ (s.on MORX_DISCHARGED = false) ∧ (s.on PDI_LIFT_STATUS_ID_VALID = true)) ∧
    (∃ (s : State), s.Inv ∧ (s.on PDI_LIFT_STATUS_ID_VALID = false)) ∧
    (∃ (s : State) (id : BitVec 1024) (mv : BitVec 16) (t : BitVec 8), s.Inv ∧ (s.on MORX_DEAD = false) ∧ (s.on SYS_OFF = false) ∧
      (s.rd GLB_INPUT_STATUS_LIFT_PRES_N = 0)) ∧
    (∃ (s : State) (id : BitVec 1024) (mv : BitVec 16) (t : BitVec 8), s.Inv ∧ (s.inputLive 2 = true) ∧
      (bitSet (s.rd GLB_INPUT_STATUS_LIFT_PRES_N) 2 = true)) ∧
    (∃ (s : State), s.Inv ∧ (s.on MORX_DEAD = false) ∧ (s.on SYS_OFF = false) ∧ (s.rd GLB_INPUT_STATUS_LIFT_PRES_N = 11)) :=
  ⟨⟨up, (pkt 0x0#448), by decide +kernel⟩,
    ⟨State.reset.wr PDI_LIFT_STATUS_ID_VALID 1, by decide +kernel⟩,
    ⟨State.reset.wrs [(MOR_STATUS_STATE, 2), (PDI_STATUS_CONV_MODE, 3)], by decide +kernel⟩,
    ⟨State.reset.wrs [(PDI_STATUS_BKP_L, 1), (PDI_LIFT_STATUS_ID_VALID, 1)], by decide +kernel⟩,
    ⟨State.reset, by decide +kernel⟩,
    ⟨State.reset, 0, 0, 20, by decide +kernel⟩,
    ⟨State.reset.wr GLB_INPUT_STATUS_LIFT_PRES_N 4, 0, 0, 20, by decide +kernel⟩,
    ⟨State.reset.wr GLB_INPUT_STATUS_LIFT_PRES_N 11, by decide +kernel⟩⟩

theorem witness_lift_pack_4 :
    ∃ (s : State), s.Inv ∧ (s.inputLive 2 = true) ∧ (bitSet (s.rd GLB_INPUT_STATUS_LIFT_PRES_N) 2 = true) :=
  ⟨State.reset.wr GLB_INPUT_STATUS_LIFT_PRES_N 4, by decide +kernel⟩

/-! MetersAndFeeds -/

theorem witness_meters_and_feeds_1 :
    (∃ (s : State) (l : List (BitVec 16 × BitVec 16)) (bus bkp : BitVec 16) (t : BitVec 8) (m : Nat) (x : BitVec 16 × BitVec 16), s.Inv ∧
      (s.on MORX_DEAD = false) ∧ (s.on SYS_OFF = false) ∧ (m < 36) ∧ (m ≠ 3) ∧ (l[m]? = some x)) ∧
    (∃ (s : State) (l : List (BitVec 16 × BitVec 16)) (bus bkp : BitVec 16) (t : BitVec 8), s.Inv ∧ (s.on MORX_DEAD = true)) ∧
    (∃ (s : State) (l : List (BitVec 16 × BitVec 16)) (bus bkp : BitVec 16) (t : BitVec 8), s.Inv ∧ (s.on MORX_DEAD = false) ∧
      (s.on SYS_OFF = true)) ∧
    (∃ (s : State) (m v i : Nat), s.Inv ∧ (m ≠ 3) ∧ (m < 36) ∧ (i < 32768) ∧ (v < 65536)) ∧
    (∃ (s : State) (m : Fin 36), s.Inv ∧ (m.val ≠ 3)) ∧
    (∃ (s : State) (x : Fin 2), s.Inv ∧ (bitSet (s.rd LIFTX_GATE) x.val = true)) ∧
    (∃ (s : State) (x v bus : Nat), s.Inv ∧ (x < 2) ∧ (bitSet (s.rd LIFTX_MASK) x = true) ∧ (s.on PDI_STATUS_FEED_A_OV = false) ∧
      (s.on PDI_STATUS_FEED_B_OV = false) ∧ (bus + 50 ≤ v)) ∧
    (∃ (s : State) (x v bus : Nat), s.Inv ∧ (x < 2) ∧
      (v + 10 ≤ bus ∨ bitSet (s.rd LIFTX_MASK) x = false ∨ s.on (feedFlds x).2.1 = true)) :=
  ⟨⟨State.reset, [(12000, 100)], 12000, 12000, 20, 0, (12000, 100), by decide +kernel⟩,
    ⟨State.reset.wr MORX_DEAD 1, [], 0, 0, 20, by decide +kernel⟩,
    ⟨State.reset.wr SYS_OFF 1, [], 0, 0, 20, by decide +kernel⟩,
    ⟨State.reset, 0, 12000, 100, by decide +kernel⟩,
    ⟨State.reset, 4, by decide +kernel⟩,
    ⟨State.reset.wr LIFTX_GATE 3, 1, by decide +kernel⟩,
    ⟨State.reset, 1, 12000, 11900, by decide +kernel⟩,
    ⟨State.reset.wr LIFTX_GATE 3, 1, 12000, 12010, by decide +kernel⟩⟩

theorem witness_meters_and_feeds_2 :
    (∃ (s : State) (c : Slot) (ma : Nat), s.Inv ∧ (s.scLive c = true) ∧ (s.rd (PDI_SC_CFG_TRIP_MA c) ≤ ma) ∧ (ma < 32768) ∧
      (s.rd (SCX_TON c) = 0)) ∧
    (∃ (s : State) (c : Slot) (ma : Nat), s.Inv ∧ (s.scLive c = true) ∧ (10 * ma < 9 * s.rd (PDI_SC_CFG_TRIP_MA c)) ∧
      (ma < s.rd (PDI_SC_CFG_TRIP_MA c)) ∧ (s.on (SCX_TLOW c) = true)) ∧
    (∃ (s : State) (c : Slot) (ma : Nat), s.Inv ∧ (s.scLive c = true) ∧ (s.rd (PDI_SC_CFG_TRIP_MA c) ≤ ma) ∧ (ma < 32768) ∧
      (s.rd (SCX_TON c) ≠ 0) ∧ (100 * s.rd (PDI_SC_CFG_TIMER c) ≤ s.scTimer c)) ∧
    (∃ (s : State) (x : Fin 2), s.Inv ∧ (s.on MORX_DEAD = false) ∧ (bitSet (s.rd LIFTX_CHAT) x.val = false) ∧
      ((recent s.mgmt.edges (336 + x.val) s.now sec).length < 31) ∧ (bitSet (s.rd LIFTX_MASK) x.val = true) ∧
      (s.on (feedFlds x.val).1 = false) ∧ (s.rd MOR_STATUS_STATE = 0) ∧ (s.rd PDI_STATUS_CONV_MODE = 1)) ∧
    (∃ (s : State) (x : Fin 2), s.Inv ∧ (s.on (feedFlds x.val).1 = true)) ∧
    (∃ (s : State) (x : Fin 2), s.Inv ∧ (s.on MORX_DEAD = false) ∧ (bitSet (s.rd LIFTX_CHAT) x.val = false) ∧
      ((recent s.mgmt.edges (336 + x.val) s.now sec).length < 31) ∧ (bitSet (s.rd LIFTX_MASK) x.val = true) ∧
      (s.on (feedFlds x.val).1 = true) ∧ (s.rd MOR_STATUS_STATE = 0) ∧ (s.on PDI_STATUS_EW = false) ∧
      (s.on (feedFlds (1 - x.val)).1 = true) ∧ (bitSet (s.rd LIFTX_MASK) (1 - x.val) = true) ∧
      (bitSet (s.rd LIFTX_LOST) (1 - x.val) = false)) ∧
    (∃ (s : State) (x : Fin 2) (high : Bool), s.Inv ∧ (bitSet (s.rd LIFTX_MASK) x.val = false)) :=
  ⟨⟨State.reset.wr (PDI_SC_STATUS_STATE 4) 3, 4, 7000, by decide +kernel⟩,
    ⟨State.reset.wrs [(PDI_SC_STATUS_STATE 4, 3), (SCX_TLOW 4, 1), (SCX_TCNT 4, 5)], 4, 100, by decide +kernel⟩,
    ⟨(State.reset.wrs [(PDI_SC_STATUS_STATE 4, 3), (SCX_TON 4, 1), (SCX_TCNT 4, 2000)]), 4, 7000, by decide +kernel⟩,
    ⟨State.reset.wrs [(LIFTX_MASK, 3), (PDI_STATUS_FEED_A_OK, 0), (PDI_STATUS_CONV_MODE, 1)], 0, by decide +kernel⟩,
    ⟨State.reset.wr PDI_STATUS_FEED_A_OK 1, 0, by decide +kernel⟩,
    ⟨State.reset.wrs [(LIFTX_MASK, 3), (PDI_STATUS_FEED_A_OK, 1), (PDI_STATUS_FEED_B_OK, 1)], 0, by decide +kernel⟩,
    ⟨State.reset.wr LIFTX_MASK 2, 0, false, by decide +kernel⟩⟩

/-! MooringSupplies -/

theorem witness_mooring_supplies_1 :
    (∃ (s : State), s.Inv ∧ (s.on MORX_DEAD = false) ∧ (s.on SYS_OFF = false)) ∧
    (∃ (s : State), s.Inv ∧ (s.on MORX_DEAD = true)) ∧
    (∃ (s : State), s.Inv ∧ (s.on MORX_DEAD = false)) ∧
    (∃ (s : State), s.Inv ∧ (s.on MORX_DEAD = false) ∧ (s.on SYS_OFF = false) ∧ (s.on MORX_RAIL_EN = false) ∧ (s.rd MOR_STATUS_STATE = 0) ∧
      (s.rd MORX_QUAL_AT ≠ 0)) ∧
    (∃ (s : State), s.Inv ∧ (s.rd MORX_QUAL_AT = 0)) ∧
    (∃ (s : State), s.Inv ∧ (s.qualifies = true) ∧ (s.feedOk = true) ∧ (s.pwrFail = false) ∧ (s.rd MORX_QUAL_AT = 0)) ∧
    (∃ (s : State), s.Inv ∧ (s.qualifies = true) ∧ (s.feedOk = false ∨ s.pwrFail = true) ∧ (s.rd MORX_QUAL_AT ≠ 0)) ∧
    (∃ (s : State), s.Inv ∧ (s.rd PDI_STATUS_CONV_MODE = 3) ∧ (s.moored = false) ∧ (s.on PDI_LIFT_STATUS_TEST_RUNNING = false)) :=
  ⟨⟨State.reset, by decide +kernel⟩,
    ⟨State.reset.wr MORX_DEAD 1, by decide +kernel⟩,
    ⟨State.reset, by decide +kernel⟩,
    ⟨State.reset.wr MORX_QUAL_AT 1, by decide +kernel⟩,
    ⟨State.reset, by decide +kernel⟩,
    ⟨(State.reset.wr PDI_STATUS_FEED_A_OK 1), by decide +kernel⟩,
    ⟨State.reset.wr MORX_QUAL_AT 1, by decide +kernel⟩,
    ⟨State.reset.wr PDI_STATUS_CONV_MODE 3, by decide +kernel⟩⟩

theorem witness_mooring_supplies_2 :
    (∃ (s : State), s.Inv ∧ (s.rd PDI_STATUS_CONV_MODE = 3) ∧ (s.moored = true) ∧ (s.feedOk = false)) ∧
    (∃ (s : State), s.Inv ∧ (s.rd PDI_STATUS_CONV_MODE = 0)) ∧
    (∃ (s : State), s.Inv ∧ (s.on SYS_OFFING = true)) ∧
    (∃ (s : State), s.Inv ∧ (s.on SYS_OFFING = false)) :=
  ⟨⟨State.reset.wrs [(PDI_STATUS_CONV_MODE, 3), (MOR_STATUS_STATE, 2)], by decide +kernel⟩,
    ⟨State.reset, by decide +kernel⟩,
    ⟨State.reset.wr SYS_OFFING 1, by decide +kernel⟩,
    ⟨State.reset, by decide +kernel⟩⟩

/-! MooringSequence -/

theorem witness_mooring_sequence_1 :
    (∃ (s : State), s.Inv ∧ (s.rd MOR_STATUS_STATE = 1) ∧ (s.spillDue = false) ∧ (s.noSpill ≠ 0)) ∧
    (∃ (s : State), s.Inv ∧ (s.rd MOR_STATUS_STATE ≠ 1)) ∧
    (∃ (s : State), s.Inv ∧ (s.rd MOR_STATUS_STATE = 2) ∧ (s.avail ≤ s.rd MOR_CFG_RESERVE_J) ∧ (s.rd RETX_SAMPLES < 59)) ∧
    (∃ (s : State), s.Inv ∧ (s.rd MOR_STATUS_STATE = 0)) ∧
    (∃ (s : State), s.Inv ∧ (s.rd MOR_STATUS_STATE = 2 ∨ s.rd MOR_STATUS_STATE = 4) ∧ (s.rd MORX_QUAL_AT ≠ 0)) ∧
    (∃ (s : State), s.Inv ∧ (s.rd MORX_QUAL_AT = 0)) ∧
    (∃ (s : State), s.Inv ∧ (s.rd MOR_STATUS_STATE = 5) ∧ (s.rd GLB_BOOT_STATUS_STAGE = 0) ∧ (s.rd PWR_STATUS_STATE = 3) ∧
      (s.rd RETX_CAUSE = 3)) ∧
    (∃ (s : State), s.Inv ∧ (s.rd MOR_STATUS_STATE ≠ 5)) :=
  ⟨⟨State.reset.wr MOR_STATUS_STATE 1, by decide +kernel⟩,
    ⟨State.reset, by decide +kernel⟩,
    ⟨State.reset.wrs [(MOR_STATUS_STATE, 2), (MOR_CFG_RESERVE_J, 1200)], by decide +kernel⟩,
    ⟨State.reset, by decide +kernel⟩,
    ⟨State.reset.wrs [(MOR_STATUS_STATE, 2), (MORX_QUAL_AT, 1)], by decide +kernel⟩,
    ⟨State.reset, by decide +kernel⟩,
    ⟨State.reset.wrs [(MOR_STATUS_STATE, 5), (RETX_CAUSE, 3), (PWR_STATUS_STATE, 3)], by decide +kernel⟩,
    ⟨State.reset, by decide +kernel⟩⟩

theorem witness_mooring_sequence_2 :
    (∃ (s : State), s.Inv ∧ (s.rd GLB_BOOT_STATUS_STAGE = 6) ∧ (s.moored = false) ∧ (s.slotsToPower ≠ [])) ∧
    (∃ (s : State), s.Inv ∧ (s.slotsToPower = [])) ∧
    (∃ (s : State), s.Inv ∧ (s.rd MOR_STATUS_STATE = 5) ∧ (s.rd GLB_BOOT_STATUS_STAGE = 6) ∧ (s.slotsToPower = []) ∧
      (s.on MOR_STATUS_RESTORE_INCOMPLETE = false) ∧ (s.on RETX_SPILLED = false)) :=
  ⟨⟨{ State.reset.wr GLB_BOOT_STATUS_STAGE 6 with mooring := { State.reset.mooring with slots := [(3, 1)] } }, by decide +kernel⟩,
    ⟨State.reset, by decide +kernel⟩,
    ⟨State.reset.wrs [(MOR_STATUS_STATE, 5), (GLB_BOOT_STATUS_STAGE, 6)], by decide +kernel⟩⟩

/-! SpillAndRestore -/

theorem witness_spill_and_restore_1 :
    (∃ (s : State), s.Inv ∧ (s.rd MOR_STATUS_STATE = 2) ∧ (s.spillDue = true)) ∧
    (∃ (s : State), s.Inv ∧ (s.spillDue = false)) ∧
    (∃ (s : State), s.Inv ∧ (s.rd MOR_STATUS_STATE = 3) ∧ (s.rd RETX_SPILLING = 1) ∧ (s.driveUp 30 = true) ∧ (s.driveUp 31 = true)) ∧
    (∃ (s : State), s.Inv ∧ (s.rd MOR_STATUS_STATE ≠ 3 ∨ s.driveUp 30 = false ∨ s.driveUp 31 = false)) ∧
    (∃ (s : State), s.Inv ∧ (s.rd MOR_STATUS_STATE = 3) ∧ (s.rd RETX_SPILLING = 2) ∧ (s.driveUp 30 = true) ∧ (s.driveUp 31 = true)) ∧
    (∃ (s : State) (k : Fin 4) (n : BitVec 32), s.Inv ∧ (s.rd MOR_STATUS_STATE = 3) ∧ (k = 2 → s.faulted 30 = true ∨ s.faulted 31 = true) ∧
      (k = 3 → s.rd RETX_SPILLING = 1)) ∧
    (∃ (s : State) (n : BitVec 32), s.Inv ∧ (s.rd MOR_STATUS_STATE = 3) ∧ (s.rd RETX_SPILLING = 1)) ∧
    (∃ (s : State) (n : BitVec 32), s.Inv ∧ (s.faulted 30 = false) ∧ (s.faulted 31 = false)) :=
  ⟨⟨{ State.reset.wrs [(MOR_STATUS_STATE, 2), (MOR_CFG_RESERVE_J, 1200), (MOR_CFG_SPILL_EN, 1), (MOR_CFG_TARGET_EN, 1)] with mooring := { State.reset.mooring with spill := [⟨0, 4095, 0⟩] } }, by decide +kernel⟩,
    ⟨State.reset, by decide +kernel⟩,
    ⟨State.reset.wrs [(MOR_STATUS_STATE, 3), (RETX_SPILLING, 1), (PDI_SC_STATUS_STATE 30, 3), (PDI_SC_STATUS_STATE 31, 3),
      (PDI_SC_STATUS_PERST_LOW 30, 0), (PDI_SC_STATUS_PERST_LOW 31, 0)], by decide +kernel⟩,
    ⟨State.reset, by decide +kernel⟩,
    ⟨State.reset.wrs [(MOR_STATUS_STATE, 3), (RETX_SPILLING, 2), (PDI_SC_STATUS_STATE 30, 3), (PDI_SC_STATUS_STATE 31, 3),
      (PDI_SC_STATUS_PERST_LOW 30, 0), (PDI_SC_STATUS_PERST_LOW 31, 0)], by decide +kernel⟩,
    ⟨State.reset.wrs [(MOR_STATUS_STATE, 3), (PDI_SC_STATUS_STATE 30, 5)], 2, 7, by decide +kernel⟩,
    ⟨State.reset.wrs [(MOR_STATUS_STATE, 3), (RETX_SPILLING, 1)], 7, by decide +kernel⟩,
    ⟨State.reset.wr MOR_STATUS_STATE 3, 7, by decide +kernel⟩⟩

theorem witness_spill_and_restore_2 :
    (∃ (s : State) (k : Fin 4) (n : BitVec 32), s.Inv ∧ (s.rd MOR_STATUS_STATE ≠ 3)) ∧
    (∃ (s : State), s.Inv ∧ (s.rd MOR_STATUS_STATE = 5) ∧ (s.rd GLB_BOOT_STATUS_STAGE = 6) ∧ (s.on RETX_SPILLED = true)) ∧
    (∃ (s : State), s.Inv ∧ (s.on RETX_SPILLED = false)) ∧
    (∃ (s : State), s.Inv ∧ (s.on MOR_STATUS_IMAGE_STALE = true) ∧ (s.rd PWR_STATUS_STATE ≤ 1) ∧ (s.rd GLB_BOOT_STATUS_STAGE = 6)) ∧
    (∃ (s : State), s.Inv ∧ (s.rd GLB_BOOT_STATUS_STAGE = 6) ∧ (s.rd MOR_STATUS_STATE = 6) ∧
      (s.on GLB_RESET_CAUSE_POOL_PRESERVED = true)) ∧
    (∃ (s : State), s.Inv ∧ (s.rd GLB_BOOT_STATUS_STAGE = 6) ∧ (s.rd MOR_STATUS_STATE = 6) ∧
      (s.on GLB_RESET_CAUSE_POOL_PRESERVED = false)) ∧
    (∃ (s : State) (a b : List (BitVec 8)), s.Inv ∧ (s.rd GLB_BOOT_STATUS_STAGE = 6) ∧ (s.rd MOR_STATUS_STATE = 6) ∧
      (s.headerFails a b = 0) ∧ (s.headerFails b a = 0)) ∧
    (∃ (s : State) (a b : Option (List (BitVec 8))), s.Inv ∧ (s.rd GLB_BOOT_STATUS_STAGE ≠ 6)) :=
  ⟨⟨State.reset, 2, 7, by decide +kernel⟩,
    ⟨State.reset.wrs [(MOR_STATUS_STATE, 5), (GLB_BOOT_STATUS_STAGE, 6), (RETX_SPILLED, 1)], by decide +kernel⟩,
    ⟨State.reset, by decide +kernel⟩,
    ⟨State.reset.wrs [(MOR_STATUS_IMAGE_STALE, 1), (GLB_BOOT_STATUS_STAGE, 6)], by decide +kernel⟩,
    ⟨{ State.reset.wrs [(MOR_STATUS_STATE, 6), (GLB_BOOT_STATUS_STAGE, 6), (GLB_RESET_CAUSE_POOL_PRESERVED, 1)] with pool := { State.reset.pool with cells := [(5, 1)] } }, by decide +kernel⟩,
    ⟨State.reset.wrs [(MOR_STATUS_STATE, 6), (GLB_BOOT_STATUS_STAGE, 6)], by decide +kernel⟩,
    ⟨restoring, headerOk, headerOk, by decide +kernel, by decide +kernel, by decide +kernel, headerOk_passes, headerOk_passes⟩,
    ⟨State.reset, none, none, by decide +kernel⟩⟩

theorem witness_spill_and_restore_3 :
    (∃ (s : State) (dir : List (BitVec 8)) (chunks : List (Option SpillChunk)), s.Inv ∧ (s.rd MOR_STATUS_STATE = 6) ∧
      (s.mooring.header ≠ []) ∧ (chunks.length = at_ s.mooring.header 40 4)) ∧
    (∃ (s : State) (dir : List (BitVec 8)) (chunks : List (Option SpillChunk)), s.Inv ∧ (s.mooring.header = [])) :=
  ⟨⟨{ State.reset.wr MOR_STATUS_STATE 6 with mooring := { State.reset.mooring with header := [0] } }, [], [], by decide +kernel⟩,
    ⟨State.reset, [], [], by decide +kernel⟩⟩

/-! MooringCommands -/

theorem witness_mooring_commands :
    (∃ (s : State) (c : Cmd), s.Inv ∧ (s.ready 0x0802 c = true) ∧ (onlyM (s.issuer c.path) = true) ∧ (cleanCmd c [] true = true) ∧
      (s.listed (WIN_VALID 0).key 256 4096 = []) ∧ (((List.range 16).any fun d => s.on (ORD_DOM_CFG_VALID d)) = false) ∧ (s.ops = []) ∧
      (s.pool.closes = []) ∧ (s.rd BRD_STATUS_STATE = 0)) ∧
    (∃ (s : State) (c : Cmd), s.Inv ∧ (s.ready 0x0802 c = true) ∧ (onlyM (s.issuer c.path) = true) ∧ (cleanCmd c [] true = true) ∧
      (((List.range 16).any fun d => s.on (ORD_DOM_CFG_VALID d)) = true) ∧ (opFlag c = false)) ∧
    (∃ (s : State) (c : Cmd), s.Inv ∧ (s.ready 0x0901 c = true) ∧ (onlyM (s.issuer c.path) = true) ∧ (cleanCmd c [(0, 8), (8, 8), (16, 1),
      (32, 32), (64, 32), (128, 64), (192, 64)] false = true) ∧
      ((!s.spillPort (parBytes c 0 1) 30 || !s.spillPort (parBytes c 1 1) 31) = false) ∧
      ((decide (0 < s.rd (BINDX_COUNT (parBytes c 0 1))) || decide (0 < s.rd (BINDX_COUNT (parBytes c 1 1)))) = false)) ∧
    (∃ (s : State) (c : Cmd), s.Inv ∧ (s.ready 0x0902 c = true) ∧ (onlyM (s.issuer c.path) = true) ∧ ((cleanCmd c [(0, 32),
      (32, 1)] false && decide (1200 ≤ parBytes c 0 4) && decide (parBytes c 0 4 ≤ 4000)) = true)) ∧
    (∃ (s : State) (c : Cmd) (r : Nat), s.Inv ∧ (s.ready 0x0904 c = true) ∧ (onlyM (s.issuer c.path) = true) ∧
      (cleanCmd c [(0, 16)] false = true) ∧ (s.mooring.log[parBytes c 0 2]? = some r)) :=
  ⟨⟨up, (pkt 0x0#448), by decide +kernel⟩,
    ⟨up.wr (ORD_DOM_CFG_VALID 3) 1, (pkt 0x0#448), by decide +kernel⟩,
    ⟨up.wrs [(PRT_CFG_MODE 9, 2), (PRT_CFG_SLOT_VALID 9, 1), (PRT_CFG_SLOT_CH 9, 30), (PRT_CFG_MODE 10, 2), (PRT_CFG_SLOT_VALID 10, 1),
      (PRT_CFG_SLOT_CH 10, 31)], (pkt 0x10a09#448), by decide +kernel⟩,
    ⟨up, (pkt 0x1000005dc#448), by decide +kernel⟩,
    ⟨{ up with mooring := { up.mooring with log := [5] } }, (pkt 0x0#448), 5, by decide +kernel⟩⟩

/-! PortLinks -/

theorem witness_port_links_1 :
    (∃ (s : State) (h : Host) (p : Nat), s.Inv ∧ (s.hostPort h = some p) ∧ (s.on (HOSTF_PERST h) = false)) ∧
    (∃ (s : State) (h : Host), s.Inv ∧ (s.hostPort h = none ∨ s.on (HOSTF_PERST h) = true)) ∧
    (∃ (s : State) (h : Host) (p : Nat), s.Inv ∧ (s.on (HOSTF_PERST h) = false) ∧ (s.hostPort h = some p) ∧ (p < 128)) ∧
    (∃ (s : State) (h : Host), s.Inv ∧ (s.on (HOSTF_PERST h) = false) ∧ (s.hostPort h = none)) ∧
    (∃ (s : State) (h : Host), s.Inv ∧ (s.on (HOSTF_PERST h) = true)) ∧
    (∃ (s : State) (h : Host) (p : Nat), s.Inv ∧ (s.on (HOSTF_PERST h) = true) ∧ (s.hostPort h = some p) ∧ (p < 128) ∧
      (s.on (PRT_HOST_STATUS_WAKE_DRIVEN p) = false) ∧ (s.on (PRTX_OFF p) = false) ∧ (s.rd GLB_BOOT_STATUS_STAGE = 6)) ∧
    (∃ (s : State) (h : Host), s.Inv ∧ (s.on (HOSTF_PERST h) = false)) ∧
    (∃ (s : State) (p : Port) (rate : Fin 6) (width : Fin 5) (flit rev eqf : Bool) (inv : BitVec 16) (eq : List LaneEq), s.Inv ∧
      (s.mayTrain p = false ∨ s.rd (PRT_CFG_MAX_RATE p) < rate.val ∨ s.rd (PRT_CFG_WIDTH p) < width.val)) :=
  ⟨⟨up, 1, 3, by decide +kernel⟩,
    ⟨State.reset, 1, by decide +kernel⟩,
    ⟨up, 1, 3, by decide +kernel⟩,
    ⟨State.reset, 1, by decide +kernel⟩,
    ⟨State.reset.wr (HOSTF_PERST 1) 1, 1, by decide +kernel⟩,
    ⟨up.wrs [(HOSTF_PERST 1, 1), (GLB_BOOT_STATUS_STAGE, 6)], 1, 3, by decide +kernel⟩,
    ⟨State.reset, 1, by decide +kernel⟩,
    ⟨State.reset, 9, 0, 0, false, false, false, 0, [], by decide +kernel⟩⟩

theorem witness_port_links_2 :
    (∃ (s : State) (p : Port) (rate : Fin 6) (width : Fin 5) (rev eqf : Bool) (inv : BitVec 16) (eq : List LaneEq), s.Inv ∧
      (s.mayTrain p = true) ∧ (rate.val ≤ s.rd (PRT_CFG_MAX_RATE p)) ∧ (width.val ≤ s.rd (PRT_CFG_WIDTH p)) ∧
      (s.flitFits p rate false = true) ∧ (rev = false ∨ s.rd (PRT_CFG_WIDTH p) ≠ 0)) ∧
    (∃ (s : State) (p : Port) (d : Bool) (h : Nat), s.Inv ∧ (s.portHost p = some h)) ∧
    (∃ (s : State) (p : Port) (d : Bool), s.Inv ∧ (s.portHost p = none)) ∧
    (∃ (s : State) (p : Port), s.Inv ∧ (s.rd (PRT_CFG_MODE p) = 2) ∧ (s.on (PRT_LINK_STATUS_DL_ACTIVE p) = true) ∧ (s.dpcArmed p = false) ∧
      (s.posOf p = [])) ∧
    (∃ (s : State) (p : Port), s.Inv ∧ (s.rd (PRT_CFG_MODE p) ≠ 2)) ∧
    (∃ (s : State) (p : Port) (second : Bool), s.Inv ∧ (s.rd (PRT_CFG_MODE p) = 1 ∨ s.rd (PRT_CFG_MODE p) = 2) ∧
      (s.on (PRT_CFG_L1_DEEP p) = true) ∧ (s.rd (PRT_LINK_STATUS_LTSSM p) = 6 ∨ s.rd (PRT_LINK_STATUS_LTSSM p) = 3)) ∧
    (∃ (s : State) (p : Port) (second : Bool), s.Inv ∧ (s.on (PRT_CFG_L1_DEEP p) = false)) ∧
    (∃ (s : State) (p : Port), s.Inv ∧ (s.on (PRTX_PTM p) = true) ∧ (s.on (PRT_LINK_STATUS_DL_ACTIVE p) = true) ∧ (s.awake = true)) :=
  ⟨⟨State.reset.wrs [(PRT_CFG_MODE 9, 2), (GLB_CLK_STATUS_CLKREF_DET, 2), (PRT_CFG_MAX_RATE 9, 3), (PRT_CFG_WIDTH 9, 2)], 9, 1, 2, false, false, 0, [], by decide +kernel⟩,
    ⟨up, 3, true, 1, by decide +kernel⟩,
    ⟨State.reset, 3, true, by decide +kernel⟩,
    ⟨State.reset.wrs [(PRT_CFG_MODE 9, 2), (PRT_LINK_STATUS_DL_ACTIVE 9, 1)], 9, by decide +kernel⟩,
    ⟨State.reset, 9, by decide +kernel⟩,
    ⟨State.reset.wrs [(PRT_CFG_MODE 9, 2), (PRT_CFG_L1_DEEP 9, 1), (PRT_LINK_STATUS_LTSSM 9, 6)], 9, true, by decide +kernel⟩,
    ⟨State.reset, 9, true, by decide +kernel⟩,
    ⟨State.reset.wrs [(PRTX_PTM 9, 1), (PRT_LINK_STATUS_DL_ACTIVE 9, 1)], 9, by decide +kernel⟩⟩

theorem witness_port_links_3 :
    (∃ (s : State) (p : Port), s.Inv ∧ (s.on (PRTX_PTM p) = false) ∧ (s.awake = true)) ∧
    (∃ (s : State) (l : Lane), s.Inv ∧ (s.on (LAN_STATUS_LOS l) = false) ∧ (s.wsMasked l = true)) ∧
    (∃ (s : State) (l : Lane), s.Inv ∧ (s.on (LAN_STATUS_LOS l) = true)) ∧
    (∃ (s : State) (l : Lane), s.Inv ∧ (s.on (LAN_STATUS_LOL l) = false) ∧ (s.wsMasked l = true)) ∧
    (∃ (s : State) (l : Lane), s.Inv ∧ (s.on (LAN_STATUS_LOL l) = true)) ∧
    (∃ (s : State) (g : Fin 16), s.Inv ∧ (bitSet (s.rd GLB_CLK_STATUS_CLKREF_DET) g = true) ∧
      ((s.groupStatus g).on (LAN_GRP_STATUS_PLL_P_ON g) = false) ∧ ((s.groupStatus g).on (LAN_GRP_STATUS_PLL_C_ON g) = false)) ∧
    (∃ (s : State) (g : Fin 16), s.Inv ∧ (bitSet (s.rd GLB_CLK_STATUS_CLKREF_DET) g = true) ∧
      ((s.groupStatus g).on (LAN_GRP_STATUS_PLL_P_ON g) = true ∨ (s.groupStatus g).on (LAN_GRP_STATUS_PLL_C_ON g) = true)) ∧
    (∃ (s : State) (g : Fin 16), s.Inv ∧ (bitSet (s.rd GLB_CLK_STATUS_CLKREF_DET) g = false)) :=
  ⟨⟨State.reset, 9, by decide +kernel⟩,
    ⟨State.reset, 5, by decide +kernel⟩,
    ⟨State.reset.wr (LAN_STATUS_LOS 5) 1, 5, by decide +kernel⟩,
    ⟨State.reset, 5, by decide +kernel⟩,
    ⟨State.reset.wr (LAN_STATUS_LOL 5) 1, 5, by decide +kernel⟩,
    ⟨State.reset.wr GLB_CLK_STATUS_CLKREF_DET 2, 1, by decide +kernel⟩,
    ⟨(up.wrs [(GLB_CLK_STATUS_CLKREF_DET, 2), (LAN_CFG_TEST_EN 18, 1)]), 1, by decide +kernel⟩,
    ⟨State.reset, 1, by decide +kernel⟩⟩

/-! PortCommands -/

theorem witness_port_commands_1 :
    (∃ (s : State) (c : Cmd), s.Inv ∧ (s.ready 0x0202 c = true) ∧ (onlyM (s.issuer c.path) = true) ∧ ((cleanCmd c [(0, 8), (8, 8), (16, 1),
      (32, 32)] false && decide (parBytes c 0 1 < 128) && decide (1 ≤ parBytes c 4 4) && decide (parBytes c 4 4 ≤ 1000000)) = true) ∧
      ((s.portBusy (parBytes c 0 1)) = false)) ∧
    (∃ (s : State) (c : Cmd) (p : Nat) (a : PortCfg), s.Inv ∧ (s.ready 0x0201 c = true) ∧ (onlyM (s.issuer c.path) = true) ∧
      ((cleanCmd c [(0, 8), (8, 8), (16, 8), (24, 8), (32, 8), (40, 8), (48, 3), (56, 8), (64, 5),
      (71, 1)] false && (portCfgOf c).ok (parBytes c 0 1) (parBytes c 2 1)) = true) ∧ ((s.portBusy (parBytes c 0 1)) = false) ∧
      ((s.laneClash (parBytes c 0 1) (portCfgOf c)) = false) ∧
      (((portCfgOf c).mode == 1 && !(s.rd (PRT_CFG_MODE (parBytes c 0 1)) == 1) && decide (48 ≤ s.upstreams)) = false) ∧
      (((portCfgOf c).mode == 1 && s.rd (HOSTF_PORT (portCfgOf c).host) != 0 && s.rd (HOSTF_PORT (portCfgOf c).host) != parBytes c 0 1 + 1) = false) ∧ ((s.rd (PRT_CFG_MODE (parBytes c 0 1)) == 1 && s.portMoves (parBytes c 0 1) (portCfgOf c) && s.mgmtPort (parBytes c 0 1)) = false) ∧ ((s.rd (PRT_CFG_MODE (parBytes c 0 1)) == 2 && decide (0 < s.rd (BINDX_COUNT (parBytes c 0 1)))) = false) ∧ ((s.opBusy [0x0205] (fun o => parBytes o.cmd 0 1 == parBytes c 0 1)) = false) ∧ (p = parBytes c 0 1) ∧ (a = portCfgOf c) ∧ (s.portMoves p a = false) ∧ (a.mode ≠ 0)) ∧
    (∃ (s : State) (c : Cmd), s.Inv ∧ (s.ready 0x0201 c = true) ∧ (onlyM (s.issuer c.path) = true) ∧ ((cleanCmd c [(0, 8), (8, 8), (16, 8),
      (24, 8), (32, 8), (40, 8), (48, 3), (56, 8), (64, 5), (71, 1)] false && (portCfgOf c).ok (parBytes c 0 1) (parBytes c 2 1)) = true) ∧
      ((s.portBusy (parBytes c 0 1)) = false) ∧ ((s.laneClash (parBytes c 0 1) (portCfgOf c)) = false) ∧
      (((portCfgOf c).mode == 1 && !(s.rd (PRT_CFG_MODE (parBytes c 0 1)) == 1) && decide (48 ≤ s.upstreams)) = false) ∧
      (((portCfgOf c).mode == 1 && s.rd (HOSTF_PORT (portCfgOf c).host) != 0 && s.rd (HOSTF_PORT (portCfgOf c).host) != parBytes c 0 1 + 1) = false) ∧ ((s.rd (PRT_CFG_MODE (parBytes c 0 1)) == 1 && s.portMoves (parBytes c 0 1) (portCfgOf c) && s.mgmtPort (parBytes c 0 1)) = false) ∧ ((s.rd (PRT_CFG_MODE (parBytes c 0 1)) == 2 && decide (0 < s.rd (BINDX_COUNT (parBytes c 0 1)))) = false) ∧ ((s.opBusy [0x0205] (fun o => parBytes o.cmd 0 1 == parBytes c 0 1)) = false) ∧ (s.portMoves (parBytes c 0 1) (portCfgOf c) = true)) ∧
    (∃ (s : State) (c : Cmd), s.Inv ∧ (s.ready 0x0204 c = true) ∧ (onlyM (s.issuer c.path) = true) ∧ ((cleanCmd c [(0, 8),
      (8, 8)] false && parBytes c 1 1 == 0 && decide (parBytes c 0 1 < 128)) = true) ∧
      ((s.rd (PRT_CFG_MODE (parBytes c 0 1)) == 0) = false) ∧ ((s.portBusy (parBytes c 0 1)) = false) ∧
      ((s.rd (PRT_CFG_MODE (parBytes c 0 1)) == 3 && s.rd (CYTX_REQ (parBytes c 0 1)) != 0) = false) ∧
      (s.rd (PRT_CFG_MODE (parBytes c 0 1)) ≠ 3)) ∧
    (∃ (s : State) (c : Cmd), s.Inv ∧ (s.ready 0x0204 c = true) ∧ (onlyM (s.issuer c.path) = true) ∧ ((cleanCmd c [(0, 8),
      (8, 8)] false && parBytes c 1 1 == 0 && decide (parBytes c 0 1 < 128)) = true) ∧
      ((s.rd (PRT_CFG_MODE (parBytes c 0 1)) == 0) = false) ∧ ((s.portBusy (parBytes c 0 1)) = false) ∧
      ((s.rd (PRT_CFG_MODE (parBytes c 0 1)) == 3 && s.rd (CYTX_REQ (parBytes c 0 1)) != 0) = false) ∧
      (s.tetherUp (parBytes c 0 1) = true)) ∧
    (∃ (s : State) (c : Cmd), s.Inv ∧ (s.ready 0x0204 c = true) ∧ (onlyM (s.issuer c.path) = true) ∧ ((cleanCmd c [(0, 8),
      (8, 8)] false && parBytes c 1 1 == 2 && decide (parBytes c 0 1 < 128)) = true) ∧
      ((s.rd (PRT_CFG_MODE (parBytes c 0 1)) == 0) = false) ∧ ((s.portBusy (parBytes c 0 1)) = false) ∧
      ((s.mgmtPort (parBytes c 0 1)) = false) ∧ (s.rd (PRT_CFG_MODE (parBytes c 0 1)) = 2)) ∧
    (∃ (s : State) (c : Cmd), s.Inv ∧ (s.ready 0x0204 c = true) ∧ (onlyM (s.issuer c.path) = true) ∧ ((cleanCmd c [(0, 8),
      (8, 8)] false && parBytes c 1 1 == 2 && decide (parBytes c 0 1 < 128)) = true) ∧
      ((s.rd (PRT_CFG_MODE (parBytes c 0 1)) == 0) = false) ∧ ((s.portBusy (parBytes c 0 1)) = false) ∧
      (s.mgmtPort (parBytes c 0 1) = true)) ∧
    (∃ (s : State) (c : Cmd), s.Inv ∧ (s.ready 0x0204 c = true) ∧ (onlyM (s.issuer c.path) = true) ∧ ((cleanCmd c [(0, 8),
      (8, 8)] false && parBytes c 1 1 == 3 && decide (parBytes c 0 1 < 128)) = true) ∧
      ((s.rd (PRT_CFG_MODE (parBytes c 0 1)) == 0) = false) ∧ ((s.portBusy (parBytes c 0 1)) = false) ∧
      ((s.contained 1 (parBytes c 0 1)) = false) ∧ (s.rd (PRT_CFG_MODE (parBytes c 0 1)) = 2) ∧
      (s.rd (PRT_LINK_STATUS_LTSSM (parBytes c 0 1)) ≠ 8)) :=
  ⟨⟨up, (pkt 0x500000309#448), by decide +kernel⟩,
    ⟨up.wrs [(PRT_CFG_MODE 9, 2),
      (PRT_CFG_FIRST_OFFSET 9, 2)], (pkt 0x30002010209#448), 9, ⟨2, 2, 0, 3, 0, 0, 0, 0, 0, 0⟩, by decide +kernel⟩,
    ⟨up, (pkt 0x30002010209#448), by decide +kernel⟩,
    ⟨up.wr (PRT_CFG_MODE 9) 2, (pkt 0x9#448), by decide +kernel⟩,
    ⟨up.wrs [(PRT_CFG_MODE 9, 3), (PRT_CYT_STATUS_STATE 9, 7)], (pkt 0x9#448), by decide +kernel⟩,
    ⟨up.wr (PRT_CFG_MODE 9) 2, (pkt 0x209#448), by decide +kernel⟩,
    ⟨up, (pkt 0x203#448), by decide +kernel⟩,
    ⟨up.wr (PRT_CFG_MODE 9) 2, (pkt 0x309#448), by decide +kernel⟩⟩

theorem witness_port_commands_2 :
    (∃ (s : State) (c : Cmd), s.Inv ∧ (s.ready 0x0204 c = true) ∧ (onlyM (s.issuer c.path) = true) ∧ ((cleanCmd c [(0, 8),
      (8, 8)] false && parBytes c 1 1 == 3 && decide (parBytes c 0 1 < 128)) = true) ∧
      ((s.rd (PRT_CFG_MODE (parBytes c 0 1)) == 0) = false) ∧ ((s.portBusy (parBytes c 0 1)) = false) ∧
      ((s.contained 1 (parBytes c 0 1)) = false) ∧ (s.rd (PRT_CFG_MODE (parBytes c 0 1)) = 2) ∧
      (s.rd (PRT_LINK_STATUS_LTSSM (parBytes c 0 1)) = 8)) ∧
    (∃ (s : State) (c : Cmd), s.Inv ∧ (s.ready 0x0201 c = true) ∧ (onlyM (s.issuer c.path) = true) ∧ ((cleanCmd c [(0, 8), (8, 8), (16, 8),
      (24, 8), (32, 8), (40, 8), (48, 3), (56, 8), (64, 5), (71, 1)] false && (portCfgOf c).ok (parBytes c 0 1) (parBytes c 2 1)) = true) ∧
      (s.laneClash (parBytes c 0 1) (portCfgOf c) = true)) ∧
    (∃ (s : State) (c : Cmd), s.Inv ∧ (s.ready 0x0201 c = true) ∧ (onlyM (s.issuer c.path) = true) ∧ ((cleanCmd c [(0, 8), (8, 8), (16, 8),
      (24, 8), (32, 8), (40, 8), (48, 3), (56, 8), (64, 5), (71, 1)] false && (portCfgOf c).ok (parBytes c 0 1) (parBytes c 2 1)) = true) ∧
      (s.laneClash (parBytes c 0 1) (portCfgOf c) = false) ∧ ((portCfgOf c).mode ≠ 1) ∧ (s.rd (PRT_CFG_MODE (parBytes c 0 1)) = 2) ∧
      (0 < s.rd (BINDX_COUNT (parBytes c 0 1)))) ∧
    (∃ (s : State) (c : Cmd), s.Inv ∧ (s.ready 0x0204 c = true) ∧ (onlyM (s.issuer c.path) = true) ∧ ((cleanCmd c [(0, 8),
      (8, 8)] false && parBytes c 1 1 == 0 && decide (parBytes c 0 1 < 128)) = true) ∧ (s.rd (PRT_CFG_MODE (parBytes c 0 1)) = 0)) ∧
    (∃ (s : State) (c : Cmd), s.Inv ∧ (s.ready 0x0204 c = true) ∧ (onlyM (s.issuer c.path) = true) ∧ ((cleanCmd c [(0, 8),
      (8, 8)] false && parBytes c 1 1 == 2 && decide (parBytes c 0 1 < 128)) = true) ∧ (s.rd (PRT_CFG_MODE (parBytes c 0 1)) = 0)) ∧
    (∃ (s : State) (c : Cmd), s.Inv ∧ (s.ready 0x0204 c = true) ∧ (onlyM (s.issuer c.path) = true) ∧ ((cleanCmd c [(0, 8),
      (8, 8)] false && parBytes c 1 1 == 3 && decide (parBytes c 0 1 < 128)) = true) ∧ (s.rd (PRT_CFG_MODE (parBytes c 0 1)) = 0)) :=
  ⟨⟨up.wrs [(PRT_CFG_MODE 9, 2), (PRT_LINK_STATUS_LTSSM 9, 8)], (pkt 0x309#448), by decide +kernel⟩,
    ⟨up.wrs [(LAN_STATUS_OWNED 18, 1), (LAN_STATUS_OWNER_PORT 18, 8)], (pkt 0x30002010209#448), by decide +kernel⟩,
    ⟨up.wrs [(PRT_CFG_MODE 9, 2), (PRT_CFG_FIRST_OFFSET 9, 2), (BINDX_COUNT 9, 1)], (pkt 0x30002010209#448), by decide +kernel⟩,
    ⟨up, (pkt 0x009#448), by decide +kernel⟩,
    ⟨up, (pkt 0x209#448), by decide +kernel⟩,
    ⟨up, (pkt 0x309#448), by decide +kernel⟩⟩

/-! StartUp -/

theorem witness_start_up_1 :
    (∃ (s : State), s.Inv ∧ (s.on SYS_OFF = true ∨ s.on MORX_DEAD = true)) ∧
    (∃ (s : State), s.Inv ∧ (s.on SYS_OFF = false) ∧ (s.on MORX_DEAD = false) ∧ (s.moored = true)) ∧
    (∃ (s : State), s.Inv ∧ (s.on SYS_OFF = false) ∧ (s.on MORX_DEAD = false) ∧ (s.moored = false) ∧ (s.rd GLB_BOOT_STATUS_STAGE = 6) ∧
      (s.on SYS_DRAINING = false) ∧ (s.rd PWR_STATUS_STATE ≠ 2)) ∧
    (∃ (s : State), s.Inv ∧ (s.on SYS_DRAINING = true) ∧ (s.moored = false) ∧ (s.on RETX_ROSE = false)) ∧
    (∃ (s : State), s.Inv ∧ (s.on SYS_DRAINING = true) ∧ (s.moored = false) ∧ (s.on RETX_ROSE = true)) ∧
    (∃ (s : State), s.Inv ∧ (s.on SYS_DRAINING = false)) ∧
    (∃ (s : State) (mp : BitVec 7) (bs : BitVec 2) (pr : BitVec 4) (hd : Bool), s.Inv ∧ (s.rd GLB_BOOT_STATUS_STAGE = 0) ∧
      (s.on SYS_DRAINING = false) ∧ (s.on SYS_OFF = false) ∧ (s.on MORX_DEAD = false) ∧ (s.moored = false) ∧ (s.rd RETX_CAUSE = 0)) ∧
    (∃ (s : State) (mp : BitVec 7) (bs : BitVec 2) (pr : BitVec 4) (hd : Bool), s.Inv ∧ (s.rd GLB_BOOT_STATUS_STAGE ≠ 0 ∨ s.moored = true) ∧
      (s.on SYS_DRAINING = false)) :=
  ⟨⟨State.reset.wr SYS_OFF 1, by decide +kernel⟩,
    ⟨State.reset.wr MOR_STATUS_STATE 2, by decide +kernel⟩,
    ⟨State.reset.wr GLB_BOOT_STATUS_STAGE 6, by decide +kernel⟩,
    ⟨State.reset.wr SYS_DRAINING 1, by decide +kernel⟩,
    ⟨State.reset.wrs [(SYS_DRAINING, 1), (RETX_ROSE, 1)], by decide +kernel⟩,
    ⟨State.reset, by decide +kernel⟩,
    ⟨State.reset, 3, 0, 1, true, by decide +kernel⟩,
    ⟨State.reset.wr GLB_BOOT_STATUS_STAGE 6, 3, 0, 1, true, by decide +kernel⟩⟩

theorem witness_start_up_2 :
    (∃ (s : State) (g : Fin 16), s.Inv ∧ (s.rd GLB_BOOT_STATUS_STAGE = 1) ∧ (s.rd GLB_STRAPS_BOOT_SEL ≠ 3)) ∧
    (∃ (s : State) (g : Fin 16), s.Inv ∧ (s.rd GLB_BOOT_STATUS_STAGE = 1) ∧ (s.rd GLB_STRAPS_BOOT_SEL = 3)) ∧
    (∃ (s : State) (g : Fin 16), s.Inv ∧ (s.rd GLB_BOOT_STATUS_STAGE ≠ 1)) ∧
    (∃ (s : State), s.Inv ∧ (s.rd GLB_BOOT_STATUS_STAGE = 2) ∧ (s.on GLB_BOOT_STATUS_A_TRIED = false) ∧
      (s.on GLB_BOOT_STATUS_B_TRIED = false) ∧ (((s.wr MGT_FLASH_STATUS_SELECT 0).tryImage s.firstImage).2 = true)) ∧
    (∃ (s : State), s.Inv ∧ (s.rd GLB_BOOT_STATUS_STAGE = 2) ∧ (s.on GLB_BOOT_STATUS_A_TRIED = false) ∧
      (s.on GLB_BOOT_STATUS_B_TRIED = false) ∧ (((s.wr MGT_FLASH_STATUS_SELECT 0).tryImage s.firstImage).2 = false) ∧
      (s.rd GLB_STRAPS_BOOT_SEL ≠ 2)) ∧
    (∃ (s : State), s.Inv ∧ (s.rd GLB_BOOT_STATUS_STAGE ≠ 2)) ∧
    (∃ (s : State) (src : Nat) (l : List (BitVec 8)), s.Inv ∧ (s.mooring.firstErr = []) ∧ (src ≤ 2)) ∧
    (∃ (s : State) (l : List (Option Dimm)) (a b : BitVec 8), s.Inv ∧ (s.rd GLB_BOOT_STATUS_STAGE = 4) ∧ (population l = none)) :=
  ⟨⟨State.reset.wr GLB_BOOT_STATUS_STAGE 1, 2, by decide +kernel⟩,
    ⟨State.reset.wrs [(GLB_BOOT_STATUS_STAGE, 1), (GLB_STRAPS_BOOT_SEL, 3)], 2, by decide +kernel⟩,
    ⟨State.reset, 2, by decide +kernel⟩,
    ⟨{ State.reset.wr GLB_BOOT_STATUS_STAGE 2 with mgmt := { State.reset.mgmt with flash := [(0, 0x53), (1, 0x57), (2, 0x46), (3, 0x57)] } }, by decide +kernel⟩,
    ⟨State.reset.wr GLB_BOOT_STATUS_STAGE 2, by decide +kernel⟩,
    ⟨State.reset, by decide +kernel⟩,
    ⟨State.reset, 1, [], by decide +kernel⟩,
    ⟨State.reset.wr GLB_BOOT_STATUS_STAGE 4, [], 0, 0, by decide +kernel⟩⟩

theorem witness_start_up_3 :
    (∃ (s : State) (l : List (Option Dimm)) (a b : BitVec 8) (n k : Nat) (d : Dimm), s.Inv ∧ (s.rd GLB_BOOT_STATUS_STAGE = 4) ∧
      (population l = some (n, k, d)) ∧ (s.on RETX_KEPT = false)) ∧
    (∃ (s : State) (l : List (Option Dimm)) (a b : BitVec 8), s.Inv ∧ (s.rd GLB_BOOT_STATUS_STAGE ≠ 3) ∧
      (s.rd GLB_BOOT_STATUS_STAGE ≠ 4)) ∧
    (∃ (s : State), s.Inv ∧ (s.rd GLB_BOOT_STATUS_STAGE = 5) ∧ (s.on GLB_BOOT_STATUS_CONFIG_APPLIED = false)) ∧
    (∃ (s : State), s.Inv ∧ (s.rd GLB_BOOT_STATUS_STAGE ≠ 5)) ∧
    (∃ (s : State), s.Inv ∧ (s.rd GLB_BOOT_STATUS_STAGE = 5) ∧ (s.on GLB_BOOT_STATUS_CONFIG_APPLIED = true)) :=
  ⟨⟨State.reset.wr GLB_BOOT_STATUS_STAGE 4, [some ⟨false, 16, 1, true, 7⟩, some ⟨false, 16, 1, true, 7⟩], 0, 1, 1, 2, ⟨false, 16, 1, true, 7⟩, by decide +kernel⟩,
    ⟨State.reset, [], 0, 0, by decide +kernel⟩,
    ⟨State.reset.wr GLB_BOOT_STATUS_STAGE 5, by decide +kernel⟩,
    ⟨State.reset, by decide +kernel⟩,
    ⟨State.reset.wrs [(GLB_BOOT_STATUS_STAGE, 5), (GLB_BOOT_STATUS_CONFIG_APPLIED, 1)], by decide +kernel⟩⟩

/-! RouteCommands -/

theorem witness_route_commands_1 :
    (∃ (s : State) (c : Cmd), s.Inv ∧ (s.ready 0x0301 c = true) ∧ (onlyM (s.issuer c.path) = true) ∧ ((cleanCmd c [(0, 8), (8, 8),
      (32, 32)] false && decide (parBytes c 0 1 < 48) && decide (parBytes c 1 1 ≤ 32) && decide (parBytes c 4 4 ≤ 65536)) = true)) ∧
    (∃ (s : State) (c : Cmd) (p h v : Nat), s.Inv ∧ (s.ready 0x0302 c = true) ∧ (onlyM (s.issuer c.path) = true) ∧ ((cleanCmd c [(0, 8),
      (8, 8), (16, 8), (24, 1), (32, 8), (40, 8),
      (64, 256)] false && decide (parBytes c 0 1 < 128) && decide (parBytes c 1 1 < 48) && decide (parBytes c 2 1 < 32) && decide (1 ≤ parBytes c 4 1) && decide (1 ≤ parBytes c 5 1) && decide (parBytes c 5 1 ≤ 32) && decide (parBytes c 4 1 + parBytes c 5 1 ≤ 255)) = true) ∧ ((s.rd (PRT_CFG_MODE p) != 2) = false) ∧ ((s.contained 1 p) = false) ∧ ((s.unbinding p) = false) ∧ ((s.on MOR_CFG_TARGET_EN && (p == s.rd MOR_CFG_PORT0 || p == s.rd MOR_CFG_PORT1)) = false) ∧ ((decide (s.rd (RTE_HIER_CFG_VB_COUNT h) ≤ v)) = false) ∧ ((s.on (POS_BOUND (posIdx h v))) = false) ∧ ((s.busOverlap p (parBytes c 4 1) (parBytes c 5 1)) = false) ∧ (p = parBytes c 0 1) ∧ (h = parBytes c 1 1) ∧ (v = parBytes c 2 1) ∧ (s.rd (BINDX_COUNT p) = 0) ∧ (parBits c 24 1 = 0) ∧ (((bindFns c).any fun f => s.on (SHF_BOUND (fnIdx p f))) = false)) ∧
    (∃ (s : State) (c : Cmd) (p h v : Nat), s.Inv ∧ (s.ready 0x0302 c = true) ∧ (onlyM (s.issuer c.path) = true) ∧ ((cleanCmd c [(0, 8),
      (8, 8), (16, 8), (24, 1), (32, 8), (40, 8),
      (64, 256)] false && decide (parBytes c 0 1 < 128) && decide (parBytes c 1 1 < 48) && decide (parBytes c 2 1 < 32) && decide (1 ≤ parBytes c 4 1) && decide (1 ≤ parBytes c 5 1) && decide (parBytes c 5 1 ≤ 32) && decide (parBytes c 4 1 + parBytes c 5 1 ≤ 255)) = true) ∧ ((s.rd (PRT_CFG_MODE p) != 2) = false) ∧ ((s.contained 1 p) = false) ∧ ((s.unbinding p) = false) ∧ ((s.on MOR_CFG_TARGET_EN && (p == s.rd MOR_CFG_PORT0 || p == s.rd MOR_CFG_PORT1)) = false) ∧ ((decide (s.rd (RTE_HIER_CFG_VB_COUNT h) ≤ v)) = false) ∧ ((s.on (POS_BOUND (posIdx h v))) = false) ∧ ((s.busOverlap p (parBytes c 4 1) (parBytes c 5 1)) = false) ∧ (p = parBytes c 0 1) ∧ (h = parBytes c 1 1) ∧ (v = parBytes c 2 1) ∧ (s.rd (BINDX_COUNT p) = 0) ∧ (parBits c 24 1 = 1) ∧ (parBytes c 5 1 = 1) ∧ (((bindFns c).any fun f => s.on (SHF_BOUND (fnIdx p f))) = false)) ∧
    (∃ (s : State) (p h v base span f : Nat), s.Inv ∧ (h < 48) ∧ (v < 32) ∧ (p < 128) ∧ (base < 256) ∧ (span < 256) ∧ (f < 256)) ∧
    (∃ (s : State) (c : Cmd) (k : Nat), s.Inv ∧ (s.ready 0x0303 c = true) ∧ (onlyM (s.issuer c.path) = true) ∧ ((cleanCmd c [(0, 8),
      (8, 8)] true && decide (parBytes c 0 1 < 128) && decide (parBytes c 1 1 < 48)) = true) ∧ ((s.unbinding (parBytes c 0 1)) = false) ∧
      ((s.opsFull (s.issuer c.path)) = false) ∧ (s.posAt (parBytes c 0 1) (parBytes c 1 1) = some k) ∧ (opFlag c = false)) ∧
    (∃ (s : State) (c : Cmd) (k : Nat), s.Inv ∧ (s.ready 0x0303 c = true) ∧ (onlyM (s.issuer c.path) = true) ∧ ((cleanCmd c [(0, 8),
      (8, 8)] true && decide (parBytes c 0 1 < 128) && decide (parBytes c 1 1 < 48)) = true) ∧ ((s.unbinding (parBytes c 0 1)) = false) ∧
      ((s.opsFull (s.issuer c.path)) = false) ∧ (s.posAt (parBytes c 0 1) (parBytes c 1 1) = some k) ∧ (opFlag c = true)) ∧
    (∃ (s : State) (c : Cmd) (i : Nat) (x : Xlat), s.Inv ∧ (s.ready 0x0304 c = true) ∧ (onlyM (s.issuer c.path) = true) ∧
      ((cleanCmd c [(0, 32), (32, 32), (64, 12), (128, 64),
      (192, 64)] false && parBits c 32 1 == 1 && (xlatOfCmd c).valid && (parBytes c 0 4 == 0xFFFFFFFF || decide (parBytes c 0 4 < 65536))) = true) ∧ (((s.eraseXlat i).xlats.any fun j => ((s.eraseXlat i).xlat j).clashes x) = false) ∧ ((decide (s.rd (RTE_HIER_QUOTA_XLAT_QUOTA x.host) ≤ s.rd (RTE_HIER_USED_XLAT_USED x.host))) = false) ∧ (x = xlatOfCmd c) ∧ (s.xlatIndex (parBytes c 0 4) = some i) ∧ (s.on (XLAT_VALID i) = false) ∧ (i < 65536) ∧ (x.typ = 1)) ∧
    (∃ (s : State) (c : Cmd) (i : Nat) (x : Xlat), s.Inv ∧ (s.ready 0x0304 c = true) ∧ (onlyM (s.issuer c.path) = true) ∧
      ((cleanCmd c [(0, 32), (32, 32), (64, 12), (128, 64),
      (192, 64)] false && parBits c 32 1 == 1 && (xlatOfCmd c).valid && (parBytes c 0 4 == 0xFFFFFFFF || decide (parBytes c 0 4 < 65536))) = true) ∧ (((s.eraseXlat i).xlats.any fun j => ((s.eraseXlat i).xlat j).clashes x) = false) ∧ ((decide (s.poolUsable < x.target + 2 ^ x.sizeLog2)) = false) ∧ ((x.counted && !(s.on (XLAT_VALID i) && (s.xlat i).counted && (s.xlat i).host == x.host) && decide (s.rd (RTE_HIER_QUOTA_XLAT_QUOTA x.host) ≤ (s.eraseXlat i).rd (RTE_HIER_USED_XLAT_USED x.host))) = false) ∧ (x = xlatOfCmd c) ∧ (s.xlatIndex (parBytes c 0 4) = some i) ∧ (i < 65536) ∧ (s.inWindow x.window x.target (2 ^ x.sizeLog2) = true)) :=
  ⟨⟨up, (pkt 0x6400000502#448), by decide +kernel⟩,
    ⟨up.wrs [(PRT_CFG_MODE 9, 2), (RTE_HIER_CFG_VB_COUNT 2, 8)], (pkt 0x11400030209#448), 9, 2, 3, by decide +kernel⟩,
    ⟨up.wrs [(PRT_CFG_MODE 9, 2), (RTE_HIER_CFG_VB_COUNT 2, 8)], (pkt 0x20000011401030209#448), 9, 2, 3, by decide +kernel⟩,
    ⟨State.reset, 9, 2, 3, 20, 1, 1, by decide +kernel⟩,
    ⟨up.wrs [(PRT_CFG_MODE 9, 2), (POS_BOUND 67, 1), (POS_PORT 67, 9)], (pkt 0x209#448), 67, by decide +kernel⟩,
    ⟨up.wrs [(PRT_CFG_MODE 9, 2), (POS_BOUND 67, 1),
      (POS_PORT 67, 9)], ⟨.mgmt, 7, 0x10000, BitVec.ofNat 448 0x209⟩, 67, by decide +kernel⟩,
    ⟨up.wr (RTE_HIER_QUOTA_XLAT_QUOTA 2) 4, (pkt 0x7000000000000000500000000000000000000000c01300000006#448), 6, ⟨1, 2, 0, 0, 12, 0, 0, 0, 0, 0x5000, 0x7000⟩, by decide +kernel⟩,
    ⟨up.wrs [(RTE_HIER_QUOTA_XLAT_QUOTA 2, 4), (BAL_STATUS_CAPACITY, 16), (WIN_VALID 3, 1), (WIN_BASE 3, 0),
      (WIN_LIMIT 3, 0xFFFF)], (pkt 0x7000000000000000500000000000000000030000c01100000006#448), 6, ⟨0, 2, 0, 0, 12, 0, 0, 0, 3, 0x5000, 0x7000⟩, by decide +kernel⟩⟩

theorem witness_route_commands_2 :
    (∃ (s : State) (c : Cmd) (i : Nat), s.Inv ∧ (s.ready 0x0304 c = true) ∧ (onlyM (s.issuer c.path) = true) ∧ ((cleanCmd c [(0, 32),
      (32, 32), (64, 12), (128, 64),
      (192, 64)] false && parBits c 32 1 == 1 && (xlatOfCmd c).valid && (parBytes c 0 4 == 0xFFFFFFFF || decide (parBytes c 0 4 < 65536))) = true) ∧ (s.xlatIndex (parBytes c 0 4) = some i) ∧ (((s.eraseXlat i).xlats.any fun j => ((s.eraseXlat i).xlat j).clashes (xlatOfCmd c)) = true)) ∧
    (∃ (s : State) (c : Cmd), s.Inv ∧ (s.ready 0x0305 c = true) ∧ (onlyM (s.issuer c.path) = true) ∧
      ((cleanCmd c [(0, 32)] false && decide (parBytes c 0 4 < 65536)) = true) ∧ (s.on (XLAT_VALID (parBytes c 0 4)) = true) ∧
      (s.rd RTE_XLAT_USED_USED ≤ 65536)) ∧
    (∃ (s : State) (c : Cmd), s.Inv ∧ (s.ready 0x0306 c = true) ∧ (onlyM (s.issuer c.path) = true) ∧ ((cleanCmd c [(0, 8), (8, 4), (16, 8),
      (24, 8), (32, 8), (40, 8)] false && decide (parBytes c 0 1 < 64) && ((List.range 4).all fun i =>
      decide (parBytes c (2 + i) 1 < 128) && (parBits c (8 + i) 1 == 0 || s.rd (PRT_CFG_MODE (parBytes c (2 + i) 1)) == 3))) = true)) ∧
    (∃ (s : State) (c : Cmd), s.Inv ∧ (s.ready 0x0307 c = true) ∧ (onlyM (s.issuer c.path) = true) ∧ (cleanCmd c [(0, 8), (8, 2), (64, 128),
      (192, 128)] false = true)) ∧
    (∃ (s : State) (c : Cmd), s.Inv ∧ (s.ready 0x0308 c = true) ∧ (onlyM (s.issuer c.path) = true) ∧ ((cleanCmd c [(0, 8), (8, 8), (16, 8),
      (24, 1)] false && decide (parBytes c 0 1 < 128) && decide (parBytes c 1 1 < 64)) = true)) ∧
    (∃ (s : State) (v : BitVec 31), s.Inv ∧ (rteCount (v.toNat % 16) ≤ v.toNat / 16 % 65536)) ∧
    (∃ (s : State) (v : BitVec 31), s.Inv ∧ (v.toNat % 16 = 0)) :=
  ⟨⟨up.wrs [(XLAT_VALID 3, 1), (XLAT_TYPE 3, 1), (XLAT_HOST 3, 2), (XLAT_SIZE_LOG2 3, 13), (XLAT_MATCH_BASE 3, 0x4000)], (pkt 0x7000000000000000500000000000000000000000c01300000006#448), 6, by decide +kernel⟩,
    ⟨up.wr (XLAT_VALID 3) 1, (pkt 0x3#448), by decide +kernel⟩,
    ⟨up.wr (PRT_CFG_MODE 9) 3, (pkt 0x90105#448), by decide +kernel⟩,
    ⟨up, (pkt 0xff0000000000000105#448), by decide +kernel⟩,
    ⟨up, (pkt 0x1090105#448), by decide +kernel⟩,
    ⟨State.reset, 0x6001, by decide +kernel⟩,
    ⟨State.reset, 0x60, by decide +kernel⟩⟩

/-! BridleTables -/

theorem witness_bridle_tables_1 :
    (∃ (s : State) (c : Cmd) (i : Nat) (t : Tables), s.Inv ∧ (s.ready 0x0401 c = true) ∧ (onlyM (s.issuer c.path) = true) ∧
      ((cleanCmd c [(0, 16), (64, 31), (96, 32), (128, 30), (160, 18), (192, 64),
      (256, 64)] false && decide (parBytes c 0 2 < 8192) && (s.bridle.staged.write (parBytes c 0 2) (parBytes c 8 32)).okRule (parBytes c 0 2)) = true) ∧ ((s.breaksLock t i) = false) ∧ ((t.valid.any fun j => j != i && t.overlaps i j) = false) ∧ ((t.get (RULE_OWNER_VALID i) == 1 && decide (s.rd (GND_RULE_QUOTA (t.get (RULE_OWNER_GONDOLA i))) < (t.ownedBy (t.get (RULE_OWNER_GONDOLA i))).length)) = false) ∧ (i = parBytes c 0 2) ∧ (t = s.bridle.staged.write i (parBytes c 8 32))) ∧
    (∃ (s : State) (c : Cmd) (i : Nat) (t : Tables), s.Inv ∧ (s.ready 0x0401 c = true) ∧ (onlyM (s.issuer c.path) = true) ∧
      ((cleanCmd c [(0, 16), (64, 31), (96, 32), (128, 30), (160, 18), (192, 64),
      (256, 64)] false && decide (parBytes c 0 2 < 8192) && (s.bridle.staged.write (parBytes c 0 2) (parBytes c 8 32)).okRule (parBytes c 0 2)) = true) ∧ ((t.valid.any fun j => j != i && t.overlaps i j) = false) ∧ ((t.get (RULE_OWNER_VALID i) == 1 && decide (s.rd (GND_RULE_QUOTA (t.get (RULE_OWNER_GONDOLA i))) < (t.ownedBy (t.get (RULE_OWNER_GONDOLA i))).length)) = false) ∧ (i = parBytes c 0 2) ∧ (t = s.bridle.staged.write i (parBytes c 8 32)) ∧ (s.breaksLock t i = true)) ∧
    (∃ (s : State) (t : Tables) (i : Nat), s.Inv ∧ (s.rd BRD_STATUS_STATE ≠ 2)) ∧
    (∃ (s : State) (c : Cmd) (i : Nat) (t : Tables), s.Inv ∧ (s.ready 0x0401 c = true) ∧ (onlyM (s.issuer c.path) = true) ∧
      ((cleanCmd c [(0, 16), (64, 31), (96, 32), (128, 30), (160, 18), (192, 64),
      (256, 64)] false && decide (parBytes c 0 2 < 8192) && (s.bridle.staged.write (parBytes c 0 2) (parBytes c 8 32)).okRule (parBytes c 0 2)) = true) ∧ (i = parBytes c 0 2) ∧ (t = s.bridle.staged.write i (parBytes c 8 32)) ∧ (t.get (RULE_OWNER_VALID i) = 1) ∧ (s.rd (GND_RULE_QUOTA (t.get (RULE_OWNER_GONDOLA i))) < (t.ownedBy (t.get (RULE_OWNER_GONDOLA i))).length)) ∧
    (∃ (s : State) (c : Cmd) (i : Nat) (t : Tables), s.Inv ∧ (s.ready 0x0401 c = true) ∧ (onlyM (s.issuer c.path) = true) ∧
      ((cleanCmd c [(0, 16), (64, 31), (96, 32), (128, 30), (160, 18), (192, 64),
      (256, 64)] false && decide (parBytes c 0 2 < 8192) && (s.bridle.staged.write (parBytes c 0 2) (parBytes c 8 32)).okRule (parBytes c 0 2)) = true) ∧ ((t.get (RULE_OWNER_VALID i) == 1 && decide (s.rd (GND_RULE_QUOTA (t.get (RULE_OWNER_GONDOLA i))) < (t.ownedBy (t.get (RULE_OWNER_GONDOLA i))).length)) = false) ∧ (i = parBytes c 0 2) ∧ (t = s.bridle.staged.write i (parBytes c 8 32)) ∧ ((t.valid.any fun j => j != i && t.overlaps i j) = true)) ∧
    (∃ (s : State) (t : Tables) (i w : Nat), s.Inv ∧ (t.rules.wf = true) ∧ (i < 8192)) ∧
    (∃ (s : State) (c : Cmd), s.Inv ∧ (s.ready 0x0402 c = true) ∧ (onlyM (s.issuer c.path) = true) ∧
      ((cleanCmd c [(0, 16)] false && decide (parBytes c 0 2 < 8192)) = true) ∧
      ((s.breaksLock (s.bridle.staged.erase (parBytes c 0 2)) (parBytes c 0 2)) = false)) ∧
    (∃ (s : State) (c : Cmd), s.Inv ∧ (s.ready 0x0402 c = true) ∧ (onlyM (s.issuer c.path) = true) ∧
      ((cleanCmd c [(0, 16)] false && decide (parBytes c 0 2 < 8192)) = true) ∧
      (s.breaksLock (s.bridle.staged.erase (parBytes c 0 2)) (parBytes c 0 2) = true)) :=
  ⟨⟨up, (pkt 0x1fff0000000000001000000000000000000000000000001000490000000000000005#448), 5, State.reset.bridle.staged.write 5 (parBytes (pkt 0x1fff0000000000001000000000000000000000000000001000490000000000000005#448) 8 32), by decide +kernel⟩,
    ⟨{ up with bridle := { up.bridle with active := (Tables.empty.put (RULE_VALID 5) 1).put (RULE_LOCK 5) 1 } }, (pkt 0x1fff0000000000001000000000000000000000000000001000490000000000000005#448), 5, State.reset.bridle.staged.write 5 (parBytes (pkt 0x1fff0000000000001000000000000000000000000000001000490000000000000005#448) 8 32), by decide +kernel⟩,
    ⟨State.reset, Tables.empty, 5, by decide +kernel⟩,
    ⟨up.wr (GND_RULE_QUOTA 7) 0, (pkt 0x1fff0000000000001000000000000070000000000000401000490000000000000005#448), 5, State.reset.bridle.staged.write 5 (parBytes (pkt 0x1fff0000000000001000000000000070000000000000401000490000000000000005#448) 8 32), by decide +kernel⟩,
    ⟨{ up with bridle := { up.bridle with staged := Tables.empty.write 6 (parBytes (pkt 0x1fff0000000000001000000000000000000000000000001000490000000000000005#448) 8 32) } }, (pkt 0x1fff0000000000001000000000000000000000000000001000490000000000000005#448), 5, (Tables.empty.write 6 (parBytes (pkt 0x1fff0000000000001000000000000000000000000000001000490000000000000005#448) 8 32)).write 5 (parBytes (pkt 0x1fff0000000000001000000000000000000000000000001000490000000000000005#448) 8 32), by decide +kernel⟩,
    ⟨State.reset, Tables.empty, 5, 77, by decide +kernel⟩,
    ⟨up, (pkt 0x5#448), by decide +kernel⟩,
    ⟨{ up with bridle := { up.bridle with active := (Tables.empty.put (RULE_VALID 5) 1).put (RULE_LOCK 5) 1 } }, (pkt 0x5#448), by decide +kernel⟩⟩

theorem witness_bridle_tables_2 :
    (∃ (s : State) (c : Cmd), s.Inv ∧ (s.ready 0x0403 c = true) ∧ (onlyM (s.issuer c.path) = true) ∧ (cleanCmd c [] false = true)) ∧
    (∃ (s : State) (c : Cmd), s.Inv ∧ (s.ready 0x0407 c = true) ∧ (onlyM (s.issuer c.path) = true) ∧ (cleanCmd c [(0, 6),
      (8, 2)] false = true)) ∧
    (∃ (s : State) (k : Check), s.Inv ∧ (k.cls ≠ clsInternal) ∧ (s.on BRD_STATUS_LOCK_UNKNOWN = false) ∧
      ((s.bridle.active.valid.filter fun i => s.bridle.active.matches i k) = [])) ∧
    (∃ (s : State) (k : Check) (i : Nat), s.Inv ∧ (k.cls ≠ clsInternal) ∧ (s.on BRD_STATUS_LOCK_UNKNOWN = false) ∧
      ((s.bridle.active.valid.filter fun i => s.bridle.active.matches i k) = [i])) ∧
    (∃ (s : State) (k : Check), s.Inv ∧ (k.cls = clsInternal) ∧ (s.on BRD_STATUS_LOCK_UNKNOWN = false) ∧
      ((s.bridle.active.valid.filter fun i => s.bridle.active.matches i k) = []) ∧ ((s.bridle.active.valid.any fun i =>
      s.bridle.active.locks i k.space k.addr k.len) = false)) ∧
    (∃ (s : State) (k : Check) (i : Nat), s.Inv ∧ (k.cls = clsInternal) ∧ ((s.bridle.active.valid.find? fun i =>
      s.bridle.active.locks i k.space k.addr k.len) = some i)) :=
  ⟨⟨up, (pkt 0x0#448), by decide +kernel⟩,
    ⟨up, (pkt 0x5#448), by decide +kernel⟩,
    ⟨State.reset, ⟨0, 1, 0, 2, 0, none, 0, 4, 0⟩, by decide +kernel⟩,
    ⟨{ State.reset with bridle := { State.reset.bridle with active := ((((Tables.empty.put (RULE_VALID 5) 1).put (RULE_SPACE 5) 1).put (RULE_SRC_HOST_ANY 5) 1).put (RULE_LIMIT 5) 0xFFF) } }, ⟨0, 1, 0, 2, 0, none, 0, 4, 0⟩, 5, by decide +kernel⟩,
    ⟨State.reset, ⟨2, 1, 0, 2, 0, none, 0, 4, 0⟩, by decide +kernel⟩,
    ⟨{ State.reset with bridle := { State.reset.bridle with active := ((((Tables.empty.put (RULE_VALID 5) 1).put (RULE_LOCK 5) 1).put (RULE_SPACE 5) 1).put (RULE_LIMIT 5) 0xFFF) } }, ⟨2, 1, 0, 2, 0, none, 0, 4, 0⟩, 5, by decide +kernel⟩⟩

/-! BridleSessions -/

theorem witness_bridle_sessions_1 :
    (∃ (s : State) (c : Cmd), s.Inv ∧ (s.ready 0x0404 c = true) ∧ (onlyM (s.issuer c.path) = true) ∧ (cleanCmd c [] false = true) ∧
      (s.rd BRD_STATUS_STATE = 0)) ∧
    (∃ (s : State) (c : Cmd), s.Inv ∧ (s.ready 0x0404 c = true) ∧ (onlyM (s.issuer c.path) = true) ∧ (cleanCmd c [] false = true) ∧
      (s.rd BRD_STATUS_STATE ≠ 0)) ∧
    (∃ (s : State) (c : Cmd), s.Inv ∧ (s.ready 0x0406 c = true) ∧ (onlyM (s.issuer c.path) = true) ∧ (cleanCmd c [] false = true) ∧
      (s.rd BRD_STATUS_STATE = 1)) ∧
    (∃ (s : State) (c : Cmd), s.Inv ∧ (s.ready 0x0406 c = true) ∧ (onlyM (s.issuer c.path) = true) ∧ (cleanCmd c [] false = true) ∧
      (s.rd BRD_STATUS_STATE ≠ 1)) ∧
    (∃ (s : State) (b : Bool), s.Inv ∧ (s.bridle.held = [])) ∧
    (∃ (s : State), s.Inv ∧ (s.rd BRD_STATUS_STATE = 1)) ∧
    (∃ (s : State), s.Inv ∧ (s.rd BRD_STATUS_STATE ≠ 1)) ∧
    (∃ (s : State) (c : Cmd), s.Inv ∧ (s.ready 0x0405 c = true) ∧ (onlyM (s.issuer c.path) = true) ∧ (cleanCmd c [] false = true) ∧
      (s.noSave = false) ∧ (s.rd BRD_STATUS_STATE = 1)) :=
  ⟨⟨up, (pkt 0x0#448), by decide +kernel⟩,
    ⟨up.wr BRD_STATUS_STATE 1, (pkt 0x0#448), by decide +kernel⟩,
    ⟨up.wr BRD_STATUS_STATE 1, (pkt 0x0#448), by decide +kernel⟩,
    ⟨up, (pkt 0x0#448), by decide +kernel⟩,
    ⟨State.reset, true, by decide +kernel⟩,
    ⟨State.reset.wr BRD_STATUS_STATE 1, by decide +kernel⟩,
    ⟨State.reset, by decide +kernel⟩,
    ⟨up.wrs [(BAL_STATUS_CAPACITY, 16), (BRD_STATUS_STATE, 1)], (pkt 0x0#448), by decide +kernel⟩⟩

theorem witness_bridle_sessions_2 :
    (∃ (s : State) (c : Cmd), s.Inv ∧ (s.ready 0x0405 c = true) ∧ (onlyM (s.issuer c.path) = true) ∧ (cleanCmd c [] false = true) ∧
      (s.rd BRD_STATUS_STATE = 1) ∧ (s.noSave = true) ∧ (s.bridle.held = [])) ∧
    (∃ (s : State) (c : Cmd), s.Inv ∧ (s.ready 0x0405 c = true) ∧ (onlyM (s.issuer c.path) = true) ∧ (cleanCmd c [] false = true) ∧
      ((s.on BRDX_TIMER_ABORT) = false) ∧ (s.rd BRD_STATUS_STATE ≠ 1)) ∧
    (∃ (s : State) (c : Cmd), s.Inv ∧ (s.ready 0x0405 c = true) ∧ (onlyM (s.issuer c.path) = true) ∧ (cleanCmd c [] false = true) ∧
      (s.rd BRD_STATUS_STATE ≠ 1) ∧ (s.on BRDX_TIMER_ABORT = true)) ∧
    (∃ (s : State) (t a : Tables), s.Inv ∧ ((a.valid.filter fun i => a.isLock i && t.entry i != a.entry i) = [])) ∧
    (∃ (s : State), s.Inv ∧ (s.rd BRD_STATUS_STATE = 2) ∧ (s.noSave = false) ∧ (s.bridle.held = [])) ∧
    (∃ (s : State), s.Inv ∧ (s.rd BRD_STATUS_STATE ≠ 2)) ∧
    (∃ (s : State), s.Inv ∧ (s.rd BRD_STATUS_STATE = 3) ∧ (s.oldInflight = 0)) ∧
    (∃ (s : State), s.Inv ∧ (s.rd BRD_STATUS_STATE ≠ 3 ∨ s.oldInflight ≠ 0)) :=
  ⟨⟨up.wr BRD_STATUS_STATE 1, (pkt 0x0#448), by decide +kernel⟩,
    ⟨up, (pkt 0x0#448), by decide +kernel⟩,
    ⟨up.wr BRDX_TIMER_ABORT 1, (pkt 0x0#448), by decide +kernel⟩,
    ⟨State.reset, Tables.empty, Tables.empty, by decide +kernel⟩,
    ⟨State.reset.wrs [(BAL_STATUS_CAPACITY, 16), (BRD_STATUS_STATE, 2)], by decide +kernel⟩,
    ⟨State.reset, by decide +kernel⟩,
    ⟨State.reset.wr BRD_STATUS_STATE 3, by decide +kernel⟩,
    ⟨State.reset, by decide +kernel⟩⟩

theorem witness_bridle_sessions_3 :
    (∃ (s : State) (c : Cmd), s.Inv ∧ (s.ready 0x0408 c = true) ∧ (onlyM (s.issuer c.path) = true) ∧ (cleanCmd c [] false = true) ∧
      ((s.poolC == 0) = false) ∧ ((s.on BRD_STATUS_LOCK_UNKNOWN) = false) ∧ ((s.opsFull (s.issuer c.path)) = false)) ∧
    (∃ (s : State) (c : Cmd), s.Inv ∧ (s.ready 0x0408 c = true) ∧ (onlyM (s.issuer c.path) = true) ∧ (cleanCmd c [] false = true) ∧
      (s.poolC = 0)) ∧
    (∃ (s : State) (c : Cmd), s.Inv ∧ (s.ready 0x0408 c = true) ∧ (onlyM (s.issuer c.path) = true) ∧ (cleanCmd c [] false = true) ∧
      ((s.poolC == 0) = false) ∧ (s.on BRD_STATUS_LOCK_UNKNOWN = true)) :=
  ⟨⟨up.wr BAL_STATUS_CAPACITY 16, (pkt 0x0#448), by decide +kernel⟩,
    ⟨up, (pkt 0x0#448), by decide +kernel⟩,
    ⟨up.wrs [(BAL_STATUS_CAPACITY, 16), (BRD_STATUS_LOCK_UNKNOWN, 1)], (pkt 0x0#448), by decide +kernel⟩⟩

/-! Scheduling -/

theorem witness_scheduling_1 :
    (∃ (s : State) (c : Cmd), s.Inv ∧ (s.ready 0x0501 c = true) ∧ (onlyM (s.issuer c.path) = true) ∧
      ((cleanCmd c ((0, 8) :: (8, 8) :: (16, 8) :: (24, 8) :: gateEntryBits (min (parBytes c 3 1) 5)) false && decide (parBytes c 0 1 < 128) && decide (1 ≤ parBytes c 1 1) && decide (parBytes c 1 1 ≤ 64) && decide (1 ≤ parBytes c 3 1) && decide (parBytes c 3 1 ≤ 5) && decide (parBytes c 2 1 + parBytes c 3 1 ≤ parBytes c 1 1)) = true) ∧ (((idxs (parBytes c 3 1) fun k => decide (parBits c (64 + 64 * k) 27 < 8)).isEmpty == false) = false) ∧ ((s.on (SCH_GATE_STATUS_PENDING (parBytes c 0 1))) = false)) ∧
    (∃ (s : State) (c : Cmd), s.Inv ∧ (s.ready 0x0502 c = true) ∧ (onlyM (s.issuer c.path) = true) ∧ ((cleanCmd c [(0, 8),
      (64, 64)] true && decide (parBytes c 0 1 < 128)) = true) ∧ ((decide (parBytes c 8 8 < s.ft)) = false) ∧
      ((!s.gateListOk 2 (parBytes c 0 1) (s.rd (SCHX_SLEN (parBytes c 0 1)))) = false) ∧
      ((s.on (SCH_GATE_STATUS_PENDING (parBytes c 0 1))) = false) ∧ ((!s.stagedWhole (parBytes c 0 1)) = false) ∧
      ((s.opsFull (s.issuer c.path)) = false) ∧ (opFlag c = false) ∧ (s.on (SCH_GATE_STATUS_LIST_VALID (parBytes c 0 1)) = false) ∧
      (s.ft < parBytes c 8 8)) ∧
    (∃ (s : State) (c : Cmd), s.Inv ∧ (s.ready 0x0502 c = true) ∧ (onlyM (s.issuer c.path) = true) ∧ ((cleanCmd c [(0, 8),
      (64, 64)] true && decide (parBytes c 0 1 < 128)) = true) ∧ ((s.on (SCH_GATE_STATUS_PENDING (parBytes c 0 1))) = false) ∧
      ((s.opsFull (s.issuer c.path)) = false) ∧ (opFlag c = true) ∧ (s.on (SCH_GATE_STATUS_LIST_VALID (parBytes c 0 1)) = false) ∧
      (s.ft < parBytes c 8 8)) ∧
    (∃ (s : State) (c : Cmd), s.Inv ∧ (s.ready 0x0502 c = true) ∧ (onlyM (s.issuer c.path) = true) ∧ ((cleanCmd c [(0, 8),
      (64, 64)] true && decide (parBytes c 0 1 < 128)) = true) ∧ (parBytes c 8 8 < s.ft)) ∧
    (∃ (s : State) (c : Cmd), s.Inv ∧ (s.ready 0x0503 c = true) ∧ (onlyM (s.issuer c.path) = true) ∧
      ((cleanCmd c [(0, 8)] false && decide (parBytes c 0 1 < 128)) = true) ∧ (s.on (SCH_GATE_STATUS_PENDING (parBytes c 0 1)) = true)) ∧
    (∃ (s : State) (c : Cmd), s.Inv ∧ (s.ready 0x0503 c = true) ∧ (onlyM (s.issuer c.path) = true) ∧
      ((cleanCmd c [(0, 8)] false && decide (parBytes c 0 1 < 128)) = true) ∧ (s.on (SCH_GATE_STATUS_PENDING (parBytes c 0 1)) = false)) ∧
    (∃ (s : State) (c : Cmd) (j : Nat), s.Inv ∧ (s.ready 0x0504 c = true) ∧ (onlyM (s.issuer c.path) = true) ∧ ((cleanCmd c [(0, 16),
      (16, 8), (24, 8), (32, 8), (64, 32),
      (96, 16)] true && (decide (parBytes c 0 2 < 4096) || (parBytes c 0 2 == 0xFFFF && !opFlag c && parBytes c 2 1 != 3)) && decide (1 ≤ parBytes c 2 1) && decide (parBytes c 2 1 ≤ 3) && decide (parBytes c 3 1 < 128) && decide (parBytes c 4 1 < 8) && (opFlag c || decide (1 ≤ parBytes c 8 4) && decide (parBytes c 8 4 ≤ 512000))) = true) ∧ (((s.attached (parBytes c 2 1) (parBytes c 3 1) (parBytes c 4 1)).isSome) = false) ∧ (opFlag c = false) ∧ (parBytes c 2 1 ≠ 3) ∧ (if parBytes c 0 2 < 4096 then j = parBytes c 0 2 ∧ s.on (SHP_VALID j) = false else s.spareShaper = some j)) ∧
    (∃ (s : State) (c : Cmd) (i : Nat), s.Inv ∧ (s.ready 0x0504 c = true) ∧ (onlyM (s.issuer c.path) = true) ∧ ((cleanCmd c [(0, 16),
      (16, 8), (24, 8), (32, 8), (64, 32),
      (96, 16)] true && (decide (parBytes c 0 2 < 4096) || (parBytes c 0 2 == 0xFFFF && !opFlag c && parBytes c 2 1 != 3)) && decide (1 ≤ parBytes c 2 1) && decide (parBytes c 2 1 ≤ 3) && decide (parBytes c 3 1 < 128) && decide (parBytes c 4 1 < 8) && (opFlag c || decide (1 ≤ parBytes c 8 4) && decide (parBytes c 8 4 ≤ 512000))) = true) ∧ (i = parBytes c 0 2) ∧ (opFlag c = false) ∧ (i < 4096) ∧ (s.on (SHP_VALID i) = true) ∧ (s.rd (SHP_KIND i) = parBytes c 2 1) ∧ (parBytes c 2 1 = 3)) :=
  ⟨⟨up, (pkt 0xfe0000003200000001000000640000000002000209#448), by decide +kernel⟩,
    ⟨up.wrs [(SCHX_SLEN 9, 1), (SCHX_WRITTEN 9, 1), (GATE_DURATION (gateIdx 2 9 0), 100),
      (GATE_OPEN (gateIdx 2 9 0), 255)], (pkt 0x3e80000000000000009#448), by decide +kernel⟩,
    ⟨up, ⟨.mgmt, 7, 0x10000, BitVec.ofNat 448 0x3e80000000000000009⟩, by decide +kernel⟩,
    ⟨{ up with clk := ⟨0, 2000, 0, 1⟩ }, (pkt 0x3e80000000000000009#448), by decide +kernel⟩,
    ⟨up.wr (SCH_GATE_STATUS_PENDING 9) 1, (pkt 0x9#448), by decide +kernel⟩,
    ⟨up, (pkt 0x9#448), by decide +kernel⟩,
    ⟨up, (pkt 0xa000003e8000000030901ffff#448), 0, by decide +kernel⟩,
    ⟨up.wrs [(SHP_VALID 5, 1), (SHP_KIND 5, 3)], (pkt 0xa000003e80000000000030005#448), 5, by decide +kernel⟩⟩

theorem witness_scheduling_2 :
    (∃ (s : State) (c : Cmd) (i : Nat), s.Inv ∧ (s.ready 0x0504 c = true) ∧ (onlyM (s.issuer c.path) = true) ∧ ((cleanCmd c [(0, 16),
      (16, 8), (24, 8), (32, 8), (64, 32),
      (96, 16)] true && (decide (parBytes c 0 2 < 4096) || (parBytes c 0 2 == 0xFFFF && !opFlag c && parBytes c 2 1 != 3)) && decide (1 ≤ parBytes c 2 1) && decide (parBytes c 2 1 ≤ 3) && decide (parBytes c 3 1 < 128) && decide (parBytes c 4 1 < 8) && (opFlag c || decide (1 ≤ parBytes c 8 4) && decide (parBytes c 8 4 ≤ 512000))) = true) ∧ (i = parBytes c 0 2) ∧ (opFlag c = true) ∧ (i < 4096) ∧ (s.on (SHP_VALID i) = true) ∧ (s.rd (SHP_KIND i) ≠ 3)) ∧
    (∃ (s : State) (c : Cmd), s.Inv ∧ (s.ready 0x0505 c = true) ∧ (onlyM (s.issuer c.path) = true) ∧ ((cleanCmd c [(0, 8), (8, 8), (16, 1),
      (24, 7), (32, 7), (40, 7), (64, 128)] false && decide (parBytes c 0 1 < 128) && (idxs 8 fun t =>
      decide (parBytes c (8 + 2 * t) 2 < 64)).isEmpty) = true)) ∧
    (∃ (s : State) (c : Cmd), s.Inv ∧ (s.ready 0x0506 c = true) ∧ (onlyM (s.issuer c.path) = true) ∧ ((cleanCmd c [(0, 8),
      (64, 192)] false && decide (parBytes c 0 1 < 128) && (idxs 24 fun q => alphaOf (parBytes c (8 + q) 1) == 8).isEmpty) = true)) ∧
    (∃ (s : State) (b : BitVec 8), s.Inv ∧ (-4 ≤ b.toInt) ∧ (b.toInt ≤ 3)) ∧
    (∃ (s : State) (p : Port) (e : Nat), s.Inv ∧ (s.on (SCH_GATE_STATUS_LIST_VALID p) = true) ∧ (s.rd (SCH_GATE_STATUS_ENTRY p) + 1 = e) ∧
      (e < s.rd (SCHX_LEN p)) ∧ (e < 64)) ∧
    (∃ (s : State) (p : Port), s.Inv ∧ (s.on (SCH_GATE_STATUS_LIST_VALID p) = false)) ∧
    (∃ (s : State) (p : Port), s.Inv ∧ (s.on (SCH_GATE_STATUS_LIST_VALID p) = true) ∧ (s.on (SCH_GATE_STATUS_PENDING p) = false) ∧
      (s.on (SCH_GATE_STATUS_REANCHOR_PENDING p) = false)) ∧
    (∃ (s : State) (p : Port), s.Inv ∧ (s.on (SCH_GATE_STATUS_LIST_VALID p) = false) ∧ (s.on (SCH_GATE_STATUS_PENDING p) = true)) :=
  ⟨⟨up.wrs [(SHP_VALID 5, 1), (SHP_KIND 5, 1)], ⟨.mgmt, 7, 0x10000, BitVec.ofNat 448 0x10005⟩, 5, by decide +kernel⟩,
    ⟨up, (pkt 0x6400640064006400640064006400640000000000000109#448), by decide +kernel⟩,
    ⟨up, (pkt 0xff0000000000000009#448), by decide +kernel⟩,
    ⟨State.reset, 255, by decide +kernel⟩,
    ⟨State.reset.wrs [(SCH_GATE_STATUS_LIST_VALID 9, 1), (SCHX_LEN 9, 2)], 9, 1, by decide +kernel⟩,
    ⟨State.reset, 9, by decide +kernel⟩,
    ⟨State.reset.wr (SCH_GATE_STATUS_LIST_VALID 9) 1, 9, by decide +kernel⟩,
    ⟨State.reset.wr (SCH_GATE_STATUS_PENDING 9) 1, 9, by decide +kernel⟩⟩

theorem witness_scheduling_3 :
    (∃ (s : State) (p : Port), s.Inv ∧ (s.on (SCH_GATE_STATUS_LIST_VALID p) = false) ∧ (s.on (SCH_GATE_STATUS_PENDING p) = false)) ∧
    (∃ (s : State) (p : Port) (t : Nat), s.Inv ∧ (s.on (SCHX_PCLEAR p) = true)) ∧
    (∃ (s : State) (v : BitVec 31), s.Inv ∧ (v.toNat % 4 = 3 ∨ v.toNat % 4 = 2 ∧ 4096 ≤ v.toNat / 4 % 8192)) ∧
    (∃ (s : State) (v : BitVec 31), s.Inv ∧ (v.toNat % 4 = 2) ∧ (v.toNat / 4 % 8192 < 4096)) :=
  ⟨⟨State.reset, 9, by decide +kernel⟩,
    ⟨State.reset.wr (SCHX_PCLEAR 9) 1, 9, 5, by decide +kernel⟩,
    ⟨State.reset, 3, by decide +kernel⟩,
    ⟨State.reset, 2, by decide +kernel⟩⟩

/-! SwitchCore -/

theorem witness_switch_core_1 :
    (∃ (s : State) (p : Port), s.Inv ∧ (s.switch.wait = [])) ∧
    (∃ (s : State) (p : Port) (n : Nat) (t : Tlp), s.Inv ∧ (∀ q < p.val, s.nextWaiting q = none) ∧ (s.nextWaiting p = some (n, t))) ∧
    (∃ (s : State) (n : Nat) (t : Tlp) (u : State), s.Inv ∧ (s.waitGroup n = none) ∧ (s.cameWhole n t = false) ∧
      (u = { s.fcReturn t.ingress (kindIdx t.kind) t.payload with switch := { s.switch with wait := removeFirst (fun w => w.1 == n) s.switch.wait, mcast := s.switch.mcast.filter fun x => x.1 != n } }) ∧ (u.tlpFence t = none) ∧ (u.unrouted (u.retarget t) = false)) ∧
    (∃ (s : State) (t : Tlp), s.Inv ∧ (s.mayCut t = false)) ∧
    (∃ (s : State) (t : Tlp), s.Inv ∧ (s.mayCut t = true)) ∧
    (∃ (s : State) (q c : Nat), s.Inv ∧ (q < 3072)) ∧
    (∃ (s : State) (p : Port) (e : Ecc) (cr : BitVec 24), s.Inv ∧ ((s.switch.txq.any fun x =>
      x.queue / 24 == p.val && x.started) = true ∨ s.moored = true)) ∧
    (∃ (s : State) (p : Port) (e : Ecc) (cr : BitVec 24), s.Inv ∧ (s.moored = false) ∧ ((s.switch.txq.any fun x =>
      x.queue / 24 == p.val) = false) ∧ ((s.switch.made.any fun m => m.2.1.egress == p) = false)) :=
  ⟨⟨State.reset, 9, by decide +kernel⟩,
    ⟨{ State.reset.wrs [(PRT_CFG_MODE 9, 2), (PRT_CFG_MODE 10, 2)] with switch := { State.reset.switch with wait := [(0, tlp)] } }, 9, 0, tlp, by decide +kernel⟩,
    ⟨{ State.reset.wrs [(PRT_CFG_MODE 9, 2), (PRT_CFG_MODE 10, 2)] with switch := { State.reset.switch with wait := [(0, tlp)] } }, 0, tlp, { ({ State.reset.wrs [(PRT_CFG_MODE 9, 2), (PRT_CFG_MODE 10, 2)] with switch := { State.reset.switch with wait := [(0, tlp)] } }).fcReturn 9 (kindIdx .posted) 80 with switch := { ({ State.reset.wrs [(PRT_CFG_MODE 9, 2), (PRT_CFG_MODE 10, 2)] with switch := { State.reset.switch with wait := [(0, tlp)] } }).switch with wait := [], mcast := [] } }, by decide +kernel⟩,
    ⟨State.reset, tlp, by decide +kernel⟩,
    ⟨State.reset.wrs [(PRT_CFG_MODE 9, 2), (PRT_CFG_MODE 10, 2), (PRT_LINK_STATUS_RATE 9, 4), (PRT_LINK_STATUS_RATE 10, 4),
      (PRT_LINK_STATUS_LTSSM 9, 3), (PRT_LINK_STATUS_LTSSM 10, 3), (PRT_LINK_STATUS_WIDTH 9, 4), (PRT_LINK_STATUS_WIDTH 10, 4),
      (SWC_PORT_CFG_CT_ENABLE 9, 1)], tlp, by decide +kernel⟩,
    ⟨State.reset, 0, 2, by decide +kernel⟩,
    ⟨queued [{ qt with started := true }], 10, .clean, 0xFFFFFF, by decide +kernel⟩,
    ⟨State.reset, 10, .clean, 0xFFFFFF, by decide +kernel⟩⟩

theorem witness_switch_core_2 :
    (∃ (s : State) (p : Port) (cr : BitVec 24) (t : State) (x : QTlp), s.Inv ∧ (s.moored = false) ∧ ((s.switch.txq.all fun x =>
      x.queue / 24 != p.val || !x.started) = true) ∧ ((((s.wr (SWX_LNKCR p) cr.toNat).intake fun q =>
      q == p.val).countGuard p).choose p = (t, some x)) ∧ (t.mgmt.inject = [])) ∧
    (∃ (s : State) (p t : Nat) (x : QTlp), s.Inv ∧ (t < 8) ∧ (bitSet (s.rd (SCH_TC_MODE_STRICT p)) t = true) ∧ (s.classHead p t = some x) ∧
      (∀ u < 8, t < u → bitSet (s.rd (SCH_TC_MODE_STRICT p)) u = true → s.classHead p u = none)) ∧
    (∃ (s : State) (q : Nat) (x : QTlp), s.Inv ∧ (s.eligible q = some x)) ∧
    (∃ (s : State) (p : Port) (id : Nat), s.Inv ∧ ((s.switch.txq.find? fun x =>
      x.order == id && x.queue / 24 == p.val && x.started) = none)) ∧
    (∃ (s : State) (p : Port) (id : Nat) (x : QTlp), s.Inv ∧ ((s.switch.txq.find? fun x =>
      x.order == id && x.queue / 24 == p.val && x.started) = some x) ∧ (s.rd (PRT_CFG_MODE p) ≠ 3) ∧ ((s.tether.sendq.all fun u =>
      u.port != p.val || u.unit.order != id + 1) = true) ∧ (s.moored = false) ∧ (x.isToAck = false) ∧
      (x.tlp.kind ≠ .nonPosted ∨ x.own.isSome = true)) ∧
    (∃ (s : State) (p : Port) (id : Nat) (x : QTlp), s.Inv ∧ ((s.switch.txq.find? fun x =>
      x.order == id && x.queue / 24 == p.val && x.started) = some x) ∧ (s.rd (PRT_CFG_MODE p) ≠ 3) ∧ ((s.tether.sendq.all fun u =>
      u.port != p.val || u.unit.order != id + 1) = true) ∧ (s.moored = false) ∧ (x.isToAck = false) ∧ (x.tlp.kind = .nonPosted) ∧
      (x.own = none)) ∧
    (∃ (s : State) (x : QTlp), s.Inv ∧ (x ∈ s.switch.txq) ∧ (x.queue < 3072)) ∧
    (∃ (s : State) (id : Nat) (x : QTlp), s.Inv ∧ ((s.switch.txq.filter fun x => x.order == id && !x.tailIn) = [x])) :=
  ⟨⟨queued [qt], 10, 0xFFFFFF, (((((queued [qt]).wr (SWX_LNKCR 10) 0xFFFFFF).intake fun q => q == 10).countGuard 10).choose 10).1, qt, by decide +kernel⟩,
    ⟨(queued [qt]).wr (SCH_TC_MODE_STRICT 10) 1, 10, 0, qt, by decide +kernel⟩,
    ⟨queued [qt], 240, qt, by decide +kernel⟩,
    ⟨queued [qt], 10, 7, by decide +kernel⟩,
    ⟨queued [{ qt with started := true }], 10, 7, { qt with started := true }, by decide +kernel⟩,
    ⟨queued [{ qt with started := true, tlp := { tlp with kind := .nonPosted } }], 10, 7, { qt with started := true, tlp := { tlp with kind := .nonPosted } }, by decide +kernel⟩,
    ⟨queued [qt], qt, by decide +kernel⟩,
    ⟨queued [{ qt with tailIn := false }], 7, { qt with tailIn := false }, by decide +kernel⟩⟩

theorem witness_switch_core_3 :
    (∃ (s : State) (x : QTlp), s.Inv ∧ (x.started = false)) ∧
    (∃ (s : State) (x : QTlp), s.Inv ∧ (x.started = true)) ∧
    (∃ (s : State) (id : Nat) (x : QTlp), s.Inv ∧ ((s.switch.txq.filter fun x => x.order == id && x.started) = [x])) ∧
    (∃ (s : State) (id : Nat) (c : TailFault), s.Inv ∧ (s.queued id = none)) ∧
    (∃ (s : State) (id : Nat) (x : QTlp), s.Inv ∧ ((s.switch.txq.find? fun x =>
      x.order == id && x.started && x.cutThrough && !x.tailIn) = some x)) ∧
    (∃ (s : State) (id : Nat), s.Inv ∧ ((s.switch.txq.find? fun x => x.order == id && x.started && x.cutThrough && !x.tailIn) = none)) ∧
    (∃ (s : State) (p : Port), s.Inv ∧ (0 < s.rd (SWC_PORT_CFG_STOMP_LIMIT p)) ∧
      (s.rd (SWC_PORT_CFG_STOMP_LIMIT p) ≤ (recent s.switch.stomps p s.now (100 * ms)).length) ∧
      (s.on (SWC_PORT_STATUS_SF_FALLBACK p) = false)) ∧
    (∃ (s : State) (p : Port), s.Inv ∧
      (s.rd (SWC_PORT_CFG_STOMP_LIMIT p) = 0 ∨ (recent s.switch.stomps p s.now (100 * ms)).length < s.rd (SWC_PORT_CFG_STOMP_LIMIT p) ∨ s.on (SWC_PORT_STATUS_SF_FALLBACK p) = true)) :=
  ⟨⟨queued [{ qt with tailIn := false }], { qt with tailIn := false }, by decide +kernel⟩,
    ⟨queued [{ qt with started := true, tailIn := false }], { qt with started := true, tailIn := false }, by decide +kernel⟩,
    ⟨queued [{ qt with started := true }], 7, { qt with started := true }, by decide +kernel⟩,
    ⟨State.reset, 7, .cell, by decide +kernel⟩,
    ⟨queued [{ qt with started := true, cutThrough := true, tailIn := false }], 7, { qt with started := true, cutThrough := true, tailIn := false }, by decide +kernel⟩,
    ⟨queued [qt], 7, by decide +kernel⟩,
    ⟨{ State.reset.wr (SWC_PORT_CFG_STOMP_LIMIT 9) 1 with switch := { State.reset.switch with stomps := [(9, 0)] } }, 9, by decide +kernel⟩,
    ⟨State.reset, 9, by decide +kernel⟩⟩

theorem witness_switch_core_4 :
    (∃ (s : State) (q : Fin 3072), s.Inv ∧ (s.inQueue q = [])) ∧
    (∃ (s : State) (q : Fin 3072) (x : QTlp) (l : List QTlp), s.Inv ∧ (s.inQueue q = x :: l) ∧
      (x.started = true ∨ bitSet (s.rd (SCH_GATE_STATUS_OPEN (q.val / 24))) (q.val / 3 % 8) = false ∨ s.on (PRT_CYT_STATUS_IN_GRACE (q.val / 24)) = true)) ∧
    (∃ (s : State) (q : Fin 3072) (x : QTlp) (l : List QTlp), s.Inv ∧ (s.inQueue q = x :: l) ∧ (x.started = false) ∧
      (bitSet (s.rd (SCH_GATE_STATUS_OPEN (q.val / 24))) (q.val / 3 % 8) = true) ∧ (s.on (PRT_CYT_STATUS_IN_GRACE (q.val / 24)) = false) ∧
      (s.on (SWC_QUEUE_AGED q) = false)) ∧
    (∃ (s : State) (q : Fin 3072), s.Inv ∧ (s.on (SWC_QUEUE_AGED q) = true) ∧ (s.linkUp (q.val / 24) = true) ∧
      (s.linkCredit (q.val / 24) (q.val / 3 % 8) (q.val % 3) 0 = true)) ∧
    (∃ (s : State) (q : Fin 3072), s.Inv ∧
      (s.on (SWC_QUEUE_AGED q) = false ∨ s.linkUp (q.val / 24) = false ∨ s.linkCredit (q.val / 24) (q.val / 3 % 8) (q.val % 3) 0 = false)) ∧
    (∃ (s : State) (t : Tlp) (n : Fin 256), s.Inv ∧ (s.on (SWC_MC_CFG_VALID n) = false) ∧ (s.awake = true)) ∧
    (∃ (s : State) (t : Tlp) (n : Fin 256), s.Inv ∧ (s.on (SWC_MC_CFG_VALID n) = true) ∧ (s.sourceFence t = none) ∧
      (s.waitsBehind t = false) ∧ (s.withheld (s.rd SYS_ORDER) t = false) ∧ (s.awake = true)) ∧
    (∃ (s : State) (t : Tlp) (n : Fin 256), s.Inv ∧ (s.on (SWC_MC_CFG_VALID n) = true) ∧ (s.sourceFence t = none) ∧
      (s.waitsBehind t = true ∨ s.withheld (s.rd SYS_ORDER) t = true) ∧ (s.rd (PRT_CFG_MODE t.ingress) ≠ 3) ∧ (s.awake = true)) :=
  ⟨⟨State.reset, 240, by decide +kernel⟩,
    ⟨queued [{ qt with started := true }], 240, { qt with started := true }, [], by decide +kernel⟩,
    ⟨queued [qt], 240, qt, [], by decide +kernel⟩,
    ⟨(queued []).wr (SWC_QUEUE_AGED 240) 1, 240, by decide +kernel⟩,
    ⟨State.reset, 240, by decide +kernel⟩,
    ⟨State.reset, tlp, 3, by decide +kernel⟩,
    ⟨State.reset.wr (SWC_MC_CFG_VALID 3) 1, tlp, 3, by decide +kernel⟩,
    ⟨{ State.reset.wrs [(PRT_CFG_MODE 9, 2), (PRT_CFG_MODE 10, 2), (SWC_MC_CFG_VALID 3, 1), (SYS_ORDER, 5)] with switch := { State.reset.switch with wait := [(0, tlp)] } }, tlp, 3, by decide +kernel⟩⟩

theorem witness_switch_core_5 :
    (∃ (s : State) (t : Tlp) (n : Fin 256) (f : Nat × Nat), s.Inv ∧ (s.on (SWC_MC_CFG_VALID n) = true) ∧ (s.sourceFence t = some f) ∧
      (s.awake = true)) ∧
    (∃ (s : State) (t : Tlp) (n : Fin 256) (p : Nat), s.Inv ∧ (p < 128) ∧ (t.payload ≤ s.maxPayload p) ∧
      (s.notExpressible { t with egress := Fin.ofNat 128 p } = false) ∧ (s.bmeRefuses t p = false) ∧
      (s.missReason p t.tc (cellsOf t.stored) = 0) ∧ (s.on (SWC_QUEUE_AGED (queueOf p t.tc 0)) = false)) ∧
    (∃ (s : State) (t : Tlp) (n : Fin 256) (p : Nat), s.Inv ∧ (p < 128) ∧ (t.payload ≤ s.maxPayload p) ∧
      (s.notExpressible { t with egress := Fin.ofNat 128 p } = false) ∧ (s.bmeRefuses t p = false) ∧
      (s.missReason p t.tc (cellsOf t.stored) ≠ 0)) ∧
    (∃ (s : State) (h r t c : Nat) (data : List (BitVec 8)) (poison : Bool) (p : Nat), s.Inv ∧ (s.hostPort h = some p) ∧
      (bitSet (s.rd (BFX_ECRC (48 + h))) 0 = false)) ∧
    (∃ (s : State) (m : Nat × Tlp × OwnTlp), s.Inv ∧ (s.on (SWC_QUEUE_AGED (tlpQueue m.2.1)) = false)) ∧
    (∃ (s : State) (m : Nat × Tlp × OwnTlp) (f : Nat → Bool), s.Inv ∧ (s.switch.made = [m]) ∧ (f m.2.1.egress.val = true) ∧
      (s.admits (tlpQueue m.2.1) (cellsOf m.2.1.stored) = true)) ∧
    (∃ (s : State) (x : QTlp) (o : Out) (p : Nat), s.Inv ∧ (x.own = some (.out o)) ∧ (x.tlp.ep = false)) ∧
    (∃ (s : State) (x : QTlp) (p : Nat), s.Inv ∧ (x.own = none)) :=
  ⟨⟨State.reset.wrs [(SWC_MC_CFG_VALID 3, 1), (DOM_STATE (domIdx 1 9), 1)], tlp, 3, (1, 9), by decide +kernel⟩,
    ⟨(queued []).wrs [(PRT_LINK_STATUS_DL_ACTIVE 10, 1), (SWC_PORT_STATUS_DEAD 10, 0)], tlp, 3, 10, by decide +kernel⟩,
    ⟨State.reset.wr (SWC_PORT_STATUS_DEAD 10) 1, tlp, 3, 10, by decide +kernel⟩,
    ⟨up, 1, 0x1000, 3, 4, [1, 2], false, 3, by decide +kernel⟩,
    ⟨{ queued [] with switch := { State.reset.switch with made := [(4, tlp, .out (.msix 1 2))] } }, (4, tlp, .out (.msix 1 2)), by decide +kernel⟩,
    ⟨{ queued [] with switch := { State.reset.switch with made := [(4, tlp, .out (.msix 1 2))] } }, (4, tlp, .out (.msix 1 2)), (fun _ =>
      true), by decide +kernel⟩,
    ⟨queued [], { qt with own := some (.out (.msix 1 2)) }, .msix 1 2, 10, by decide +kernel⟩,
    ⟨queued [], qt, 10, by decide +kernel⟩⟩

theorem witness_switch_core_6 :
    ∃ (s : State) (o : Outst) (st : Nat), s.Inv ∧ (s.outst = [o]) ∧ (o.quarantined = false) ∧ (o.store = false) ∧ (s.switch.failed = [(reqKey o.kind o.target, o.tag, st)]) :=
  ⟨{ State.reset with outst := [⟨.host, 1, 5, 0, 100, 0, 300, 0, 0, 0, false, none, none, [], false, false, 0, 0⟩], switch := { State.reset.switch with failed := [(1, 5, 4)] } }, ⟨.host, 1, 5, 0, 100, 0, 300, 0, 0, 0, false, none, none, [], false, false, 0, 0⟩, 4, by decide +kernel⟩

/-! PoolAccesses -/

theorem witness_pool_accesses_1 :
    (∃ (s : State) (b : Fin 61) (i : Nat), s.Inv ∧ ((s.pool.wb.filter fun e => e.buf == b.val)[i]? = none)) ∧
    (∃ (s : State) (b : Fin 61) (i : Nat) (e : WbEnt), s.Inv ∧ ((s.pool.wb.filter fun e => e.buf == b.val)[i]? = some e) ∧
      (s.mayPerform e = false)) ∧
    (∃ (s : State) (b : Fin 61) (i : Nat) (e : WbEnt), s.Inv ∧ ((s.pool.wb.filter fun e => e.buf == b.val)[i]? = some e) ∧
      (s.mayPerform e = true)) ∧
    (∃ (s : State) (src : Fin 129), s.Inv ∧ ((s.pool.wb.find? fun e => e.src == src.val && e.strict) = none)) ∧
    (∃ (s : State) (src : Fin 129) (e : WbEnt), s.Inv ∧ ((s.pool.wb.find? fun e => e.src == src.val && e.strict) = some e) ∧
      (s.mayPerform e = true)) ∧
    (∃ (s : State) (w line data : Nat), s.Inv ∧ (line % 64 = 0) ∧
      (s.rd BAL_STATUS_N = 1 ∨ s.rd BAL_STATUS_N = 2 ∨ s.rd BAL_STATUS_N = 4 ∨ s.rd BAL_STATUS_N = 8)) ∧
    (∃ (s : State) (w line mask data : Nat), s.Inv ∧ (line % 64 = 0) ∧
      (s.rd BAL_STATUS_N = 1 ∨ s.rd BAL_STATUS_N = 2 ∨ s.rd BAL_STATUS_N = 4 ∨ s.rd BAL_STATUS_N = 8)) ∧
    (∃ (s : State) (e : WbEnt), s.Inv ∧ (s.chDown e.line = true) ∧ (e.buf < 61) ∧ ((s.mapAddr e.line).1 < 8) ∧ (e ∈ s.pool.wb) ∧
      (s.pool.waiting = []) ∧ (e.tags = [])) :=
  ⟨⟨State.reset, 2, 0, by decide +kernel⟩,
    ⟨{ withStore ent with pool := { (withStore ent).pool with queue := [{ acc (.read 4) with seq := 1 }] } }, 2, 0, ent, by decide +kernel⟩,
    ⟨withStore ent, 2, 0, ent, by decide +kernel⟩,
    ⟨State.reset, 2, by decide +kernel⟩,
    ⟨withStore { ent with strict := true }, 2, { ent with strict := true }, by decide +kernel⟩,
    ⟨pool1, 0, 64, 5, by decide +kernel⟩,
    ⟨pool1, 0, 64, 3, 5, by decide +kernel⟩,
    ⟨(withStore ent).wr (BAL_CH_STATUS_STATE 0) 4, ent, by decide +kernel⟩⟩

theorem witness_pool_accesses_2 :
    (∃ (s : State) (id : Nat) (e : Ecc), s.Inv ∧ (s.accOf id = none)) ∧
    (∃ (s : State) (id : Nat) (e : Ecc) (a : PAcc) (n : Nat), s.Inv ∧ (s.accOf id = some a) ∧ (a.op = .read n) ∧ (a.via = .plain) ∧
      (s.mayServe a = true) ∧ ((linesOf a.addr n).any s.chDown = true)) ∧
    (∃ (s : State) (id : Nat) (a : PAcc) (n : Nat), s.Inv ∧ (s.accOf id = some a) ∧ (a.op = .read n) ∧ (a.via = .plain) ∧
      (s.mayServe a = true) ∧ ((linesOf a.addr n).any s.chDown = false) ∧ (s.mgmt.inject = [])) ∧
    (∃ (s : State) (a : PAcc) (n : Nat), s.Inv ∧ ((s.pool.wb.filter fun e => e.src == a.src) = [])) ∧
    (∃ (s : State) (id : Nat) (a : PAcc) (k : AtomicKind) (size op1 op2 : Nat), s.Inv ∧ (s.accOf id = some a) ∧
      (a.op = .atomic k size op1 op2) ∧ (a.via = .plain) ∧ (s.mayServe a = true) ∧ (s.mgmt.inject = []) ∧
      (s.chDown a.addr = true ∨ s.poisoned a.addr = true)) ∧
    (∃ (s : State) (id : Nat) (a : PAcc) (k : AtomicKind) (size op1 op2 : Nat), s.Inv ∧ (s.accOf id = some a) ∧
      (a.op = .atomic k size op1 op2) ∧ (a.via = .plain) ∧ (s.mayServe a = true) ∧ (s.mgmt.inject = []) ∧ (s.chDown a.addr = false) ∧
      (s.poisoned a.addr = false)) ∧
    (∃ (s : State) (id : Nat), s.Inv ∧ (s.accOf id = none)) ∧
    (∃ (s : State) (size old a b : Nat), s.Inv ∧ (old < 2 ^ (8 * size))) :=
  ⟨⟨State.reset, 7, .clean, by decide +kernel⟩,
    ⟨(withAcc (acc (.read 4))).wr (BAL_CH_STATUS_STATE 0) 4, 7, .clean, acc (.read 4), 4, by decide +kernel⟩,
    ⟨withAcc (acc (.read 4)), 7, acc (.read 4), 4, by decide +kernel⟩,
    ⟨pool1, acc (.read 4), 4, by decide +kernel⟩,
    ⟨(withAcc (acc (.atomic .swap 4 9 0))).wr (BAL_CH_STATUS_STATE 0) 4, 7, acc (.atomic .swap 4 9 0), .swap, 4, 9, 0, by decide +kernel⟩,
    ⟨withAcc (acc (.atomic .swap 4 9 0)), 7, acc (.atomic .swap 4 9 0), .swap, 4, 9, 0, by decide +kernel⟩,
    ⟨State.reset, 7, by decide +kernel⟩,
    ⟨State.reset, 4, 1, 2, 3, by decide +kernel⟩⟩

theorem witness_pool_accesses_3 :
    (∃ (s : State) (id : Nat) (a : PAcc) (n : Nat), s.Inv ∧ (s.accOf id = some a) ∧ (a.op = .read n) ∧ (a.via = .lr) ∧
      (s.mayServe a = true) ∧ (s.chDown a.addr = false) ∧ (s.mgmt.inject = [])) ∧
    (∃ (s : State) (id : Nat) (a : PAcc) (k : AtomicKind) (size op1 op2 : Nat), s.Inv ∧ (s.accOf id = some a) ∧
      (a.op = .atomic k size op1 op2) ∧ (a.via = .sc) ∧ (s.mayServe a = true) ∧ (s.mgmt.inject = []) ∧ (s.chDown a.addr = false) ∧
      (s.poisoned a.addr = false) ∧ (s.reserved a = false)) ∧
    (∃ (s : State) (id : Nat) (a : PAcc) (k : AtomicKind) (size op1 op2 : Nat), s.Inv ∧ (s.accOf id = some a) ∧
      (a.op = .atomic k size op1 op2) ∧ (a.via = .sc) ∧ (s.mayServe a = true) ∧ (s.mgmt.inject = []) ∧ (s.chDown a.addr = false) ∧
      (s.poisoned a.addr = false) ∧ (s.reserved a = true)) ∧
    (∃ (s : State) (id : Nat) (a : PAcc) (k : AtomicKind) (size op1 op2 : Nat), s.Inv ∧ (s.accOf id = some a) ∧
      (a.op = .atomic k size op1 op2) ∧ (a.via = .sc) ∧ (s.mayServe a = true) ∧ (s.mgmt.inject = []) ∧ (s.chDown a.addr = false) ∧
      (s.poisoned a.addr = false) ∧ (s.loops a = true) ∧ ((s.pool.lost.any fun r =>
      sameHolder r a && r.line == a.addr / 64 * 64) = true)) ∧
    (∃ (s : State), s.Inv ∧ (s.pool.resv = [])) ∧
    (∃ (s : State) (r : Resv) (l : List Resv), s.Inv ∧ (s.pool.resv = r :: l)) :=
  ⟨⟨withAcc { acc (.read 8) with via := .lr }, 7, { acc (.read 8) with via := .lr }, 8, by decide +kernel⟩,
    ⟨withAcc ({ acc (.atomic .swap 8 9 0) with via := .sc }), 7, { acc (.atomic .swap 8 9 0) with via := .sc }, .swap, 8, 9, 0, by decide +kernel⟩,
    ⟨{ withAcc ({ acc (.atomic .swap 8 9 0) with via := .sc }) with pool := { (withAcc ({ acc (.atomic .swap 8 9 0) with via := .sc })).pool with resv := [⟨2, 5, none, 0, 0, true⟩] } }, 7, { acc (.atomic .swap 8 9 0) with via := .sc }, .swap, 8, 9, 0, by decide +kernel⟩,
    ⟨{ withAcc ({ acc (.atomic .swap 8 9 0) with via := .sc }) with pool := { (withAcc ({ acc (.atomic .swap 8 9 0) with via := .sc })).pool with resv := [⟨2, 5, none, 0, 0, true⟩], lost := [⟨2, 5, none, 0, 0, true⟩] } }, 7, { acc (.atomic .swap 8 9 0) with via := .sc }, .swap, 8, 9, 0, by decide +kernel⟩,
    ⟨State.reset, by decide +kernel⟩,
    ⟨{ State.reset with pool := { State.reset.pool with resv := [⟨2, 5, none, 0, 0, true⟩] } }, ⟨2, 5, none, 0, 0, true⟩, [], by decide +kernel⟩⟩

/-! BarriersAndEpochs -/

theorem witness_barriers_and_epochs_1 :
    (∃ (s : State) (h : Host) (requester : BitVec 16) (tag : BitVec 14), s.Inv ∧ (s.bridle.held = [])) ∧
    (∃ (s : State) (h : Host), s.Inv ∧ ((s.pool.barriers.find? fun b => b.host == h.val) = none)) ∧
    (∃ (s : State) (h : Host) (b : Barrier), s.Inv ∧ ((s.pool.barriers.find? fun b => b.host == h.val) = some b) ∧
      (s.barrierMet b = false)) ∧
    (∃ (s : State) (h : Host) (b : Barrier) (p : Nat), s.Inv ∧ ((s.pool.barriers.find? fun b => b.host == h.val) = some b) ∧
      (s.hostPort h = some p) ∧ (s.barrierMet b = true) ∧ (s.rd (HOSTF_DISC_NODE h) = 0) ∧ (s.rd (HOSTF_DISC_PORT h) = 0) ∧
      (s.rd (HOSTF_DISC_CH h) = 0) ∧ (s.pool.waiting = []) ∧ (s.bridle.held = []) ∧ (b.dead = false) ∧ (s.contained 2 h = false) ∧
      (s.on (HOSTF_IN_RESET h) = false)) ∧
    (∃ (s : State) (h : Host) (b : Barrier), s.Inv ∧ ((s.pool.barriers.find? fun b => b.host == h.val) = some b) ∧ (s.barrierMet b = true) ∧
      (s.rd (HOSTF_DISC_CH h) ≠ 0) ∧ (s.bridle.held = [])) ∧
    (∃ (s : State) (h : Host) (d : Dom) (msix : Bool) (vec : BitVec 11), s.Inv ∧
      (s.on (ORD_DOM_CFG_VALID d) = false ∨ bitSet (s.rd (ORD_EPOCH_STATUS_GRANTED h)) d = false)) ∧
    (∃ (s : State) (h : Host) (d : Dom) (msix : Bool) (vec : BitVec 11), s.Inv ∧ (s.on (ORD_DOM_CFG_VALID d) = true) ∧
      (bitSet (s.rd (ORD_EPOCH_STATUS_GRANTED h)) d = true) ∧ (s.closeOf d = none) ∧ (s.on (ORD_DOM_STATUS_DEGRADED d) = false)) ∧
    (∃ (s : State) (h : Host) (d : Dom) (msix : Bool) (vec : BitVec 11) (k : Close), s.Inv ∧ (s.on (ORD_DOM_CFG_VALID d) = true) ∧
      (bitSet (s.rd (ORD_EPOCH_STATUS_GRANTED h)) d = true) ∧ (s.closeOf d = some k) ∧ ((s.pool.closes.any fun x =>
      x.dom == d.val && x.pending) = false)) :=
  ⟨⟨State.reset, 2, 3, 5, by decide +kernel⟩,
    ⟨State.reset, 2, by decide +kernel⟩,
    ⟨{ withAcc { acc (.read 4) with seq := 1 } with pool := { (withAcc { acc (.read 4) with seq := 1 }).pool with barriers := [⟨2, 0, 3, 5, 1, false, 0, 8⟩] } }, 2, ⟨2, 0, 3, 5, 1, false, 0, 8⟩, by decide +kernel⟩,
    ⟨{ State.reset.wrs [(HOSTF_IN_RESET 2, 0), (HOSTF_PORT 2, 10)] with pool := { State.reset.pool with barriers := [⟨2, 0, 3, 5, 1, false, 0, 8⟩] } }, 2, ⟨2, 0, 3, 5, 1, false, 0, 8⟩, 9, by decide +kernel⟩,
    ⟨{ State.reset.wr (HOSTF_DISC_CH 2) 1 with pool := { State.reset.pool with barriers := [⟨2, 0, 3, 5, 1, false, 0, 8⟩] } }, 2, ⟨2, 0, 3, 5, 1, false, 0, 8⟩, by decide +kernel⟩,
    ⟨State.reset, 2, 0, false, 0, by decide +kernel⟩,
    ⟨State.reset.wrs [(ORD_DOM_CFG_VALID 0, 1), (ORD_EPOCH_STATUS_GRANTED 2, 1)], 2, 0, false, 0, by decide +kernel⟩,
    ⟨(closing 1).wrs [(ORD_DOM_CFG_VALID 0, 1),
      (ORD_EPOCH_STATUS_GRANTED 2, 1)], 2, 0, false, 0, ⟨0, false, 1, [], 0, 0⟩, by decide +kernel⟩⟩

theorem witness_barriers_and_epochs_2 :
    (∃ (s : State) (d : Dom), s.Inv ∧ (s.closeOf d = none)) ∧
    (∃ (s : State) (d : Dom) (k : Close), s.Inv ∧ (s.closeOf d = some k) ∧ (k.stage ≠ 1 ∨ s.drained k = false)) ∧
    (∃ (s : State) (d : Dom) (k : Close), s.Inv ∧ (s.closeOf d = some k) ∧ (k.stage = 1) ∧ (s.drained k = true) ∧ (s.refuses d = false) ∧
      (s.on (ORD_DOM_CFG_MIRRORED d) = true) ∧ (s.rd (ORD_DOM_STATUS_MIRROR_STATE d) = 2)) ∧
    (∃ (s : State) (d : Dom) (k : Close), s.Inv ∧ (s.closeOf d = some k) ∧ (k.stage = 1) ∧ (s.drained k = true) ∧ (s.refuses d = false) ∧
      (s.on (ORD_DOM_CFG_MIRRORED d) = false)) ∧
    (∃ (s : State) (d : Dom) (k : Close), s.Inv ∧ (s.closeOf d = some k) ∧ (k.stage = 1) ∧ (s.drained k = true) ∧ (s.refuses d = true)) ∧
    (∃ (s : State) (d : Dom) (k : Close), s.Inv ∧ (s.closeOf d = some k) ∧ (k.stage = 2)) ∧
    (∃ (s : State) (d : Dom) (k : Close), s.Inv ∧ (k.dom = d) ∧ (k.closers = []) ∧ (s.pool.waiting = []) ∧
      (s.on (ORD_DOM_STATUS_DEGRADED d) = false) ∧ ((s.pool.closes.any fun c => c.dom == d.val && c.pending) = false)) ∧
    (∃ (s : State) (n : Node), s.Inv ∧ ((s.pool.mirror.find? fun m => m.peer == n.val) = none)) :=
  ⟨⟨State.reset, 0, by decide +kernel⟩,
    ⟨closing 2, 0, ⟨0, false, 2, [], 0, 0⟩, by decide +kernel⟩,
    ⟨(closing 1).wrs [(ORD_DOM_CFG_MIRRORED 0, 1), (ORD_DOM_STATUS_MIRROR_STATE 0, 2)], 0, ⟨0, false, 1, [], 0, 0⟩, by decide +kernel⟩,
    ⟨closing 1, 0, ⟨0, false, 1, [], 0, 0⟩, by decide +kernel⟩,
    ⟨(closing 1).wrs [(ORD_DOM_STATUS_DEGRADED 0, 1), (ORD_DOM_CFG_POLICY 0, 1)], 0, ⟨0, false, 1, [], 0, 0⟩, by decide +kernel⟩,
    ⟨closing 2, 0, ⟨0, false, 2, [], 0, 0⟩, by decide +kernel⟩,
    ⟨closing 1, 0, ⟨0, false, 1, [], 0, 0⟩, by decide +kernel⟩,
    ⟨State.reset, 3, by decide +kernel⟩⟩

theorem witness_barriers_and_epochs_3 :
    (∃ (s : State) (n : Node) (m : MirLine), s.Inv ∧ ((s.pool.mirror.find? fun m => m.peer == n.val) = some m) ∧ (s.pool.waiting = []) ∧
      (s.reachable n = true) ∧ (s.contained 5 n = false) ∧ (m.mask ≠ 0)) ∧
    (∃ (s : State) (n : Node) (d : Dom) (line : BitVec 40) (mask : BitVec 64) (data : BitVec 512) (poison : Bool), s.Inv ∧
      (s.windowAt (line.toNat / 64 * 64) = none) ∧ (s.reachable n = false)) ∧
    (∃ (s : State) (n : Node) (d : Dom) (line : BitVec 40) (mask : BitVec 64) (data : BitVec 512) (w : Nat) (poison : Bool), s.Inv ∧
      (s.windowAt (line.toNat / 64 * 64) = some w) ∧ (s.winDom w = some d.val) ∧ (s.on (ORD_DOM_CFG_MIRROR_TARGET d) = true)) ∧
    (∃ (s : State) (w a mask data : Nat) (poison : Bool) (c : PAcc), s.Inv ∧ (s.pastDrain = false) ∧
      (c = ⟨s.rd SYS_ORDER, 60, .plain, a, .store (leBytes 64 data), b2n poison, none, mask, w, s.rd SYS_ORDER, 0, 128⟩) ∧
      (s.poolFence 60 w = none) ∧ ((s.bump SYS_ORDER).mustWait c = false)) ∧
    (∃ (s : State) (e : WbEnt), s.Inv ∧ (e.poison = true)) ∧
    (∃ (s : State) (n : Nat), s.Inv ∧ ((s.pool.wb.all fun e => e.src != 60) = true)) ∧
    (∃ (s : State) (n : Node) (d : Dom) (e : BitVec 62), s.Inv ∧ (s.on (ORD_DOM_CFG_MIRROR_TARGET d) = true) ∧ ((s.pool.wb.all fun e =>
      e.src != 60) = true)) ∧
    (∃ (s : State) (n : Node) (d : Dom) (e : BitVec 62) (x : WbEnt), s.Inv ∧ (s.on (ORD_DOM_CFG_MIRROR_TARGET d) = true) ∧
      (s.pool.waiting = []) ∧ (s.pool.wb = [x]) ∧ (x.src = 60)) :=
  ⟨⟨{ State.reset.wrs [(NRT_VALID 3, 1), (NRT_LISTED 3, 1), (NRT_TETHER0 3, 9), (PRT_CFG_MODE 9, 3), (PRT_CYT_STATUS_STATE 9, 7)] with pool := { State.reset.pool with mirror := [⟨3, 0, 64, fullMask, 5, false⟩] } }, 3, ⟨3, 0, 64, fullMask, 5, false⟩, by decide +kernel⟩,
    ⟨State.reset, 3, 0, 64, 1, 5, false, by decide +kernel⟩,
    ⟨pool1.wrs [(WIN_VALID 5, 1), (WIN_LIMIT 5, 0xFFFF), (WIN_DOMAIN_VALID 5, 1),
      (ORD_DOM_CFG_MIRROR_TARGET 0, 1)], 3, 0, 64, 1, 5, 5, false, by decide +kernel⟩,
    ⟨pool1.wrs [(WIN_VALID 5, 1), (WIN_LIMIT 5, 0xFFFF), (WIN_DOMAIN_VALID 5, 1),
      (ORD_DOM_CFG_MIRROR_TARGET 0, 1)], 5, 64, 1, 5, false, ⟨0, 60, .plain, 64, .store (leBytes 64 5), 0, none, 1, 5, 0, 0, 128⟩, by decide +kernel⟩,
    ⟨withStore { ent with poison := true }, { ent with poison := true }, by decide +kernel⟩,
    ⟨withStore ent, 3, by decide +kernel⟩,
    ⟨State.reset.wr (ORD_DOM_CFG_MIRROR_TARGET 0) 1, 3, 0, 5, by decide +kernel⟩,
    ⟨(withStore { ent with buf := 60, src := 60 }).wr (ORD_DOM_CFG_MIRROR_TARGET 0) 1, 3, 0, 5, { ent with buf := 60, src := 60 }, by decide +kernel⟩⟩

theorem witness_barriers_and_epochs_4 :
    ∃ (s : State) (n : Node) (d : Dom) (e : BitVec 62), s.Inv ∧ (s.on (ORD_DOM_CFG_MIRROR_TARGET d) = false) :=
  ⟨State.reset, 3, 0, 5, by decide +kernel⟩

/-! PoolMaintenance -/

theorem witness_pool_maintenance_1 :
    (∃ (s : State) (c : Chan) (crc : Bool), s.Inv ∧ (s.rd (BAL_CH_STATUS_STATE c) = 2)) ∧
    (∃ (s : State) (c : Chan) (crc : Bool), s.Inv ∧ (s.rd (BAL_CH_STATUS_STATE c) ≠ 2)) ∧
    (∃ (s : State) (a : BitVec 40), s.Inv ∧ (a.toNat < s.poolC) ∧ (s.rd PWR_STATUS_STATE ≤ 1) ∧ (s.on PWR_STATUS_ENTERING = false) ∧
      (a.toNat / 64 = s.rd PATX_LINE) ∧ (s.mgmt.inject = []) ∧ (a.toNat / 64 + 1 = s.poolC / 64)) ∧
    (∃ (s : State) (a : BitVec 40), s.Inv ∧ (a.toNat < s.poolC) ∧ (s.rd PWR_STATUS_STATE ≤ 1) ∧ (s.on PWR_STATUS_ENTERING = false) ∧
      (a.toNat / 64 = s.rd PATX_LINE) ∧ (s.mgmt.inject = []) ∧ (a.toNat / 64 + 1 ≠ s.poolC / 64)) ∧
    (∃ (s : State) (a : BitVec 40), s.Inv ∧ (a.toNat < s.poolC) ∧ (s.rd PWR_STATUS_STATE ≤ 1) ∧ (s.on PWR_STATUS_ENTERING = false) ∧
      (a.toNat / 64 = s.rd PATX_LINE) ∧ (s.mgmt.inject = []) ∧ (s.chDown a.toNat = false) ∧ (a.toNat / 64 + 1 ≠ s.poolC / 64) ∧
      (s.rd BAL_SCRUB_UE_LIMIT = 0) ∧ (a.toNat % 64 = 0) ∧ ((s.mapAddr a.toNat).1 < 8)) ∧
    (∃ (s : State) (a : BitVec 40) (e : Ecc), s.Inv ∧ (a.toNat < s.poolC) ∧ (s.rd PWR_STATUS_STATE ≤ 1) ∧
      (s.on PWR_STATUS_ENTERING = false) ∧ (a.toNat / 64 = s.rd PATX_LINE) ∧ (s.chDown a.toNat = true) ∧
      (a.toNat / 64 + 1 ≠ s.poolC / 64)) ∧
    (∃ (s : State) (a : BitVec 40) (e : Ecc), s.Inv ∧
      (s.poolC ≤ a.toNat ∨ 1 < s.rd PWR_STATUS_STATE ∨ s.on PWR_STATUS_ENTERING = true ∨ a.toNat / 64 ≠ s.rd PATX_LINE)) ∧
    (∃ (s : State), s.Inv ∧ (s.on BAL_STATUS_INIT_BUSY = true)) :=
  ⟨⟨pool1, 0, true, by decide +kernel⟩,
    ⟨State.reset, 0, true, by decide +kernel⟩,
    ⟨pool1.wr PATX_LINE 0xFFFFFFF, 0x3FFFFFFC0, by decide +kernel⟩,
    ⟨pool1.wr PATX_LINE 1, 64, by decide +kernel⟩,
    ⟨pool1.wrs [(BAL_SCRUB_UE_LIMIT, 0), (PATX_LINE, 1)], 64, by decide +kernel⟩,
    ⟨pool1.wrs [(BAL_CH_STATUS_STATE 0, 4), (PATX_LINE, 1)], 64, .clean, by decide +kernel⟩,
    ⟨State.reset, 64, .clean, by decide +kernel⟩,
    ⟨State.reset.wr BAL_STATUS_INIT_BUSY 1, by decide +kernel⟩⟩

theorem witness_pool_maintenance_2 :
    (∃ (s : State), s.Inv ∧ (s.on BAL_STATUS_INIT_BUSY = false)) ∧
    (∃ (s : State) (c : Chan), s.Inv ∧ (s.rd (BAL_CH_STATUS_STATE c) = 2)) ∧
    (∃ (s : State) (c : Chan), s.Inv ∧ (s.rd (BAL_CH_STATUS_STATE c) ≠ 2)) ∧
    (∃ (s : State) (k : ReqKind) (target : Port) (tag : BitVec 14), s.Inv ∧ (s.reqOf k target tag.toNat = none)) ∧
    (∃ (s : State) (k : ReqKind) (target : Port) (tag : BitVec 14) (o : Outst), s.Inv ∧ (s.reqOf k target tag.toNat = some o) ∧
      (o.quarantined = true ∨ o.store = true ∨ o.src < 48)) ∧
    (∃ (s : State) (k : ReqKind) (target : Port) (tag : BitVec 14) (o : Outst), s.Inv ∧ (s.reqOf k target tag.toNat = some o) ∧
      (o.quarantined = false) ∧ (o.store = false) ∧ (o.src = noSource) ∧ (o.waiter = 0)) :=
  ⟨⟨State.reset, by decide +kernel⟩,
    ⟨pool1, 0, by decide +kernel⟩,
    ⟨State.reset, 0, by decide +kernel⟩,
    ⟨State.reset, .port, 9, 5, by decide +kernel⟩,
    ⟨{ State.reset with outst := [{ (⟨.port, 9, 5, 0, 1000, 0, 300, 0, 0, 0, false, none, none, [], false, false, 0, 0⟩ : Outst) with quarantined := true }] }, .port, 9, 5, { (⟨.port, 9, 5, 0, 1000, 0, 300, 0, 0, 0, false, none, none, [], false, false, 0, 0⟩ : Outst) with quarantined := true }, by decide +kernel⟩,
    ⟨{ State.reset with outst := [⟨.port, 9, 5, 0, 1000, 0, 300, 0, 0, 0, false, none, none, [], false, false, 0, 0⟩] }, .port, 9, 5, ⟨.port, 9, 5, 0, 1000, 0, 300, 0, 0, 0, false, none, none, [], false, false, 0, 0⟩, by decide +kernel⟩⟩

/-! PoolCommands -/

theorem witness_pool_commands_1 :
    (∃ (s : State) (c : Cmd) (w : Nat), s.Inv ∧ (s.ready 0x0601 c = true) ∧ (onlyM (s.issuer c.path) = true) ∧
      (cleanCmd c [(0, 8)] false = true) ∧ (s.anyWindow = false) ∧ (w = parBytes c 0 1) ∧ (w = 1 ∨ w = 2 ∨ w = 4 ∨ w = 8) ∧
      (w ≤ s.rd BAL_STATUS_N)) ∧
    (∃ (s : State) (c : Cmd), s.Inv ∧ (s.ready 0x0601 c = true) ∧ (onlyM (s.issuer c.path) = true) ∧ (cleanCmd c [(0, 8)] false = true) ∧
      (s.anyWindow = true)) ∧
    (∃ (s : State) (c : Cmd) (w : Nat) (a : WinAttr), s.Inv ∧ (s.ready 0x0602 c = true) ∧ (onlyM (s.issuer c.path) = true) ∧
      ((cleanCmd c [(0, 16), (16, 4), (24, 8), (32, 16), (64, 64),
      (128, 64)] false && decide (parBytes c 0 2 < 4096) && decide ((winOfCmd c).dom < 16) && decide ((winOfCmd c).owner < 1024) && (winOfCmd c).base % 4096 == 0 && (winOfCmd c).limit % 4096 == 4095 && decide ((winOfCmd c).base < (winOfCmd c).limit)) = true) ∧ ((s.windowOverlap w a) = false) ∧ ((decide (s.poolUsable ≤ a.limit)) = false) ∧ ((a.spill == 1 && a.domValid == 0) = false) ∧ ((a.strict == 1 && decide (16 ≤ (s.eraseWindow w).rd QUOTA_STRICT)) = false) ∧ ((a.spill == 1 && decide (16777216 < (s.eraseWindow w).rd QUOTA_SPILL + a.units)) = false) ∧ ((a.ownValid == 1 && decide ((s.eraseWindow w).rd (GND_POOL_QUOTA a.owner) < (s.eraseWindow w).rd (GND_POOL_USED a.owner) + a.units)) = false) ∧ ((s.on (WIN_VALID w) && { a with spill := (s.winAttr w).spill } != s.winAttr w && s.windowBusy w) = false) ∧ ((s.releasing 4 w) = false) ∧ (w = parBytes c 0 2) ∧ (a = winOfCmd c) ∧ (s.poolUsable < 2 ^ 40)) ∧
    (∃ (s : State) (c : Cmd), s.Inv ∧ (s.ready 0x0602 c = true) ∧ (onlyM (s.issuer c.path) = true) ∧ ((cleanCmd c [(0, 16), (16, 4),
      (24, 8), (32, 16), (64, 64),
      (128, 64)] false && decide (parBytes c 0 2 < 4096) && decide ((winOfCmd c).dom < 16) && decide ((winOfCmd c).owner < 1024) && (winOfCmd c).base % 4096 == 0 && (winOfCmd c).limit % 4096 == 4095 && decide ((winOfCmd c).base < (winOfCmd c).limit)) = true) ∧ (s.windowOverlap (parBytes c 0 2) (winOfCmd c) = true)) ∧
    (∃ (s : State) (c : Cmd), s.Inv ∧ (s.ready 0x0603 c = true) ∧ (onlyM (s.issuer c.path) = true) ∧
      ((cleanCmd c [(0, 16)] false && decide (parBytes c 0 2 < 4096)) = true) ∧ ((s.windowBusy (parBytes c 0 2)) = false) ∧
      ((s.releasing 4 (parBytes c 0 2)) = false) ∧ (s.on (WIN_VALID (parBytes c 0 2)) = true)) ∧
    (∃ (s : State) (c : Cmd), s.Inv ∧ (s.ready 0x0603 c = true) ∧ (onlyM (s.issuer c.path) = true) ∧
      ((cleanCmd c [(0, 16)] false && decide (parBytes c 0 2 < 4096)) = true) ∧ (s.on (WIN_VALID (parBytes c 0 2)) = false)) ∧
    (∃ (s : State) (c : Cmd), s.Inv ∧ (s.ready 0x0604 c = true) ∧ (onlyM (s.issuer c.path) = true) ∧ ((cleanCmd c [(0, 8),
      (8, 8)] false && decide (parBytes c 0 1 < 48) && (parBytes c 1 1 == 0 || decide (26 ≤ parBytes c 1 1) && decide (parBytes c 1 1 ≤ 40))) = true)) ∧
    (∃ (s : State) (c : Cmd), s.Inv ∧ (s.ready 0x0605 c = true) ∧ (onlyM (s.issuer c.path) = true) ∧ ((cleanCmd c [(0, 8),
      (8, 8)] false && decide (1 ≤ parBytes c 0 1) && decide (parBytes c 0 1 ≤ 168)) = true)) :=
  ⟨⟨up.wr BAL_STATUS_N 4, (pkt 0x2#448), 2, by decide +kernel⟩,
    ⟨up.wr (WIN_VALID 7) 1, (pkt 0x2#448), by decide +kernel⟩,
    ⟨pool1, (pkt 0x1fff00000000000010000000000000000005#448), 5, ⟨0x1000, 0x1FFF, 0, 0, 0, 0, 0, 0⟩, by decide +kernel⟩,
    ⟨pool1.wrs [(WIN_VALID 7, 1), (WIN_LIMIT 7, 0xFFFF)], (pkt 0x1fff00000000000010000000000000000005#448), by decide +kernel⟩,
    ⟨pool1.wr (WIN_VALID 5) 1, (pkt 0x5#448), by decide +kernel⟩,
    ⟨pool1, (pkt 0x5#448), by decide +kernel⟩,
    ⟨up, (pkt 0x1e02#448), by decide +kernel⟩,
    ⟨up, (pkt 0x518#448), by decide +kernel⟩⟩

theorem witness_pool_commands_2 :
    (∃ (s : State) (c : Cmd) (d : Nat), s.Inv ∧ (s.ready 0x0606 c = true) ∧ (onlyM (s.issuer c.path) = true) ∧ ((cleanCmd c [(0, 8), (8, 4),
      (16, 8), (24, 8), (32, 8), (64, 64),
      (128, 48)] true && decide (parBytes c 0 1 < 16) && decide (parBytes c 2 1 < 64) && decide (parBytes c 3 1 < 16) && decide (parBytes c 4 1 < 8) && parBytes c 8 8 % 4096 == 0 && !(parBits c 9 1 == 1 && parBits c 10 1 == 1)) = true) ∧ ((s.on (ORD_DOM_CFG_MIRROR_TARGET d) && parBits c 10 1 == 0 && s.routed (s.rd (ORD_DOM_CFG_PEER_NODE d)) && !opFlag c) = false) ∧ ((s.opBusy [0x0607] (fun o => parBytes o.cmd 0 1 == d)) = false) ∧ (d = parBytes c 0 1)) ∧
    (∃ (s : State) (c : Cmd) (d : Nat), s.Inv ∧ (s.ready 0x0607 c = true) ∧ (onlyM (s.issuer c.path) = true) ∧
      ((cleanCmd c [(0, 8)] false && decide (parBytes c 0 1 < 16)) = true) ∧ (s.poolBusy = false) ∧ ((s.opBusy [0x0607] (fun o =>
      parBytes o.cmd 0 1 == d)) = false) ∧ ((s.opsFull (s.issuer c.path)) = false) ∧ (d = parBytes c 0 1) ∧
      (s.on (ORD_DOM_CFG_MIRRORED d) = true) ∧ (s.rd (ORD_DOM_STATUS_MIRROR_STATE d) = 1 ∨ s.rd (ORD_DOM_STATUS_MIRROR_STATE d) = 3)) ∧
    (∃ (s : State) (c : Cmd) (d : Nat), s.Inv ∧ (s.ready 0x0608 c = true) ∧ (d = parBytes c 0 1) ∧ (d < 16) ∧
      (s.granted d (s.issuer c.path) = true) ∧ (cleanCmd c [(0, 8)] false = true) ∧ (s.on (ORD_DOM_CFG_VALID d) = true) ∧
      (s.closeOf d = none) ∧ (s.on (ORD_DOM_STATUS_DEGRADED d) = false)) ∧
    (∃ (s : State) (c : Cmd) (d : Nat), s.Inv ∧ (s.ready 0x0608 c = true) ∧ (d = parBytes c 0 1) ∧ (d < 16) ∧
      (s.granted d (s.issuer c.path) = false)) :=
  ⟨⟨up, (pkt 0x600000000000000000000000000000103#448), 3, by decide +kernel⟩,
    ⟨up.wrs [(ORD_DOM_CFG_MIRRORED 3, 1), (ORD_DOM_STATUS_MIRROR_STATE 3, 3)], (pkt 0x3#448), 3, by decide +kernel⟩,
    ⟨up.wr (ORD_DOM_CFG_VALID 3) 1, (pkt 0x3#448), 3, by decide +kernel⟩,
    ⟨up, ⟨.host 5, 7, 0, 3⟩, 3, by decide +kernel⟩⟩

/-! Lanes -/

theorem witness_lanes_1 :
    (∃ (s : State) (l : Lane) (v : BitVec 32), s.Inv ∧ (s.on (LAN_STATUS_OWNED l) = true)) ∧
    (∃ (s : State) (l : Lane) (v : BitVec 32), s.Inv ∧ (s.on (LAN_STATUS_OWNED l) = false)) ∧
    (∃ (s : State) (l : Lane), s.Inv ∧ (s.on (LAN_STATUS_OWNED l) = false) ∧ (s.on (LAN_CFG_TEST_EN l) = true) ∧
      (s.on (LAN_PRBS_CFG_GEN_EN l) = true) ∧ (s.patternRuns l = true) ∧ (s.rd (LAN_CFG_LOOPBACK l) ≠ 1)) ∧
    (∃ (s : State) (l : Lane), s.Inv ∧ (s.on (LAN_STATUS_OWNED l) = false) ∧ (s.on (LAN_CFG_TEST_EN l) = true) ∧
      (s.on (LAN_PRBS_CFG_GEN_EN l) = true) ∧ (s.patternRuns l = true) ∧ (s.rd (LAN_CFG_LOOPBACK l) = 1) ∧
      (s.on (LAN_PRBS_STATUS_CHK_LOCK l) = true)) ∧
    (∃ (s : State) (l : Lane), s.Inv ∧ (s.on (LAN_CFG_TEST_EN l) = false)) ∧
    (∃ (s : State) (l : Lane), s.Inv ∧ (s.on (LAN_STATUS_OWNED l) = false) ∧ (s.on (LAN_CFG_TEST_EN l) = true) ∧
      (s.on (LAN_PRBS_CFG_CHK_EN l) = true) ∧ (s.patternRuns l = true)) ∧
    (∃ (s : State) (l : Lane), s.Inv ∧ (s.on (LAN_STATUS_LOS l) = true)) ∧
    (∃ (s : State) (l : Lane) (n : Nat), s.Inv ∧ (s.on (LAN_STATUS_LOS l) = true) ∧ (s.on (LANX_QUIET l) = false) ∧
      (s.rd (LANX_RATE_AT l) = 0) ∧ (n = (s.now - s.rd (LANX_LOS_AT l)) / us)) :=
  ⟨⟨cyt 7, 16, 1, by decide +kernel⟩,
    ⟨State.reset, 16, 3, by decide +kernel⟩,
    ⟨State.reset.wrs [(LAN_CFG_TEST_EN 16, 1), (LAN_PRBS_CFG_GEN_EN 16, 1)], 16, by decide +kernel⟩,
    ⟨State.reset.wrs [(LAN_CFG_TEST_EN 16, 1), (LAN_PRBS_CFG_GEN_EN 16, 1), (LAN_CFG_LOOPBACK 16, 1),
      (LAN_PRBS_STATUS_CHK_LOCK 16, 1)], 16, by decide +kernel⟩,
    ⟨State.reset, 16, by decide +kernel⟩,
    ⟨State.reset.wrs [(LAN_CFG_TEST_EN 16, 1), (LAN_PRBS_CFG_CHK_EN 16, 1)], 16, by decide +kernel⟩,
    ⟨(cyt 7).wr (LAN_STATUS_LOS 16) 1, 16, by decide +kernel⟩,
    ⟨(cyt 7).wrs [(LAN_STATUS_LOS 16, 1), (LANX_QUIET 16, 0), (LANX_LOS_AT 16, 0), (LANX_RATE_AT 16, 0)], 16, 0, by decide +kernel⟩⟩

theorem witness_lanes_2 :
    (∃ (s : State) (l : Lane), s.Inv ∧ (s.on (LAN_STATUS_LOS l) = false ∨ s.on (LANX_QUIET l) = true)) ∧
    (∃ (s : State) (l : Lane), s.Inv ∧ (s.on (LAN_STATUS_LOS l) = false)) ∧
    (∃ (s : State) (l : Lane), s.Inv ∧ (s.holdsLock l = true)) ∧
    (∃ (s : State) (l : Lane), s.Inv ∧ (s.holdsLock l = false)) ∧
    (∃ (s : State) (l : Lane) (no : BitVec 8) (p : Nat) (n : Fin 16) (a b c d : Fin 3), s.Inv ∧ (s.ownerOf l = some p) ∧
      (s.on (LAN_STATUS_CYTRUM l) = true) ∧ (s.cyState p = cyEq) ∧ (s.on (LANX_TAP_SEEN l) = false ∨ s.rd (LANX_TAP_NO l) ≠ no.toNat) ∧
      (s.rd (LAN_STATUS_RATE l) ≠ 11) ∧ (n.val < 8)) ∧
    (∃ (s : State) (l : Lane) (no : BitVec 8) (p : Nat), s.Inv ∧ (s.ownerOf l = some p) ∧ (s.on (LAN_STATUS_CYTRUM l) = true) ∧
      (s.cyState p = cyEq) ∧ (s.on (LANX_TAP_SEEN l) = false ∨ s.rd (LANX_TAP_NO l) ≠ no.toNat) ∧ (0 < (s.taps l).m1)) ∧
    (∃ (s : State) (l : Lane) (no : BitVec 8) (n : Option (Fin 16)) (a b c d : Fin 3), s.Inv ∧ (s.ownerOf l = none)) ∧
    (∃ (s : State) (t : Taps) (pam4 : Bool) (a0 a1 a2 a3 : Fin 3), s.Inv ∧ (t.m2 ≤ 6) ∧ (t.m1 ≤ 16) ∧ (t.p1 ≤ 16) ∧ (t.p2 ≤ 6) ∧
      (32 ≤ t.main)) :=
  ⟨⟨cyt 7, 16, by decide +kernel⟩,
    ⟨State.reset, 16, by decide +kernel⟩,
    ⟨State.reset, 5, by decide +kernel⟩,
    ⟨up.wrs [(LAN_STATUS_OWNED 18, 1), (LAN_STATUS_OWNER_PORT 18, 9), (LAN_STATUS_CYTRUM 18, 1)], 18, by decide +kernel⟩,
    ⟨cyt 4, 16, 7, 9, 3, 0, 0, 0, 0, by decide +kernel⟩,
    ⟨(cyt 4).wr (LAN_TX_COEF_C_PRE1 16) 60, 16, 7, 9, by decide +kernel⟩,
    ⟨State.reset, 16, 7, none, 0, 0, 0, 0, by decide +kernel⟩,
    ⟨State.reset, ⟨0, 4, 8, 0⟩, true, 1, 1, 1, 1, by decide +kernel⟩⟩

/-! TetherTraining -/

theorem witness_tether_training_1 :
    (∃ (s : State) (p : Port), s.Inv ∧ (s.cyState p = cyConfig)) ∧
    (∃ (s : State) (p : Port), s.Inv ∧ (s.cyState p ≠ cyConfig)) ∧
    (∃ (s : State) (p : Port), s.Inv ∧ (s.cyState p = cyEq)) ∧
    (∃ (s : State) (p : Port), s.Inv ∧ (s.cyState p ≠ cyEq)) ∧
    (∃ (s : State) (p : Port), s.Inv ∧ (s.cyState p = cyInit)) ∧
    (∃ (s : State) (p : Port), s.Inv ∧ (s.cyState p ≠ cyInit)) ∧
    (∃ (s : State) (p : Port), s.Inv ∧ (s.cyState p = cyFailed)) ∧
    (∃ (s : State) (p : Port), s.Inv ∧ (s.cyState p ≠ cyFailed)) :=
  ⟨⟨cyt 3, 9, by decide +kernel⟩,
    ⟨cyt 7, 9, by decide +kernel⟩,
    ⟨cyt 4, 9, by decide +kernel⟩,
    ⟨cyt 7, 9, by decide +kernel⟩,
    ⟨cyt 6, 9, by decide +kernel⟩,
    ⟨cyt 7, 9, by decide +kernel⟩,
    ⟨cyt 9, 9, by decide +kernel⟩,
    ⟨cyt 7, 9, by decide +kernel⟩⟩

theorem witness_tether_training_2 :
    (∃ (s : State) (p : Port) (st : Nat), s.Inv ∧ (st < 16)) ∧
    (∃ (s : State) (p : Port), s.Inv ∧ (s.cyState p = cyDetect) ∧ (((s.portLanes p).any fun l => !s.on (LAN_STATUS_LOS l)) = true)) ∧
    (∃ (s : State) (p : Port), s.Inv ∧ (s.cyState p ≠ cyDetect)) ∧
    (∃ (s : State) (l : Lane) (i : Bool) (p : Nat), s.Inv ∧ (s.ownerOf l = some p) ∧ (p < 128) ∧ (s.on (LAN_STATUS_CYTRUM l) = true) ∧
      (s.cyState p = cyAlign) ∧ (s.rd (PRT_CFG_WIDTH p) = 0) ∧ (s.rd (PRT_CYT_STATUS_RATE p) = 8) ∧ (s.on (LANX_RXFORCE l) = false) ∧
      (l.val = 16 * (p / 8) + s.rd (PRT_CFG_FIRST_OFFSET p)) ∧ (s.rd (CYTX_LOCKED p) = 0) ∧ (s.rd (LANX_HIST_N l) = 64) ∧
      (s.rd (LANX_HIST l) = 0)) ∧
    (∃ (s : State) (l : Lane) (i : Bool), s.Inv ∧ (s.ownerOf l = none ∨ s.rd (LANX_HIST_N l) ≠ 64 ∨ s.rd (LANX_HIST l) ≠ 0)) ∧
    (∃ (s : State) (l : Lane) (p : Nat), s.Inv ∧ (s.ownerOf l = some p) ∧ (s.holdsLock l = true) ∧
      (s.on (LAN_STATUS_LOL l) = true ∨ s.wsMasked l = true) ∧ (s.rd (PRT_CYT_STATUS_WIDTH p) ≤ s.rd (LAN_STATUS_LOGICAL_LANE l)) ∧
      (p < 128) ∧ (16 ≤ s.badHeaders l)) ∧
    (∃ (s : State) (l : Lane) (p : Nat), s.Inv ∧ (s.ownerOf l = some p) ∧ (s.holdsLock l = true) ∧ (s.on (LAN_STATUS_LOL l) = false ∧
      s.wsMasked l = false ∨ s.rd (LAN_STATUS_LOGICAL_LANE l) < s.rd (PRT_CYT_STATUS_WIDTH p)) ∧ (16 ≤ s.badHeaders l)) ∧
    (∃ (s : State) (l : Lane), s.Inv ∧ (s.ownerOf l = none ∨ s.holdsLock l = false ∨ s.badHeaders l < 16)) :=
  ⟨⟨cyt 7, 9, 4, by decide +kernel⟩,
    ⟨cyt 1, 9, by decide +kernel⟩,
    ⟨cyt 7, 9, by decide +kernel⟩,
    ⟨headers ((cyt 2).wrs [(PRT_CFG_WIDTH 9, 0), (PRT_CYT_STATUS_RATE 9, 8), (LANX_RXFORCE 16, 0)]) 0, 16, true, 9, by decide +kernel⟩,
    ⟨State.reset, 16, true, by decide +kernel⟩,
    ⟨(headers (cyt 2) 0xFFFF).wrs [(LAN_STATUS_LOL 16, 1), (CYTX_LOCKED 9, 1)], 16, 9, by decide +kernel⟩,
    ⟨(headers (cyt 7) 0xFFFF).wrs [(CYTX_LOCKED 9, 1), (PRT_CYT_STATUS_WIDTH 9, 1)], 16, 9, by decide +kernel⟩,
    ⟨State.reset, 16, by decide +kernel⟩⟩

theorem witness_tether_training_3 :
    (∃ (s : State) (p : Port), s.Inv ∧ (s.cyState p = cyAlign) ∧ (bitSet (s.rd (CYTX_LOCKED p)) 0 = true)) ∧
    (∃ (s : State) (p : Port), s.Inv ∧ (s.cyState p = cyAlign) ∧ (bitSet (s.rd (CYTX_LOCKED p)) 0 = false)) ∧
    (∃ (s : State) (p : Port) (r : Bool), s.Inv ∧ (s.phase p ≠ cyAlign)) ∧
    (∃ (s : State) (p : Port) (node : Option Node) (serial : BitVec 64) (rates : BitVec 4) (fw : Fin 17) (fl : BitVec 16) (rev : Bool), s.Inv ∧ (s.phase p ≠ cyConfig)) ∧
    (∃ (s : State) (p : Port) (n : Node) (serial : BitVec 64) (rates : BitVec 4) (fw : Fin 17) (fl : BitVec 16) (rev : Bool), s.Inv ∧
      (s.cyState p = cyConfig) ∧ (s.on MGT_NODE_ID_NODE_VALID = true) ∧ (s.rd MGT_NODE_ID_NODE_ID = n.val) ∧ (serial ≠ Config.serial)) ∧
    (∃ (s : State) (p : Port) (node : Option Node) (serial : BitVec 64) (rates : BitVec 4) (fw : Fin 17) (fl : BitVec 16) (rev : Bool), s.Inv ∧ (s.cyState p = cyConfig) ∧ (s.on MGT_NODE_ID_NODE_VALID = false) ∧ (s.on (PRT_CYT_STATUS_IN_GRACE p) = false) ∧ (s.trainedWidth p rev fw fl.toNat ≠ 0) ∧ (targetRate (s.ratesNow p &&& rates.toNat) ≠ 0)) ∧
    (∃ (s : State) (p : Port) (serial : BitVec 64) (rates : BitVec 4) (fw : Fin 17) (fl : BitVec 16) (rev : Bool), s.Inv ∧
      (s.cyState p = cyConfig) ∧ (s.on (PRT_CYT_STATUS_IN_GRACE p) = false) ∧
      (s.trainedWidth p (rev && decide (0 < s.rd (PRT_CFG_WIDTH p))) fw fl.toNat = 0)) ∧
    (∃ (s : State) (l : Lane) (p : Nat), s.Inv ∧ (s.ownerOf l = some p) ∧ (s.on (LAN_STATUS_CYTRUM l) = true) ∧ (s.cyState p = cyEq) ∧
      (s.rd (LANX_REQ_N l) = 4096)) :=
  ⟨⟨(cyt 2).wr (CYTX_LOCKED 9) 1, 9, by decide +kernel⟩,
    ⟨cyt 2, 9, by decide +kernel⟩,
    ⟨cyt 7, 9, false, by decide +kernel⟩,
    ⟨cyt 7, 9, some 3, 77, 15, 1, 1, false, by decide +kernel⟩,
    ⟨(cyt 3).wrs [(MGT_NODE_ID_NODE_VALID, 1),
      (MGT_NODE_ID_NODE_ID, 5)], 9, 5, Config.serial + 1, 0, 0, 0, false, by decide +kernel, by decide +kernel, by decide +kernel, by decide +kernel, by simp⟩,
    ⟨(cyt 3).wrs [(CYTX_LOCKED 9, 1), (CYTX_RATES 9, 15), (CYTX_WIDTH_LIMIT 9, 16)], 9, some 3, 77, 15, 1, 1, false, by decide +kernel⟩,
    ⟨cyt 3, 9, 77, 15, 1, 1, false, by decide +kernel⟩,
    ⟨(cyt 4).wr (LANX_REQ_N 16) 4096, 16, 9, by decide +kernel⟩⟩

theorem witness_tether_training_4 :
    (∃ (s : State) (l : Lane), s.Inv ∧ (s.rd (LANX_REQ_N l) ≠ 4096)) ∧
    (∃ (s : State) (l : Lane), s.Inv ∧ (s.ownerOf l = none)) ∧
    (∃ (s : State) (p : Port), s.Inv ∧ (s.cyState p = cyVerify) ∧ (s.on (CYTX_VBAD p) = false)) ∧
    (∃ (s : State) (p : Port), s.Inv ∧ (s.cyState p = cyVerify) ∧ (10 ≤ s.rd (PRT_CYT_STATUS_RATE p)) ∧
      (s.rd (PRT_CYT_STATUS_RATE p) ≤ 11)) ∧
    (∃ (s : State) (p : Port), s.Inv ∧ (s.cyState p = cyVerify) ∧ (s.rd (PRT_CYT_STATUS_RATE p) = 9)) ∧
    (∃ (s : State) (p : Port) (bad : Bool), s.Inv ∧ (s.phase p ≠ cyVerify)) ∧
    (∃ (s : State) (p : Port) (node : Option Node) (gen : BitVec 8) (next : BitVec 16) (cred : BitVec 256), s.Inv ∧ (s.phase p ≠ cyInit) ∧
      (s.tetherUp p = false)) ∧
    (∃ (s : State) (p : Port) (node : Option Node) (gen : BitVec 8) (next : BitVec 16) (cred : BitVec 256), s.Inv ∧
      (s.rd (PRT_CFG_MODE p) = 3) ∧ (s.cyState p = cyInit) ∧ (s.rd (PRT_CYT_STATUS_GEN p) = gen.toNat) ∧ (s.rd (CYTX_WANT p) = 0)) :=
  ⟨⟨cyt 4, 16, by decide +kernel⟩,
    ⟨State.reset, 16, by decide +kernel⟩,
    ⟨cyt 5, 9, by decide +kernel⟩,
    ⟨(cyt 5).wr (PRT_CYT_STATUS_RATE 9) 11, 9, by decide +kernel⟩,
    ⟨(cyt 5).wr (PRT_CYT_STATUS_RATE 9) 9, 9, by decide +kernel⟩,
    ⟨cyt 7, 9, false, by decide +kernel⟩,
    ⟨cyt 5, 9, some 3, 0, 0, 0, by decide +kernel⟩,
    ⟨(cyt 6).wr (CYTX_FRESH 9) 1, 9, some 3, 0, 0, 0, by decide +kernel⟩⟩

theorem witness_tether_training_5 :
    (∃ (s : State) (p : Port), s.Inv ∧ (s.cyState p = cyRetrain) ∧ (s.rd (CYTX_REQ p) = 0) ∧ (s.rd (CYTX_FARREQ p) = 0)) ∧
    (∃ (s : State) (p : Port), s.Inv ∧ (s.cyState p ≠ cyRetrain)) ∧
    (∃ (s : State) (n : Node) (b : BitVec 8), s.Inv ∧ (s.on (BKT_MOVE_PENDING (256 * n.val + b.toNat)) = true) ∧
      (s.inFlight (256 * n.val + b.toNat) = 0) ∧ (s.on (PRT_CYT_STATUS_IN_GRACE (s.bucketPort (256 * n.val + b.toNat))) = false)) ∧
    (∃ (s : State) (n : Node) (b : BitVec 8), s.Inv ∧
      (s.on (BKT_MOVE_PENDING (256 * n.val + b.toNat)) = false ∨ s.inFlight (256 * n.val + b.toNat) ≠ 0 ∨ s.on (PRT_CYT_STATUS_IN_GRACE (s.bucketPort (256 * n.val + b.toNat))) = true)) :=
  ⟨⟨cyt 8, 9, by decide +kernel⟩,
    ⟨cyt 7, 9, by decide +kernel⟩,
    ⟨State.reset.wr (BKT_MOVE_PENDING 773) 1, 3, 5, by decide +kernel⟩,
    ⟨State.reset, 3, 5, by decide +kernel⟩⟩

/-! TetherTraffic -/

theorem witness_tether_traffic_1 :
    (∃ (s : State) (p : Port) (ok : Bool) (gen : BitVec 8) (ack : BitVec 16) (naks : List (BitVec 16)) (cred : BitVec 256), s.Inv ∧
      (s.tetherUp p = false)) ∧
    (∃ (s : State) (p : Port) (ok : Bool) (gen : BitVec 8) (ack : BitVec 16) (naks : List (BitVec 16)) (cred : BitVec 256), s.Inv ∧
      (s.tetherUp p = true) ∧ (s.mgmt.inject = []) ∧ (ok = true) ∧ (gen.toNat ≠ s.rd (PRT_CYT_STATUS_GEN p))) ∧
    (∃ (s : State) (p : Port) (ok : Bool) (gen : BitVec 8) (ack : BitVec 16) (naks : List (BitVec 16)) (cred : BitVec 256), s.Inv ∧
      (s.tetherUp p = true) ∧ (s.mgmt.inject = []) ∧ (ok = false)) ∧
    (∃ (s : State) (p : Port) (ok : Bool) (gen : BitVec 8) (ack : BitVec 16) (naks : List (BitVec 16)) (cred : BitVec 256), s.Inv ∧
      (s.tetherUp p = true) ∧ (s.mgmt.inject = []) ∧ (ok = true) ∧ (gen.toNat = s.rd (PRT_CYT_STATUS_GEN p))) ∧
    (∃ (s : State) (p : Port), s.Inv ∧ ((s.tether.unacked.find? fun u => u.port == p.val) = none)) ∧
    (∃ (s : State) (p : Port) (u : TUnit), s.Inv ∧ ((s.tether.unacked.find? fun u => u.port == p.val) = some u) ∧ (s.tetherUp p = true)) ∧
    (∃ (s : State) (p : Port), s.Inv ∧ (8 ≤ s.rd (CYTX_REPLAY_N p))) ∧
    (∃ (s : State) (p : Port), s.Inv ∧ (s.rd (CYTX_REPLAY_N p) < 8) ∧ ((s.tether.unacked.any fun u =>
      u.port == p.val && decide (16 ≤ u.sends)) = false)) :=
  ⟨⟨cyt 5, 9, true, 0, 0, [], 0, by decide +kernel⟩,
    ⟨cyt 7, 9, true, 5, 0, [], 0, by decide +kernel⟩,
    ⟨cyt 7, 9, false, 0, 0, [], 0, by decide +kernel⟩,
    ⟨sent unit9, 9, true, 0, 0, [], 0, by decide +kernel⟩,
    ⟨cyt 7, 9, by decide +kernel⟩,
    ⟨sent unit9, 9, unit9, by decide +kernel⟩,
    ⟨(cyt 7).wr (CYTX_REPLAY_N 9) 8, 9, by decide +kernel⟩,
    ⟨cyt 7, 9, by decide +kernel⟩⟩

theorem witness_tether_traffic_2 :
    (∃ (s : State) (p : Port), s.Inv ∧ (s.tetherUp p = false ∨ s.openGaps p = [])) ∧
    (∃ (s : State) (p : Port) (q : Nat × Nat), s.Inv ∧ (s.tetherUp p = true) ∧ (s.openGaps p = [q]) ∧ (q.2 ≤ s.now)) ∧
    (∃ (s : State) (p : Port), s.Inv ∧ (s.tetherUp p = true)) ∧
    (∃ (s : State) (p : Port), s.Inv ∧ (s.tetherUp p = false)) ∧
    (∃ (s : State) (p : Port), s.Inv ∧ (s.moored = false) ∧ ((s.tether.mgmt.find? fun x => x.1 == p.val) = none) ∧
      (s.rd (PRT_CFG_MODE p) = 3) ∧ (s.cyState p = cyUp) ∧ (s.rd (PRT_CYT_STATUS_WIDTH p) < 4) ∧ (s.rd (CYTX_FILL_ROWS p) < 2046) ∧
      (s.rd (CYTX_CRED_DUE p) = 0) ∧ (s.streamOf p = []) ∧ ((s.tether.unacked.any fun u => u.port == p.val) = false) ∧
      ((s.tether.sendq.any fun u => u.port == p.val) = false)) ∧
    (∃ (s : State) (p : Port) (rows : List (List Levels)), s.Inv ∧
      (s.moored = true ∨ s.rd (PRT_CFG_MODE p) ≠ 3 ∨ s.phase p = 0 ∨ 7 < s.phase p)) ∧
    (∃ (s : State) (p : Port) (rows : List (List Levels)), s.Inv ∧ (s.moored = false) ∧ (s.rd (PRT_CFG_MODE p) = 3) ∧ (1 ≤ s.phase p) ∧
      (s.phase p ≤ 7)) ∧
    (∃ (s : State) (p : Port) (n : BitVec 32), s.Inv ∧ (s.tetherUp p = true) ∧ (4 ≤ s.rd (PRT_CYT_STATUS_WIDTH p)) ∧ (s.mgmt.inject = []) ∧
      (s.rd (CYTX_MARK_RX p) = 0 ∨ s.rd (CYTX_MARK_RX p) = n.toNat + 1)) :=
  ⟨⟨cyt 7, 9, by decide +kernel⟩,
    ⟨{ (cyt 7).wr (CYTX_NAK_TO 9) 6 with tether := { (cyt 7).tether with reorder := [(9, rxUnit 5 0 0)], gaps := [(9, 3, 0)] } }, 9, (3, 0), by decide +kernel⟩,
    ⟨cyt 7, 9, by decide +kernel⟩,
    ⟨cyt 5, 9, by decide +kernel⟩,
    ⟨cyt 7, 9, by decide +kernel⟩,
    ⟨cyt 9, 9, [], by decide +kernel⟩,
    ⟨cyt 7, 9, [], by decide +kernel⟩,
    ⟨(cyt 7).wr (PRT_CYT_STATUS_WIDTH 9) 4, 9, 5, by decide +kernel⟩⟩

theorem witness_tether_traffic_3 :
    (∃ (s : State) (p : Port) (n : BitVec 32) (ok : Bool), s.Inv ∧ (s.tetherUp p = true) ∧ (4 ≤ s.rd (PRT_CYT_STATUS_WIDTH p)) ∧
      (s.mgmt.inject = [])) ∧
    (∃ (s : State) (p : Port) (a b : Bool) (n : BitVec 32), s.Inv ∧ (s.tetherUp p = false)) ∧
    (∃ (s : State) (p : Port) (k : Fin 6), s.Inv ∧ (s.tetherUp p = false)) ∧
    (∃ (s : State) (p : Port) (k : Fin 6), s.Inv ∧ (s.tetherUp p = true) ∧ (s.rd (PRT_CYT_CFG_GRACE_MS p) ≠ 0)) ∧
    (∃ (s : State) (p : Port), s.Inv ∧ (s.on (PRT_CYT_STATUS_IN_GRACE p) = true)) ∧
    (∃ (s : State) (p : Port), s.Inv ∧ (s.on (PRT_CYT_STATUS_IN_GRACE p) = false)) ∧
    (∃ (s : State) (p : Port) (g : Nat), s.Inv ∧ (g < 256) ∧ (s.outst = []) ∧ (s.switch.txq = []) ∧ (s.switch.made = [])) ∧
    (∃ (s : State) (p : Port) (u : RxUnit), s.Inv ∧ (s.bridle.held = []) ∧ (s.tetherUp p = false)) :=
  ⟨⟨(cyt 7).wr (PRT_CYT_STATUS_WIDTH 9) 4, 9, 5, true, by decide +kernel⟩,
    ⟨cyt 5, 9, true, true, 5, by decide +kernel⟩,
    ⟨cyt 5, 9, 1, by decide +kernel⟩,
    ⟨(cyt 7).wr (PRT_CYT_CFG_GRACE_MS 9) 10, 9, 1, by decide +kernel⟩,
    ⟨(cyt 8).wr (PRT_CYT_STATUS_IN_GRACE 9) 1, 9, by decide +kernel⟩,
    ⟨cyt 7, 9, by decide +kernel⟩,
    ⟨sent unit9, 9, 5, by decide +kernel⟩,
    ⟨cyt 5, 9, rxUnit 5 0 0, by decide +kernel⟩⟩

theorem witness_tether_traffic_4 :
    (∃ (s : State) (p : Port) (u : RxUnit), s.Inv ∧ (s.bridle.held = []) ∧ (s.tetherUp p = true) ∧ (s.mgmt.inject = []) ∧
      (u.crcOk = false)) ∧
    (∃ (s : State) (p : Port) (u : RxUnit), s.Inv ∧ (s.bridle.held = []) ∧ (s.tetherUp p = true) ∧ (s.mgmt.inject = []) ∧ (u.crcOk = true) ∧
      (u.gen.toNat ≠ s.rd (PRT_CYT_STATUS_GEN p))) ∧
    (∃ (s : State) (p : Port) (u : RxUnit), s.Inv ∧ (s.bridle.held = []) ∧ (s.tetherUp p = true) ∧ (s.mgmt.inject = []) ∧ (u.crcOk = true) ∧
      (u.gen.toNat = s.rd (PRT_CYT_STATUS_GEN p)) ∧ (s.on (PRT_CYT_STATUS_PEER_VALID p) = false) ∧
      (seqDist u.seq.toNat (s.rd (PRT_CYT_RX_SEQ_NEXT_EXPECTED p)) = 0) ∧ (u.segs = []) ∧ ((s.tether.reorder.any fun x =>
      x.1 == p.val) = false)) ∧
    (∃ (s : State) (p : Port) (u : RxUnit), s.Inv ∧ (s.bridle.held = []) ∧ (s.tetherUp p = true) ∧ (s.mgmt.inject = []) ∧ (u.crcOk = true) ∧
      (u.gen.toNat = s.rd (PRT_CYT_STATUS_GEN p)) ∧ (s.on (PRT_CYT_STATUS_PEER_VALID p) = false) ∧
      (0 < seqDist u.seq.toNat (s.rd (PRT_CYT_RX_SEQ_NEXT_EXPECTED p))) ∧
      (seqDist u.seq.toNat (s.rd (PRT_CYT_RX_SEQ_NEXT_EXPECTED p)) < 512) ∧ ((s.tether.reorder.any fun x => x.1 == p.val) = false)) ∧
    (∃ (s : State) (p : Port) (u : RxUnit), s.Inv ∧ (s.bridle.held = []) ∧ (s.tetherUp p = true) ∧ (s.mgmt.inject = []) ∧ (u.crcOk = true) ∧
      (u.gen.toNat = s.rd (PRT_CYT_STATUS_GEN p)) ∧ (s.on (PRT_CYT_STATUS_PEER_VALID p) = false) ∧
      (32768 ≤ seqDist u.seq.toNat (s.rd (PRT_CYT_RX_SEQ_NEXT_EXPECTED p)))) ∧
    (∃ (s : State) (p : Port), s.Inv ∧ ((s.tether.unacked.any fun u => u.port == p.val && decide (16 ≤ u.sends)) = true)) :=
  ⟨⟨cyt 7, 9, { rxUnit 5 0 0 with crc := 0 }, by decide +kernel⟩,
    ⟨cyt 7, 9, rxUnit 5 3 0, by decide +kernel⟩,
    ⟨cyt 7, 9, rxUnit 0 0 0, by decide +kernel⟩,
    ⟨cyt 7, 9, rxUnit 5 0 0, by decide +kernel⟩,
    ⟨(cyt 7).wr (PRT_CYT_RX_SEQ_NEXT_EXPECTED 9) 6, 9, rxUnit 5 0 0, by decide +kernel⟩,
    ⟨{ cyt 7 with tether := { (cyt 7).tether with unacked := [⟨9, 0, 0, [], 16, false⟩] } }, 9, by decide +kernel⟩⟩

/-! FabricMembership -/

theorem witness_fabric_membership_1 :
    (∃ (s : State) (p : Port), s.Inv ∧ (s.rd (CYTX_REQ p) = 0) ∧ (s.tetherUp p = true)) ∧
    (∃ (s : State) (p : Port), s.Inv ∧ (s.rd (CYTX_REQ p) = 0) ∧ (s.tetherUp p = false)) ∧
    (∃ (s : State) (p : Port) (k : Fin 5), s.Inv ∧ (s.rd (CYTX_REQ p) = 0) ∧ (s.tetherUp p = true)) ∧
    (∃ (s : State) (p : Port) (k : Fin 5), s.Inv ∧ (s.rd (CYTX_REQ p) ≠ 0) ∧ (s.farWins p = false)) ∧
    (∃ (s : State) (p : Port) (k : Fin 5), s.Inv ∧ (s.rd (CYTX_REQ p) ≠ 0) ∧ (s.farWins p = true) ∧ (1 ≤ s.phase p) ∧ (s.phase p ≤ 5)) ∧
    (∃ (s : State) (p : Port) (n : BitVec 64), s.Inv ∧ (s.tetherUp p = false ∨ s.on MGT_NODE_ID_NODE_VALID = false)) ∧
    (∃ (s : State) (p : Port) (n : BitVec 64) (k : Nat), s.Inv ∧ (s.tetherUp p = true) ∧ (s.on MGT_NODE_ID_NODE_VALID = true) ∧
      (s.isManager = true) ∧ ((s.mgmt.nodes.any fun x => x.2.1 == n.toNat && bitSet x.2.2 0) = false) ∧ (s.freeNode = some k)) ∧
    (∃ (s : State) (p : Port) (n : BitVec 64), s.Inv ∧ (s.tetherUp p = true) ∧ (s.on MGT_NODE_ID_NODE_VALID = true) ∧ (s.isManager = true) ∧
      ((s.mgmt.nodes.any fun x => x.2.1 == n.toNat && bitSet x.2.2 0) = true)) :=
  ⟨⟨cyt 7, 9, by decide +kernel⟩,
    ⟨cyt 5, 9, by decide +kernel⟩,
    ⟨cyt 7, 9, 2, by decide +kernel⟩,
    ⟨(cyt 8).wrs [(CYTX_REQ 9, 1), (MGT_NODE_ID_NODE_VALID, 1)], 9, 2, by decide +kernel⟩,
    ⟨(cyt 8).wrs [(CYTX_REQ 9, 1), (CYTX_SUB 9, 2), (PRT_CYT_STATUS_PEER_VALID 9, 1)], 9, 2, by decide +kernel⟩,
    ⟨cyt 7, 9, 5, by decide +kernel⟩,
    ⟨(cyt 7).wr MGT_NODE_ID_NODE_VALID 1, 9, 5, 1, by decide +kernel⟩,
    ⟨{ (cyt 7).wr MGT_NODE_ID_NODE_VALID 1 with mgmt := { (cyt 7).mgmt with nodes := [(4, 5, 1)] } }, 9, 5, by decide +kernel⟩⟩

theorem witness_fabric_membership_2 :
    (∃ (s : State) (p : Port), s.Inv ∧ (s.rd (CYTX_JOIN_AT p) ≠ 0) ∧ (s.tetherUp p = true) ∧ (s.on MGT_NODE_ID_NODE_VALID = false)) ∧
    (∃ (s : State) (p : Port), s.Inv ∧ (s.rd (CYTX_JOIN_AT p) = 0)) ∧
    (∃ (s : State) (p : Port) (n : Node), s.Inv ∧ (s.on MGT_NODE_ID_NODE_VALID = false)) ∧
    (∃ (s : State) (p : Port) (n : Node), s.Inv ∧ (s.on MGT_NODE_ID_NODE_VALID = true)) ∧
    (∃ (s : State) (p : Port) (r : BitVec 8), s.Inv ∧ (s.on MGT_NODE_ID_NODE_VALID = false)) ∧
    (∃ (s : State) (p : Port) (r : BitVec 8), s.Inv ∧ (s.on MGT_NODE_ID_NODE_VALID = true)) ∧
    (∃ (s : State) (p : Port), s.Inv ∧ (s.tetherUp p = true) ∧ (s.on (PRT_CYT_STATUS_PEER_VALID p) = true)) ∧
    (∃ (s : State) (p : Port), s.Inv ∧ (s.tetherUp p = false)) :=
  ⟨⟨(cyt 7).wr (CYTX_JOIN_AT 9) 1, 9, by decide +kernel⟩,
    ⟨cyt 7, 9, by decide +kernel⟩,
    ⟨cyt 7, 9, 3, by decide +kernel⟩,
    ⟨(cyt 7).wr MGT_NODE_ID_NODE_VALID 1, 9, 3, by decide +kernel⟩,
    ⟨cyt 7, 9, 3, by decide +kernel⟩,
    ⟨(cyt 7).wr MGT_NODE_ID_NODE_VALID 1, 9, 3, by decide +kernel⟩,
    ⟨(cyt 7).wr (PRT_CYT_STATUS_PEER_VALID 9) 1, 9, by decide +kernel⟩,
    ⟨cyt 5, 9, by decide +kernel⟩⟩

theorem witness_fabric_membership_3 :
    (∃ (s : State) (p : Port), s.Inv ∧ (s.tetherUp p = true)) ∧
    (∃ (s : State) (c : Cmd), s.Inv ∧ (s.ready 0x0203 c = true) ∧ (onlyM (s.issuer c.path) = true) ∧ ((cleanCmd c ([(0, 8), (8, 8), (16, 8),
      (32, 16)] ++ (List.range 8).map fun t =>
      (64 + 32 * t, 28)) true && decide (parBytes c 0 1 < 128) && decide (parBytes c 1 1 ≤ 100) && decide (1 ≤ parBytes c 2 1) && decide (parBytes c 2 1 ≤ 100) && (!opFlag c || decide (((List.range 8).map fun t => parBits c (64 + 32 * t + 16) 12).sum ≤ 2048) && decide (((List.range 8).map fun t => parBits c (64 + 32 * t) 16).sum ≤ 16384))) = true) ∧ ((s.portBusy (parBytes c 0 1)) = false) ∧ (s.rd (PRT_CFG_MODE (parBytes c 0 1)) = 3) ∧ (opFlag c = false)) ∧
    (∃ (s : State) (c : Cmd), s.Inv ∧ (s.ready 0x0203 c = true) ∧ (onlyM (s.issuer c.path) = true) ∧ ((cleanCmd c ([(0, 8), (8, 8), (16, 8),
      (32, 16)] ++ (List.range 8).map fun t =>
      (64 + 32 * t, 28)) true && decide (parBytes c 0 1 < 128) && decide (parBytes c 1 1 ≤ 100) && decide (1 ≤ parBytes c 2 1) && decide (parBytes c 2 1 ≤ 100) && (!opFlag c || decide (((List.range 8).map fun t => parBits c (64 + 32 * t + 16) 12).sum ≤ 2048) && decide (((List.range 8).map fun t => parBits c (64 + 32 * t) 16).sum ≤ 16384))) = true) ∧ ((s.portBusy (parBytes c 0 1)) = false) ∧ (s.rd (PRT_CFG_MODE (parBytes c 0 1)) = 3) ∧ (opFlag c = true)) ∧
    (∃ (s : State) (c : Cmd), s.Inv ∧ (s.ready 0x0203 c = true) ∧ (onlyM (s.issuer c.path) = true) ∧ ((cleanCmd c ([(0, 8), (8, 8), (16, 8),
      (32, 16)] ++ (List.range 8).map fun t =>
      (64 + 32 * t, 28)) true && decide (parBytes c 0 1 < 128) && decide (parBytes c 1 1 ≤ 100) && decide (1 ≤ parBytes c 2 1) && decide (parBytes c 2 1 ≤ 100) && (!opFlag c || decide (((List.range 8).map fun t => parBits c (64 + 32 * t + 16) 12).sum ≤ 2048) && decide (((List.range 8).map fun t => parBits c (64 + 32 * t) 16).sum ≤ 16384))) = true) ∧ (s.rd (PRT_CFG_MODE (parBytes c 0 1)) ≠ 3)) ∧
    (∃ (s : State) (c : Cmd), s.Inv ∧ (s.ready 0x0204 c = true) ∧ (onlyM (s.issuer c.path) = true) ∧ ((cleanCmd c [(0, 8), (8, 8),
      (16, 8)] false && parBytes c 1 1 == 1 && decide (parBytes c 0 1 < 128) && decide (parBytes c 2 1 ≤ 4)) = true) ∧
      ((s.rd (PRT_CFG_MODE (parBytes c 0 1)) != 3 || decide (s.rd (PRT_CFG_WIDTH (parBytes c 0 1)) < parBytes c 2 1)) = false) ∧
      ((s.portBusy (parBytes c 0 1)) = false) ∧ (s.rd (CYTX_REQ (parBytes c 0 1)) = 0) ∧ (s.tetherUp (parBytes c 0 1) = true)) ∧
    (∃ (s : State) (c : Cmd), s.Inv ∧ (s.ready 0x0204 c = true) ∧ (onlyM (s.issuer c.path) = true) ∧ ((cleanCmd c [(0, 8), (8, 8),
      (16, 8)] false && parBytes c 1 1 == 1 && decide (parBytes c 0 1 < 128) && decide (parBytes c 2 1 ≤ 4)) = true) ∧
      ((s.rd (PRT_CFG_MODE (parBytes c 0 1)) != 3 || decide (s.rd (PRT_CFG_WIDTH (parBytes c 0 1)) < parBytes c 2 1)) = false) ∧
      (s.rd (CYTX_REQ (parBytes c 0 1)) ≠ 0 ∨ s.portBusy (parBytes c 0 1) = true)) ∧
    (∃ (s : State) (c : Cmd), s.Inv ∧ (s.ready 0x0B03 c = true) ∧ (onlyM (s.issuer c.path) = true) ∧
      ((cleanCmd c [(0, 8)] false && decide (parBytes c 0 1 < 64)) = true) ∧ (s.on MGT_NODE_ID_NODE_VALID = false)) ∧
    (∃ (s : State) (c : Cmd), s.Inv ∧ (s.ready 0x0B03 c = true) ∧ (onlyM (s.issuer c.path) = true) ∧
      ((cleanCmd c [(0, 8)] false && decide (parBytes c 0 1 < 64)) = true) ∧ (s.on MGT_NODE_ID_NODE_VALID = true) ∧
      ((parBytes c 0 1) = s.rd MGT_NODE_ID_NODE_ID)) :=
  ⟨⟨cyt 7, 9, by decide +kernel⟩,
    ⟨cyt 7, (pkt 0x50a09#448), by decide +kernel⟩,
    ⟨cyt 7, ⟨.mgmt, 7, 0x10000, BitVec.ofNat 448 0x50A09⟩, by decide +kernel⟩,
    ⟨up, (pkt 0x50a09#448), by decide +kernel⟩,
    ⟨(cyt 7).wr (PRT_CFG_WIDTH 9) 2, (pkt 0x10109#448), by decide +kernel⟩,
    ⟨(cyt 7).wrs [(PRT_CFG_WIDTH 9, 2), (CYTX_REQ 9, 1)], (pkt 0x10109#448), by decide +kernel⟩,
    ⟨up, (pkt 0x9#448), by decide +kernel⟩,
    ⟨up.wr MGT_NODE_ID_NODE_VALID 1, (pkt 0x0#448), by decide +kernel⟩⟩

/-! OutsideRequests -/

theorem witness_outside_requests_1 :
    (∃ (s : State) (h : Host) (r : MemReq), s.Inv ∧ (s.on (HOSTF_IN_RESET h) = true ∨ s.contained 2 h = true) ∧ (s.awake = true)) ∧
    (∃ (s : State) (h : Host) (r : MemReq), s.Inv ∧ (s.on (HOSTF_IN_RESET h) = false) ∧ (s.contained 2 h = false) ∧
      (s.f1Takes h = false ∨ s.inBar2 h r.addr.toNat = false ∨ r.ide = true ∨ sizedOp r.op = false) ∧ (s.awake = true)) ∧
    (∃ (s : State) (h : Host) (r : MemReq), s.Inv ∧ (s.on (HOSTF_IN_RESET h) = false) ∧ (s.contained 2 h = false) ∧ (s.f1Takes h = true) ∧
      (s.inBar2 h r.addr.toNat = true) ∧ (r.ide = false) ∧ (sizedOp r.op = true) ∧ (alignedOp r.addr.toNat r.op = false) ∧
      (s.awake = true)) ∧
    (∃ (s : State) (h : Host) (r : MemReq), s.Inv ∧ (s.on (HOSTF_IN_RESET h) = false) ∧ (s.contained 2 h = false) ∧ (s.f1Takes h = true) ∧
      (s.inBar2 h r.addr.toNat = true) ∧ (r.ide = false) ∧ (sizedOp r.op = true) ∧ (alignedOp r.addr.toNat r.op = true) ∧
      (s.gondFence h (r.pasid.map fun (x : BitVec 20) => x.toNat) = none) ∧ (s.poolPaused = false) ∧ (s.bridle.held = []) ∧
      (s.switch.wait = []) ∧ (s.lookup 0 h (r.addr.toNat - s.rd (HOSTF_BAR2 h)) = none) ∧
      ((s.verdict ⟨clsTenant, spAperture, accessOf r.op, h, r.requester.toNat, r.pasid.map fun (x : BitVec 20) =>
      x.toNat, r.addr.toNat - s.rd (HOSTF_BAR2 h), accLen r.op, 0⟩) = none) ∧ (s.awake = true)) ∧
    (∃ (s : State) (h : Host) (r : MemReq) (i w : Nat) (v : Via), s.Inv ∧ (s.on (HOSTF_IN_RESET h) = false) ∧ (s.contained 2 h = false) ∧
      (s.f1Takes h = true) ∧ (s.inBar2 h r.addr.toNat = true) ∧ (r.ide = false) ∧ (sizedOp r.op = true) ∧
      (alignedOp r.addr.toNat r.op = true) ∧ (s.gondFence h (r.pasid.map fun (x : BitVec 20) => x.toNat) = none) ∧ (s.poolPaused = false) ∧
      (s.bridle.held = []) ∧ (s.switch.wait = []) ∧ (s.lookup 0 h (r.addr.toNat - s.rd (HOSTF_BAR2 h)) = some i) ∧
      ((s.verdict ⟨clsTenant, spAperture, accessOf r.op, h, r.requester.toNat, r.pasid.map fun (x : BitVec 20) =>
      x.toNat, r.addr.toNat - s.rd (HOSTF_BAR2 h), accLen r.op, 0⟩) = none) ∧ (s.on (XLAT_REMOTE i) = false) ∧
      (viaOf (s.rd (XLAT_ALIAS i)) (s.translated i (r.addr.toNat - s.rd (HOSTF_BAR2 h))) r.op = some v) ∧
      (s.windowOf (s.translated i (r.addr.toNat - s.rd (HOSTF_BAR2 h))) r.op = some w) ∧ (s.pastDrain = false) ∧ (i < 65536) ∧
      (s.awake = true)) ∧
    (∃ (s : State) (h : Host) (r : MemReq) (i : Nat), s.Inv ∧ (s.on (HOSTF_IN_RESET h) = false) ∧ (s.contained 2 h = false) ∧
      (s.f1Takes h = true) ∧ (s.inBar2 h r.addr.toNat = true) ∧ (r.ide = false) ∧ (sizedOp r.op = true) ∧
      (alignedOp r.addr.toNat r.op = true) ∧ (s.gondFence h (r.pasid.map fun (x : BitVec 20) => x.toNat) = none) ∧ (s.poolPaused = false) ∧
      (s.bridle.held = []) ∧ (s.switch.wait = []) ∧ (s.lookup 0 h (r.addr.toNat - s.rd (HOSTF_BAR2 h)) = some i) ∧
      ((s.check ⟨clsTenant, spAperture, accessOf r.op, h, r.requester.toNat, r.pasid.map fun (x : BitVec 20) =>
      x.toNat, r.addr.toNat - s.rd (HOSTF_BAR2 h), accLen r.op, 0⟩).2 = false) ∧ (s.on (XLAT_REMOTE i) = false) ∧ (s.awake = true)) ∧
    (∃ (s : State) (h : Host) (r : MemReq) (i : Nat), s.Inv ∧ (s.on (HOSTF_IN_RESET h) = false) ∧ (s.contained 2 h = false) ∧
      (s.f1Takes h = true) ∧ (s.inBar2 h r.addr.toNat = true) ∧ (r.ide = false) ∧ (sizedOp r.op = true) ∧
      (alignedOp r.addr.toNat r.op = true) ∧ (s.gondFence h (r.pasid.map fun (x : BitVec 20) => x.toNat) = none) ∧
      (s.poolPaused = true ∨ s.heldBefore (s.rd SYS_ORDER) (.pool h r) = true) ∧ (s.awake = true)) ∧
    (∃ (s : State) (typ h a i : Nat), s.Inv ∧ (s.lookup typ h a = some i)) :=
  ⟨⟨State.reset, 1, ⟨5, 1, none, 0, 0x40000000, .read 4, false⟩, by decide +kernel⟩,
    ⟨State.reset.wr (HOSTF_IN_RESET 1) 0, 1, ⟨5, 1, none, 0, 0x40000000, .read 4, false⟩, by decide +kernel⟩,
    ⟨((permitting pool1).wrs [(HOSTF_IN_RESET 1, 0), (HOSTF_MSE 1, 1), (HOSTF_BAR2 1, 0x40000000), (BAL_APERTURE_SIZE_LOG2 1, 24),
      (WIN_VALID 3, 1), (WIN_BASE 3, 0), (WIN_LIMIT 3, 0xFFFFFF), (XLAT_VALID 4, 1), (XLAT_TYPE 4, 0), (XLAT_HOST 4, 1),
      (XLAT_SIZE_LOG2 4, 20), (XLAT_WINDOW 4, 3),
      (BRD_STATUS_LOCK_UNKNOWN, 0)]), 1, ⟨5, 1, none, 0, 0x40000002, .atomic .swap 4 1 0, false⟩, by decide +kernel⟩,
    ⟨((permitting pool1).wrs [(HOSTF_IN_RESET 1, 0), (HOSTF_MSE 1, 1), (HOSTF_BAR2 1, 0x40000000), (BAL_APERTURE_SIZE_LOG2 1, 24),
      (WIN_VALID 3, 1), (WIN_BASE 3, 0), (WIN_LIMIT 3, 0xFFFFFF), (XLAT_VALID 4, 1), (XLAT_TYPE 4, 0), (XLAT_HOST 4, 1),
      (XLAT_SIZE_LOG2 4, 20), (XLAT_WINDOW 4, 3),
      (BRD_STATUS_LOCK_UNKNOWN, 0)]).wr (XLAT_TYPE 4) 1, 1, ⟨5, 1, none, 0, 0x40000000, .read 4, false⟩, by decide +kernel⟩,
    ⟨((permitting pool1).wrs [(HOSTF_IN_RESET 1, 0), (HOSTF_MSE 1, 1), (HOSTF_BAR2 1, 0x40000000), (BAL_APERTURE_SIZE_LOG2 1, 24),
      (WIN_VALID 3, 1), (WIN_BASE 3, 0), (WIN_LIMIT 3, 0xFFFFFF), (XLAT_VALID 4, 1), (XLAT_TYPE 4, 0), (XLAT_HOST 4, 1),
      (XLAT_SIZE_LOG2 4, 20), (XLAT_WINDOW 4, 3),
      (BRD_STATUS_LOCK_UNKNOWN, 0)]), 1, ⟨5, 1, none, 0, 0x40000000, .read 4, false⟩, 4, 3, .plain, by decide +kernel⟩,
    ⟨((permitting pool1).wrs [(HOSTF_IN_RESET 1, 0), (HOSTF_MSE 1, 1), (HOSTF_BAR2 1, 0x40000000), (BAL_APERTURE_SIZE_LOG2 1, 24),
      (WIN_VALID 3, 1), (WIN_BASE 3, 0), (WIN_LIMIT 3, 0xFFFFFF), (XLAT_VALID 4, 1), (XLAT_TYPE 4, 0), (XLAT_HOST 4, 1),
      (XLAT_SIZE_LOG2 4, 20), (XLAT_WINDOW 4, 3),
      (BRD_STATUS_LOCK_UNKNOWN, 0)]).wr BRD_STATUS_LOCK_UNKNOWN 1, 1, ⟨5, 1, none, 0, 0x40000000, .read 4, false⟩, 4, by decide +kernel⟩,
    ⟨((permitting pool1).wrs [(HOSTF_IN_RESET 1, 0), (HOSTF_MSE 1, 1), (HOSTF_BAR2 1, 0x40000000), (BAL_APERTURE_SIZE_LOG2 1, 24),
      (WIN_VALID 3, 1), (WIN_BASE 3, 0), (WIN_LIMIT 3, 0xFFFFFF), (XLAT_VALID 4, 1), (XLAT_TYPE 4, 0), (XLAT_HOST 4, 1),
      (XLAT_SIZE_LOG2 4, 20), (XLAT_WINDOW 4, 3),
      (BRD_STATUS_LOCK_UNKNOWN, 0)]).wr MOR_STATUS_STATE 5, 1, ⟨5, 1, none, 0, 0x40000000, .read 4, false⟩, 4, by decide +kernel⟩,
    ⟨((permitting pool1).wrs [(HOSTF_IN_RESET 1, 0), (HOSTF_MSE 1, 1), (HOSTF_BAR2 1, 0x40000000), (BAL_APERTURE_SIZE_LOG2 1, 24),
      (WIN_VALID 3, 1), (WIN_BASE 3, 0), (WIN_LIMIT 3, 0xFFFFFF), (XLAT_VALID 4, 1), (XLAT_TYPE 4, 0), (XLAT_HOST 4, 1),
      (XLAT_SIZE_LOG2 4, 20), (XLAT_WINDOW 4, 3), (BRD_STATUS_LOCK_UNKNOWN, 0)]), 0, 1, 5, 4, by decide +kernel⟩⟩

theorem witness_outside_requests_2 :
    (∃ (s : State) (h r : Nat) (q : MemReq), s.Inv ∧ (postedOp q.op = false)) ∧
    (∃ (s : State) (t : Tlp) (a : Fin 4) (op : MemOp), s.Inv ∧ (s.mapUp t.ingress t.requester = none) ∧ (s.awake = true)) ∧
    (∃ (s : State) (t : Tlp) (a : Fin 4) (op : MemOp) (k rid : Nat), s.Inv ∧ (s.mapUp t.ingress t.requester = some (k, rid)) ∧
      (s.on (HOSTF_IN_RESET (k / 32)) = true ∨ s.contained 1 t.ingress = true) ∧ (s.awake = true)) ∧
    (∃ (s : State) (t : Tlp) (a : Fin 4) (op : MemOp) (k rid : Nat), s.Inv ∧ (s.mapUp t.ingress t.requester = some (k, rid)) ∧
      (s.on (HOSTF_IN_RESET (k / 32)) = false) ∧ (s.contained 1 t.ingress = false) ∧ (s.contained 2 (k / 32) = true) ∧ (s.awake = true)) ∧
    (∃ (s : State) (t : Tlp) (a : Fin 4) (op : MemOp) (k rid : Nat), s.Inv ∧ (s.mapUp t.ingress t.requester = some (k, rid)) ∧
      (s.on (HOSTF_IN_RESET (k / 32)) = false) ∧ (s.contained 1 t.ingress = false) ∧ (s.contained 2 (k / 32) = false) ∧
      (bitSet (s.rd (POSX_ACS k)) 1 = true) ∧ (a ≠ 0) ∧ (s.awake = true)) ∧
    (∃ (s : State) (t : Tlp) (a : Fin 4) (op : MemOp) (k rid up : Nat), s.Inv ∧ (s.mapUp t.ingress t.requester = some (k, rid)) ∧
      (s.on (HOSTF_IN_RESET (k / 32)) = false) ∧ (s.contained 1 t.ingress = false) ∧ (s.contained 2 (k / 32) = false) ∧ (a = 0) ∧
      ((s.f1Takes (k / 32) && s.inBar2 (k / 32) t.addr) = false) ∧ (s.lookup 1 (k / 32) t.addr = none) ∧ (((s.siblings k).find? fun j =>
      s.inWindows j t.addr) = none) ∧ (s.hostPort (k / 32) = some up) ∧ (s.on (HOSTF_F0BME (k / 32)) = true) ∧ (s.awake = true)) ∧
    (∃ (s : State) (t : Tlp) (a : Fin 4) (op : MemOp) (k rid i : Nat), s.Inv ∧ (s.mapUp t.ingress t.requester = some (k, rid)) ∧
      (s.on (HOSTF_IN_RESET (k / 32)) = false) ∧ (s.contained 1 t.ingress = false) ∧ (s.contained 2 (k / 32) = false) ∧ (a = 0) ∧
      ((s.f1Takes (k / 32) && s.inBar2 (k / 32) t.addr) = false) ∧ (s.lookup 1 (k / 32) t.addr = some i) ∧
      (s.on (XLAT_HONOUR_ACS i) = false) ∧ (s.on (XLAT_REMOTE i) = false) ∧ (s.checkerHeld = false) ∧ (s.bridle.held = []) ∧
      (s.switch.wait = []) ∧ (i < 65536) ∧ (s.awake = true)) ∧
    (∃ (s : State) (k target : Nat) (t : Tlp), s.Inv ∧
      (s.verdict ⟨clsTenant, spPeer, tlpAccess t, k / 32, t.requester, t.pasid, t.addr, max 1 t.payload, target⟩ = none)) :=
  ⟨⟨State.reset, 1, 1, ⟨5, 1, none, 0, 0x40000000, .read 4, false⟩, by decide +kernel⟩,
    ⟨State.reset, { tlp with requester := 0x4205, host := 48, addr := 0x9000 }, 0, .read 4, by decide +kernel⟩,
    ⟨((permitting pool1).wrs [(HOSTF_F0BME 1, 1), (PRT_CFG_MODE 9, 2), (BINDX_COUNT 9, 1), (BINDX_HOST 9, 1), (BINDX_POS 9, 2),
      (POS_BOUND 34, 1), (POS_PORT 34, 9), (POS_SEC_BUS 34, 0x10), (POS_SUB_BUS 34, 0x1F), (POS_BUS_SPAN 34, 16),
      (POS_FABRIC_BUS_BASE 34, 0x40), (HOSTF_IN_RESET 1, 0), (HOSTF_MSE 1, 1), (HOSTF_BAR2 1, 0x40000000), (BAL_APERTURE_SIZE_LOG2 1, 24),
      (WIN_VALID 3, 1), (WIN_BASE 3, 0), (WIN_LIMIT 3, 0xFFFFFF), (XLAT_VALID 4, 1), (XLAT_TYPE 4, 0), (XLAT_HOST 4, 1),
      (XLAT_SIZE_LOG2 4, 20), (XLAT_WINDOW 4, 3),
      (BRD_STATUS_LOCK_UNKNOWN, 0)]).wr (HOSTF_IN_RESET 1) 1, { tlp with requester := 0x4205, host := 48, addr := 0x9000 }, 0, .read 4, 34, 0x1205, by decide +kernel⟩,
    ⟨((permitting pool1).wrs [(HOSTF_F0BME 1, 1), (PRT_CFG_MODE 9, 2), (BINDX_COUNT 9, 1), (BINDX_HOST 9, 1), (BINDX_POS 9, 2),
      (POS_BOUND 34, 1), (POS_PORT 34, 9), (POS_SEC_BUS 34, 0x10), (POS_SUB_BUS 34, 0x1F), (POS_BUS_SPAN 34, 16),
      (POS_FABRIC_BUS_BASE 34, 0x40), (HOSTF_IN_RESET 1, 0), (HOSTF_MSE 1, 1), (HOSTF_BAR2 1, 0x40000000), (BAL_APERTURE_SIZE_LOG2 1, 24),
      (WIN_VALID 3, 1), (WIN_BASE 3, 0), (WIN_LIMIT 3, 0xFFFFFF), (XLAT_VALID 4, 1), (XLAT_TYPE 4, 0), (XLAT_HOST 4, 1),
      (XLAT_SIZE_LOG2 4, 20), (XLAT_WINDOW 4, 3),
      (BRD_STATUS_LOCK_UNKNOWN, 0)]).wr (DOM_STATE (domIdx 2 1)) 1, { tlp with requester := 0x4205, host := 48, addr := 0x9000 }, 0, .read 4, 34, 0x1205, by decide +kernel⟩,
    ⟨((permitting pool1).wrs [(HOSTF_F0BME 1, 1), (PRT_CFG_MODE 9, 2), (BINDX_COUNT 9, 1), (BINDX_HOST 9, 1), (BINDX_POS 9, 2),
      (POS_BOUND 34, 1), (POS_PORT 34, 9), (POS_SEC_BUS 34, 0x10), (POS_SUB_BUS 34, 0x1F), (POS_BUS_SPAN 34, 16),
      (POS_FABRIC_BUS_BASE 34, 0x40), (HOSTF_IN_RESET 1, 0), (HOSTF_MSE 1, 1), (HOSTF_BAR2 1, 0x40000000), (BAL_APERTURE_SIZE_LOG2 1, 24),
      (WIN_VALID 3, 1), (WIN_BASE 3, 0), (WIN_LIMIT 3, 0xFFFFFF), (XLAT_VALID 4, 1), (XLAT_TYPE 4, 0), (XLAT_HOST 4, 1),
      (XLAT_SIZE_LOG2 4, 20), (XLAT_WINDOW 4, 3),
      (BRD_STATUS_LOCK_UNKNOWN, 0)]).wr (POSX_ACS 34) 2, { tlp with requester := 0x4205, host := 48, addr := 0x9000 }, 1, .read 4, 34, 0x1205, by decide +kernel⟩,
    ⟨((permitting pool1).wrs [(HOSTF_F0BME 1, 1), (PRT_CFG_MODE 9, 2), (BINDX_COUNT 9, 1), (BINDX_HOST 9, 1), (BINDX_POS 9, 2),
      (POS_BOUND 34, 1), (POS_PORT 34, 9), (POS_SEC_BUS 34, 0x10), (POS_SUB_BUS 34, 0x1F), (POS_BUS_SPAN 34, 16),
      (POS_FABRIC_BUS_BASE 34, 0x40), (HOSTF_IN_RESET 1, 0), (HOSTF_MSE 1, 1), (HOSTF_BAR2 1, 0x40000000), (BAL_APERTURE_SIZE_LOG2 1, 24),
      (WIN_VALID 3, 1), (WIN_BASE 3, 0), (WIN_LIMIT 3, 0xFFFFFF), (XLAT_VALID 4, 1), (XLAT_TYPE 4, 0), (XLAT_HOST 4, 1),
      (XLAT_SIZE_LOG2 4, 20), (XLAT_WINDOW 4, 3),
      (BRD_STATUS_LOCK_UNKNOWN, 0)]), { tlp with requester := 0x4205, host := 48, addr := 0x9000 }, 0, .read 4, 34, 0x1205, 3, by decide +kernel⟩,
    ⟨((permitting pool1).wrs [(HOSTF_F0BME 1, 1), (PRT_CFG_MODE 9, 2), (BINDX_COUNT 9, 1), (BINDX_HOST 9, 1), (BINDX_POS 9, 2),
      (POS_BOUND 34, 1), (POS_PORT 34, 9), (POS_SEC_BUS 34, 0x10), (POS_SUB_BUS 34, 0x1F), (POS_BUS_SPAN 34, 16),
      (POS_FABRIC_BUS_BASE 34, 0x40), (HOSTF_IN_RESET 1, 0), (HOSTF_MSE 1, 1), (HOSTF_BAR2 1, 0x40000000), (BAL_APERTURE_SIZE_LOG2 1, 24),
      (WIN_VALID 3, 1), (WIN_BASE 3, 0), (WIN_LIMIT 3, 0xFFFFFF), (XLAT_VALID 4, 1), (XLAT_TYPE 4, 0), (XLAT_HOST 4, 1),
      (XLAT_SIZE_LOG2 4, 20), (XLAT_WINDOW 4, 3), (BRD_STATUS_LOCK_UNKNOWN, 0)]).wrs [(XLAT_TYPE 4, 1),
      (XLAT_TARGET_PORT 4, 10)], { tlp with requester := 0x4205, host := 48, addr := 0x800 }, 0, .read 4, 34, 0x1205, 4, by decide +kernel⟩,
    ⟨((permitting pool1).wrs [(HOSTF_F0BME 1, 1), (PRT_CFG_MODE 9, 2), (BINDX_COUNT 9, 1), (BINDX_HOST 9, 1), (BINDX_POS 9, 2),
      (POS_BOUND 34, 1), (POS_PORT 34, 9), (POS_SEC_BUS 34, 0x10), (POS_SUB_BUS 34, 0x1F), (POS_BUS_SPAN 34, 16),
      (POS_FABRIC_BUS_BASE 34, 0x40), (HOSTF_IN_RESET 1, 0), (HOSTF_MSE 1, 1), (HOSTF_BAR2 1, 0x40000000), (BAL_APERTURE_SIZE_LOG2 1, 24),
      (WIN_VALID 3, 1), (WIN_BASE 3, 0), (WIN_LIMIT 3, 0xFFFFFF), (XLAT_VALID 4, 1), (XLAT_TYPE 4, 0), (XLAT_HOST 4, 1),
      (XLAT_SIZE_LOG2 4, 20), (XLAT_WINDOW 4, 3), (BRD_STATUS_LOCK_UNKNOWN, 0)]), 34, 10, tlp, by decide +kernel⟩⟩

theorem witness_outside_requests_3 :
    (∃ (s : State) (t : Tlp), s.Inv ∧ (s.awake = true)) ∧
    (∃ (s : State) (t : Tlp) (h : Nat), s.Inv ∧ (s.portHost t.ingress = some h) ∧ ((isMessage t && bits t.hdr 56 8 == 0x19) = false) ∧
      (s.posToward h t = none) ∧ (s.rd (PRT_CFG_MODE t.egress) ≠ 2) ∧ (s.awake = true)) ∧
    (∃ (s : State) (t : Tlp) (h : Nat), s.Inv ∧ (s.portHost t.ingress = some h) ∧ ((isMessage t && bits t.hdr 56 8 == 0x19) = false) ∧
      (s.posToward h t = none) ∧ (s.rd (PRT_CFG_MODE t.egress) = 2) ∧ (t.kind ≠ .completion) ∧ (s.awake = true)) ∧
    (∃ (s : State) (t : Tlp) (h : Nat), s.Inv ∧ (s.portHost t.ingress = some h) ∧ (isMessage t = true) ∧ (bits t.hdr 56 8 = 0x19) ∧
      (s.awake = true)) ∧
    (∃ (s : State) (t : Tlp), s.Inv ∧ (s.rd (PRT_CFG_MODE t.ingress) = 2) ∧ (t.kind ≠ .completion) ∧
      (s.mapUp t.ingress t.requester = none) ∧ (s.awake = true)) ∧
    (∃ (s : State) (t : Tlp) (k rid : Nat), s.Inv ∧ (s.rd (PRT_CFG_MODE t.ingress) = 2) ∧ (s.rd (PRT_CFG_MODE t.egress) = 1) ∧
      (t.kind ≠ .completion) ∧ (t.dest = none) ∧ (s.mapUp t.ingress t.requester = some (k, rid)) ∧ (s.on (HOSTF_F0BME (k / 32)) = false) ∧
      (isMessage t = false) ∧ (s.awake = true)) ∧
    (∃ (s : State) (t : Tlp) (k rid : Nat), s.Inv ∧ (s.rd (PRT_CFG_MODE t.ingress) = 2) ∧ (s.rd (PRT_CFG_MODE t.egress) = 1) ∧
      (t.kind ≠ .completion) ∧ (t.dest = none) ∧ (s.mapUp t.ingress t.requester = some (k, rid)) ∧ (s.on (HOSTF_F0BME (k / 32)) = true) ∧
      (s.awake = true)) ∧
    (∃ (s : State) (t : Tlp) (h k : Nat), s.Inv ∧ (s.portHost t.ingress = some h) ∧ ((isMessage t && bits t.hdr 56 8 == 0x19) = false) ∧
      (s.posToward h t = some k) ∧ (s.on (POS_UNBINDING k) = false ∨ t.kind = .completion) ∧ (s.atomicBlocked k t = false) ∧
      (s.awake = true)) :=
  ⟨⟨up, tlp, by decide +kernel⟩,
    ⟨up, { tlp with ingress := 3 }, 1, by decide +kernel⟩,
    ⟨up.wr (PRT_CFG_MODE 10) 2, { tlp with ingress := 3 }, 1, by decide +kernel⟩,
    ⟨up, { tlp with ingress := 3, fmtType := 0x34, hdr := 0x19 * 2 ^ 56 }, 1, by decide +kernel⟩,
    ⟨up.wr (PRT_CFG_MODE 9) 2, { tlp with egress := 3 }, by decide +kernel⟩,
    ⟨((permitting pool1).wrs [(HOSTF_F0BME 1, 1), (PRT_CFG_MODE 9, 2), (BINDX_COUNT 9, 1), (BINDX_HOST 9, 1), (BINDX_POS 9, 2),
      (POS_BOUND 34, 1), (POS_PORT 34, 9), (POS_SEC_BUS 34, 0x10), (POS_SUB_BUS 34, 0x1F), (POS_BUS_SPAN 34, 16),
      (POS_FABRIC_BUS_BASE 34, 0x40), (HOSTF_IN_RESET 1, 0), (HOSTF_MSE 1, 1), (HOSTF_BAR2 1, 0x40000000), (BAL_APERTURE_SIZE_LOG2 1, 24),
      (WIN_VALID 3, 1), (WIN_BASE 3, 0), (WIN_LIMIT 3, 0xFFFFFF), (XLAT_VALID 4, 1), (XLAT_TYPE 4, 0), (XLAT_HOST 4, 1),
      (XLAT_SIZE_LOG2 4, 20), (XLAT_WINDOW 4, 3),
      (BRD_STATUS_LOCK_UNKNOWN, 0)]).wr (HOSTF_F0BME 1) 0, { tlp with requester := 0x4205, egress := 3 }, 34, 0x1205, by decide +kernel⟩,
    ⟨((permitting pool1).wrs [(HOSTF_F0BME 1, 1), (PRT_CFG_MODE 9, 2), (BINDX_COUNT 9, 1), (BINDX_HOST 9, 1), (BINDX_POS 9, 2),
      (POS_BOUND 34, 1), (POS_PORT 34, 9), (POS_SEC_BUS 34, 0x10), (POS_SUB_BUS 34, 0x1F), (POS_BUS_SPAN 34, 16),
      (POS_FABRIC_BUS_BASE 34, 0x40), (HOSTF_IN_RESET 1, 0), (HOSTF_MSE 1, 1), (HOSTF_BAR2 1, 0x40000000), (BAL_APERTURE_SIZE_LOG2 1, 24),
      (WIN_VALID 3, 1), (WIN_BASE 3, 0), (WIN_LIMIT 3, 0xFFFFFF), (XLAT_VALID 4, 1), (XLAT_TYPE 4, 0), (XLAT_HOST 4, 1),
      (XLAT_SIZE_LOG2 4, 20), (XLAT_WINDOW 4, 3),
      (BRD_STATUS_LOCK_UNKNOWN, 0)]), { tlp with requester := 0x4205, egress := 3 }, 34, 0x1205, by decide +kernel⟩,
    ⟨((permitting pool1).wrs [(HOSTF_F0BME 1, 1), (PRT_CFG_MODE 9, 2), (BINDX_COUNT 9, 1), (BINDX_HOST 9, 1), (BINDX_POS 9, 2),
      (POS_BOUND 34, 1), (POS_PORT 34, 9), (POS_SEC_BUS 34, 0x10), (POS_SUB_BUS 34, 0x1F), (POS_BUS_SPAN 34, 16),
      (POS_FABRIC_BUS_BASE 34, 0x40), (HOSTF_IN_RESET 1, 0), (HOSTF_MSE 1, 1), (HOSTF_BAR2 1, 0x40000000), (BAL_APERTURE_SIZE_LOG2 1, 24),
      (WIN_VALID 3, 1), (WIN_BASE 3, 0), (WIN_LIMIT 3, 0xFFFFFF), (XLAT_VALID 4, 1), (XLAT_TYPE 4, 0), (XLAT_HOST 4, 1),
      (XLAT_SIZE_LOG2 4, 20), (XLAT_WINDOW 4, 3),
      (BRD_STATUS_LOCK_UNKNOWN, 0)]), { tlp with ingress := 3, egress := 9 }, 1, 34, by decide +kernel⟩⟩

theorem witness_outside_requests_4 :
    (∃ (s : State) (k x : Nat), s.Inv ∧ (s.rd (POS_SEC_BUS k) ≤ x) ∧ (x ≤ s.rd (POS_SUB_BUS k)) ∧
      (x - s.rd (POS_SEC_BUS k) < s.rd (POS_BUS_SPAN k)) ∧ (s.rd (POS_SEC_BUS k) ≠ 0)) ∧
    (∃ (s : State) (t : Tlp) (f : Nat × Nat), s.Inv ∧ (t.dest = none) ∧ (s.tlpFence t = some f) ∧ (t.kind = .nonPosted)) ∧
    (∃ (s : State) (t : Tlp), s.Inv ∧ (t.dest = none) ∧ (s.tlpFence t = none) ∧ (t.kind ≠ .completion) ∧
      (t.payload ≤ s.maxPayload t.egress) ∧ (s.notExpressible t = false)) ∧
    (∃ (s : State) (t : Tlp), s.Inv ∧ (t.dest = none) ∧ (s.tlpFence t = none) ∧ (t.kind ≠ .completion) ∧
      (s.maxPayload t.egress < t.payload)) ∧
    (∃ (s : State) (p : Port) (n : Node) (r : MemReq), s.Inv ∧ (s.contained 5 n = true) ∧ (postedOp r.op = false)) ∧
    (∃ (s : State) (p : Port) (n : Node) (r : MemReq), s.Inv ∧ (s.contained 5 n = false) ∧ (s.poolPaused = true)) ∧
    (∃ (s : State) (p : Port) (n : Node) (r : MemReq), s.Inv ∧ (s.contained 5 n = false) ∧ (s.poolPaused = false) ∧ (s.bridle.held = []) ∧
      (s.switch.wait = []) ∧ ((s.check ⟨clsNode, spPool, accessOf r.op, n, r.requester.toNat, r.pasid.map fun (x : BitVec 20) =>
      x.toNat, r.addr.toNat % 2 ^ 40, accLen r.op, 0⟩).2 = false)) ∧
    (∃ (s : State) (p : Port) (n : Node) (r : MemReq) (v : Via) (w : Nat), s.Inv ∧ (s.contained 5 n = false) ∧ (s.poolPaused = false) ∧
      (s.bridle.held = []) ∧ (s.switch.wait = []) ∧
      (s.verdict ⟨clsNode, spPool, accessOf r.op, n, r.requester.toNat, r.pasid.map fun (x : BitVec 20) =>
      x.toNat, r.addr.toNat % 2 ^ 40, accLen r.op, 0⟩ = none) ∧ (viaOf (r.addr.toNat / 2 ^ 40 % 4) (r.addr.toNat % 2 ^ 40) r.op = some v) ∧
      (s.windowOf (r.addr.toNat % 2 ^ 40) r.op = some w) ∧ (sizedOp r.op = true) ∧ (alignedOp (r.addr.toNat % 2 ^ 40) r.op = true) ∧
      (s.pastDrain = false)) :=
  ⟨⟨((permitting pool1).wrs [(HOSTF_F0BME 1, 1), (PRT_CFG_MODE 9, 2), (BINDX_COUNT 9, 1), (BINDX_HOST 9, 1), (BINDX_POS 9, 2), (POS_BOUND 34, 1), (POS_PORT 34, 9), (POS_SEC_BUS 34, 0x10), (POS_SUB_BUS 34, 0x1F), (POS_BUS_SPAN 34, 16), (POS_FABRIC_BUS_BASE 34, 0x40), (HOSTF_IN_RESET 1, 0), (HOSTF_MSE 1, 1), (HOSTF_BAR2 1, 0x40000000), (BAL_APERTURE_SIZE_LOG2 1, 24), (WIN_VALID 3, 1), (WIN_BASE 3, 0), (WIN_LIMIT 3, 0xFFFFFF), (XLAT_VALID 4, 1), (XLAT_TYPE 4, 0), (XLAT_HOST 4, 1), (XLAT_SIZE_LOG2 4, 20), (XLAT_WINDOW 4, 3), (BRD_STATUS_LOCK_UNKNOWN, 0)]), 34, 0x12, by decide +kernel⟩,
    ⟨((permitting pool1).wrs [(HOSTF_F0BME 1, 1), (PRT_CFG_MODE 9, 2), (BINDX_COUNT 9, 1), (BINDX_HOST 9, 1), (BINDX_POS 9, 2),
      (POS_BOUND 34, 1), (POS_PORT 34, 9), (POS_SEC_BUS 34, 0x10), (POS_SUB_BUS 34, 0x1F), (POS_BUS_SPAN 34, 16),
      (POS_FABRIC_BUS_BASE 34, 0x40), (HOSTF_IN_RESET 1, 0), (HOSTF_MSE 1, 1), (HOSTF_BAR2 1, 0x40000000), (BAL_APERTURE_SIZE_LOG2 1, 24),
      (WIN_VALID 3, 1), (WIN_BASE 3, 0), (WIN_LIMIT 3, 0xFFFFFF), (XLAT_VALID 4, 1), (XLAT_TYPE 4, 0), (XLAT_HOST 4, 1),
      (XLAT_SIZE_LOG2 4, 20), (XLAT_WINDOW 4, 3),
      (BRD_STATUS_LOCK_UNKNOWN, 0)]).wr (DOM_STATE (domIdx 1 9)) 1, { tlp with kind := .nonPosted }, (1, 9), by decide +kernel⟩,
    ⟨queued [], tlp, by decide +kernel⟩,
    ⟨queued [], { tlp with payload := 4096 }, by decide +kernel⟩,
    ⟨State.reset.wr (DOM_STATE (domIdx 5 3)) 1, 9, 3, ⟨5, 1, none, 0, 0x100, .read 4, false⟩, by decide +kernel⟩,
    ⟨State.reset.wr MOR_STATUS_STATE 5, 9, 3, ⟨5, 1, none, 0, 0x100, .read 4, false⟩, by decide +kernel⟩,
    ⟨State.reset.wr BRD_STATUS_LOCK_UNKNOWN 1, 9, 3, ⟨5, 1, none, 0, 0x100, .read 4, false⟩, by decide +kernel⟩,
    ⟨(permitting pool1).wrs [(HOSTF_IN_RESET 1, 0), (HOSTF_MSE 1, 1), (HOSTF_BAR2 1, 0x40000000), (BAL_APERTURE_SIZE_LOG2 1, 24),
      (WIN_VALID 3, 1), (WIN_BASE 3, 0), (WIN_LIMIT 3, 0xFFFFFF), (XLAT_VALID 4, 1), (XLAT_TYPE 4, 0), (XLAT_HOST 4, 1),
      (XLAT_SIZE_LOG2 4, 20), (XLAT_WINDOW 4, 3),
      (BRD_STATUS_LOCK_UNKNOWN, 0)], 9, 3, ⟨5, 1, none, 0, 0x100, .read 4, false⟩, .plain, 3, by decide +kernel⟩⟩

theorem witness_outside_requests_5 :
    (∃ (s : State) (p : Port) (n : Node) (r : MemReq), s.Inv ∧ (s.contained 5 n = false) ∧ (s.poolPaused = false) ∧ (s.bridle.held = []) ∧
      (s.switch.wait = []) ∧ (s.verdict ⟨clsNode, spPool, accessOf r.op, n, r.requester.toNat, r.pasid.map fun (x : BitVec 20) =>
      x.toNat, r.addr.toNat % 2 ^ 40, accLen r.op, 0⟩ = none) ∧
      (viaOf (r.addr.toNat / 2 ^ 40 % 4) (r.addr.toNat % 2 ^ 40) r.op = none ∨ s.windowOf (r.addr.toNat % 2 ^ 40) r.op = none) ∧
      (postedOp r.op = false)) ∧
    (∃ (s : State) (p : Port) (n : Node) (t : Tlp), s.Inv ∧ (s.contained 5 n = true) ∧ (t.kind = .posted)) ∧
    (∃ (s : State) (p : Port) (n : Node) (t : Tlp), s.Inv ∧ (s.contained 5 n = false) ∧ (s.checkerHeld = true)) ∧
    (∃ (s : State) (p : Port) (n : Node) (t : Tlp), s.Inv ∧ (s.contained 5 n = false) ∧ (s.checkerHeld = false) ∧ (s.bridle.held = []) ∧
      (s.switch.wait = []) ∧ (s.lookup 2 0 t.addr = none) ∧ (t.kind = .nonPosted)) ∧
    (∃ (s : State) (p : Port) (n : Node) (t : Tlp) (i : Nat), s.Inv ∧ (s.contained 5 n = false) ∧ (s.checkerHeld = false) ∧
      (s.bridle.held = []) ∧ (s.switch.wait = []) ∧ (s.lookup 2 0 t.addr = some i) ∧
      ((s.inc (XLAT_HITS i)).verdict ⟨clsNode, spPeer, tlpAccess t, n, t.requester, t.pasid, s.translated i t.addr, max 1 t.payload, s.rd (XLAT_TARGET_PORT i)⟩ = none) ∧ (i < 65536)) ∧
    (∃ (s : State) (o p n q : Nat) (t : Tlp), s.Inv ∧ (s.portHost q = none) ∧ (t.kind = .posted) ∧
      (s.tlpFence { t with egress := Fin.ofNat 128 q, host := 48, requester := s.proxyId q, tag := 0, dest := none, src := none } = none)) ∧
    (∃ (s : State) (p : Port) (a d : Node) (k : Fin 8) (t : Tlp), s.Inv ∧ (s.on MGT_NODE_ID_NODE_VALID = false)) ∧
    (∃ (s : State) (p : Port) (a d : Node) (k : Fin 8) (t : Tlp), s.Inv ∧ (s.on MGT_NODE_ID_NODE_VALID = true)) :=
  ⟨⟨permitting State.reset, 9, 3, ⟨5, 1, none, 0, 0x100, .read 4, false⟩, by decide +kernel⟩,
    ⟨State.reset.wr (DOM_STATE (domIdx 5 3)) 1, 9, 3, tlp, by decide +kernel⟩,
    ⟨State.reset.wr BRD_STATUS_STATE 1, 9, 3, tlp, by decide +kernel⟩,
    ⟨State.reset, 9, 3, { tlp with kind := .nonPosted }, by decide +kernel⟩,
    ⟨((permitting pool1).wrs [(HOSTF_IN_RESET 1, 0), (HOSTF_MSE 1, 1), (HOSTF_BAR2 1, 0x40000000), (BAL_APERTURE_SIZE_LOG2 1, 24),
      (WIN_VALID 3, 1), (WIN_BASE 3, 0), (WIN_LIMIT 3, 0xFFFFFF), (XLAT_VALID 4, 1), (XLAT_TYPE 4, 0), (XLAT_HOST 4, 1),
      (XLAT_SIZE_LOG2 4, 20), (XLAT_WINDOW 4, 3), (BRD_STATUS_LOCK_UNKNOWN, 0)]).wrs [(XLAT_TYPE 4, 2),
      (XLAT_TARGET_PORT 4, 10)], 9, 3, { tlp with addr := 0x800 }, 4, by decide +kernel⟩,
    ⟨State.reset, 0, 9, 3, 10, tlp, by decide +kernel⟩,
    ⟨State.reset, 9, 3, 4, 0, tlp, by decide +kernel⟩,
    ⟨State.reset.wr MGT_NODE_ID_NODE_VALID 1, 9, 3, 4, 0, tlp, by decide +kernel⟩⟩

theorem witness_outside_requests_6 :
    (∃ (s : State) (p : Port) (a d : Node) (k : Fin 8) (t : Tlp), s.Inv ∧
      (s.tlpFence { t with ingress := p, dest := some d, src := some a, unitKind := k, host := 48, egress := Fin.ofNat 128 (s.bucketPort (bucketFrom a t.requester d t.tc)) } = none) ∧ (t.kind ≠ .completion) ∧ (s.reachable d = false ∨ s.contained 5 d = true)) ∧
    (∃ (s : State) (p : Port) (a d : Node) (k : Fin 8) (t : Tlp), s.Inv ∧
      (s.tlpFence { t with ingress := p, dest := some d, src := some a, unitKind := k, host := 48, egress := Fin.ofNat 128 (s.bucketPort (bucketFrom a t.requester d t.tc)) } = none) ∧ (t.kind ≠ .completion) ∧ (s.reachable d = true) ∧ (s.contained 5 d = false) ∧ (s.bucketPort (bucketFrom a t.requester d t.tc) = p.val)) ∧
    (∃ (s : State) (p : Port) (a d : Node) (k : Fin 8) (t : Tlp), s.Inv ∧
      (s.tlpFence { t with ingress := p, dest := some d, src := some a, unitKind := k, host := 48, egress := Fin.ofNat 128 (s.bucketPort (bucketFrom a t.requester d t.tc)) } = none) ∧ (t.kind ≠ .completion) ∧ (s.reachable d = true) ∧ (s.contained 5 d = false) ∧ (s.bucketPort (bucketFrom a t.requester d t.tc) ≠ p.val) ∧ (s.bucketPort (bucketFrom a t.requester d t.tc) < 128) ∧ (t.payload ≤ s.maxPayload (Fin.ofNat 128 (s.bucketPort (bucketFrom a t.requester d t.tc)))) ∧ (s.notExpressible { t with ingress := p, dest := some d, src := some a, unitKind := k, host := 48, egress := Fin.ofNat 128 (s.bucketPort (bucketFrom a t.requester d t.tc)) } = false)) ∧
    (∃ (s : State) (t : Tlp), s.Inv ∧ (t.kind = .nonPosted)) ∧
    (∃ (s : State) (t : Tlp) (n m : Node) (st : Nat), s.Inv ∧ (t.kind = .nonPosted) ∧ (t.dest = some n) ∧ (t.src = some m)) ∧
    (∃ (s : State) (k : ReqKind) (q : Port) (g : BitVec 14), s.Inv ∧ (s.reqOf k q g.toNat = none)) ∧
    (∃ (s : State) (k : ReqKind) (q : Port) (g : BitVec 14) (o : Outst), s.Inv ∧ (s.reqOf k q g.toNat = some o) ∧
      (o.quarantined = false)) ∧
    (∃ (s : State) (k : ReqKind) (q : Port) (g : BitVec 14) (o : Outst), s.Inv ∧ (s.reqOf k q g.toNat = some o) ∧ (o.quarantined = true) ∧
      (s.bridle.held = [])) :=
  ⟨⟨State.reset.wr MGT_NODE_ID_NODE_VALID 1, 9, 3, 4, 0, tlp, by decide +kernel, fence0 _, by decide, by decide +kernel⟩,
    ⟨behind9, 9, 3, 4, 0, tlp, by decide +kernel, fence9 _, by decide, by decide +kernel, by decide +kernel, behind9_port _⟩,
    ⟨behind9, 10, 3, 4, 0, tlp, by decide +kernel, fence10 _, by decide, by decide +kernel, by decide +kernel, fun h =>
      absurd ((behind9_port _).symm.trans h) (by decide), room9 _, size9 _, expr9 _⟩,
    ⟨State.reset, { tlp with kind := .nonPosted }, by decide +kernel⟩,
    ⟨State.reset, { tlp with kind := .nonPosted, dest := some 4, src := some 3 }, 4, 3, 2, by decide +kernel⟩,
    ⟨State.reset, .port, 9, 1, by decide +kernel⟩,
    ⟨{ State.reset with outst := [{ (⟨.port, 9, 1, 0, 50, 0, 5, 5, 1, 0, false, none, none, [], false, true, 0, 0⟩ : Outst) with quarantined := false }] }, .port, 9, 1, { (⟨.port, 9, 1, 0, 50, 0, 5, 5, 1, 0, false, none, none, [], false, true, 0, 0⟩ : Outst) with quarantined := false }, by decide +kernel⟩,
    ⟨{ State.reset with outst := [⟨.port, 9, 1, 0, 50, 0, 5, 5, 1, 0, false, none, none, [], false, true, 0, 0⟩] }, .port, 9, 1, ⟨.port, 9, 1, 0, 50, 0, 5, 5, 1, 0, false, none, none, [], false, true, 0, 0⟩, by decide +kernel⟩⟩

theorem witness_outside_requests_7 :
    ∃ (s : State) (o : Outst), s.Inv ∧ (o ∈ s.outst) :=
  ⟨{ State.reset with outst := [⟨.port, 9, 1, 0, 50, 0, 5, 5, 1, 0, false, none, none, [], false, true, 0, 0⟩] }, ⟨.port, 9, 1, 0, 50, 0, 5, 5, 1, 0, false, none, none, [], false, true, 0, 0⟩, by decide +kernel⟩

/-! Containment -/

theorem witness_containment_1 :
    (∃ (s : State) (c : Cmd), s.Inv ∧ (s.ready 0x0A01 c = true) ∧ (onlyM (s.issuer c.path) = true) ∧ ((cleanCmd c [(0, 8),
      (16, 16)] true && domOk c) = true) ∧ (s.domExists (parBytes c 0 1) (parBytes c 2 2) = true)) ∧
    (∃ (s : State) (c : Cmd), s.Inv ∧ (s.ready 0x0A01 c = true) ∧ (onlyM (s.issuer c.path) = true) ∧ ((cleanCmd c [(0, 8),
      (16, 16)] true && domOk c) = true) ∧ (s.domExists (parBytes c 0 1) (parBytes c 2 2) = false)) ∧
    (∃ (s : State) (l i sev : Nat) (d : Bool), s.Inv ∧ (s.trig = []) ∧ (s.contained l i = false)) ∧
    (∃ (s : State) (w sev : Nat), s.Inv ∧ (w < 4096) ∧ (sev = 3 ∨ bitSet (s.rd ERR_CFG_AUTO_RELEASE) 3 = false) ∧ (s.pool.waiting = []) ∧
      (sev < 4)) ∧
    (∃ (s : State) (w : Nat), s.Inv ∧ (w < 4096) ∧ (bitSet (s.rd ERR_CFG_AUTO_RELEASE) 3 = true) ∧ (s.pool.waiting = [])) ∧
    (∃ (s : State) (l i : Nat), s.Inv ∧ (s.domState l i = 1) ∧ (l < 6) ∧ (i < 4096)) ∧
    (∃ (s : State) (c : Cmd), s.Inv ∧ (s.ready 0x0A02 c = true) ∧ (onlyM (s.issuer c.path) = true) ∧ ((cleanCmd c [(0, 8),
      (16, 16)] false && domOk c) = true) ∧ (s.contained (parBytes c 0 1) (parBytes c 2 2) = true) ∧
      (s.rd (DOMX_RELREQ (domIdx (parBytes c 0 1) (parBytes c 2 2))) = 0) ∧ (parBytes c 0 1 ≠ 4) ∧
      (s.domState (parBytes c 0 1) (parBytes c 2 2) ≤ 2) ∧ (s.opsFull (s.issuer c.path) = false)) ∧
    (∃ (s : State) (c : Cmd), s.Inv ∧ (s.ready 0x0A02 c = true) ∧ (onlyM (s.issuer c.path) = true) ∧ ((cleanCmd c [(0, 8),
      (16, 16)] false && domOk c) = true) ∧ (s.contained (parBytes c 0 1) (parBytes c 2 2) = false)) :=
  ⟨⟨up.wr (PRT_CFG_MODE 9) 2, (pkt 0x90001#448), by decide +kernel⟩,
    ⟨up, (pkt 0x90001#448), by decide +kernel⟩,
    ⟨up, 1, 9, 2, false, by decide +kernel⟩,
    ⟨pool1, 5, 3, by decide +kernel⟩,
    ⟨pool1.wr ERR_CFG_AUTO_RELEASE 8, 5, by decide +kernel⟩,
    ⟨up.wr (DOM_STATE (domIdx 1 9)) 1, 1, 9, by decide +kernel⟩,
    ⟨up.wr (DOM_STATE (domIdx 1 9)) 1, (pkt 0x90001#448), by decide +kernel⟩,
    ⟨up, (pkt 0x90001#448), by decide +kernel⟩⟩

theorem witness_containment_2 :
    (∃ (s : State) (c : Cmd), s.Inv ∧ (s.ready 0x0A02 c = true) ∧ (onlyM (s.issuer c.path) = true) ∧ ((cleanCmd c [(0, 8),
      (16, 16)] false && domOk c) = true) ∧ (s.contained (parBytes c 0 1) (parBytes c 2 2) = true) ∧
      (s.rd (DOMX_RELREQ (domIdx (parBytes c 0 1) (parBytes c 2 2))) ≠ 0)) ∧
    (∃ (s : State) (c : Cmd), s.Inv ∧ (s.ready 0x0A03 c = true) ∧ (onlyM (s.issuer c.path) = true) ∧ ((cleanCmd c [(0, 16), (16, 5),
      (32, 16)] false && decide (1 ≤ parBytes c 0 2) && decide (parBytes c 0 2 ≤ 1000) && decide (1 ≤ parBytes c 4 2) && decide (parBytes c 4 2 ≤ 1000)) = true)) ∧
    (∃ (s : State) (c : Cmd), s.Inv ∧ (s.ready 0x0A04 c = true) ∧ (onlyM (s.issuer c.path) = true) ∧ ((cleanCmd c [(0, 8),
      (8, 8)] false && decide (parBytes c 0 1 < 128) && decide (parBytes c 1 1 < 16)) = true)) ∧
    (∃ (s : State) (c : Cmd), s.Inv ∧ (s.ready 0x0A05 c = true) ∧ (onlyM (s.issuer c.path) = true) ∧ ((cleanCmd c [(0, 8),
      (16, 16)] false && domOk c) = true)) ∧
    (∃ (s : State) (c : Cmd), s.Inv ∧ (s.ready 0x0A06 c = true) ∧ (onlyM (s.issuer c.path) = true) ∧ (cleanCmd c [] false = true)) ∧
    (∃ (s : State) (v : BitVec 31), s.Inv ∧ (domCount (v.toNat % 8) ≤ v.toNat / 8 % 4096)) ∧
    (∃ (s : State) (v : BitVec 31), s.Inv ∧ (v.toNat / 8 % 4096 < domCount (v.toNat % 8))) ∧
    (∃ (s : State) (l : Fin 6) (i : Fin 4096), s.Inv ∧ (s.contained l i = true) ∧ (i.val < domCount l)) :=
  ⟨⟨up.wrs [(DOM_STATE (domIdx 1 9), 1), (DOMX_RELREQ (domIdx 1 9), 7)], (pkt 0x90001#448), by decide +kernel⟩,
    ⟨up, (pkt 0x320003000a#448), by decide +kernel⟩,
    ⟨up, (pkt 0x30a#448), by decide +kernel⟩,
    ⟨up, (pkt 0x30001#448), by decide +kernel⟩,
    ⟨up.wr ERR_STATUS_LOG_WR 5, (pkt 0x0#448), by decide +kernel⟩,
    ⟨up, 0, by decide +kernel⟩,
    ⟨up, 73, by decide +kernel⟩,
    ⟨up.wr (DOM_STATE (domIdx 1 9)) 1, 1, 9, by decide +kernel⟩⟩

theorem witness_containment_3 :
    (∃ (s : State) (l : Fin 6) (i : Fin 4096), s.Inv ∧ (s.contained l i = false)) ∧
    (∃ (s : State) (l : Fin 6) (i : Fin 4096), s.Inv ∧
      (s.domState l i ≠ 2 ∨ s.now < s.rd (DOMX_HOLD_END (domIdx l i)) ∨ s.oldCount l i ≠ 0 ∨ (l.val = 4 ∧ s.windowFailed i = true))) ∧
    (∃ (s : State) (l : Fin 6) (i : Fin 4096), s.Inv ∧ (s.domState l i = 2) ∧ (i.val < domCount l) ∧
      (s.rd (DOMX_HOLD_END (domIdx l i)) ≤ s.now) ∧ (s.oldCount l i = 0) ∧ (l.val ≠ 4 ∨ s.windowFailed i = false)) ∧
    (∃ (s : State) (l i : Nat), s.Inv ∧ (l = 3 ∨ l = 4) ∧ (i < domCount l) ∧ (s.rd (DOMX_RELREQ (domIdx l i)) = 0) ∧ (s.bridle.held = []) ∧
      (s.pool.waiting = [])) ∧
    (∃ (s : State) (i : Nat), s.Inv ∧ (s.trig = []) ∧ (s.errq[i]? = none)) ∧
    (∃ (s : State) (i : Nat) (r : Rec), s.Inv ∧ (s.trig = []) ∧ (s.errq[i]? = some r) ∧ (((s.errq.take i).all fun x =>
      x.source != r.source && (x.level != r.level || x.dom != r.dom)) = true)) ∧
    (∃ (s : State) (i : Nat) (r : Rec), s.Inv ∧ (s.trig = []) ∧ (s.errq[i]? = some r) ∧ (((s.errq.take i).all fun x =>
      x.source != r.source && (x.level != r.level || x.dom != r.dom)) = false)) ∧
    (∃ (s : State) (i : Nat) (r : Rec), s.Inv ∧ (s.errq[i]? = some r) ∧ (s.rd ERRL_UNREAD < 1024) ∧ (r.source < 256)) :=
  ⟨⟨up, 1, 9, by decide +kernel⟩,
    ⟨up, 1, 9, by decide +kernel⟩,
    ⟨pool1.wr (DOM_STATE (domIdx 4 9)) 2, 4, 9, by decide +kernel⟩,
    ⟨pool1.wr (DOM_STATE (domIdx 4 9)) 2, 4, 9, by decide +kernel⟩,
    ⟨up, 0, by decide +kernel⟩,
    ⟨{ up with errq := [rec0] }, 0, rec0, by decide +kernel⟩,
    ⟨{ up with errq := [rec0, rec0] }, 1, rec0, by decide +kernel⟩,
    ⟨{ up with errq := [rec0] }, 0, rec0, by decide +kernel⟩⟩

theorem witness_containment_4 :
    (∃ (s : State) (h : Host) (r : Rec), s.Inv ∧ (r.sev = 0)) ∧
    (∃ (s : State) (p : Port) (r : Fin 4) (f : Bool), s.Inv ∧ (s.dpcArmed p = false)) ∧
    (∃ (s : State) (p : Port) (r : Fin 4) (f : Bool), s.Inv ∧ (s.dpcArmed p = true) ∧ (r.val = 0 ∨ r.val = 3) ∧ (s.trig = [])) ∧
    (∃ (s : State) (p : Port) (f : Bool), s.Inv ∧ (s.dpcArmed p = true) ∧ (s.trig = [])) ∧
    (∃ (s : State) (h : Host) (p : Port), s.Inv ∧ (s.boundHost p = some h.val) ∧ (s.on (DOM_DPC (domIdx 1 p)) = true) ∧
      (s.domState 1 p = 1)) ∧
    (∃ (s : State) (h : Host) (p : Port), s.Inv ∧ (s.boundHost p ≠ some h.val)) :=
  ⟨⟨up, 1, rec0, by decide +kernel⟩,
    ⟨up, 9, 0, true, by decide +kernel⟩,
    ⟨up.wrs [(PRT_CFG_MODE 9, 2), (PRTX_DPC_EN 9, 1)], 9, 0, true, by decide +kernel⟩,
    ⟨up.wrs [(PRT_CFG_MODE 9, 2), (PRTX_DPC_EN 9, 1)], 9, true, by decide +kernel⟩,
    ⟨up.wrs [(PRT_CFG_MODE 9, 2), (BINDX_COUNT 9, 1), (BINDX_HOST 9, 1), (DOM_DPC (domIdx 1 9), 1),
      (DOM_STATE (domIdx 1 9), 1)], 1, 9, by decide +kernel⟩,
    ⟨up, 1, 9, by decide +kernel⟩⟩

/-! Gondolas -/

theorem witness_gondolas_1 :
    (∃ (s : State) (c : Cmd) (g : Nat), s.Inv ∧ (s.ready 0x0701 c = true) ∧ (onlyM (s.issuer c.path) = true) ∧ (cleanCmd c [(0, 8),
      (16, 16), (32, 20), (64, 16), (80, 16), (96, 16), (112, 8), (120, 1), (128, 32), (160, 16), (192, 64)] false = true) ∧
      ((s.drawChecks (drawOfCmd c)).all (fun x => !x.1) = true) ∧ (s.drawNumber (drawOfCmd c) = some g) ∧
      ((drawOfCmd c).shaped = false)) ∧
    (∃ (s : State) (c : Cmd) (b : Bool) (st : Nat), s.Inv ∧ (s.ready 0x0701 c = true) ∧ (onlyM (s.issuer c.path) = true) ∧
      (cleanCmd c [(0, 8), (16, 16), (32, 20), (64, 16), (80, 16), (96, 16), (112, 8), (120, 1), (128, 32), (160, 16),
      (192, 64)] false = true) ∧ ((s.drawChecks (drawOfCmd c)).find? (fun x => x.1) = some (b, st))) ∧
    (∃ (s : State) (d : Draw) (g : Nat), s.Inv ∧ (d.shaped = false) ∧ (g < 1024) ∧ (d.host < 48) ∧ ((s.freeSlot d.host).isSome = true) ∧
      (s.drawInRange d = true) ∧ (s.contained 3 g = false)) ∧
    (∃ (s : State) (c : Cmd), s.Inv ∧ (s.ready 0x0704 c = true) ∧ (onlyM (s.issuer c.path) = true) ∧
      ((cleanCmd c [(0, 16)] false && decide (parBytes c 0 2 < 1024)) = true) ∧ (s.rd (GND_STATE (parBytes c 0 2)) = 1) ∧
      (s.opsFull (s.issuer c.path) = false)) ∧
    (∃ (s : State) (c : Cmd), s.Inv ∧ (s.ready 0x0704 c = true) ∧ (onlyM (s.issuer c.path) = true) ∧
      ((cleanCmd c [(0, 16)] false && decide (parBytes c 0 2 < 1024)) = true) ∧ (s.rd (GND_STATE (parBytes c 0 2)) ≠ 1)) ∧
    (∃ (s : State) (g : Gond), s.Inv ∧ (s.rd (GND_STATE g) ≠ 2 ∨ s.quiesced g = false)) ∧
    (∃ (s : State) (g : Gond), s.Inv ∧ (s.rd (GND_STATE g) = 2) ∧ (s.quiesced g = true) ∧
      (((s.wr (GND_STATE g) 3).saveGond).gondOp [opFreeze] g = none)) ∧
    (∃ (s : State) (c : Cmd), s.Inv ∧ (s.ready 0x0705 c = true) ∧ (onlyM (s.issuer c.path) = true) ∧
      ((cleanCmd c [(0, 16)] false && decide (parBytes c 0 2 < 1024)) = true) ∧ (s.rd (GND_STATE (parBytes c 0 2)) ≠ 3)) :=
  ⟨⟨up, (pkt 0x10001000200040000000900050001#448), 5, by decide +kernel⟩,
    ⟨up.wrs [(GND_VALID 5, 1), (GND_STATE 5, 1)], (pkt 0x10001000200040000000900050001#448), true, stOverlap, by decide +kernel⟩,
    ⟨up, drawOfCmd (pkt 0x10001000200040000000900050001#448), 5, by decide +kernel⟩,
    ⟨up.wrs [(GND_VALID 5, 1), (GND_STATE 5, 1), (GND_HOST 5, 1)], (pkt 0x5#448), by decide +kernel⟩,
    ⟨up.wrs [(GND_VALID 5, 1), (GND_STATE 5, 3), (GND_HOST 5, 1)], (pkt 0x5#448), by decide +kernel⟩,
    ⟨up.wrs [(GND_VALID 5, 1), (GND_STATE 5, 1), (GND_HOST 5, 1)], 5, by decide +kernel⟩,
    ⟨(up.wrs [(GND_VALID 5, 1), (GND_STATE 5, 1), (GND_HOST 5, 1)]).wr (GND_STATE 5) 2, 5, by decide +kernel⟩,
    ⟨up.wrs [(GND_VALID 5, 1), (GND_STATE 5, 1), (GND_HOST 5, 1)], (pkt 0x5#448), by decide +kernel⟩⟩

theorem witness_gondolas_2 :
    (∃ (s : State) (c : Cmd), s.Inv ∧ (s.ready 0x0705 c = true) ∧ (onlyM (s.issuer c.path) = true) ∧
      ((cleanCmd c [(0, 16)] false && decide (parBytes c 0 2 < 1024)) = true) ∧ (s.rd (GND_STATE (parBytes c 0 2)) = 3) ∧
      ((s.gondOp [opSave] (parBytes c 0 2)).isSome = true)) ∧
    (∃ (s : State) (c : Cmd), s.Inv ∧ (s.ready 0x0705 c = true) ∧ (onlyM (s.issuer c.path) = true) ∧
      ((cleanCmd c [(0, 16)] false && decide (parBytes c 0 2 < 1024)) = true) ∧ (s.rd (GND_STATE (parBytes c 0 2)) = 3) ∧
      (s.gondOp [opSave] (parBytes c 0 2) = none) ∧
      ((s.wr (GND_STATE (parBytes c 0 2)) 1).hostOpen (s.rd (GND_HOST (parBytes c 0 2))) = false)) ∧
    (∃ (s : State) (g : Nat) (o : Op), s.Inv ∧ (o ∈ s.ops) ∧ (o.issuer = .g g)) ∧
    (∃ (s : State) (c : Cmd), s.Inv ∧ (s.ready 0x0706 c = true) ∧ (onlyM (s.issuer c.path) = true) ∧ ((cleanCmd c [(0, 16), (64, 64),
      (128, 32)] false && decide (parBytes c 0 2 < 1024)) = true) ∧ (s.rd (GND_STATE (parBytes c 0 2)) = 3) ∧ (s.mgmtHost.isSome = true) ∧
      (s.gondOp [opSave] (parBytes c 0 2) = none) ∧ (s.opsFull (s.issuer c.path) = false)) ∧
    (∃ (s : State) (c : Cmd), s.Inv ∧ (s.ready 0x0706 c = true) ∧ (onlyM (s.issuer c.path) = true) ∧ ((cleanCmd c [(0, 16), (64, 64),
      (128, 32)] false && decide (parBytes c 0 2 < 1024)) = true) ∧ (s.rd (GND_STATE (parBytes c 0 2)) ≠ 3)) ∧
    (∃ (s : State) (c : Cmd), s.Inv ∧ (s.ready 0x0707 c = true) ∧ (onlyM (s.issuer c.path) = true) ∧ (cleanCmd c [(0, 8), (16, 16),
      (32, 20), (64, 64), (128, 32)] false = true) ∧ (s.mgmtHost.isSome = true) ∧ (s.opsFull (s.issuer c.path) = false)) ∧
    (∃ (s : State) (c : Cmd), s.Inv ∧ (s.ready 0x0703 c = true) ∧ (s.issuer c.path = .m ∨ s.issuer c.path = .g (parBytes c 0 2)) ∧
      ((cleanCmd c [(0, 16)] true && decide (parBytes c 0 2 < 1024)) = true) ∧
      (s.rd (GND_STATE (parBytes c 0 2)) = 1 ∨ s.rd (GND_STATE (parBytes c 0 2)) = 3) ∧ (s.gondOp [opSave] (parBytes c 0 2) = none) ∧
      (s.opsFull (s.issuer c.path) = false)) ∧
    (∃ (s : State) (c : Cmd), s.Inv ∧ (s.ready 0x0703 c = true) ∧ (s.issuer c.path = .m ∨ s.issuer c.path = .g (parBytes c 0 2)) ∧
      ((cleanCmd c [(0, 16)] true && decide (parBytes c 0 2 < 1024)) = true) ∧ (s.rd (GND_STATE (parBytes c 0 2)) ≠ 1) ∧
      (s.rd (GND_STATE (parBytes c 0 2)) ≠ 3)) :=
  ⟨⟨{ up.wrs [(GND_VALID 5, 1), (GND_STATE 5, 3), (GND_HOST 5, 1)] with ops := [⟨5, 0x0706, (pkt 0x5#448), .m, 128, 0, 0, 0, 0, false, none, 0, false, false, false, false⟩] }, (pkt 0x5#448), by decide +kernel⟩,
    ⟨up.wrs [(GND_VALID 5, 1), (GND_STATE 5, 3), (GND_HOST 5, 1)], (pkt 0x5#448), by decide +kernel⟩,
    ⟨{ up with ops := [⟨5, 0x0706, (pkt 0x5#448), .g 7, 128, 0, 0, 0, 0, false, none, 0, false, false, true, false⟩] }, 7, ⟨5, 0x0706, (pkt 0x5#448), .g 7, 128, 0, 0, 0, 0, false, none, 0, false, false, true, false⟩, by decide +kernel⟩,
    ⟨up.wrs [(GND_VALID 5, 1), (GND_STATE 5, 3), (GND_HOST 5, 1)], (pkt 0x5#448), by decide +kernel⟩,
    ⟨up.wrs [(GND_VALID 5, 1), (GND_STATE 5, 1), (GND_HOST 5, 1)], (pkt 0x5#448), by decide +kernel⟩,
    ⟨up, (pkt 0x1#448), by decide +kernel⟩,
    ⟨up.wrs [(GND_VALID 5, 1), (GND_STATE 5, 1), (GND_HOST 5, 1)], (pkt 0x5#448), by decide +kernel⟩,
    ⟨up, (pkt 0x5#448), by decide +kernel⟩⟩

theorem witness_gondolas_3 :
    (∃ (s : State) (c : Cmd), s.Inv ∧ (s.ready 0x0702 c = true) ∧ (onlyM (s.issuer c.path) = true) ∧
      ((cleanCmd c [(0, 16)] true && decide (parBytes c 0 2 < 1024)) = true) ∧
      (s.rd (GND_STATE (parBytes c 0 2)) = 1 ∨ s.rd (GND_STATE (parBytes c 0 2)) = 3) ∧ (s.gondOp [opSave] (parBytes c 0 2) = none) ∧
      ((findFrom (fun w => s.on (WIN_VALID w) && s.on (WIN_OWNER_VALID w) && s.rd (WIN_OWNER w) == parBytes c 0 2) 0 4096) = none) ∧
      (s.releasing 3 (parBytes c 0 2) = false) ∧ (s.opsFull (s.issuer c.path) = false)) ∧
    (∃ (s : State) (c : Cmd), s.Inv ∧ (s.ready 0x0702 c = true) ∧ (onlyM (s.issuer c.path) = true) ∧
      ((cleanCmd c [(0, 16)] true && decide (parBytes c 0 2 < 1024)) = true) ∧ (s.rd (GND_STATE (parBytes c 0 2)) ≠ 1) ∧
      (s.rd (GND_STATE (parBytes c 0 2)) ≠ 3)) ∧
    (∃ (s : State) (g : Nat), s.Inv ∧ (g < 1024) ∧ (s.stoppedAppends g = [])) ∧
    (∃ (s : State) (g : Gond), s.Inv ∧ (s.rd (GND_STATE g) ≠ 4) ∧ (s.rd (GND_STATE g) ≠ 5)) ∧
    (∃ (s : State) (g : Gond), s.Inv ∧ (s.rd (GND_STATE g) = 4) ∧ (s.resetDrained g = true) ∧
      ((s.clearGond g).gondOp [opReset, opDestroy] g = none)) ∧
    (∃ (s : State) (g : Gond) (o : Op), s.Inv ∧ (s.rd (GND_STATE g) = 4) ∧ (s.resetDrained g = true) ∧
      ((s.clearGond g).gondOp [opReset, opDestroy] g = some o) ∧ ((s.clearGond g).contained 3 g = false) ∧ (o.opcode = opReset)) :=
  ⟨⟨up.wrs [(GND_VALID 5, 1), (GND_STATE 5, 1), (GND_HOST 5, 1)], (pkt 0x5#448), by decide +kernel⟩,
    ⟨up, (pkt 0x5#448), by decide +kernel⟩,
    ⟨up, 5, by decide +kernel⟩,
    ⟨up.wrs [(GND_VALID 5, 1), (GND_STATE 5, 1), (GND_HOST 5, 1)], 5, by decide +kernel⟩,
    ⟨(up.wrs [(GND_VALID 5, 1), (GND_STATE 5, 1), (GND_HOST 5, 1)]).wr (GND_STATE 5) 4, 5, by decide +kernel⟩,
    ⟨{ (up.wrs [(GND_VALID 5, 1), (GND_STATE 5, 1), (GND_HOST 5, 1)]).wr (GND_STATE 5) 4 with ops := [⟨5, 0x0703, (pkt 0x5#448), .m, 128, 0, 1, 0, 0, false, none, 0, false, false, false, false⟩] }, 5, ⟨5, 0x0703, (pkt 0x5#448), .m, 128, 0, 1, 0, 0, false, none, 0, false, false, false, false⟩, by decide +kernel⟩⟩

/-! InputsAndLongOperations -/

theorem witness_inputs_and_long_operations_1 :
    (∃ (s : State) (i : Fin 80) (level : Bool) (id : BitVec 1024) (mv : BitVec 16) (t : BitVec 8), s.Inv ∧ (s.inputLive i = false)) ∧
    (∃ (s : State) (i : Fin 80) (level : Bool) (id : BitVec 1024) (mv : BitVec 16) (t : BitVec 8), s.Inv ∧ (isInput i = true) ∧
      (s.inputLive i = true) ∧ (bitSet (s.rd (inputFld i)) 2 = true ∨ (bitSet (s.rd (inputFld i)) 1 = true ∧
      bitSet (s.rd (inputFld i)) 0 = level))) ∧
    (∃ (s : State) (c : Slot) (p : Bool), s.Inv ∧ (s.inputLive (16 + c) = false)) ∧
    (∃ (s : State) (c : Slot) (p : Bool), s.Inv ∧ (s.inputLive (16 + c) = true) ∧
      (bitSet (s.rd (inputFld (16 + c))) 2 = true ∨ (bitSet (s.rd (inputFld (16 + c))) 1 = true ∧
      bitSet (s.rd (inputFld (16 + c))) 0 = p))) ∧
    (∃ (s : State) (c : Slot), s.Inv ∧ (s.inputLive (48 + c) = false)) ∧
    (∃ (s : State) (c : Slot), s.Inv ∧ (s.inputLive (48 + c) = true) ∧
      (bitSet (s.rd (inputFld (48 + c))) 2 = true ∨ (bitSet (s.rd (inputFld (48 + c))) 1 = true ∧
      bitSet (s.rd (inputFld (48 + c))) 0 = true))) ∧
    (∃ (s : State), s.Inv ∧ (s.inputLive 1 = false)) ∧
    (∃ (s : State), s.Inv ∧ (s.inputLive 1 = true) ∧ (bitSet (s.rd (inputFld 1)) 2 = true ∨ (bitSet (s.rd (inputFld 1)) 1 = true ∧
      bitSet (s.rd (inputFld 1)) 0 = true))) :=
  ⟨⟨up.wr MORX_DEAD 1, 1, true, 0, 0, 0, by decide +kernel⟩,
    ⟨up.wr (inputFld 1) 4, 1, true, 0, 0, 0, by decide +kernel⟩,
    ⟨up.wr MORX_DEAD 1, 3, true, by decide +kernel⟩,
    ⟨up.wr (inputFld (16 + 3)) 4, 3, true, by decide +kernel⟩,
    ⟨up.wr MORX_DEAD 1, 3, by decide +kernel⟩,
    ⟨up.wr (inputFld (48 + 3)) 4, 3, by decide +kernel⟩,
    ⟨up.wr MORX_DEAD 1, by decide +kernel⟩,
    ⟨up.wr (inputFld 1) 4, by decide +kernel⟩⟩

theorem witness_inputs_and_long_operations_2 :
    (∃ (s : State), s.Inv ∧ (s.inputLive 0 = false)) ∧
    (∃ (s : State), s.Inv ∧ (s.inputLive 0 = true) ∧ (bitSet (s.rd (inputFld 0)) 2 = true ∨ (bitSet (s.rd (inputFld 0)) 1 = true ∧
      bitSet (s.rd (inputFld 0)) 0 = true))) ∧
    (∃ (s : State) (id : BitVec 1024) (mv : BitVec 16) (t : BitVec 8), s.Inv ∧ (s.inputLive 2 = false)) ∧
    (∃ (s : State) (id : BitVec 1024) (mv : BitVec 16) (t : BitVec 8), s.Inv ∧ (s.inputLive 2 = true) ∧
      (bitSet (s.rd (inputFld 2)) 2 = true ∨ (bitSet (s.rd (inputFld 2)) 1 = true ∧ bitSet (s.rd (inputFld 2)) 0 = true))) ∧
    (∃ (s : State), s.Inv ∧ (s.inputLive 2 = false)) ∧
    (∃ (s : State), s.Inv ∧ (s.inputLive 2 = true) ∧ (bitSet (s.rd (inputFld 2)) 2 = true ∨ (bitSet (s.rd (inputFld 2)) 1 = true ∧
      bitSet (s.rd (inputFld 2)) 0 = false))) ∧
    (∃ (s : State), s.Inv ∧ (s.inputLive 3 = false)) ∧
    (∃ (s : State), s.Inv ∧ (s.inputLive 3 = true) ∧ (bitSet (s.rd (inputFld 3)) 2 = true ∨ (bitSet (s.rd (inputFld 3)) 1 = true ∧
      bitSet (s.rd (inputFld 3)) 0 = true))) :=
  ⟨⟨up.wr MORX_DEAD 1, by decide +kernel⟩,
    ⟨up.wr (inputFld 0) 4, by decide +kernel⟩,
    ⟨up.wr MORX_DEAD 1, 0, 0, 0, by decide +kernel⟩,
    ⟨up.wr (inputFld 2) 4, 0, 0, 0, by decide +kernel⟩,
    ⟨up.wr MORX_DEAD 1, by decide +kernel⟩,
    ⟨up.wr (inputFld 2) 4, by decide +kernel⟩,
    ⟨up.wr MORX_DEAD 1, by decide +kernel⟩,
    ⟨up.wr (inputFld 3) 4, by decide +kernel⟩⟩

theorem witness_inputs_and_long_operations_3 :
    (∃ (s : State) (i : Fin 80) (level : Bool) (id : BitVec 1024) (mv : BitVec 16) (t : BitVec 8), s.Inv ∧ (isInput i = true) ∧
      (s.inputLive i = true) ∧ (bitSet (s.rd (inputFld i)) 1 = false) ∧ (bitSet (s.rd (inputFld i)) 2 = false)) ∧
    (∃ (s : State) (i : Fin 80) (level : Bool) (id : BitVec 1024) (mv : BitVec 16) (t : BitVec 8), s.Inv ∧ (isInput i = true) ∧
      (s.inputLive i = true) ∧ (bitSet (s.rd (inputFld i)) 1 = true) ∧ (bitSet (s.rd (inputFld i)) 2 = false) ∧
      (bitSet (s.rd (inputFld i)) 0 ≠ level)) ∧
    (∃ (s : State) (c : Slot), s.Inv ∧ (s.inputLive (16 + c) = true) ∧ (bitSet (s.rd (inputFld (16 + c))) 1 = false) ∧
      (bitSet (s.rd (inputFld (16 + c))) 2 = false)) ∧
    (∃ (s : State) (c : Slot), s.Inv ∧ (s.inputLive (16 + c) = true) ∧ (bitSet (s.rd (inputFld (16 + c))) 1 = false) ∧
      (bitSet (s.rd (inputFld (16 + c))) 2 = false)) ∧
    (∃ (s : State) (c : Slot), s.Inv ∧ (s.inputLive (48 + c) = true) ∧ (bitSet (s.rd (inputFld (48 + c))) 1 = false) ∧
      (bitSet (s.rd (inputFld (48 + c))) 2 = false)) ∧
    (∃ (s : State), s.Inv ∧ (s.inputLive 1 = true) ∧ (bitSet (s.rd (inputFld 1)) 1 = false) ∧ (bitSet (s.rd (inputFld 1)) 2 = false) ∧
      (s.on SYS_OFF = false)) ∧
    (∃ (s : State), s.Inv ∧ (s.inputLive 1 = true) ∧ (bitSet (s.rd (inputFld 1)) 1 = false) ∧ (bitSet (s.rd (inputFld 1)) 2 = false) ∧
      (s.on SYS_OFF = true)) ∧
    (∃ (s : State), s.Inv ∧ (s.inputLive 0 = true) ∧ (bitSet (s.rd (inputFld 0)) 1 = false) ∧ (bitSet (s.rd (inputFld 0)) 2 = false)) :=
  ⟨⟨up, 1, true, 0, 0, 0, by decide +kernel⟩,
    ⟨up.wr (inputFld 1) 2, 1, true, 0, 0, 0, by decide +kernel⟩,
    ⟨up, 3, by decide +kernel⟩,
    ⟨up.wr GLB_BOOT_STATUS_STAGE 6, 3, by decide +kernel⟩,
    ⟨up.wr GLB_BOOT_STATUS_STAGE 6, 3, by decide +kernel⟩,
    ⟨up, by decide +kernel⟩,
    ⟨up.wr SYS_OFF 1, by decide +kernel⟩,
    ⟨up, by decide +kernel⟩⟩

theorem witness_inputs_and_long_operations_4 :
    (∃ (s : State) (id : BitVec 1024) (mv : BitVec 16) (t : BitVec 8), s.Inv ∧ (s.inputLive 2 = true) ∧
      (bitSet (s.rd (inputFld 2)) 1 = false) ∧ (bitSet (s.rd (inputFld 2)) 2 = false)) ∧
    (∃ (s : State), s.Inv ∧ (s.inputLive 2 = true) ∧ (bitSet (s.rd (inputFld 2)) 1 = false) ∧ (bitSet (s.rd (inputFld 2)) 2 = false)) ∧
    (∃ (s : State), s.Inv ∧ (s.inputLive 2 = true) ∧ (bitSet (s.rd (inputFld 2)) 1 = true) ∧ (bitSet (s.rd (inputFld 2)) 0 = true) ∧
      (bitSet (s.rd (inputFld 2)) 2 = false)) ∧
    (∃ (s : State), s.Inv ∧ (s.inputLive 3 = true) ∧ (bitSet (s.rd (inputFld 3)) 1 = false) ∧ (bitSet (s.rd (inputFld 3)) 2 = false) ∧
      (s.rd CHNX_FB_AT ≠ 0)) ∧
    (∃ (s : State), s.Inv ∧ (s.inputLive 3 = true) ∧ (bitSet (s.rd (inputFld 3)) 1 = true) ∧ (bitSet (s.rd (inputFld 3)) 0 = false) ∧
      (bitSet (s.rd (inputFld 3)) 2 = false) ∧ (s.on CHNX_EDGE = false) ∧ (s.rd GLB_BOOT_STATUS_STAGE = 6) ∧
      (s.on GLB_INPUT_STATUS_CHAIN_INITIAL = false) ∧ (s.hasIdentity = false)) ∧
    (∃ (s : State), s.Inv ∧ (s.inputLive 3 = true) ∧ (bitSet (s.rd (inputFld 3)) 1 = true) ∧ (bitSet (s.rd (inputFld 3)) 0 = false) ∧
      (bitSet (s.rd (inputFld 3)) 2 = false) ∧ (s.on CHNX_EDGE = false) ∧ (s.rd GLB_BOOT_STATUS_STAGE = 6) ∧
      (s.on GLB_INPUT_STATUS_CHAIN_INITIAL = false) ∧ (s.hasIdentity = true)) ∧
    (∃ (s : State) (c : Cmd), s.Inv ∧ (s.ready 0x0107 c = true) ∧ (onlyM (s.issuer c.path) = true) ∧
      ((cleanCmd c [(0, 8)] false && isInput (parBytes c 0 1)) = true)) ∧
    (∃ (s : State) (i : Nat), s.Inv ∧ (32 ≤ (recent (((s.mgmt.edges.filter fun (x : Nat × Nat) =>
      x.1 != 256 + i || decide (s.now < x.2 + sec)) ++ [(256 + i, s.now)])) (256 + i) s.now sec).length) ∧ (i < 3)) :=
  ⟨⟨up, 0, 0, 0, by decide +kernel⟩,
    ⟨up, by decide +kernel⟩,
    ⟨up.wr (inputFld 2) 11, by decide +kernel⟩,
    ⟨up.wr CHNX_FB_AT 5, by decide +kernel⟩,
    ⟨up.wrs [(inputFld 3, 2), (GLB_BOOT_STATUS_STAGE, 6)], by decide +kernel⟩,
    ⟨up.wrs [(inputFld 3, 2), (GLB_BOOT_STATUS_STAGE, 6), (MGT_NODE_ID_SOURCE, 2)], by decide +kernel⟩,
    ⟨up.wr (inputFld 1) 6, (pkt 0x1#448), by decide +kernel⟩,
    ⟨{ up with mgmt := { up.mgmt with edges := List.replicate 32 (257, 0) } }, 1, by decide +kernel⟩⟩

theorem witness_inputs_and_long_operations_5 :
    (∃ (s : State) (h : Fin 65552) (e : Eng) (n : Nat) (ok : Bool), s.Inv ∧ ((s.ops.find? fun o =>
      o.handle == h.val && o.final.isNone) = none)) ∧
    (∃ (s : State) (h : Fin 65552) (e : Eng) (n : Nat) (ok : Bool) (o : Op), s.Inv ∧ ((s.ops.find? fun o =>
      o.handle == h.val && o.final.isNone) = some o) ∧
      (s.on SYS_FW_UP = false ∨ s.on SYS_DRAINING = true ∨ s.moored = true ∨ o.paused = true ∨ s.engFaulted e = true ∨ s.rd (PEN_ENG_STATUS_GROUP e) ≠ opGroup o.opcode)) ∧
    (∃ (s : State) (h : Fin 65552) (e : Eng) (n : Nat) (ok : Bool) (o : Op), s.Inv ∧ ((s.ops.find? fun o =>
      o.handle == h.val && o.final.isNone) = some o) ∧ (s.on SYS_FW_UP = true) ∧ (s.on SYS_DRAINING = false) ∧ (s.moored = false) ∧
      (o.paused = false) ∧ (s.engFaulted e = false) ∧ (s.rd (PEN_ENG_STATUS_GROUP e) = opGroup o.opcode) ∧ (o.cancel = true)) ∧
    (∃ (s : State) (h : Fin 65552) (e : Eng) (n : Nat) (ok : Bool) (o : Op) (g : Nat), s.Inv ∧ ((s.ops.find? fun o =>
      o.handle == h.val && o.final.isNone) = some o) ∧ (s.on SYS_FW_UP = true) ∧ (s.on SYS_DRAINING = false) ∧ (s.moored = false) ∧
      (o.paused = false) ∧ (s.engFaulted e = false) ∧ (s.rd (PEN_ENG_STATUS_GROUP e) = opGroup o.opcode) ∧ (o.cancel = false) ∧
      (o.issuer = .g g) ∧ (s.contained 3 g = true)) ∧
    (∃ (s : State) (h : Fin 65552) (e : Eng) (n : Nat) (ok : Bool) (o : Op) (g : Nat), s.Inv ∧ ((s.ops.find? fun o =>
      o.handle == h.val && o.final.isNone) = some o) ∧ (s.on SYS_FW_UP = true) ∧ (s.on SYS_DRAINING = false) ∧ (s.moored = false) ∧
      (o.paused = false) ∧ (s.engFaulted e = false) ∧ (s.rd (PEN_ENG_STATUS_GROUP e) = opGroup o.opcode) ∧ (o.cancel = false) ∧
      (o.issuer = .g g) ∧ (s.contained 3 g = false) ∧ (s.rd (GND_STATE g) = 2 ∨ s.rd (GND_STATE g) = 3)) ∧
    (∃ (s : State) (h : Fin 65552) (e : Eng) (n : Nat) (ok : Bool) (o : Op), s.Inv ∧ ((s.ops.find? fun o =>
      o.handle == h.val && o.final.isNone) = some o) ∧ (s.on SYS_FW_UP = true) ∧ (s.on SYS_DRAINING = false) ∧ (s.moored = false) ∧
      (o.paused = false) ∧ (s.engFaulted e = false) ∧ (s.rd (PEN_ENG_STATUS_GROUP e) = opGroup o.opcode) ∧ (o.cancel = false) ∧
      (o.issuer = .m) ∧ (s.hasTurn o = true)) ∧
    (∃ (s : State) (o : Op), s.Inv ∧ (o.opcode = opCrc ∨ o.opcode = opZero ∨ o.opcode = opCopy)) ∧
    (∃ (s : State) (k : ReqKind) (q : Port) (g : BitVec 14) (st : Fin 8) (data : List (BitVec 8)) (po la : Bool), s.Inv ∧
      (s.reqOf k q g.toNat = none) ∧ (k ≠ .host)) :=
  ⟨⟨up, 5, 70, 1, true, by decide +kernel⟩,
    ⟨{ up.wr SYS_FW_UP 0 with ops := [⟨5, opCrc, (pkt 0x5#448), .m, 128, 0, 1, 0, 0, false, none, 0, false, false, false, false⟩] }, 5, 70, 1, true, ⟨5, opCrc, (pkt 0x5#448), .m, 128, 0, 1, 0, 0, false, none, 0, false, false, false, false⟩, by decide +kernel⟩,
    ⟨{ up.wr (PEN_ENG_STATUS_GROUP 70) grpGeneral with ops := [⟨5, opCrc, (pkt 0x5#448), .m, 128, 0, 1, 0, 0, true, none, 0, false, false, false, false⟩] }, 5, 70, 1, true, ⟨5, opCrc, (pkt 0x5#448), .m, 128, 0, 1, 0, 0, true, none, 0, false, false, false, false⟩, by decide +kernel⟩,
    ⟨{ (up.wr (PEN_ENG_STATUS_GROUP 70) grpGeneral).wr (DOM_STATE (domIdx 3 7)) 1 with ops := [⟨5, opCrc, (pkt 0x5#448), .g 7, 128, 0, 1, 0, 0, false, none, 0, false, false, false, false⟩] }, 5, 70, 1, true, ⟨5, opCrc, (pkt 0x5#448), .g 7, 128, 0, 1, 0, 0, false, none, 0, false, false, false, false⟩, 7, by decide +kernel⟩,
    ⟨{ (up.wr (PEN_ENG_STATUS_GROUP 70) grpGeneral).wr (GND_STATE 7) 2 with ops := [⟨5, opCrc, (pkt 0x5#448), .g 7, 128, 0, 1, 0, 0, false, none, 0, false, false, false, false⟩] }, 5, 70, 1, true, ⟨5, opCrc, (pkt 0x5#448), .g 7, 128, 0, 1, 0, 0, false, none, 0, false, false, false, false⟩, 7, by decide +kernel⟩,
    ⟨{ up.wr (PEN_ENG_STATUS_GROUP 70) grpGeneral with ops := [⟨5, opCrc, (pkt 0x5#448), .m, 128, 0, 1, 0, 0, false, none, 0, false, false, false, false⟩] }, 5, 70, 1, true, ⟨5, opCrc, (pkt 0x5#448), .m, 128, 0, 1, 0, 0, false, none, 0, false, false, false, false⟩, by decide +kernel⟩,
    ⟨up, ⟨5, opCrc, (pkt 0x5#448), .m, 128, 0, 1, 0, 0, false, none, 0, false, false, false, false⟩, by decide +kernel⟩,
    ⟨up, .port, 9, 1, 0, [], false, true, by decide +kernel⟩⟩

theorem witness_inputs_and_long_operations_6 :
    (∃ (s : State) (k : ReqKind) (q : Port) (g : BitVec 14) (st : Fin 8) (data : List (BitVec 8)) (po la : Bool) (o : Outst), s.Inv ∧
      (s.reqOf k q g.toNat = some o) ∧ (o.quarantined = true) ∧ (k ≠ .host) ∧ (la = false)) ∧
    (∃ (s : State) (k : ReqKind) (q : Port) (g : BitVec 14) (st : Fin 8) (data : List (BitVec 8)) (po la : Bool) (o : Outst), s.Inv ∧
      (s.reqOf k q g.toNat = some o) ∧ (o.quarantined = false) ∧ (k ≠ .host) ∧ (o.waiter = 0) ∧ (st.val ≠ 0 ∨ la = true)) ∧
    (∃ (s : State) (k : ReqKind) (q : Port) (g : BitVec 14) (st : Fin 8) (data : List (BitVec 8)) (po la : Bool) (o : Outst), s.Inv ∧
      (s.reqOf k q g.toNat = some o) ∧ (o.quarantined = false) ∧ (k ≠ .host) ∧ (st.val = 0) ∧ (la = false) ∧
      (o.waiter ≠ 0 ∨ o.src < 64 ∨ 128 ≤ o.src)) ∧
    (∃ (s : State) (k : ReqKind) (q : Port) (g : BitVec 14) (st : Fin 8) (data : List (BitVec 8)) (po la : Bool) (o : Outst), s.Inv ∧
      (s.reqOf k q g.toNat = some o) ∧ (o.quarantined = false) ∧ (k ≠ .host) ∧ (st.val = 0) ∧ (la = false) ∧ (o.waiter = 0) ∧ (64 ≤ o.src) ∧
      (o.src < 128)) ∧
    (∃ (s : State) (k : ReqKind) (q : Port) (g : BitVec 14) (st : Fin 8) (data : List (BitVec 8)) (po la : Bool) (o : Outst), s.Inv ∧
      (s.reqOf k q g.toNat = some o) ∧ (o.quarantined = false) ∧ (k ≠ .host) ∧ (o.waiter ≠ 0) ∧ (st.val = 0) ∧ (la = true) ∧
      (o.poison = false) ∧ (po = false)) ∧
    (∃ (s : State) (k : ReqKind) (q : Port) (g : BitVec 14) (st : Fin 8) (data : List (BitVec 8)) (po la : Bool) (o : Outst), s.Inv ∧
      (s.reqOf k q g.toNat = some o) ∧ (o.quarantined = false) ∧ (k ≠ .host) ∧ (o.waiter ≠ 0) ∧ (st.val ≠ 0 ∨ la = true ∧
      (o.poison = true ∨ po = true))) ∧
    (∃ (s : State) (k : ReqKind) (q : Port) (g : BitVec 14) (st : Fin 8) (data : List (BitVec 8)) (po la : Bool) (o : Outst), s.Inv ∧
      (s.reqOf .host q g.toNat = some o) ∧ (o.quarantined = false) ∧ (s.contained 2 q.val = true)) ∧
    (∃ (s : State) (o : Outst), s.Inv ∧ (s.bridle.held = [])) :=
  ⟨⟨{ up with outst := [⟨.port, 9, 1, 0, 50, 0, 5, 5, 1, 0, false, none, none, [], false, true, 0, 0⟩] }, .port, 9, 1, 0, [], false, false, ⟨.port, 9, 1, 0, 50, 0, 5, 5, 1, 0, false, none, none, [], false, true, 0, 0⟩, by decide +kernel⟩,
    ⟨{ up with outst := [⟨.port, 9, 1, 0, 50, 0, 5, 5, 1, 0, false, none, none, [], false, false, 0, 0⟩] }, .port, 9, 1, 0, [], false, true, ⟨.port, 9, 1, 0, 50, 0, 5, 5, 1, 0, false, none, none, [], false, false, 0, 0⟩, by decide +kernel⟩,
    ⟨{ up with outst := [⟨.port, 9, 1, 0, 50, 0, 5, 5, 1, 0, false, none, none, [], false, false, 0, 0⟩] }, .port, 9, 1, 0, [], false, false, ⟨.port, 9, 1, 0, 50, 0, 5, 5, 1, 0, false, none, none, [], false, false, 0, 0⟩, by decide +kernel⟩,
    ⟨{ up with outst := [⟨.port, 9, 1, 0, 50, 0, 70, 5, 1, 0, false, none, none, [], false, false, 0, 0⟩] }, .port, 9, 1, 0, [], false, false, ⟨.port, 9, 1, 0, 50, 0, 70, 5, 1, 0, false, none, none, [], false, false, 0, 0⟩, by decide +kernel⟩,
    ⟨{ up with outst := [⟨.port, 9, 1, 0, 50, 9, 5, 5, 1, 0, false, none, none, [], false, false, 0, 0⟩] }, .port, 9, 1, 0, [], false, true, ⟨.port, 9, 1, 0, 50, 9, 5, 5, 1, 0, false, none, none, [], false, false, 0, 0⟩, by decide +kernel⟩,
    ⟨{ up with outst := [⟨.port, 9, 1, 0, 50, 9, 5, 5, 1, 0, false, none, none, [], false, false, 0, 0⟩] }, .port, 9, 1, 4, [], false, true, ⟨.port, 9, 1, 0, 50, 9, 5, 5, 1, 0, false, none, none, [], false, false, 0, 0⟩, by decide +kernel⟩,
    ⟨{ up.wr (DOM_STATE (domIdx 2 1)) 1 with outst := [⟨.host, 1, 1, 0, 50, 0, 5, 5, 1, 0, false, none, none, [], false, false, 0, 0⟩] }, .host, 1, 1, 0, [], false, true, ⟨.host, 1, 1, 0, 50, 0, 5, 5, 1, 0, false, none, none, [], false, false, 0, 0⟩, by decide +kernel⟩,
    ⟨up, ⟨.port, 9, 1, 0, 50, 0, 5, 5, 1, 0, false, none, none, [], false, false, 0, 0⟩, by decide +kernel⟩⟩

/-! EnginesInService -/

theorem witness_engines_in_service_1 :
    (∃ (s : State) (c : Cmd), s.Inv ∧ (s.ready 0x0108 c = true) ∧ (onlyM (s.issuer c.path) = true) ∧ ((cleanCmd c [(0, 8), (8, 8), (16, 8),
      (24, 8)] false && decide (2 ≤ parBytes c 0 1) && decide (parBytes c 0 1 ≤ 16) && decide (1 ≤ parBytes c 1 1) && decide (parBytes c 1 1 ≤ 32) && parBytes c 2 1 == 1 && parBytes c 3 1 == 1 && decide (36 + 2 + parBytes c 0 1 + parBytes c 1 1 ≤ 88)) = true) ∧ ((s.opBusy [0x0D04] (fun _ => true)) = false) ∧ (s.opsFull (s.issuer c.path) = false)) ∧
    (∃ (s : State) (c : Cmd), s.Inv ∧ (s.ready 0x0109 c = true) ∧ (onlyM (s.issuer c.path) = true) ∧
      ((cleanCmd c [(0, 8)] false && decide (parBytes c 0 1 < 96)) = true) ∧ (parBytes c 0 1 < 8) ∧
      (s.engFaulted (parBytes c 0 1) = true)) ∧
    (∃ (s : State) (c : Cmd), s.Inv ∧ (s.ready 0x0109 c = true) ∧ (onlyM (s.issuer c.path) = true) ∧
      ((cleanCmd c [(0, 8)] false && decide (parBytes c 0 1 < 96)) = true) ∧ (s.engFaulted (parBytes c 0 1) = false)) ∧
    (∃ (s : State) (c : Cmd), s.Inv ∧ (s.ready 0x0109 c = true) ∧ (onlyM (s.issuer c.path) = true) ∧
      ((cleanCmd c [(0, 8)] false && decide (parBytes c 0 1 < 96)) = true) ∧ (8 ≤ parBytes c 0 1) ∧
      (s.engFaulted (parBytes c 0 1) = true)) ∧
    (∃ (s : State) (e : Nat), s.Inv ∧ (e < 96)) ∧
    (∃ (s : State) (e : Eng), s.Inv ∧ (s.rd (PEN_ENG_STATUS_STATE e) = 4 ∨ s.rd (PEN_ENG_STATUS_STATE e) = 0)) ∧
    (∃ (s : State) (e : Eng), s.Inv ∧ (s.rd (PEN_ENG_STATUS_STATE e) ≠ 4) ∧ (s.rd (PEN_ENG_STATUS_STATE e) ≠ 0)) ∧
    (∃ (s : State) (e : Eng) (k : Bool), s.Inv ∧ (s.rd (PEN_ENG_STATUS_STATE e) = 4 ∨ s.rd (PEN_ENG_STATUS_STATE e) = 0)) :=
  ⟨⟨up, (pkt 0x1010804#448), by decide +kernel⟩,
    ⟨up.wr (PEN_ENG_STATUS_STATE 5) 4, (pkt 0x5#448), by decide +kernel⟩,
    ⟨up, (pkt 0x32#448), by decide +kernel⟩,
    ⟨up.wr (PEN_ENG_STATUS_STATE 50) 4, (pkt 0x32#448), by decide +kernel⟩,
    ⟨up, 20, by decide +kernel⟩,
    ⟨up, 50, by decide +kernel⟩,
    ⟨up.wr (PEN_ENG_STATUS_STATE 50) 1, 50, by decide +kernel⟩,
    ⟨up, 50, true, by decide +kernel⟩⟩

theorem witness_engines_in_service_2 :
    ∃ (s : State) (e : Eng) (k : Nat), s.Inv ∧ (s.rd (PEN_ENG_STATUS_GROUP e) = grpGeneral) ∧ (s.ops = []) ∧ (8 ≤ e.val) ∧ (k < 4) :=
  ⟨up.wr (PEN_ENG_STATUS_GROUP 50) 5, 50, 1, by decide +kernel⟩

/-! DataServices -/

theorem witness_data_services :
    (∃ (s : State) (c : Cmd), s.Inv ∧ (s.ready 0x0609 c = true) ∧ ((cleanCmd c [(0, 8), (64, 64),
      (128, 64)] false && decide (parBytes c 0 1 ≤ 16) && s.svcRange (parBytes c 8 8) (parBytes c 16 8)) = true) ∧ (s.poolBusy = false) ∧
      (s.issuer c.path = .m ∨ s.inWindowsAll (parBytes c 8 8) (parBytes c 16 8) = true) ∧ (s.opsFull (s.issuer c.path) = false)) ∧
    (∃ (s : State) (c : Cmd), s.Inv ∧ (s.ready 0x0609 c = true) ∧ ((cleanCmd c [(0, 8), (64, 64),
      (128, 64)] false && decide (parBytes c 0 1 ≤ 16) && s.svcRange (parBytes c 8 8) (parBytes c 16 8)) = true) ∧ (s.poolBusy = true) ∧
      (s.issuer c.path = .m ∨ s.inWindowsAll (parBytes c 8 8) (parBytes c 16 8) = true)) ∧
    (∃ (s : State) (c : Cmd), s.Inv ∧ (s.ready 0x060A c = true) ∧ ((cleanCmd c [(0, 8), (8, 8), (64, 64), (128, 64),
      (192, 64)] false && decide (parBytes c 0 1 ≤ 16) && decide (parBytes c 1 1 < 3) && (parBytes c 1 1 == 2 || s.svcRange (parBytes c 8 8) (parBytes c 24 8)) && (parBytes c 1 1 == 1 || s.svcRange (parBytes c 16 8) (parBytes c 24 8)) && parBytes c 24 8 % 64 == 0 && decide (0 < parBytes c 24 8) && parBytes c 8 8 % 64 == 0 && parBytes c 16 8 % 64 == 0) = true) ∧ (s.poolBusy = false) ∧ (parBytes c 1 1 = 0) ∧ (s.inWindowsAll (parBytes c 8 8) (parBytes c 24 8) = true) ∧ (s.inWindowsAll (parBytes c 16 8) (parBytes c 24 8) = true) ∧ (s.opsFull (s.issuer c.path) = false)) ∧
    (∃ (s : State) (c : Cmd), s.Inv ∧ (s.ready 0x060A c = true) ∧ ((cleanCmd c [(0, 8), (8, 8), (64, 64), (128, 64),
      (192, 64)] false && decide (parBytes c 0 1 ≤ 16) && decide (parBytes c 1 1 < 3) && (parBytes c 1 1 == 2 || s.svcRange (parBytes c 8 8) (parBytes c 24 8)) && (parBytes c 1 1 == 1 || s.svcRange (parBytes c 16 8) (parBytes c 24 8)) && parBytes c 24 8 % 64 == 0 && decide (0 < parBytes c 24 8) && parBytes c 8 8 % 64 == 0 && parBytes c 16 8 % 64 == 0) = true) ∧ (s.poolBusy = false) ∧ (parBytes c 1 1 = 0) ∧ (s.inWindowsAll (parBytes c 8 8) (parBytes c 24 8) = false)) ∧
    (∃ (s : State) (c : Cmd), s.Inv ∧ (s.ready 0x060B c = true) ∧ ((cleanCmd c [(64, 64),
      (128, 64)] false && s.svcRange (parBytes c 8 8) (parBytes c 16 8)) = true) ∧ (s.poolBusy = false) ∧
      (s.inWindowsAll (parBytes c 8 8) (parBytes c 16 8) = true) ∧ (s.opsFull (s.issuer c.path) = false)) ∧
    (∃ (s : State) (src base len done acc : Nat), s.Inv ∧ (done < len) ∧ (s.svcBad (base + done) = false) ∧ (s.mgmt.inject = []) ∧
      ((s.pool.wb.filter fun e => e.src == src) = [])) ∧
    (∃ (s : State) (o : Op) (base len done disc : Nat) (u : State), s.Inv ∧ ((s.zeroLines o base len done disc 1).1 = u) ∧ (done < len) ∧
      (s.pastDrain = false) ∧ (s.svcStoreMeets (clusterSrc o.engine) (base + done) = 0) ∧ ((base + done) % 64 = 0) ∧ ((s.pool.wb.any fun e =>
      e.line == base + done) = false)) :=
  ⟨⟨pool1, (pkt 0x100000000000000000000000000000000000#448), by decide +kernel⟩,
    ⟨pool1.wr MOR_STATUS_STATE 5, (pkt 0x100000000000000000000000000000000000#448), by decide +kernel⟩,
    ⟨pool1.wrs [(WIN_VALID 3, 1), (WIN_BASE 3, 0),
      (WIN_LIMIT 3, 0xFFFFFF)], (pkt 0x1000000000000000200000000000000000000000000000000000#448), by decide +kernel⟩,
    ⟨pool1, (pkt 0x1000000000000000200000000000000000000000000000000000#448), by decide +kernel⟩,
    ⟨pool1.wrs [(WIN_VALID 3, 1), (WIN_BASE 3, 0),
      (WIN_LIMIT 3, 0xFFFFFF)], (pkt 0x100000000000000000000000000000000000#448), by decide +kernel⟩,
    ⟨pool1, 50, 0, 4096, 0, 5, by decide +kernel⟩,
    ⟨pool1.wrs [(WIN_VALID 3, 1), (WIN_BASE 3, 0),
      (WIN_LIMIT 3, 0xFFFFFF)], ⟨5, opZero, (pkt 0x100000000000000000000000000000000000#448), .m, 4096, 64, 1, 0, 50, false, none, 0, false, false, false, false⟩, 0, 4096, 64, 0, ((pool1.wrs [(WIN_VALID 3, 1), (WIN_BASE 3, 0), (WIN_LIMIT 3, 0xFFFFFF)]).zeroLines ⟨5, opZero, (pkt 0x100000000000000000000000000000000000#448), .m, 4096, 64, 1, 0, 50, false, none, 0, false, false, false, false⟩ 0 4096 64 0 1).1, by decide +kernel⟩⟩

/-! CommitLogs -/

theorem witness_commit_logs_1 :
    (∃ (s : State) (c : Cmd), s.Inv ∧ (s.ready 0x060C c = true) ∧ (onlyM (s.issuer c.path) = true) ∧ ((cleanCmd c [(0, 8), (8, 8), (16, 8),
      (24, 8), (32, 16), (64, 64),
      (128, 64)] true && decide (parBytes c 0 1 < 64) && decide (parBytes c 1 1 < 16) && decide (16 ≤ parBytes c 2 1) && decide (parBytes c 2 1 ≤ 36) && decide (parBytes c 3 1 ≤ 100) && decide (parBytes c 4 2 ≤ 1024) && parBytes c 8 8 % 2 ^ parBytes c 2 1 == 0 && parBytes c 16 8 % 4096 == 0) = true) ∧ (s.poolBusy = false) ∧ (s.on (PEN_LOG_CFG_VALID (parBytes c 0 1)) = false) ∧ (s.touchesLock (parBytes c 8 8) (2 ^ parBytes c 2 1) = false) ∧ (s.touchesLock (parBytes c 16 8) 4096 = false) ∧ (s.firstDenied .m (if opFlag c then 0 else 1) (parBytes c 16 8) 4096 = none) ∧ (opFlag c = false ∨ s.svcBad (parBytes c 16 8) = false) ∧ (s.covered (fun w => !s.on (WIN_STRICT w) && s.winDom w == some (parBytes c 1 1)) (parBytes c 8 8) (2 ^ parBytes c 2 1) 4096 = true) ∧ (s.covered (fun w => !s.on (WIN_STRICT w) && s.winDom w == some (parBytes c 1 1)) (parBytes c 16 8) 4096 4096 = true) ∧ (s.on (ORD_DOM_CFG_MIRROR_TARGET (parBytes c 1 1)) = false) ∧ (s.logClash (parBytes c 0 1) (parBytes c 8 8) (2 ^ parBytes c 2 1) (parBytes c 16 8) = false) ∧ (parBytes c 16 8 + 4096 ≤ parBytes c 8 8 ∨ parBytes c 8 8 + 2 ^ parBytes c 2 1 ≤ parBytes c 16 8)) ∧
    (∃ (s : State) (c : Cmd), s.Inv ∧ (s.ready 0x060C c = true) ∧ (onlyM (s.issuer c.path) = true) ∧ ((cleanCmd c [(0, 8), (8, 8), (16, 8),
      (24, 8), (32, 16), (64, 64),
      (128, 64)] true && decide (parBytes c 0 1 < 64) && decide (parBytes c 1 1 < 16) && decide (16 ≤ parBytes c 2 1) && decide (parBytes c 2 1 ≤ 36) && decide (parBytes c 3 1 ≤ 100) && decide (parBytes c 4 2 ≤ 1024) && parBytes c 8 8 % 2 ^ parBytes c 2 1 == 0 && parBytes c 16 8 % 4096 == 0) = true) ∧ (s.poolBusy = false) ∧ (s.on (PEN_LOG_CFG_VALID (parBytes c 0 1)) = true) ∧ (s.covered (fun w => !s.on (WIN_STRICT w) && s.winDom w == some (parBytes c 1 1)) (parBytes c 8 8) (2 ^ parBytes c 2 1) 4096 = true) ∧ (s.covered (fun w => !s.on (WIN_STRICT w) && s.winDom w == some (parBytes c 1 1)) (parBytes c 16 8) 4096 4096 = true) ∧ (s.on (ORD_DOM_CFG_MIRROR_TARGET (parBytes c 1 1)) = false) ∧ (opFlag c = false ∨ s.svcBad (parBytes c 16 8) = false)) ∧
    (∃ (s : State) (c : Cmd), s.Inv ∧ (s.ready 0x060D c = true) ∧ (onlyM (s.issuer c.path) = true) ∧
      ((cleanCmd c [(0, 8)] false && decide (parBytes c 0 1 < 64)) = true) ∧ ((s.pool.appends.any fun a =>
      a.log == parBytes c 0 1) = false) ∧ (s.on (PEN_LOG_CFG_VALID (parBytes c 0 1)) = true)) ∧
    (∃ (s : State) (c : Cmd), s.Inv ∧ (s.ready 0x060F c = true) ∧
      (((match s.issuer c.path with | .g _ => false | _ => true) && s.logGranted (parBytes c 0 1) (s.issuer c.path)) = true) ∧
      ((cleanCmd c [(0, 8), (64, 64)] false && decide (parBytes c 0 1 < 64)) = true) ∧ (s.on (PEN_LOG_CFG_VALID (parBytes c 0 1)) = true) ∧
      (parBytes c 8 8 ≤ s.rd (LOGX_PREV (parBytes c 0 1))) ∧ (s.rd (LOGX_HEAD (parBytes c 0 1)) ≤ parBytes c 8 8) ∧
      (s.boundary (parBytes c 0 1) (s.rd (LOGX_HEAD (parBytes c 0 1))) (parBytes c 8 8) (s.ringSize (parBytes c 0 1) / 64) = true)) ∧
    (∃ (s : State) (c : Cmd), s.Inv ∧ (s.ready 0x060F c = true) ∧
      (((match s.issuer c.path with | .g _ => false | _ => true) && s.logGranted (parBytes c 0 1) (s.issuer c.path)) = true) ∧
      ((cleanCmd c [(0, 8), (64, 64)] false && decide (parBytes c 0 1 < 64)) = true) ∧
      (s.rd (LOGX_PREV (parBytes c 0 1)) < parBytes c 8 8)) ∧
    (∃ (s : State) (c : Cmd), s.Inv ∧ (s.ready 0x060E c = true) ∧ (s.logGranted (parBytes c 0 1) (s.issuer c.path) = true) ∧
      ((cleanCmd c ((if parBits c 8 1 == 1 then [(64, 320)] else [(64, 64)]) ++ [(0, 8), (8, 1),
      (16, 16)]) false && decide (parBytes c 0 1 < 64) && decide (1 ≤ parBytes c 2 2) && decide (parBytes c 2 2 ≤ 16368) && (!(parBits c 8 1 == 1) || decide (parBytes c 2 2 ≤ 40))) = true) ∧ (s.poolBusy = false) ∧ (s.on (PEN_LOG_CFG_VALID (parBytes c 0 1)) = false)) ∧
    (∃ (s : State) (c : Cmd), s.Inv ∧ (s.ready 0x060E c = true) ∧ (s.logGranted (parBytes c 0 1) (s.issuer c.path) = true) ∧
      ((cleanCmd c ((if parBits c 8 1 == 1 then [(64, 320)] else [(64, 64)]) ++ [(0, 8), (8, 1),
      (16, 16)]) false && decide (parBytes c 0 1 < 64) && decide (1 ≤ parBytes c 2 2) && decide (parBytes c 2 2 ≤ 16368) && (!(parBits c 8 1 == 1) || decide (parBytes c 2 2 ≤ 40))) = true) ∧ (s.poolBusy = false) ∧ (s.on (PEN_LOG_CFG_VALID (parBytes c 0 1)) = true) ∧ (parBits c 8 1 = 1)) ∧
    (∃ (s : State) (i : Nat), s.Inv ∧ ((s.pool.appends.find? fun x => x.id == i) = none)) :=
  ⟨⟨pool1.wrs [(WIN_VALID 3, 1), (WIN_DOMAIN_VALID 3, 1), (WIN_DOMAIN 3, 2), (WIN_BASE 3, 0), (WIN_LIMIT 3, 0xFFFFFF)], (pkt 0x100000000000000100000000000000100205#448), by decide +kernel⟩,
    ⟨(pool1.wrs [(WIN_VALID 3, 1), (WIN_DOMAIN_VALID 3, 1), (WIN_DOMAIN 3, 2), (WIN_BASE 3, 0),
      (WIN_LIMIT 3, 0xFFFFFF)]).wr (PEN_LOG_CFG_VALID 5) 1, (pkt 0x100000000000000100000000000000100205#448), by decide +kernel⟩,
    ⟨up.wr (PEN_LOG_CFG_VALID 5) 1, (pkt 0x5#448), by decide +kernel⟩,
    ⟨up.wrs [(PEN_LOG_CFG_VALID 5, 1), (LOGX_PREV 5, 64), (LOGX_HEAD 5, 64),
      (PEN_LOG_CFG_RING_LOG2 5, 16)], (pkt 0x400000000000000005#448), by decide +kernel⟩,
    ⟨up.wr (PEN_LOG_CFG_VALID 5) 1, (pkt 0x400000000000000005#448), by decide +kernel⟩,
    ⟨up, (pkt 0x40105#448), by decide +kernel⟩,
    ⟨up.wr (PEN_LOG_CFG_VALID 5) 1, (pkt 0x40105#448), by decide +kernel⟩,
    ⟨up, 7, by decide +kernel⟩⟩

theorem witness_commit_logs_2 :
    (∃ (s : State) (i : Nat) (a : Append), s.Inv ∧ ((s.pool.appends.find? fun x => x.id == i) = some a) ∧ (a.len ≤ a.payload.length)) ∧
    (∃ (s : State) (i : Nat) (a : Append), s.Inv ∧ ((s.pool.appends.find? fun x => x.id == i) = some a) ∧ (a.payload.length < a.len) ∧
      ((s.outst.any fun x => x.waiter == appendWaiter i) = true)) ∧
    (∃ (s : State) (i : Nat) (a : Append), s.Inv ∧ ((s.pool.appends.find? fun x => x.id == i) = some a) ∧ (a.lsn = none) ∧
      (a.payload.length = a.len) ∧ (s.appendBehind a = false) ∧ (s.checkerHeld = false) ∧ (s.issuerFrozen a.issuer = false) ∧
      (s.batchTakes a.log = true) ∧ (s.itemPasses a.issuer = (s, true))) ∧
    (∃ (s : State) (a : Append), s.Inv ∧ (s.rd (LOGX_HEAD a.log) + s.ringSize a.log < s.nextLsn a.log (recBytes a.len) + recBytes a.len) ∧
      (a.log < 64)) ∧
    (∃ (s : State) (n size : Nat), s.Inv ∧ (s.rd (LOGX_TAIL n) % s.ringSize n + size ≤ s.ringSize n)) ∧
    (∃ (s : State) (n size : Nat), s.Inv ∧ (s.ringSize n < s.rd (LOGX_TAIL n) % s.ringSize n + size)) ∧
    (∃ (s : State) (n : Fin 64), s.Inv ∧ (s.rd (LOGX_OPEN_AT n) = 0 ∨ s.on (PEN_LOG_CFG_VALID n) = false ∨ s.checkerHeld = true)) ∧
    (∃ (s : State) (n : Fin 64), s.Inv ∧ (s.rd (LOGX_OPEN_AT n) ≠ 0) ∧ (s.on (PEN_LOG_CFG_VALID n) = true) ∧ (s.checkerHeld = false) ∧
      (s.firstDenied .m 1 (s.rd (LOGX_HEADER n)) 64 = none) ∧ (s.rd (PEN_LOG_CFG_MAX_BATCH n) ≤ (s.openBatch n).length) ∧
      (s.on (ORD_DOM_CFG_VALID (s.rd (PEN_LOG_CFG_DOMAIN n))) = true)) :=
  ⟨⟨{ up.wrs [(PEN_LOG_CFG_VALID 5, 1), (PEN_LOG_CFG_RING_LOG2 5, 16)] with pool := { up.pool with appends := [⟨7, 5, (pkt 0x40105#448), .m, 4, [1, 2, 3, 4], none, 0, none, none⟩] } }, 7, ⟨7, 5, (pkt 0x40105#448), .m, 4, [1, 2, 3, 4], none, 0, none, none⟩, by decide +kernel⟩,
    ⟨{ { up.wrs [(PEN_LOG_CFG_VALID 5, 1), (PEN_LOG_CFG_RING_LOG2 5, 16)] with pool := { up.pool with appends := [⟨7, 5, (pkt 0x40105#448), .m, 4, [], none, 0, none, none⟩] } } with outst := [⟨.host, 1, 1, 0, 50, appendWaiter 7, 5, 5, 1, 0, false, none, none, [], false, false, 0, 0⟩] }, 7, ⟨7, 5, (pkt 0x40105#448), .m, 4, [], none, 0, none, none⟩, by decide +kernel⟩,
    ⟨{ up.wrs [(PEN_LOG_CFG_VALID 5, 1), (PEN_LOG_CFG_RING_LOG2 5, 16)] with pool := { up.pool with appends := [⟨7, 5, (pkt 0x40105#448), .m, 4, [1, 2, 3, 4], none, 0, none, none⟩] } }, 7, ⟨7, 5, (pkt 0x40105#448), .m, 4, [1, 2, 3, 4], none, 0, none, none⟩, by decide +kernel⟩,
    ⟨{ up.wrs [(PEN_LOG_CFG_VALID 5, 1), (PEN_LOG_CFG_RING_LOG2 5, 16), (LOGX_TAIL 5, 65536)] with pool := { up.pool with appends := [⟨7, 5, (pkt 0x40105#448), .m, 4, [1, 2, 3, 4], none, 0, none, none⟩] } }, ⟨7, 5, (pkt 0x40105#448), .m, 4, [1, 2, 3, 4], none, 0, none, none⟩, by decide +kernel⟩,
    ⟨up, 5, 1, by decide +kernel⟩,
    ⟨up, 5, 64, by decide +kernel⟩,
    ⟨up, 5, by decide +kernel⟩,
    ⟨up.wrs [(PEN_LOG_CFG_VALID 5, 1), (LOGX_OPEN_AT 5, 1), (ORD_DOM_CFG_VALID 0, 1)], 5, by decide +kernel⟩⟩

theorem witness_commit_logs_3 :
    (∃ (s : State) (n : Fin 64), s.Inv ∧ ((s.pool.appends.find? fun a => a.log == n.val && a.closed.isSome) = none)) ∧
    (∃ (s : State) (n : Fin 64) (a : Append) (deg : Bool) (k v : Nat), s.Inv ∧ ((s.pool.appends.find? fun x =>
      x.log == n.val && x.closed.isSome) = some a) ∧ (a.closed = some (deg, false, k)) ∧ (a.tail = some v) ∧ ((s.pool.appends.filter fun x =>
      x.log == n.val && x.batch == a.batch && x.closed.isSome) = [a])) ∧
    (∃ (s : State) (a : Append) (deg : Bool) (k l : Nat), s.Inv ∧ (a.closed = some (deg, false, k)) ∧ (a.lsn = some l)) :=
  ⟨⟨up, 5, by decide +kernel⟩,
    ⟨{ up.wrs [(PEN_LOG_CFG_VALID 5, 1), (PEN_LOG_CFG_RING_LOG2 5, 16)] with pool := { up.pool with appends := [⟨7, 5, (pkt 0x40105#448), .m, 4, [1, 2, 3, 4], some 64, 0, some 128, some (false, false, 9)⟩] } }, 5, ⟨7, 5, (pkt 0x40105#448), .m, 4, [1, 2, 3, 4], some 64, 0, some 128, some (false, false, 9)⟩, false, 9, 128, by decide +kernel⟩,
    ⟨{ up.wrs [(PEN_LOG_CFG_VALID 5, 1), (PEN_LOG_CFG_RING_LOG2 5, 16)] with pool := { up.pool with appends := [⟨7, 5, (pkt 0x40105#448), .m, 4, [1, 2, 3, 4], some 64, 0, some 128, some (false, false, 9)⟩] } }, ⟨7, 5, (pkt 0x40105#448), .m, 4, [1, 2, 3, 4], some 64, 0, some 128, some (false, false, 9)⟩, false, 9, 64, by decide +kernel⟩⟩

/-! Management -/

theorem witness_management_1 :
    (∃ (s : State), s.Inv ∧ (s.sideUp = false)) ∧
    (∃ (s : State) (a : BitVec 32), s.Inv ∧ (s.sideUp = false)) ∧
    (∃ (s : State) (v : BitVec 32) (k : Bool), s.Inv ∧ (s.sideUp = false)) ∧
    (∃ (s : State) (l : List (BitVec 8)) (k : Bool), s.Inv ∧ (s.sideUp = false)) ∧
    (∃ (s : State) (k : Bool), s.Inv ∧ (s.sideUp = false)) ∧
    (∃ (s : State) (k : Bool) (a : BitVec 7), s.Inv ∧ (s.sideUp = false)) ∧
    (∃ (s : State) (v : BitVec 1024), s.Inv ∧ (s.sideUp = false)) ∧
    (∃ (s : State) (a : Option (BitVec 66)) (k : Bool), s.Inv ∧ (s.sideUp = false)) :=
  ⟨⟨State.reset.wr SYS_OFF 1, by decide +kernel⟩,
    ⟨State.reset.wr SYS_OFF 1, 5, by decide +kernel⟩,
    ⟨State.reset.wr SYS_OFF 1, 5, true, by decide +kernel⟩,
    ⟨State.reset.wr SYS_OFF 1, [], true, by decide +kernel⟩,
    ⟨State.reset.wr SYS_OFF 1, true, by decide +kernel⟩,
    ⟨State.reset.wr SYS_OFF 1, true, 5, by decide +kernel⟩,
    ⟨State.reset.wr SYS_OFF 1, 5, by decide +kernel⟩,
    ⟨State.reset.wr SYS_OFF 1, none, true, by decide +kernel⟩⟩

theorem witness_management_2 :
    (∃ (s : State) (a : Option (BitVec 66)) (k : Bool) (d : BitVec 64), s.Inv ∧ (s.sideUp = false)) ∧
    (∃ (s : State) (t : BitVec 8), s.Inv ∧ (s.sideUp = false)) ∧
    (∃ (s : State) (v : BitVec 8) (k : Bool), s.Inv ∧ (s.sideUp = false)) ∧
    (∃ (s : State) (w : BitVec 512) (k : Bool), s.Inv ∧ (s.sideUp = false)) ∧
    (∃ (s : State), s.Inv ∧ (s.sideUp = true)) ∧
    (∃ (s : State) (a : BitVec 32), s.Inv ∧ (s.sideUp = true)) ∧
    (∃ (s : State) (t : State) (l : List (BitVec 8)), s.Inv ∧ (s.sideUp = true) ∧ (s.rd SMBX_OP = 0) ∧ (s.checkerHeld = false) ∧
      (((s.wrs [(SMBX_OP, 1), (SMBX_AT, s.rd SYS_SMB_ADDR), (SMBX_DATA, 0),
      (SYS_SMB_ADDR, s.rd SYS_SMB_ADDR + 4)]).wr SMBX_OP 0).verdict (regCheck 2 0 (s.rd SYS_SMB_ADDR) 4) = none) ∧ (((s.wrs [(SMBX_OP, 1),
      (SMBX_AT, s.rd SYS_SMB_ADDR), (SMBX_DATA, 0),
      (SYS_SMB_ADDR, s.rd SYS_SMB_ADDR + 4)]).wr SMBX_OP 0).barLoad (s.rd SYS_SMB_ADDR) 4 = (t, l))) ∧
    (∃ (s : State), s.Inv ∧ (s.sideUp = true) ∧ (s.rd SMBX_OP = 0) ∧ (s.checkerHeld = true)) :=
  ⟨⟨State.reset.wr SYS_OFF 1, none, true, 5, by decide +kernel⟩,
    ⟨State.reset.wr SYS_OFF 1, 5, by decide +kernel⟩,
    ⟨State.reset.wr SYS_OFF 1, 90, true, by decide +kernel⟩,
    ⟨State.reset.wr SYS_OFF 1, 0, true, by decide +kernel⟩,
    ⟨up.wr GLB_BOOT_STATUS_STAGE 6, by decide +kernel⟩,
    ⟨up.wr GLB_BOOT_STATUS_STAGE 6, 5, by decide +kernel⟩,
    ⟨up.wr GLB_BOOT_STATUS_STAGE 6, ((((up.wr GLB_BOOT_STATUS_STAGE 6).wrs [(SMBX_OP, 1),
      (SMBX_AT, (up.wr GLB_BOOT_STATUS_STAGE 6).rd SYS_SMB_ADDR), (SMBX_DATA, 0),
      (SYS_SMB_ADDR, (up.wr GLB_BOOT_STATUS_STAGE 6).rd SYS_SMB_ADDR + 4)]).wr SMBX_OP 0).barLoad ((up.wr GLB_BOOT_STATUS_STAGE 6).rd SYS_SMB_ADDR) 4).1, ((((up.wr GLB_BOOT_STATUS_STAGE 6).wrs [(SMBX_OP, 1), (SMBX_AT, (up.wr GLB_BOOT_STATUS_STAGE 6).rd SYS_SMB_ADDR), (SMBX_DATA, 0), (SYS_SMB_ADDR, (up.wr GLB_BOOT_STATUS_STAGE 6).rd SYS_SMB_ADDR + 4)]).wr SMBX_OP 0).barLoad ((up.wr GLB_BOOT_STATUS_STAGE 6).rd SYS_SMB_ADDR) 4).2, by decide +kernel⟩,
    ⟨(up.wr GLB_BOOT_STATUS_STAGE 6).wr BRD_STATUS_STATE 1, by decide +kernel⟩⟩

theorem witness_management_3 :
    (∃ (s : State) (v : BitVec 32) (k : Bool), s.Inv ∧ (s.sideUp = true) ∧ (s.rd SMBX_OP ≠ 0)) ∧
    (∃ (s : State) (v : BitVec 32), s.Inv ∧ (s.sideUp = true) ∧ (s.rd SMBX_OP = 0)) ∧
    (∃ (s : State) (v : BitVec 32), s.Inv ∧ (s.sideUp = true) ∧ (s.rd SMBX_OP = 0) ∧ (s.checkerHeld = false) ∧ (((s.wrs [(SMBX_OP, 2),
      (SMBX_AT, s.rd SYS_SMB_ADDR), (SMBX_DATA, v.toNat),
      (SYS_SMB_ADDR, s.rd SYS_SMB_ADDR + 4)]).wr SMBX_OP 0).verdict (regCheck 2 1 (s.rd SYS_SMB_ADDR) 4) = none)) ∧
    (∃ (s : State) (v : BitVec 32), s.Inv ∧ (s.sideUp = true) ∧ (s.rd SMBX_OP = 0) ∧ (s.checkerHeld = false) ∧ ((((s.wrs [(SMBX_OP, 2),
      (SMBX_AT, s.rd SYS_SMB_ADDR), (SMBX_DATA, v.toNat),
      (SYS_SMB_ADDR, s.rd SYS_SMB_ADDR + 4)]).wr SMBX_OP 0).check (regCheck 2 1 (s.rd SYS_SMB_ADDR) 4)).2 = false)) ∧
    (∃ (s : State), s.Inv ∧ (s.sideUp = true) ∧ (s.mgmt.smbq = [])) ∧
    (∃ (s : State) (w : Nat) (l : List Nat), s.Inv ∧ (s.sideUp = true) ∧ (s.mgmt.smbq = w :: l)) ∧
    (∃ (s : State) (l : List (BitVec 8)) (k : Bool), s.Inv ∧ (s.sideUp = true) ∧ (k = false ∨ s.on SYS_RECOVERY = false)) ∧
    (∃ (s : State) (l : List (BitVec 8)), s.Inv ∧ (s.sideUp = true) ∧ (s.on SYS_RECOVERY = true) ∧ (l.length ≤ 128)) :=
  ⟨⟨(up.wr GLB_BOOT_STATUS_STAGE 6).wr SMBX_OP 1, 5, true, by decide +kernel⟩,
    ⟨up.wr GLB_BOOT_STATUS_STAGE 6, 5, by decide +kernel⟩,
    ⟨up.wr GLB_BOOT_STATUS_STAGE 6, 5, by decide +kernel⟩,
    ⟨locking (up.wr GLB_BOOT_STATUS_STAGE 6), 5, by decide +kernel⟩,
    ⟨up.wr GLB_BOOT_STATUS_STAGE 6, by decide +kernel⟩,
    ⟨{ up.wr GLB_BOOT_STATUS_STAGE 6 with mgmt := { (up.wr GLB_BOOT_STATUS_STAGE 6).mgmt with smbq := [7] } }, 7, [], by decide +kernel⟩,
    ⟨up.wr GLB_BOOT_STATUS_STAGE 6, [], true, by decide +kernel⟩,
    ⟨(up.wr GLB_BOOT_STATUS_STAGE 6).wr SYS_RECOVERY 1, [5], by decide +kernel⟩⟩

theorem witness_management_4 :
    (∃ (s : State) (v : BitVec 8) (k : Bool), s.Inv ∧ (s.sideUp = true) ∧ (k = false ∨ v ≠ 0x5A ∨ s.on SYS_RECOVERY = false)) ∧
    (∃ (s : State), s.Inv ∧ (s.sideUp = true) ∧ (s.on SYS_RECOVERY = true) ∧
      (imageCode s.mgmt.recovery ((s.mgmt.recovery.drop 0x1000).take (headerOf s.mgmt.recovery).2.1) ≠ 0)) ∧
    (∃ (s : State), s.Inv ∧ (s.sideUp = true) ∧ (s.on SYS_RECOVERY = true) ∧
      (imageCode s.mgmt.recovery ((s.mgmt.recovery.drop 0x1000).take (headerOf s.mgmt.recovery).2.1) = 0)) ∧
    (∃ (s : State) (w : BitVec 512) (k : Bool), s.Inv ∧ (s.sideUp = true) ∧ (s.smbAdmits (packetOpcode w) = false)) ∧
    (∃ (s : State) (w : BitVec 512), s.Inv ∧ (s.sideUp = true) ∧ (s.smbAdmits (packetOpcode w) = true)) ∧
    (∃ (s : State) (w : BitVec 512), s.Inv ∧ (s.sideUp = true) ∧ (s.smbAdmits (packetOpcode w) = true) ∧ (s.rd PWR_STATUS_STATE = 0) ∧
      (s.on PWR_STATUS_ENTERING = false)) ∧
    (∃ (s : State) (c : Cmd), s.Inv ∧ (s.ready 0x0101 c = true)) ∧
    (∃ (s : State) (o : Nat) (c : Cmd), s.Inv ∧ ((opTable.find? fun e => e.1 == o).isNone = true) ∧ (s.ready o c = true)) :=
  ⟨⟨up.wr GLB_BOOT_STATUS_STAGE 6, 90, true, by decide +kernel⟩,
    ⟨(up.wr GLB_BOOT_STATUS_STAGE 6).wr SYS_RECOVERY 1, by decide +kernel⟩,
    ⟨{ (up.wr GLB_BOOT_STATUS_STAGE 6).wr SYS_RECOVERY 1 with mgmt := { (up.wr GLB_BOOT_STATUS_STAGE 6).mgmt with recovery := [0x53, 0x57, 0x46, 0x57, 0, 0, 0, 0, 0, 0, 0, 0, 0, 0, 0, 0] } }, by decide +kernel⟩,
    ⟨(up.wr GLB_BOOT_STATUS_STAGE 6).wr SYS_FW_UP 0, 0, true, by decide +kernel⟩,
    ⟨up.wr GLB_BOOT_STATUS_STAGE 6, 0x0101, by decide +kernel⟩,
    ⟨up.wr GLB_BOOT_STATUS_STAGE 6, 0x0101, by decide +kernel⟩,
    ⟨up, (pkt 0x0#448), by decide +kernel⟩,
    ⟨up, 0x0FFF, (pkt 0x0#448), by decide +kernel⟩⟩

theorem witness_management_5 :
    (∃ (s : State), s.Inv ∧ (s.sideUp = true) ∧ (s.on MGT_SMB_STATUS_ALERT = true)) ∧
    (∃ (s : State), s.Inv ∧ (s.sideUp = true) ∧ (s.on MGT_SMB_STATUS_ALERT = false)) ∧
    (∃ (s : State) (k : Bool), s.Inv ∧ (s.sideUp = true) ∧ (k = false) ∧ (s.on MGT_SMB_STATUS_AR = true)) ∧
    (∃ (s : State) (k : Bool), s.Inv ∧ (s.sideUp = true) ∧ (k = true ∨ s.on MGT_SMB_STATUS_AR = false)) ∧
    (∃ (s : State) (a : BitVec 7), s.Inv ∧ (s.sideUp = true)) ∧
    (∃ (s : State) (v : BitVec 1024), s.Inv ∧ (s.sideUp = true)) ∧
    (∃ (s : State) (a : Option (BitVec 66)) (k : Bool), s.Inv ∧ (s.sideUp = true) ∧ (s.rd DAPX_OP ≠ 0)) ∧
    (∃ (s : State) (a : Option (BitVec 66)) (k : Bool) (d : BitVec 64), s.Inv ∧ (s.sideUp = true) ∧ (s.rd DAPX_OP ≠ 0)) :=
  ⟨⟨(up.wr GLB_BOOT_STATUS_STAGE 6).wr MGT_SMB_STATUS_ALERT 1, by decide +kernel⟩,
    ⟨up.wr GLB_BOOT_STATUS_STAGE 6, by decide +kernel⟩,
    ⟨(up.wr GLB_BOOT_STATUS_STAGE 6).wr MGT_SMB_STATUS_AR 1, false, by decide +kernel⟩,
    ⟨up.wr GLB_BOOT_STATUS_STAGE 6, true, by decide +kernel⟩,
    ⟨up.wr GLB_BOOT_STATUS_STAGE 6, 5, by decide +kernel⟩,
    ⟨up.wr GLB_BOOT_STATUS_STAGE 6, 5, by decide +kernel⟩,
    ⟨(up.wr GLB_BOOT_STATUS_STAGE 6).wr DAPX_OP 1, none, true, by decide +kernel⟩,
    ⟨(up.wr GLB_BOOT_STATUS_STAGE 6).wr DAPX_OP 1, none, true, 5, by decide +kernel⟩⟩

theorem witness_management_6 :
    (∃ (s : State) (a : BitVec 66) (k : Bool), s.Inv ∧ (s.sideUp = true) ∧ (s.rd DAPX_OP = 0) ∧ (s.rd PWR_STATUS_STATE = 0) ∧
      (s.on PWR_STATUS_ENTERING = false)) ∧
    (∃ (s : State) (k : Bool) (d : BitVec 64), s.Inv ∧ (s.sideUp = true) ∧ (s.rd DAPX_OP = 0) ∧ (s.rd PWR_STATUS_STATE = 0) ∧
      (s.on PWR_STATUS_ENTERING = false)) ∧
    (∃ (s : State), s.Inv ∧ (s.rd DAPX_OP = 0 ∨ s.checkerHeld = true)) ∧
    (∃ (s : State), s.Inv ∧ (s.rd DAPX_OP = 1) ∧ (s.checkerHeld = false) ∧ (2 ≤ s.rd DAPX_ASP)) ∧
    (∃ (s : State) (w : Fin 50) (v : Bool), s.Inv ∧ (w.val ≠ byDap)) ∧
    (∃ (s : State) (c : Cmd), s.Inv ∧ (s.ready 0x0C01 c = true) ∧ (onlyM (s.issuer c.path) = true) ∧ ((cleanCmd c [(0, 8), (8, 8),
      (64, 64)] false && decide (1 ≤ parBytes c 0 1) && decide (parBytes c 0 1 ≤ 6) && (if parBytes c 0 1 = 3 ∨ parBytes c 0 1 = 4 then decide (parBytes c 8 8 < s.poolC) && (s.mapAddr (parBytes c 8 8)).1 == parBytes c 1 1 else decide (parBytes c 1 1 < 128))) = true)) ∧
    (∃ (s : State) (c : Cmd), s.Inv ∧ (s.ready 0x0D01 c = true) ∧ (onlyM (s.issuer c.path) = true) ∧ ((cleanCmd c [(0, 8), (32, 32),
      (64, 64), (128, 32)] false && decide (parBytes c 0 1 < 2) && parBytes c 4 4 % 4096 == 0 && parBytes c 16 4 % 4096 == 0 && decide (0 < parBytes c 16 4) && decide (parBytes c 4 4 + parBytes c 16 4 ≤ 0x1100000)) = true) ∧ ((s.imageBusy (parBytes c 0 1)) = false) ∧ (s.mgmtHost.isSome = true) ∧ (¬(parBytes c 4 4 < 0x1000000 ∧ s.rd BOOTX_FROM = parBytes c 0 1)) ∧ (s.opsFull (s.issuer c.path) = false)) ∧
    (∃ (s : State) (c : Cmd), s.Inv ∧ (s.ready 0x0D01 c = true) ∧ (onlyM (s.issuer c.path) = true) ∧ ((cleanCmd c [(0, 8), (32, 32),
      (64, 64), (128, 32)] false && decide (parBytes c 0 1 < 2) && parBytes c 4 4 % 4096 == 0 && parBytes c 16 4 % 4096 == 0 && decide (0 < parBytes c 16 4) && decide (parBytes c 4 4 + parBytes c 16 4 ≤ 0x1100000)) = true) ∧ (s.mgmtHost.isSome = true) ∧ (parBytes c 4 4 < 0x1000000) ∧ (s.rd BOOTX_FROM = parBytes c 0 1)) :=
  ⟨⟨up.wr GLB_BOOT_STATUS_STAGE 6, 0x40, true, by decide +kernel⟩,
    ⟨up.wr GLB_BOOT_STATUS_STAGE 6, true, 5, by decide +kernel⟩,
    ⟨up.wr GLB_BOOT_STATUS_STAGE 6, by decide +kernel⟩,
    ⟨(up.wr GLB_BOOT_STATUS_STAGE 6).wrs [(DAPX_OP, 1), (DAPX_ASP, 2)], by decide +kernel⟩,
    ⟨up, 1, true, by decide +kernel⟩,
    ⟨up, (pkt 0x901#448), by decide +kernel⟩,
    ⟨up.wr BOOTX_FROM 1, (pkt 0x100000000000000000000000000000000000#448), by decide +kernel⟩,
    ⟨up, (pkt 0x100000000000000000000000000000000000#448), by decide +kernel⟩⟩

theorem witness_management_7 :
    (∃ (s : State) (c : Cmd), s.Inv ∧ (s.ready 0x0D02 c = true) ∧ (onlyM (s.issuer c.path) = true) ∧
      ((cleanCmd c [(0, 8)] false && decide (parBytes c 0 1 < 2)) = true) ∧ (s.opsFull (s.issuer c.path) = false)) ∧
    (∃ (s : State) (c : Cmd), s.Inv ∧ (s.ready 0x0D03 c = true) ∧ (onlyM (s.issuer c.path) = true) ∧
      ((cleanCmd c [(0, 8)] false && (decide (parBytes c 0 1 < 2) || parBytes c 0 1 == 0xFF)) = true)) ∧
    (∃ (s : State) (c : Cmd), s.Inv ∧ (s.ready 0x0D04 c = true) ∧ (onlyM (s.issuer c.path) = true) ∧
      ((cleanCmd c [(0, 8)] true && decide (parBytes c 0 1 < 2) && opFlag c) = true) ∧ ((s.opBusy [opFwActivate] (fun _ => true)) = false) ∧
      ((s.imageBusy (parBytes c 0 1)) = false) ∧
      (bits (headerOf (s.flashBytes (parBytes c 0 1) 0 16)).2.2.1 16 8 = s.rd PEN_FW_VERSION_MAJOR) ∧
      (s.opsFull (s.issuer c.path) = false)) ∧
    (∃ (s : State) (c : Cmd), s.Inv ∧ (s.ready 0x0B02 c = true) ∧ (onlyM (s.issuer c.path) = true) ∧ (cleanCmd c [] true = true) ∧
      ((s.opBusy [opLeave] (fun _ => true)) = false) ∧ (opFlag c = false) ∧ ((idxs 16 fun d =>
      s.on (ORD_DOM_CFG_VALID d) && (s.on (ORD_DOM_CFG_MIRRORED d) || s.on (ORD_DOM_CFG_MIRROR_TARGET d))) = []) ∧
      (s.opsFull (s.issuer c.path) = false)) ∧
    (∃ (s : State) (c : Cmd), s.Inv ∧ (s.ready 0x0B02 c = true) ∧ (onlyM (s.issuer c.path) = true) ∧ (cleanCmd c [] true = true) ∧
      (opFlag c = false) ∧ ((idxs 16 fun d =>
      s.on (ORD_DOM_CFG_VALID d) && (s.on (ORD_DOM_CFG_MIRRORED d) || s.on (ORD_DOM_CFG_MIRROR_TARGET d))) ≠ [])) ∧
    (∃ (s : State) (t : BitVec 8), s.Inv ∧ (s.sideUp = true) ∧ (t.toInt < 105) ∧ (s.on THRMX_SEEN = true) ∧
      (t.toInt ≤ (BitVec.ofNat 8 (s.rd GLB_THERMAL_TJ_PEAK)).toInt)) ∧
    (∃ (s : State) (t : BitVec 8), s.Inv ∧ (s.sideUp = true) ∧ (115 ≤ t.toInt)) :=
  ⟨⟨up, (pkt 0x1#448), by decide +kernel⟩,
    ⟨up, (pkt 0x1#448), by decide +kernel⟩,
    ⟨up, { ((pkt 0x1#448) : Cmd) with flags := 2 ^ 16 }, by decide +kernel⟩,
    ⟨up, (pkt 0x0#448), by decide +kernel⟩,
    ⟨up.wrs [(ORD_DOM_CFG_VALID 1, 1), (ORD_DOM_CFG_MIRRORED 1, 1)], (pkt 0x0#448), by decide +kernel⟩,
    ⟨(up.wr GLB_BOOT_STATUS_STAGE 6).wrs [(THRMX_SEEN, 1), (GLB_THERMAL_TJ_PEAK, 90)], 60, by decide +kernel⟩,
    ⟨up.wr GLB_BOOT_STATUS_STAGE 6, 120, by decide +kernel⟩⟩

/-! FetchesAndConfiguration -/

theorem witness_fetches_and_configuration_1 :
    (∃ (s : State) (m : Fin 1073), s.Inv ∧ (s.rd (YCP_MBX_REQ_HEAD m) = s.rd (YCP_MBX_REQ_TAIL m))) ∧
    (∃ (s : State) (m : Fin 1073), s.Inv ∧ (s.rd (YCP_MBX_REQ_HEAD m) ≠ s.rd (YCP_MBX_REQ_TAIL m)) ∧
      (s.rd (YCP_MBX_STATUS_NOT_FINAL m) = 0) ∧ (s.rd (YCP_MBX_RSP_TAIL m) = s.rd (YCP_MBX_RSP_HEAD m)) ∧
      (s.takesCmd (packetOpcode (BitVec.ofNat 512 (s.rd (YCP_MBX_REQ_SLOT m (s.rd (YCP_MBX_REQ_HEAD m) % 32))))) = true) ∧
      (s.pathOpen (packetCmd (mailboxPath m) (BitVec.ofNat 512 (s.rd (YCP_MBX_REQ_SLOT m (s.rd (YCP_MBX_REQ_HEAD m) % 32))))) = true) ∧
      (s.rd PWR_STATUS_STATE = 0)) ∧
    (∃ (s : State) (m : Fin 1073), s.Inv ∧
      (fenceFlag (packetCmd (mailboxPath m) (BitVec.ofNat 512 (s.rd (YCP_MBX_REQ_SLOT m (s.rd (YCP_MBX_REQ_HEAD m) % 32))))) = true) ∧
      (s.rd (YCP_MBX_STATUS_NOT_FINAL m) ≠ 0)) ∧
    (∃ (s : State) (m : Fin 1073), s.Inv ∧ (32 < 2 * (s.rd (YCP_MBX_STATUS_NOT_FINAL m) + 1))) ∧
    (∃ (s : State) (n : Fin 32768) (w : BitVec 512), s.Inv ∧ (s.on (SPL_VALID n) = false)) ∧
    (∃ (s : State) (h : Host) (r : CfgReq), s.Inv ∧ (s.hostPort h = none) ∧ (s.awake = true)) ∧
    (∃ (s : State) (h : Host) (r : CfgReq) (p : Nat), s.Inv ∧ (s.hostPort h = some p) ∧
      (s.on (HOSTF_PERST h) = true ∨ s.contained 2 h = true ∨ 2 ≤ s.rd PWR_STATUS_STATE) ∧ (s.awake = true)) ∧
    (∃ (s : State) (h : Host) (r : CfgReq) (p : Nat), s.Inv ∧ (s.hostPort h = some p) ∧ (s.on (HOSTF_PERST h) = false) ∧
      (s.contained 2 h = false) ∧ (s.rd PWR_STATUS_STATE = 0) ∧ (s.rd GLB_BOOT_STATUS_STAGE ≠ 6) ∧ (s.awake = true)) :=
  ⟨⟨up, 1, by decide +kernel⟩,
    ⟨up.wrs [(YCP_MBX_REQ_TAIL 0, 1), (YCP_MBX_REQ_SLOT 0 0, 0x0101)], 0, by decide +kernel⟩,
    ⟨up.wrs [(YCP_MBX_REQ_TAIL 0, 1), (YCP_MBX_REQ_SLOT 0 0, 0x0101 + 2 ^ 33), (YCP_MBX_STATUS_NOT_FINAL 0, 1)], 0, by decide +kernel⟩,
    ⟨up.wr (YCP_MBX_STATUS_NOT_FINAL 0) 16, 0, by decide +kernel⟩,
    ⟨up, 5, 0, by decide +kernel⟩,
    ⟨State.reset, 1, ⟨5, 1, none, 0, 1, .ident, none⟩, by decide +kernel⟩,
    ⟨(up.wr GLB_BOOT_STATUS_STAGE 6).wr (HOSTF_PERST 1) 1, 1, ⟨5, 1, none, 0, 1, .ident, none⟩, 3, by decide +kernel⟩,
    ⟨up.wr (HOSTF_PERST 1) 0, 1, ⟨5, 1, none, 0, 1, .ident, none⟩, 3, by decide +kernel⟩⟩

theorem witness_fetches_and_configuration_2 :
    (∃ (s : State) (h : Host) (r : CfgReq) (p : Nat), s.Inv ∧ (s.hostPort h = some p) ∧ (s.on (HOSTF_PERST h) = false) ∧
      (s.contained 2 h = false) ∧ (s.rd PWR_STATUS_STATE = 0) ∧ (s.rd GLB_BOOT_STATUS_STAGE = 6) ∧ (r.bus = none) ∧
      (r.dev.val ≠ 0 ∨ 2 ≤ r.fn.val) ∧ (s.awake = true)) ∧
    (∃ (s : State) (h : Host) (r : CfgReq) (p : Nat), s.Inv ∧ (s.hostPort h = some p) ∧ (s.on (HOSTF_PERST h) = false) ∧
      (s.contained 2 h = false) ∧ (s.rd PWR_STATUS_STATE = 0) ∧ (s.rd GLB_BOOT_STATUS_STAGE = 6) ∧ (r.bus = none) ∧ (r.dev = 0) ∧
      (r.fn = 1) ∧ (r.wr = none) ∧ (r.reg = .ident) ∧ (s.awake = true)) ∧
    (∃ (s : State) (h : Host) (r : CfgReq) (p : Nat) (v : BitVec 32) (be : BitVec 4), s.Inv ∧ (s.hostPort h = some p) ∧
      (s.on (HOSTF_PERST h) = false) ∧ (s.contained 2 h = false) ∧ (s.rd PWR_STATUS_STATE = 0) ∧ (s.rd GLB_BOOT_STATUS_STAGE = 6) ∧
      (r.bus = none) ∧ (r.dev = 0) ∧ (r.fn = 1) ∧ (r.wr = some (v, be)) ∧ (s.awake = true)) ∧
    (∃ (s : State) (h : Host) (r : CfgReq) (p : Nat) (v : BitVec 32) (be : BitVec 4), s.Inv ∧ (s.hostPort h = some p) ∧
      (s.on (HOSTF_PERST h) = false) ∧ (s.contained 2 h = false) ∧ (s.rd PWR_STATUS_STATE = 0) ∧ (s.rd GLB_BOOT_STATUS_STAGE = 6) ∧
      (r.bus = none) ∧ (r.dev = 0) ∧ (r.fn = 0) ∧ (r.wr = some (v, be)) ∧ (s.awake = true)) ∧
    (∃ (s : State) (h : Host) (r : CfgReq) (p : Nat) (x : BitVec 8), s.Inv ∧ (s.hostPort h = some p) ∧ (s.on (HOSTF_PERST h) = false) ∧
      (s.contained 2 h = false) ∧ (s.rd PWR_STATUS_STATE = 0) ∧ (s.rd GLB_BOOT_STATUS_STAGE = 6) ∧ (r.bus = some x) ∧
      (x.toNat = s.rd (RTE_HIER_BUS_SEC_BUS h)) ∧ (s.rd (RTE_HIER_CFG_VB_COUNT h) ≤ r.dev.val ∨ r.fn.val ≠ 0) ∧ (s.awake = true)) ∧
    (∃ (s : State) (h v : Nat), s.Inv ∧ (h < 48)) :=
  ⟨⟨(up.wr GLB_BOOT_STATUS_STAGE 6).wr (HOSTF_PERST 1) 0, 1, ⟨5, 1, none, 1, 1, .ident, none⟩, 3, by decide +kernel⟩,
    ⟨(up.wr GLB_BOOT_STATUS_STAGE 6).wr (HOSTF_PERST 1) 0, 1, ⟨5, 1, none, 0, 1, .ident, none⟩, 3, by decide +kernel⟩,
    ⟨(up.wr GLB_BOOT_STATUS_STAGE 6).wr (HOSTF_PERST 1) 0, 1, ⟨5, 1, none, 0, 1, .command, some (6, 15)⟩, 3, 6, 15, by decide +kernel⟩,
    ⟨(up.wr GLB_BOOT_STATUS_STAGE 6).wr (HOSTF_PERST 1) 0, 1, ⟨5, 1, none, 0, 0, .command, some (6, 15)⟩, 3, 6, 15, by decide +kernel⟩,
    ⟨(up.wr GLB_BOOT_STATUS_STAGE 6).wr (HOSTF_PERST 1) 0, 1, ⟨5, 1, some 0, 0, 1, .ident, none⟩, 3, 0, by decide +kernel⟩,
    ⟨up, 1, 6, by decide +kernel⟩⟩

/-! TranslatedAddress -/

theorem witness_translated_address :
    ∃ (s : State) (i a : Nat), s.Inv ∧ (s.rd (XLAT_MATCH_BASE i) ≤ a) :=
  ⟨up, 4, 5, by decide +kernel⟩

/-! Crc64OfServices -/

theorem witness_crc64_of_services :
    (∃ (s : State) (c : Cmd), s.Inv ∧ (s.ready 0x060B c = true) ∧ ((cleanCmd c [(64, 64),
      (128, 64)] false && s.svcRange (parBytes c 8 8) (parBytes c 16 8)) = true) ∧ (s.poolBusy = false) ∧
      (s.inWindowsAll (parBytes c 8 8) (parBytes c 16 8) = true) ∧ (s.opsFull (s.issuer c.path) = false)) ∧
    (∃ (s : State) (o : Op), s.Inv ∧ (o.phase ≠ 0) ∧ (o.total = o.done + 64) ∧ (s.svcBad (parBytes o.cmd 8 8 + o.done) = false) ∧
      (s.mgmt.inject = []) ∧ ((s.pool.wb.filter fun e => e.src == clusterSrc o.engine) = [])) :=
  ⟨⟨pool1.wrs [(WIN_VALID 3, 1), (WIN_BASE 3, 0), (WIN_LIMIT 3, 0xFFFFFF)], (pkt 0x100000000000000000000000000000000000#448), by decide +kernel⟩,
    ⟨pool1, ⟨5, 0x060B, (pkt 0x4000000000000000000000000000000000#448), .m, 128, 0, 64, 1, 7, false, none, 0, false, false, false, false⟩, by decide +kernel⟩⟩

/-! EngineGroups -/

theorem witness_engine_groups :
    (∃ (s : State) (m l : Nat), s.Inv ∧ (m + l ≤ 86)) ∧
    (∃ (s : State) (m l e : Nat), s.Inv ∧ (e < 96)) :=
  ⟨⟨up, 4, 8, by decide +kernel⟩,
    ⟨up, 4, 8, 9, by decide +kernel⟩⟩

/-! BusMap -/

theorem witness_bus_map :
    ∃ (s : State) (k x b : Nat), s.Inv ∧ (s.rd (POS_SEC_BUS k) ≠ 0) :=
  ⟨up.wrs [(POS_SEC_BUS 34, 5), (POS_SUB_BUS 34, 9), (POS_BUS_SPAN 34, 3)], 34, 6, 1, by decide +kernel⟩

/-! ShaperInterval -/

theorem witness_shaper_interval :
    (∃ (s : State) (r : Nat), s.Inv ∧ (0 < r)) ∧
    (∃ (s : State) (i kind p t g r w : Nat), s.Inv ∧ (i < 4096) ∧ (0 < r) ∧ (r ≤ 512000)) ∧
    (∃ (s : State) (c : Cmd), s.Inv ∧ (s.ready 0x0504 c = true) ∧ (onlyM (s.issuer c.path) = true) ∧ (opFlag c = false) ∧
      (parBytes c 8 4 = 0 ∨ 512000 < parBytes c 8 4)) :=
  ⟨⟨up, 3, by decide +kernel⟩,
    ⟨up, 5, 1, 9, 2, 0, 1000, 10, by decide +kernel⟩,
    ⟨up, (pkt 0x10005#448), by decide +kernel⟩⟩

/-! ShaperCharge -/

theorem witness_shaper_charge :
    ∃ (s : State) (i l : Nat), s.Inv ∧ (i < 4096) ∧ (l < 2 ^ 16) ∧ (s.now < 2 ^ 64) :=
  ⟨up, 5, 64, by decide +kernel⟩

/-! ResolvedAddress -/

theorem witness_resolved_address :
    (∃ (s : State), s.Inv ∧ (s.chainUp = true) ∧ (s.on CHNX_EDGE = true) ∧ (s.rd CHNX_NBIT = 7) ∧
      (bitSet (s.rd GLB_INPUT_STATUS_CHAIN_IN) 0 = true) ∧ (s.rd CHNX_VAL ≤ 63)) ∧
    (∃ (s : State), s.Inv ∧ (s.sideUp = true)) ∧
    (∃ (s : State) (a : BitVec 7), s.Inv ∧ (s.sideUp = true)) :=
  ⟨⟨State.reset.wrs [(GLB_BOOT_STATUS_STAGE, 6), (CHNX_EDGE, 1), (CHNX_NBIT, 7), (GLB_INPUT_STATUS_CHAIN_IN, 3)], by decide +kernel⟩,
    ⟨up.wr GLB_BOOT_STATUS_STAGE 6, by decide +kernel⟩,
    ⟨up.wr GLB_BOOT_STATUS_STAGE 6, 5, by decide +kernel⟩⟩

/-! InputRearm -/

theorem witness_input_rearm :
    (∃ (s : State) (c : Cmd), s.Inv ∧ (s.ready 0x0107 c = true) ∧ (onlyM (s.issuer c.path) = true) ∧
      ((cleanCmd c [(0, 8)] false && isInput (parBytes c 0 1)) = true)) ∧
    (∃ (s : State) (i : Fin 80) (level : Bool) (id : BitVec 1024) (mv : BitVec 16) (t : BitVec 8), s.Inv ∧ (isInput i = true) ∧
      (s.inputLive i = true) ∧ (bitSet (s.rd (inputFld i)) 1 = true) ∧ (bitSet (s.rd (inputFld i)) 0 = level)) ∧
    (∃ (s : State) (i : Fin 80) (level : Bool) (id : BitVec 1024) (mv : BitVec 16) (t : BitVec 8), s.Inv ∧ (isInput i = true) ∧
      (s.inputLive i = true) ∧ (bitSet (s.rd (inputFld i)) 1 = true) ∧ (bitSet (s.rd (inputFld i)) 2 = false) ∧
      (bitSet (s.rd (inputFld i)) 0 ≠ level)) :=
  ⟨⟨up.wr (inputFld 1) 6, (pkt 0x1#448), by decide +kernel⟩,
    ⟨up.wr (inputFld 1) 3, 1, true, 0, 0, 0, by decide +kernel⟩,
    ⟨up.wr (inputFld 1) 2, 1, true, 0, 0, 0, by decide +kernel⟩⟩

/-! ReservationLimit -/

theorem witness_reservation_limit :
    (∃ (s : State) (a : PAcc), s.Inv ∧ (s.pool.resv.length ≤ 4096)) ∧
    (∃ (s : State) (a : PAcc) (r : Resv) (l : List Resv), s.Inv ∧ (s.pool.resv = r :: l) ∧ ((s.pool.resv.all fun x =>
      !sameHolder x a) = true) ∧ (4096 ≤ s.pool.resv.length)) ∧
    (∃ (s : State) (a : PAcc), s.Inv ∧ ((s.pool.resv.filter fun x => !sameHolder x a).length < 4096)) :=
  ⟨⟨up, acc (.read 4), by decide +kernel⟩,
    ⟨{ up with pool := { up.pool with resv := List.replicate 4096 ⟨9, 0, none, 0, 0, true⟩ } }, acc (.read 4), ⟨9, 0, none, 0, 0, true⟩, List.replicate 4095 ⟨9, 0, none, 0, 0, true⟩, by decide +kernel, List.replicate_succ, by rw [List.all_replicate]; decide, by rw [List.length_replicate]⟩,
    ⟨up, acc (.read 4), by decide +kernel⟩⟩

/-! CompletionTimeouts -/

theorem witness_completion_timeouts :
    (∃ (s : State) (c : Cmd), s.Inv ∧ (s.ready 0x0A04 c = true) ∧ (onlyM (s.issuer c.path) = true) ∧ ((cleanCmd c [(0, 8),
      (8, 8)] false && decide (parBytes c 0 1 < 128) && decide (parBytes c 1 1 < 16)) = true)) ∧
    (∃ (s : State) (c : Cmd), s.Inv ∧ (s.ready 0x0A03 c = true) ∧ (onlyM (s.issuer c.path) = true) ∧
      (parBytes c 4 2 = 0 ∨ 1000 < parBytes c 4 2)) ∧
    (∃ (s : State) (c : Cmd), s.Inv ∧ (s.ready 0x0A03 c = true) ∧ (onlyM (s.issuer c.path) = true) ∧ ((cleanCmd c [(0, 16), (16, 5),
      (32, 16)] false && decide (1 ≤ parBytes c 0 2) && decide (parBytes c 0 2 ≤ 1000) && decide (1 ≤ parBytes c 4 2) && decide (parBytes c 4 2 ≤ 1000)) = true)) :=
  ⟨⟨up, (pkt 0x30a#448), by decide +kernel⟩,
    ⟨up, (pkt 0x5#448), by decide +kernel⟩,
    ⟨up, (pkt 0x320003000a#448), by decide +kernel⟩⟩

/-! StatusPosting -/

theorem witness_status_posting :
    (∃ (s : State) (c : Cmd) (m : Nat) (o st hd rs : Nat) (fin : Bool), s.Inv ∧ (mailbox c.path = some m)) ∧
    (∃ (s : State) (c : Cmd) (n : Fin 32768) (o st hd rs : Nat) (fin : Bool), s.Inv ∧ (c.path = .spool n) ∧
      (s.on (SPL_VALID n) = false ∨ s.on (SPL_VALID (s.rd (SPL_PAIRED n))) = false ∨ s.on (SPL_STOPPED n) = true ∨ s.on (SPL_STOPPED (s.rd (SPL_PAIRED n))) = true)) ∧
    (∃ (s : State) (c : Cmd) (n : Fin 32768) (o st hd rs : Nat) (fin : Bool), s.Inv ∧ (c.path = .spool n) ∧ (s.on (SPL_VALID n) = true) ∧
      (s.on (SPL_VALID (s.rd (SPL_PAIRED n))) = true) ∧ (s.on (SPL_STOPPED n) = false) ∧
      (s.on (SPL_STOPPED (s.rd (SPL_PAIRED n))) = false) ∧ (s.hostOpen (s.rd (SPL_HOST (s.rd (SPL_PAIRED n)))) = true)) ∧
    (∃ (s : State) (c : Cmd) (n : Fin 32768) (o st hd rs : Nat) (fin : Bool), s.Inv ∧ (c.path = .spool n) ∧ (s.on (SPL_VALID n) = true) ∧
      (s.on (SPL_VALID (s.rd (SPL_PAIRED n))) = true) ∧ (s.on (SPL_STOPPED n) = false) ∧
      (s.on (SPL_STOPPED (s.rd (SPL_PAIRED n))) = false) ∧ (s.hostOpen (s.rd (SPL_HOST (s.rd (SPL_PAIRED n)))) = false)) ∧
    (∃ (s : State) (c : Cmd) (o st hd rs : Nat) (fin : Bool), s.Inv ∧ (c.path = .smbus)) ∧
    (∃ (s : State) (c : Cmd) (o st hd rs : Nat) (fin : Bool), s.Inv ∧ (c.path = .flash) ∧ (st ≠ stOk)) ∧
    (∃ (s : State) (c : Cmd) (o st hd rs : Nat) (fin : Bool), s.Inv ∧ (st < 256) ∧ (o < 65536) ∧ (hd < 65536) ∧ (rs < 2 ^ 192)) :=
  ⟨⟨up, (pkt 0x0#448), 0, 0x0101, 0, 0, 0, true, by decide +kernel⟩,
    ⟨up, ⟨.spool 5, 7, 0, 0⟩, 5, 0x0101, 0, 0, 0, true, by decide +kernel⟩,
    ⟨up.wrs [(SPL_VALID 5, 1), (SPL_PAIRED 5, 6), (SPL_VALID 6, 1), (SPL_HOST 6, 1), (HOSTF_BME 1, 1),
      (HOSTF_IN_RESET 1, 0)], ⟨.spool 5, 7, 0, 0⟩, 5, 0x0101, 0, 0, 0, true, by decide +kernel⟩,
    ⟨up.wrs [(SPL_VALID 5, 1), (SPL_PAIRED 5, 6), (SPL_VALID 6, 1),
      (SPL_HOST 6, 1)], ⟨.spool 5, 7, 0, 0⟩, 5, 0x0101, 0, 0, 0, true, by decide +kernel⟩,
    ⟨up, ⟨.smbus, 7, 0, 0⟩, 0x0101, 0, 0, 0, true, by decide +kernel⟩,
    ⟨up, ⟨.flash, 7, 0, 0⟩, 0x0101, 17, 0, 0, true, by decide +kernel⟩,
    ⟨up, (pkt 0x0#448), 0x0101, 0, 0, 0, true, by decide +kernel⟩⟩

/-! CommandChecks -/

theorem witness_command_checks_1 :
    (∃ (s : State) (o : Nat) (perm : Issuer → Bool) (valid : Bool) (body : Issuer → CmdRes) (c : Cmd), s.Inv ∧ (s.ready o c = false)) ∧
    (∃ (s : State) (o : Nat) (c : Cmd), s.Inv ∧ (s.ready o c = true) ∧ ((opTable.find? fun e => e.1 == o).isNone = true)) ∧
    (∃ (s : State) (o : Nat) (perm : Issuer → Bool) (valid : Bool) (body : Issuer → CmdRes) (c : Cmd), s.Inv ∧ (s.ready o c = true) ∧
      (perm (s.issuer c.path) = false)) ∧
    (∃ (s : State) (o : Nat) (perm : Issuer → Bool) (valid : Bool) (body : Issuer → CmdRes) (c : Cmd), s.Inv ∧ (s.ready o c = true) ∧
      (perm (s.issuer c.path) = true) ∧ (valid = false)) ∧
    (∃ (s : State) (o : Nat) (perm : Issuer → Bool) (valid : Bool) (c : Cmd) (st : Nat), s.Inv ∧ (s.ready o c = true) ∧
      (perm (s.issuer c.path) = true) ∧ (valid = true)) ∧
    (∃ (s : State) (o : Nat) (perm : Issuer → Bool) (valid : Bool) (c : Cmd) (r : Nat) (t : State), s.Inv ∧ (s.ready o c = true) ∧
      (perm (s.issuer c.path) = true) ∧ (valid = true)) ∧
    (∃ (s : State) (o : Nat) (perm : Issuer → Bool) (valid : Bool) (c : Cmd) (e n ph a : Nat) (t : State), s.Inv ∧ (s.ready o c = true) ∧
      (perm (s.issuer c.path) = true) ∧ (valid = true) ∧ (s.opsFull (s.issuer c.path) = true)) ∧
    (∃ (s : State) (o : Nat) (perm : Issuer → Bool) (valid : Bool) (c : Cmd) (e n ph a : Nat) (t : State), s.Inv ∧ (s.ready o c = true) ∧
      (perm (s.issuer c.path) = true) ∧ (valid = true) ∧ (s.opsFull (s.issuer c.path) = false)) :=
  ⟨⟨State.reset, 0x0101, anyIssuer, true, (fun _ => .fail stBusy), (pkt 0x0#448), by decide +kernel⟩,
    ⟨up, 0x0FFF, (pkt 0x0#448), by decide +kernel⟩,
    ⟨up, 0x0101, (fun _ => false), true, (fun _ => .fail stBusy), (pkt 0x0#448), by decide +kernel⟩,
    ⟨up, 0x0101, anyIssuer, false, (fun _ => .fail stBusy), (pkt 0x0#448), by decide +kernel⟩,
    ⟨up, 0x0101, anyIssuer, true, (pkt 0x0#448), stBusy, by decide +kernel⟩,
    ⟨up, 0x0101, anyIssuer, true, (pkt 0x0#448), 5, up, by decide +kernel⟩,
    ⟨{ up with ops := List.replicate 1024 ⟨5, 0x0C02, pkt 0, .m, 128, 3, 9, 0, 0, false, none, 0, false, false, false, false⟩ }, 0x0101, anyIssuer, true, (pkt 0x0#448), 0, 1, 0, 0, up, by decide +kernel⟩,
    ⟨up, 0x0101, anyIssuer, true, (pkt 0x0#448), 0, 1, 0, 0, up, by decide +kernel⟩⟩

theorem witness_command_checks_2 :
    (∃ (s : State) (o : Nat) (perm : Issuer → Bool) (valid : Bool) (c : Cmd) (k : Nat) (t : State), s.Inv ∧ (s.ready o c = true) ∧
      (perm (s.issuer c.path) = true) ∧ (valid = true)) ∧
    (∃ (s : State) (l : List (Bool × Nat)) (st : Nat) (m : List (Bool × Nat)) (r : CmdRes), s.Inv ∧ (l.all (fun x => !x.1) = true)) ∧
    (∃ (s : State), s.Inv ∧ (s.ops.length ≤ 1024)) :=
  ⟨⟨up, 0x0101, anyIssuer, true, (pkt 0x0#448), 0, up, by decide +kernel⟩,
    ⟨up, [], 5, [], .fail 0, by decide +kernel⟩,
    ⟨up, by decide +kernel⟩⟩

end Sys2Proof.Tests
end

section
/-! SUPPORT. The completion of a command packet that passes its checks, a write of one field, and a read of a LO register that latches its HI
half (R691, R712, R107, R686). -/

namespace Sys2Proof.Machine

/-- A write of one field is what it says. -/
theorem State.writes_wr (s : State) (f : Fld) (v : Nat) (h : s.regs.wf = true) : s.writes (s.wr f v) [(f, v)] :=
  s.writes_wrs [(f, v)] h (List.nodup_singleton _)

/-- Clearing a bit makes no number greater. -/
theorem clrBit_le (v k : Nat) : clrBit v k ≤ v := by
  unfold clrBit
  split
  · exact Nat.sub_le v _
  · exact Nat.le_refl v

/-- A taken command that passes R691's checks and whose rules let it complete posts OK with its result (R712). -/
theorem State.command_ok {s t : State} {opcode r : Nat} {perm : Issuer → Bool} {valid : Bool} {body : Issuer → CmdRes} {c : Cmd}
    (hready : s.ready opcode c = true) (hperm : perm (s.issuer c.path) = true) (hvalid : valid = true)
    (hbody : body (s.issuer c.path) = .ok r t) : s.command opcode perm valid body c = t.post c opcode stOk 0 r true := by
  unfold State.ready at hready
  simp [State.command, State.runCmd, hready, hperm, hvalid, hbody]

/-- A latching read writes the two halves of its sample and gives the low one. -/
theorem State.doesThen_latch {s : State} {i : Instr} {lo hi : Fld} {v : Nat} (h : s.regs.wf = true) (hne : lo.key ≠ hi.key)
    (hexec : exec i s = giveRead (s.latch lo hi v)) :
    s.doesThen i [(lo, v), (hi, v / 2 ^ 32)] fun u => u.emit (.readData (v % 2 ^ 32)) :=
  ⟨s.wrs [(lo, v), (hi, v / 2 ^ 32)], hexec, s.writes_wrs _ h (by simpa using hne)⟩

/-! The qualifier (R136 to R140). -/

section
variable {s : State} {i : Nat} {level : Bool}

/-- A qualified input at its present level, masked or not, shows it in RAW alone (R139, R140). -/
theorem State.qualify_same_level (id mv t : Nat) (hlive : s.inputLive i = true) (hvalid : bitSet (s.rd (inputFld i)) 1 = true)
    (hlevel : bitSet (s.rd (inputFld i)) 0 = level) :
    s.qualify i level id mv t = s.wr (inputFld i) (s.rd (inputFld i) % 8 + 8 * b2n level) := by
  simp [State.qualify, hlive, hvalid, hlevel]

/-- An unmasked input that had a level takes the other one, raises its event and counts the transition (R139, R140). -/
theorem State.qualify_new_level (id mv t : Nat) (hlive : s.inputLive i = true) (hvalid : bitSet (s.rd (inputFld i)) 1 = true)
    (hopen : bitSet (s.rd (inputFld i)) 2 = false) (hlevel : bitSet (s.rd (inputFld i)) 0 ≠ level) :
    s.qualify i level id mv t = ((s.wr (inputFld i) (2 + b2n level * 9)).inputEvent i level false id mv t).chatter i := by
  simp [State.qualify, hlive, hvalid, hopen, hlevel]

end

/-- The qualification of a number that names an input. -/
theorem exec_inputQualified {i : Fin 80} (s : State) (level : Bool) (id : BitVec 1024) (mv : BitVec 16) (t : BitVec 8)
    (hi : isInput i = true) :
    exec (.inputQualified i level id mv t) s = .next (s.qualify i level id.toNat mv.toNat t.toNat) := by
  show s.event (isInput i) (fun s => s.qualify i level id.toNat mv.toNat t.toNat) = _
  rw [State.event, if_pos hi]

/-- The state after the re-arm of input `i`: the mask is clear and the transitions counted for it are forgotten (R139, R140). -/
def State.rearmed (s : State) (i : Nat) : State :=
  { s.wr (inputFld i) (clrBit (s.rd (inputFld i)) 2) with
    mgmt := { s.mgmt with edges := s.mgmt.edges.filter fun (x : Nat × Nat) => x.1 != 256 + i } }

/-- A re-arm clears the mask bit, and no value is too wide for its field. -/
theorem State.rd_rearmed (s : State) (i : Nat) (h : s.regs.wf = true) :
    (s.rearmed i).rd (inputFld i) = clrBit (s.rd (inputFld i)) 2 :=
  calc (s.rearmed i).rd (inputFld i)
    _ = clrBit (s.rd (inputFld i)) 2 % 2 ^ (inputFld i).width := s.rd_wr_same _ _ h
    _ = clrBit (s.rd (inputFld i)) 2 := Nat.mod_eq_of_lt (lt_of_le_of_lt (clrBit_le _ 2) (s.rd_lt _))

/-- A re-arm writes no other register field. -/
theorem State.keepsRegs_rearmed (s : State) (i : Nat) (h : s.regs.wf = true) : s.keepsRegs (s.rearmed i) [inputFld i] :=
  fun f hf => s.rd_wr_ne (inputFld i) f _ h (by simpa using hf)

/-- A re-arm that passes its checks answers OK in the re-armed state (R140, R721). -/
theorem exec_deviceInputRearm {s : State} {c : Cmd} (hready : s.ready 0x0107 c = true) (hperm : onlyM (s.issuer c.path) = true)
    (hpar : (cleanCmd c [(0, 8)] false && isInput (parBytes c 0 1)) = true) :
    exec (.deviceInputRearm c) s = .next ((s.rearmed (parBytes c 0 1)).post c 0x0107 stOk 0 0 true) :=
  congrArg Host.Outcome.next (State.command_ok hready hperm hpar rfl)

/-- Settles O48: the re-arm gives the re-armed state, and the next qualification is that of an input with a level, at the same level or at
the other one. -/
theorem inputRearm : Obligations.InputRearm := by
  intro s hInv
  obtain ⟨hregs, -, -⟩ := hInv
  refine ⟨?rearm, ?same, ?other⟩
  case rearm =>
    intro c hready hperm hpar
    exact ⟨_, exec_deviceInputRearm hready hperm hpar, s.rd_rearmed _ hregs, s.keepsRegs_rearmed _ hregs⟩
  case same =>
    intro i level id mv t hi hlive hvalid hlevel
    refine ⟨_, exec_inputQualified s level id mv t hi, ?_⟩
    rw [State.qualify_same_level _ _ _ hlive hvalid hlevel]
    exact s.writes_wr _ _ hregs
  case other =>
    intro i level id mv t hi hlive hvalid hopen hlevel
    refine ⟨_, exec_inputQualified s level id mv t hi, ?_⟩
    rw [State.qualify_new_level _ _ _ hlive hvalid hopen hlevel]
    exact State.writes_nil _

/-- Settles O49: each read is a latching read of two fields at different addresses. -/
theorem latchedReads : Obligations.LatchedReads := by
  intro s hInv
  obtain ⟨hregs, -, -⟩ := hInv
  refine ⟨?time, ?tail, ?committed, ?head⟩
  case time => exact State.doesThen_latch hregs (by decide) rfl
  case tail => exact fun n => State.doesThen_latch hregs (by simp [PEN_LOG_TAIL_LO_LSN, PEN_LOG_TAIL_HI_LSN]) rfl
  case committed => exact fun n => State.doesThen_latch hregs (by simp [PEN_LOG_COMMIT_LO_LSN, PEN_LOG_COMMIT_HI_LSN]) rfl
  case head => exact fun n => State.doesThen_latch hregs (by simp [PEN_LOG_HEAD_LO_LSN, PEN_LOG_HEAD_HI_LSN]) rfl

end Sys2Proof.Machine
end

section
/-! SUPPORT. The map between host buses and fabric buses at a position, in both directions, and the address that a translation entry gives
(R367, R371, R384). -/

namespace Sys2Proof.Machine

/-- The fabric bus of a host bus, and when there is one (R367). -/
theorem State.toFabric_eq_some_iff (s : State) (k x b : Nat) :
    s.toFabric k x = some b ↔ s.rd (POS_SEC_BUS k) ≤ x ∧ x ≤ s.rd (POS_SUB_BUS k) ∧
      x - s.rd (POS_SEC_BUS k) < s.rd (POS_BUS_SPAN k) ∧ b = s.rd (POS_FABRIC_BUS_BASE k) + (x - s.rd (POS_SEC_BUS k)) := by
  simp only [State.toFabric, Option.ite_none_right_eq_some, Option.some.injEq, and_assoc, eq_comm (a := b)]

/-- The host bus of a fabric bus, and when there is one: the host has programmed the position, the fabric bus lies in its span, and the host
bus is not above its subordinate bus (R367, R371). -/
theorem State.toHost_eq_some_iff (s : State) (k x b : Nat) :
    s.toHost k b = some x ↔ s.rd (POS_SEC_BUS k) ≠ 0 ∧ s.rd (POS_FABRIC_BUS_BASE k) ≤ b ∧
      b < s.rd (POS_FABRIC_BUS_BASE k) + s.rd (POS_BUS_SPAN k) ∧
      s.rd (POS_SEC_BUS k) + (b - s.rd (POS_FABRIC_BUS_BASE k)) ≤ s.rd (POS_SUB_BUS k) ∧
      x = s.rd (POS_SEC_BUS k) + (b - s.rd (POS_FABRIC_BUS_BASE k)) := by
  simp only [State.toHost, Option.ite_none_right_eq_some, Option.some.injEq, and_assoc, eq_comm (a := x)]

/-- At a programmed position the two maps are inverse to each other: both hold of the pairs at one offset, from the secondary bus and from the
fabric bus base, that is within the span and the subordinate bus (R367). -/
theorem State.toHost_eq_some_iff_toFabric {s : State} {k : Nat} (x b : Nat) (hprog : s.rd (POS_SEC_BUS k) ≠ 0) :
    s.toHost k b = some x ↔ s.toFabric k x = some b := by
  rw [State.toHost_eq_some_iff, State.toFabric_eq_some_iff]
  constructor
  · rintro ⟨-, hbase, hspan, hsub, rfl⟩
    rw [Nat.add_sub_cancel_left]
    omega
  · rintro ⟨hsec, hsub, hspan, rfl⟩
    rw [Nat.add_sub_cancel_left]
    omega

/-- Settles O44: each direction holds exactly under its conditions, and at a programmed position these are the same. -/
theorem busMap : Obligations.BusMap := by
  intro s _
  exact ⟨s.toFabric_eq_some_iff, fun _ x b hprog => State.toHost_eq_some_iff_toFabric x b hprog⟩

/-- Settles O41: the address of an entry is defined by R384's sum. -/
theorem translatedAddress : Obligations.TranslatedAddress :=
  fun _ _ _ _ _ => rfl

end Sys2Proof.Machine
end

section
/-! SUPPORT. The command packet that fails its parameter check, the INTERVAL of a shaper, and the fields that a charge writes (R691, R492,
R495). -/

namespace Sys2Proof.Machine

/-- A taken command of a permitted issuer whose parameters do not pass posts BAD_PARAM and changes nothing else (R691). -/
theorem State.command_badParam {s : State} {opcode : Nat} {perm : Issuer → Bool} {valid : Bool} {body : Issuer → CmdRes} {c : Cmd}
    (hready : s.ready opcode c = true) (hperm : perm (s.issuer c.path) = true) (hvalid : valid = false) :
    s.command opcode perm valid body c = s.post c opcode stBadParam 0 0 true := by
  unfold State.ready at hready
  simp [State.command, State.runCmd, hready, hperm, hvalid]

/-- In a list of writes to fields of different names, each field takes its value. -/
theorem State.rd_wrs_of_mem {s : State} {l : List (Fld × Nat)} {f : Fld} {v : Nat} (h : s.regs.wf = true)
    (hn : (l.map fun p => p.1.key).Nodup) (hmem : (f, v) ∈ l) : (s.wrs l).rd f = v % 2 ^ f.width := by
  obtain ⟨hvals, -⟩ := s.writes_wrs l h hn
  exact hvals (f, v) hmem

/-- INTERVAL × rate lies within half a rate of 8000 × 2^19: INTERVAL is the quotient rounded to the nearest integer (R492). -/
theorem shaperInterval_nearest {r : Nat} (hr : 0 < r) :
    2 * (r * shaperInterval r) ≤ 2 * (8000 * 2 ^ 19) + r ∧ 2 * (8000 * 2 ^ 19) < 2 * (r * shaperInterval r) + r := by
  have hle : 2 * r * shaperInterval r ≤ 2 * (8000 * 2 ^ 19) + r := Nat.mul_div_le _ _
  have hlt : 2 * (8000 * 2 ^ 19) + r < 2 * r * (shaperInterval r + 1) := Nat.lt_mul_div_succ _ (by omega)
  rw [Nat.mul_add_one] at hlt
  rw [Nat.mul_assoc] at hle hlt
  omega

/-- A shaper allotted at a rate has the INTERVAL of that rate, as far as it fits (R492). -/
theorem State.rd_allotShaper_interval (s : State) (i kind p t g r w : Nat) (h : s.regs.wf = true) :
    (s.allotShaper i kind p t g r w).rd (SHP_INTERVAL i) = shaperInterval r % 2 ^ (SHP_INTERVAL i).width := by
  have hused : (SHP_INTERVAL i).key ≠ SCH_STATUS_SHAPERS_USED.key := by
    simp only [SHP_INTERVAL, SCH_STATUS_SHAPERS_USED]
    omega
  rw [State.allotShaper, State.bump, State.rd_wr_ne _ _ _ _ (s.wrs_wf _ h) hused]
  refine State.rd_wrs_of_mem h ?_ (by simp)
  simp [SHP_VALID, SHP_KIND, SHP_PORT, SHP_TC, SHP_GONDOLA, SHP_INTERVAL, SHP_BURST, SHPX_RATE, SHPX_E, SHP_ELIGIBLE]
  omega

/-- A rate outside 1 to 512,000 Mb/s fails the check of SCHED_SHAPER_SET (R492). -/
theorem shaperRate_rejected {r : Nat} (h : r = 0 ∨ 512000 < r) : (decide (1 ≤ r) && decide (r ≤ 512000)) = false := by
  rw [Bool.and_eq_false_iff, decide_eq_false_iff_not, decide_eq_false_iff_not]
  omega

/-- Settles O45: INTERVAL is a rounded quotient, an allotted shaper has it, and a rate out of range fails the parameter check. -/
theorem shaperInterval_holds : Obligations.ShaperInterval := by
  intro s hInv
  obtain ⟨hregs, -, -⟩ := hInv
  refine ⟨fun r => shaperInterval_nearest, ?allot, ?reject⟩
  case allot => exact fun i kind p t g r w _ _ _ => s.rd_allotShaper_interval i kind p t g r w hregs
  case reject =>
    intro c hready hperm hset hrate
    refine congrArg Host.Outcome.next (State.command_badParam hready hperm ?_)
    rw [hset, Bool.false_or, shaperRate_rejected hrate, Bool.and_false]

/-- A charge writes E, and the level and eligibility that the wheel gives the shaper for it (R495, R498). -/
theorem State.charge_writes (s : State) (i l : Nat) (h : s.regs.wf = true) :
    ∃ level eligible, s.writes (s.charge i l)
      [(SHPX_E i, max (s.rd (SHPX_E i)) (s.now * 2 ^ 19 - s.rd (SHP_BURST i) * 64 * s.rd (SHP_INTERVAL i)) + l * s.rd (SHP_INTERVAL i)),
        (SHPX_LEVEL i, level), (SHP_ELIGIBLE i, eligible)] := by
  refine ⟨_, _, s.writes_wrs _ h ?_⟩
  simp [SHPX_E, SHPX_LEVEL, SHP_ELIGIBLE]
  omega

/-- Settles O46: E, LEVEL and ELIGIBLE are all that a charge writes, and E takes R495's sum. -/
theorem shaperCharge : Obligations.ShaperCharge := by
  intro s hInv
  obtain ⟨hregs, -, -⟩ := hInv
  intro i l _ _ _
  obtain ⟨level, eligible, hvals, hkeep, -, -⟩ := s.charge_writes i l hregs
  exact ⟨hvals _ List.mem_cons_self, hkeep⟩

end Sys2Proof.Machine
end

section
/-! SUPPORT. A register field after reset, and the effects of the commands that set the completion timeouts (R539, R712). -/

namespace Sys2Proof.Machine

/-- The field store of reset lists nothing, so every field reads its reset value, as far as it fits. -/
theorem State.rd_reset (f : Fld) : State.reset.rd f = f.rst % 2 ^ f.width := by
  show (regsGet [] f.key ^^^ f.rst) % 2 ^ f.width = _
  rw [regsGet, Nat.zero_xor]

/-- After reset DS_TIMEOUT of every port selects encoding 0, which is 40 ms (R203, R539). -/
theorem State.timeoutOf_port_reset (p : Nat) : State.reset.timeoutOf .port p = 40 * ms := by
  have hsel : State.reset.rd (ERR_PORT_CTO_DS_TIMEOUT p) = 0 := (State.rd_reset _).trans (Nat.zero_mod _)
  rw [State.timeoutOf, hsel]
  decide

/-- After reset FABRIC_TIMEOUT is 10 ms (R539). -/
theorem State.timeoutOf_node_reset (p : Nat) : State.reset.timeoutOf .node p = 10 * ms := by
  have hfab : State.reset.rd ERR_CFG_FABRIC_TIMEOUT_MS = 10 := State.rd_reset _
  rw [State.timeoutOf, hfab, Nat.mul_comm]

/-- A value outside 1 to 1,000 fails a check that ends with that range (R539). -/
theorem oneToThousand_rejected {check : Bool} {n : Nat} (h : n = 0 ∨ 1000 < n) :
    (check && decide (1 ≤ n) && decide (n ≤ 1000)) = false := by
  rw [Bool.and_eq_false_iff, Bool.and_eq_false_iff, decide_eq_false_iff_not, decide_eq_false_iff_not]
  omega

/-- ERROR_TIMEOUT_SET that passes its checks writes DS_TIMEOUT of the port it names, and answers OK (R539). -/
theorem answers_errorTimeoutSet {s : State} {c : Cmd} (hregs : s.regs.wf = true) (hready : s.ready 0x0A04 c = true)
    (hperm : onlyM (s.issuer c.path) = true)
    (hpar : (cleanCmd c [(0, 8), (8, 8)] false && decide (parBytes c 0 1 < 128) && decide (parBytes c 1 1 < 16)) = true) :
    s.answers (.errorTimeoutSet c) 0x0A04 c 0 s [(ERR_PORT_CTO_DS_TIMEOUT (parBytes c 0 1), parBytes c 1 1)] :=
  ⟨_, congrArg Host.Outcome.next (State.command_ok hready hperm hpar rfl), s.writes_wr _ _ hregs⟩

/-- ERROR_CFG_SET that passes its checks writes its three settings, and answers OK (R529, R539). -/
theorem answers_errorCfgSet {s : State} {c : Cmd} (hregs : s.regs.wf = true) (hready : s.ready 0x0A03 c = true)
    (hperm : onlyM (s.issuer c.path) = true)
    (hpar : (cleanCmd c [(0, 16), (16, 5), (32, 16)] false && decide (1 ≤ parBytes c 0 2) && decide (parBytes c 0 2 ≤ 1000)
      && decide (1 ≤ parBytes c 4 2) && decide (parBytes c 4 2 ≤ 1000)) = true) :
    s.answers (.errorCfgSet c) 0x0A03 c 0 s
      [(ERR_CFG_HOLD_MS, parBytes c 0 2), (ERR_CFG_AUTO_RELEASE, parBits c 16 5), (ERR_CFG_FABRIC_TIMEOUT_MS, parBytes c 4 2)] :=
  ⟨_, congrArg Host.Outcome.next (State.command_ok hready hperm hpar rfl),
    s.writes_wrs _ hregs (by simp [ERR_CFG_HOLD_MS, ERR_CFG_AUTO_RELEASE, ERR_CFG_FABRIC_TIMEOUT_MS])⟩

/-- Settles O51: each timeout is its setting's, the settings have their reset values after reset, and each command writes its setting or
fails its range check; FABRIC_TIMEOUT's field is wide enough for 1,000. -/
theorem completionTimeouts : Obligations.CompletionTimeouts := by
  intro s hInv
  obtain ⟨hregs, -, -⟩ := hInv
  refine ⟨?settings, ?values, ?dsTimeout, ?reject, ?fabricTimeout⟩
  case settings => exact fun _ => ⟨rfl, rfl, rfl⟩
  case values => exact fun p => ⟨State.timeoutOf_port_reset p, State.timeoutOf_node_reset p, by decide⟩
  case dsTimeout => exact fun c => answers_errorTimeoutSet hregs
  case reject =>
    intro c hready hperm hfab
    exact congrArg Host.Outcome.next (State.command_badParam hready hperm (oneToThousand_rejected hfab))
  case fabricTimeout =>
    intro c hready hperm hpar
    obtain ⟨u, hexec, hvals, -, -, hframe⟩ := answers_errorCfgSet hregs hready hperm hpar
    obtain ⟨-, hmax⟩ := Bool.and_eq_true_iff.mp hpar
    have hfits : parBytes c 4 2 < 2 ^ ERR_CFG_FABRIC_TIMEOUT_MS.width := lt_of_le_of_lt (of_decide_eq_true hmax) (by decide)
    refine ⟨u, hexec, ?_, hframe⟩
    rw [hvals (ERR_CFG_FABRIC_TIMEOUT_MS, parBytes c 4 2) (by simp), Nat.mod_eq_of_lt hfits]

end Sys2Proof.Machine
end

section
/-! SUPPORT. The reservations that a load-reserved leaves, and the count of evictions (R607, R608). -/

namespace Sys2Proof.Machine

theorem State.inc_wf (s : State) (f : Fld) (h : s.regs.wf = true) : (s.inc f).regs.wf = true :=
  s.wr_wf _ _ h

/-- A counted field reads its saturating successor: the successor never outgrows the field (R12). -/
theorem State.rd_inc_same (s : State) (f : Fld) (h : s.regs.wf = true) : (s.inc f).rd f = satInc f.width (s.rd f) := by
  have hfits : satInc f.width (s.rd f) < 2 ^ f.width := by
    unfold satInc
    split
    case isTrue hroom => exact hroom
    case isFalse => exact s.rd_lt f
  rw [State.inc, s.rd_wr_same _ _ h, Nat.mod_eq_of_lt hfits]

/-- The reservations held by others than the holder of `a`: those that a new reservation of `a` does not replace (R607). -/
def State.otherResv (s : State) (a : PAcc) : List Resv := s.pool.resv.filter fun r => !sameHolder r a

/-- The reservation that a load-reserved of `a` sets (R607). -/
def State.newResv (s : State) (a : PAcc) : Resv := ⟨a.src, a.requester, a.pasid, a.addr / 64 * 64, s.now, s.aloneSince a⟩

/-- The state that holds the reservations `l`, and shows their number in RESV_USED. -/
def State.holdResv (s : State) (l : List Resv) : State :=
  { s with pool := { s.pool with resv := l } }.wr ORD_STATUS_RESV_USED l.length

section
variable (s : State) (l : List Resv)

@[simp] theorem State.holdResv_resv : (s.holdResv l).pool.resv = l := rfl

theorem State.holdResv_wf (h : s.regs.wf = true) : (s.holdResv l).regs.wf = true :=
  State.wr_wf _ _ _ h

theorem State.rd_holdResv (f : Fld) (h : s.regs.wf = true) (hne : f.key ≠ ORD_STATUS_RESV_USED.key) :
    (s.holdResv l).rd f = s.rd f :=
  State.rd_wr_ne _ _ _ _ h hne

end

section
variable {s : State} {a : PAcc}

theorem State.length_otherResv_le : (s.otherResv a).length ≤ s.pool.resv.length :=
  List.length_filter_le _ _

/-- A holder that has no reservation leaves all of them to others. -/
theorem State.otherResv_eq_resv (h : (s.pool.resv.all fun x => !sameHolder x a) = true) : s.otherResv a = s.pool.resv :=
  List.filter_eq_self.mpr (List.all_eq_true.mp h)

/-- While others hold fewer than 4,096, the new reservation joins theirs and nothing is evicted (R607, R608). -/
theorem State.reserve_of_free (h : (s.otherResv a).length < 4096) :
    s.reserve a = s.holdResv (s.otherResv a ++ [s.newResv a]) := by
  unfold State.otherResv at h
  simp [State.reserve, State.holdResv, State.otherResv, State.newResv, Nat.not_le.mpr h]

/-- When others hold 4,096, the new reservation takes the place of the oldest, and the eviction is counted and raises its event (R608). -/
theorem State.reserve_of_full (h : 4096 ≤ (s.otherResv a).length) :
    s.reserve a = ((s.holdResv ((s.otherResv a).drop 1 ++ [s.newResv a])).inc ORD_COUNT_RESV_EVICT).wr ORD_EVENT_RESV_EVICT 1 := by
  unfold State.otherResv at h
  simp [State.reserve, State.holdResv, State.otherResv, State.newResv, h]

/-- A load-reserved keeps the number of reservations within 4,096: one joins fewer, or one leaves for the one that joins (R608). -/
theorem State.length_resv_reserve_le (h : s.pool.resv.length ≤ 4096) : (s.reserve a).pool.resv.length ≤ 4096 := by
  have hothers : (s.otherResv a).length ≤ s.pool.resv.length := State.length_otherResv_le
  rcases Nat.lt_or_ge (s.otherResv a).length 4096 with hfree | hfull
  · rw [State.reserve_of_free hfree, State.holdResv_resv, List.length_append, List.length_singleton]
    omega
  · rw [State.reserve_of_full hfull, State.wr_pool, State.inc_pool, State.holdResv_resv, List.length_append, List.length_drop,
      List.length_singleton]
    omega

/-- An eviction takes the front of the list, the oldest since each new reservation joins at the end (R608). -/
theorem State.resv_reserve_of_full {r : Resv} {l : List Resv} (hothers : s.otherResv a = r :: l) (hfull : 4096 ≤ (s.otherResv a).length) :
    (s.reserve a).pool.resv = l ++ [s.newResv a] := by
  rw [State.reserve_of_full hfull, State.wr_pool, State.inc_pool, State.holdResv_resv, hothers, List.drop_one, List.tail_cons]

/-- An eviction counts in RESV_EVICT, and the writes of RESV_USED and of the event leave that count (R608). -/
theorem State.rd_evict_reserve_of_full (hregs : s.regs.wf = true) (hfull : 4096 ≤ (s.otherResv a).length) :
    (s.reserve a).rd ORD_COUNT_RESV_EVICT = satInc ORD_COUNT_RESV_EVICT.width (s.rd ORD_COUNT_RESV_EVICT) := by
  have hheld := s.holdResv_wf ((s.otherResv a).drop 1 ++ [s.newResv a]) hregs
  rw [State.reserve_of_full hfull, State.rd_wr_ne _ _ _ _ (State.inc_wf _ _ hheld) (by decide), State.rd_inc_same _ _ hheld,
    State.rd_holdResv _ _ _ hregs (by decide)]

/-- Without an eviction RESV_EVICT stays (R608). -/
theorem State.rd_evict_reserve_of_free (hregs : s.regs.wf = true) (hfree : (s.otherResv a).length < 4096) :
    (s.reserve a).rd ORD_COUNT_RESV_EVICT = s.rd ORD_COUNT_RESV_EVICT := by
  rw [State.reserve_of_free hfree, State.rd_holdResv _ _ _ hregs (by decide)]

end

/-- Settles O50: a load-reserved either finds fewer than 4,096 reservations of others and adds one, or evicts the first of the list, which
is the oldest, and counts it. -/
theorem reservationLimit : Obligations.ReservationLimit := by
  intro s hInv
  obtain ⟨hregs, -, -⟩ := hInv
  refine ⟨?bound, ?evicted, ?kept⟩
  case bound => exact fun _ => State.length_resv_reserve_le
  case evicted =>
    intro a r l hresv hnone hlen
    have hothers : s.otherResv a = s.pool.resv := State.otherResv_eq_resv hnone
    have hfull : 4096 ≤ (s.otherResv a).length := by rwa [hothers]
    exact ⟨State.resv_reserve_of_full (hothers.trans hresv) hfull, State.rd_evict_reserve_of_full hregs hfull⟩
  case kept => exact fun _ => State.rd_evict_reserve_of_free hregs

end Sys2Proof.Machine
end

section
/-! SUPPORT. The start of a long operation, and the CRC-64 of the data services: its register, its start and its step over the last line
(R713, R671, R673). -/

namespace Sys2Proof.Machine

/-- A taken command that passes R691's checks and whose rules let it start, with a handle free, starts its operation (R643, R713). -/
theorem State.command_long {s t : State} {opcode e n ph a : Nat} {perm : Issuer → Bool} {valid : Bool} {body : Issuer → CmdRes} {c : Cmd}
    (hready : s.ready opcode c = true) (hperm : perm (s.issuer c.path) = true) (hvalid : valid = true)
    (hbody : body (s.issuer c.path) = .long e n ph a t) (hroom : s.opsFull (s.issuer c.path) = false) :
    s.command opcode perm valid body c = t.startOp c opcode e n ph a := by
  unfold State.ready at hready
  simp [State.command, State.runCmd, hready, hperm, hvalid, hbody, hroom]

/-- POOL_CRC64 that passes its checks starts with the register at all ones (R671, R713). -/
theorem starts_poolCrc64 {s : State} {c : Cmd} (hready : s.ready 0x060B c = true)
    (hpar : (cleanCmd c [(64, 64), (128, 64)] false && s.svcRange (parBytes c 8 8) (parBytes c 16 8)) = true) (hidle : s.poolBusy = false)
    (hwin : s.inWindowsAll (parBytes c 8 8) (parBytes c 16 8) = true) (hroom : s.opsFull (s.issuer c.path) = false) :
    s.starts (.poolCrc64 c) 0x060B 0 (parBytes c 16 8) 0 (2 ^ 64 - 1) c [] := by
  refine ⟨s, congrArg Host.Outcome.next (State.command_long hready rfl hpar ?_ hroom), s.writes_nil⟩
  simp [firstFail, hwin, hidle]

/-! The CRC register. -/

/-- A byte joins the register at the end of the bytes before it. -/
theorem crc64_append_singleton (v : Nat) (l : List (BitVec 8)) (b : BitVec 8) :
    crc64 v (l ++ [b]) = crcByte crc64Poly (crc64 v l) b.toNat := by
  rw [crc64, List.foldl_append, List.foldl_cons, List.foldl_nil, crc64]

/-- The polynomial is R671's, bit for bit in reverse. -/
theorem bitSet_crc64Poly : ∀ k < 64, bitSet crc64Poly k = bitSet 0x42F0E1EBA9EA3693 (63 - k) := by decide

/-- R671's check value. -/
theorem crc64_checkValue :
    crc64 (2 ^ 64 - 1) [0x31, 0x32, 0x33, 0x34, 0x35, 0x36, 0x37, 0x38, 0x39] ^^^ (2 ^ 64 - 1) = 0x995DC9BBDF1939FA := by decide +kernel

/-! The line that a step reads. -/

/-- The bytes of the number that bytes spell are those bytes. -/
theorem leBytes_leNat (l : List (BitVec 8)) : leBytes l.length (leNat l) = l := by
  induction l with
  | nil => rfl
  | cons b l ih =>
    have hlow : BitVec.ofNat 8 (b.toNat + 256 * leNat l) = b := by
      apply BitVec.eq_of_toNat_eq
      rw [BitVec.toNat_ofNat]
      omega
    have hhigh : (b.toNat + 256 * leNat l) / 256 = leNat l := by omega
    rw [List.length_cons, leNat, leBytes, hlow, hhigh, ih]

theorem State.length_loadBytes (s : State) (a n : Nat) : (s.loadBytes a n).length = n := by
  induction n generalizing a with
  | zero => rfl
  | succ n ih => rw [State.loadBytes, List.length_cons, ih]

/-- With nothing injected, the clean read of a line changes nothing (R731). -/
theorem State.lineEcc_clean {s : State} (a : Nat) (hinject : s.mgmt.inject = []) : s.lineEcc a .clean = s := by
  simp [State.lineEcc, hinject]

section
variable {s : State} {src a : Nat} (hbuf : (s.pool.wb.filter fun e => e.src == src) = [])
include hbuf

/-- A read waits for no store where its cluster has none (R596). -/
theorem State.svcReadWaits_of_unbuffered : s.svcReadWaits src a = false := by
  have hnone : (s.pool.wb.any fun e => e.src == src && e.strict) = false := by
    rw [← List.any_filter, hbuf, List.any_nil]
  rw [State.svcReadWaits, hnone, Bool.and_false]

/-- A read sees memory alone where its cluster has no store to merge over it (R593). -/
theorem State.svcRead_of_unbuffered : s.svcRead src a = leNat (s.loadBytes a 64) := by
  rw [List.filter_eq_nil_iff] at hbuf
  have hmerge : (s.pool.wb.filter fun e => e.src == src && e.line == a && decide (e.seq < s.rd SYS_ORDER)
      && !s.on (WIN_STRICT ((s.windowAt a).getD 4096))) = [] :=
    List.filter_eq_nil_iff.mpr fun e he => by simp [hbuf e he]
  rw [State.svcRead, State.lineSeen, hmerge, List.foldl_nil]

end

/-- A step over one readable line takes that line's bytes into the register (R671, R673). -/
theorem State.crcLines_one {s : State} {src base len done : Nat} (acc : Nat) (hleft : done < len) (hgood : s.svcBad (base + done) = false)
    (hinject : s.mgmt.inject = []) (hbuf : (s.pool.wb.filter fun e => e.src == src) = []) :
    s.crcLines src base len done acc 1 = (s, done + 64, crc64 acc (s.loadBytes (base + done) 64), none) := by
  have hbytes : leBytes 64 (leNat (s.loadBytes (base + done) 64)) = s.loadBytes (base + done) 64 := by
    simpa [State.length_loadBytes] using leBytes_leNat (s.loadBytes (base + done) 64)
  simp [State.crcLines, Nat.not_le.mpr hleft, State.svcReadWaits_of_unbuffered hbuf, State.lineEcc_clean _ hinject, hgood,
    State.svcRead_of_unbuffered hbuf, hbytes]

/-- The step over the last line ends the operation with the register XOR all ones (R671). -/
theorem State.stepCrc_last_line {s : State} {o : Op} (hphase : o.phase ≠ 0) (hlast : o.total = o.done + 64)
    (hgood : s.svcBad (parBytes o.cmd 8 8 + o.done) = false) (hinject : s.mgmt.inject = [])
    (hbuf : (s.pool.wb.filter fun e => e.src == clusterSrc o.engine) = []) :
    s.stepCrc o 1 = (s.setOp o.handle fun p =>
      { p with phase := 1, done := o.done + 64, acc := crc64 o.acc (s.loadBytes (parBytes o.cmd 8 8 + o.done) 64) }).finishOp o.handle stOk
      (crc64 o.acc (s.loadBytes (parBytes o.cmd 8 8 + o.done) 64) ^^^ (2 ^ 64 - 1)) := by
  have hline := State.crcLines_one o.acc (by omega : o.done < o.total) hgood hinject hbuf
  simp [State.stepCrc, hphase, hline, hlast.le]

/-- Settles O42: a byte joins the register by eight reflected bits, the closed values are computed, and the step over the last line posts
the register XOR all ones. -/
theorem crc64OfServices : Obligations.Crc64OfServices := by
  intro s _
  refine ⟨?bytewise, bitSet_crc64Poly, crc64_checkValue, ?start, ?finish⟩
  case bytewise => exact fun v b l => crc64_append_singleton v l b
  case start => exact fun _ => starts_poolCrc64
  case finish => exact fun _ => State.stepCrc_last_line

end Sys2Proof.Machine
end

section
/-! SUPPORT. The groups that the engines are assigned to, and the state that an assignment leaves (R638, R639). -/

namespace Sys2Proof.Machine

section
variable {m l e : Nat}

theorem groupOf_mirror (hlo : 8 ≤ e) (hhi : e < 8 + m) : groupOf m l e = grpMirror := by
  rw [groupOf, if_neg (by omega), if_pos hhi]

theorem groupOf_hotPlug (he : e = 8 + m) : groupOf m l e = grpHotPlug := by
  rw [groupOf, if_neg (by omega), if_neg (by omega), if_pos (by omega)]

theorem groupOf_patrol (he : e = 9 + m) : groupOf m l e = grpPatrol := by
  rw [groupOf, if_neg (by omega), if_neg (by omega), if_neg (by omega), if_pos (by omega)]

theorem groupOf_log (hlo : 10 + m ≤ e) (hhi : e < 10 + m + l) : groupOf m l e = grpLog := by
  rw [groupOf, if_neg (by omega), if_neg (by omega), if_neg (by omega), if_neg (by omega), if_pos hhi]

theorem groupOf_general (hlo : 10 + m + l ≤ e) : groupOf m l e = grpGeneral := by
  rw [groupOf, if_neg (by omega), if_neg (by omega), if_neg (by omega), if_neg (by omega), if_neg (by omega)]

/-- A group's number fits the field that shows it. -/
theorem groupOf_lt (m l e : Nat) : groupOf m l e < 2 ^ (PEN_ENG_STATUS_GROUP e).width := by
  show groupOf m l e < 16
  unfold groupOf
  split_ifs <;> decide

end

/-- Where a function is constant on the last `n` of `a + n` indices, its list ends with that constant. -/
theorem map_range_add_of_const {f : Nat → Nat} {a n c : Nat} (hconst : ∀ k, a ≤ k → k < a + n → f k = c) :
    (List.range (a + n)).map f = (List.range a).map f ++ List.replicate n c := by
  have htail : ((List.range n).map (a + ·)).map f = List.replicate n c := by
    rw [List.map_map]
    refine List.eq_replicate_iff.mpr ⟨by simp, fun v hv => ?_⟩
    obtain ⟨k, hk, rfl⟩ := List.mem_map.mp hv
    exact hconst (a + k) (Nat.le_add_right a k) (Nat.add_lt_add_left (List.mem_range.mp hk) a)
  rw [List.range_add, List.map_append, htail]

/-- The engines from 8 on lie in runs, one for each group in R638's order. -/
theorem map_groupOf_range {m l : Nat} (hfit : m + l ≤ 86) :
    (List.range 88).map (fun k => groupOf m l (8 + k)) =
      List.replicate m grpMirror ++ [grpHotPlug] ++ [grpPatrol] ++ List.replicate l grpLog ++ List.replicate (86 - m - l) grpGeneral := by
  have hsum : 88 = 0 + m + 1 + 1 + l + (86 - m - l) := by omega
  rw [hsum, map_range_add_of_const fun k _ _ => groupOf_general (by omega), map_range_add_of_const fun k _ _ => groupOf_log (by omega) (by omega),
    map_range_add_of_const fun k _ _ => groupOf_patrol (by omega), map_range_add_of_const fun k _ _ => groupOf_hotPlug (by omega),
    map_range_add_of_const fun k _ _ => groupOf_mirror (by omega) (by omega)]
  rfl

/-! The assignment in the state. -/

/-- The state in which engine `e` is idle and its operations wait for an engine of its old group (R639). -/
def State.handedOver (s : State) (e : Nat) : State :=
  { s.idleEngine e with
    ops := updateAll (fun o => o.engine == e && o.final.isNone) (fun o => { o with engine := 128 }) (s.idleEngine e).ops }

theorem State.regroup_of_member {s : State} {e g : Nat} (hin : s.rd (PEN_ENG_STATUS_GROUP e) = g) : s.regroup e g = s :=
  if_pos hin

/-- An engine that changes group hands over its work, and then its GROUP is written (R639). -/
theorem State.regroup_of_other {s : State} {e g : Nat} (hin : s.rd (PEN_ENG_STATUS_GROUP e) ≠ g) :
    s.regroup e g = (s.handedOver e).wr (PEN_ENG_STATUS_GROUP e) g :=
  if_neg hin

section
variable (s : State) (h : s.regs.wf = true)
include h

theorem State.idleEngine_wf (e : Nat) : (s.idleEngine e).regs.wf = true := by
  unfold State.idleEngine
  split
  · exact State.wrs_wf _ _ h
  · exact h

/-- An engine that becomes idle leaves every engine's group. -/
theorem State.rd_idleEngine_group (e j : Nat) : (s.idleEngine e).rd (PEN_ENG_STATUS_GROUP j) = s.rd (PEN_ENG_STATUS_GROUP j) := by
  unfold State.idleEngine
  split
  · refine State.rd_wrs_ne _ _ _ h ?_
    simp [PEN_ENG_STATUS_GROUP, PEN_ENG_STATUS_STATE, PEN_ENG_STATUS_GONDOLA, PEN_ENG_STATUS_GONDOLA_VALID]
    omega
  · rfl

theorem State.handedOver_wf (e : Nat) : (s.handedOver e).regs.wf = true := s.idleEngine_wf h e

theorem State.rd_handedOver_group (e j : Nat) : (s.handedOver e).rd (PEN_ENG_STATUS_GROUP j) = s.rd (PEN_ENG_STATUS_GROUP j) :=
  s.rd_idleEngine_group h e j

theorem State.regroup_wf (e g : Nat) : (s.regroup e g).regs.wf = true := by
  by_cases hin : s.rd (PEN_ENG_STATUS_GROUP e) = g
  · rwa [State.regroup_of_member hin]
  · rw [State.regroup_of_other hin]
    exact State.wr_wf _ _ _ (s.handedOver_wf h e)

/-- An engine is in the group that it is put in. -/
theorem State.rd_regroup_same {e g : Nat} (hg : g < 2 ^ (PEN_ENG_STATUS_GROUP e).width) :
    (s.regroup e g).rd (PEN_ENG_STATUS_GROUP e) = g := by
  by_cases hin : s.rd (PEN_ENG_STATUS_GROUP e) = g
  · rwa [State.regroup_of_member hin]
  · rw [State.regroup_of_other hin, State.rd_wr_same _ _ _ (s.handedOver_wf h e), Nat.mod_eq_of_lt hg]

/-- Every other engine stays in its group. -/
theorem State.rd_regroup_ne {e j : Nat} (g : Nat) (hne : j ≠ e) :
    (s.regroup e g).rd (PEN_ENG_STATUS_GROUP j) = s.rd (PEN_ENG_STATUS_GROUP j) := by
  have hkey : (PEN_ENG_STATUS_GROUP j).key ≠ (PEN_ENG_STATUS_GROUP e).key := by
    simp only [PEN_ENG_STATUS_GROUP]
    omega
  by_cases hin : s.rd (PEN_ENG_STATUS_GROUP e) = g
  · rw [State.regroup_of_member hin]
  · rw [State.regroup_of_other hin, State.rd_wr_ne _ _ _ _ (s.handedOver_wf h e) hkey, s.rd_handedOver_group h]

theorem State.regroupAll_wf (group : Nat → Nat) (n : Nat) : (s.forN (fun e t => t.regroup e (group e)) n).regs.wf = true := by
  induction n with
  | zero => exact h
  | succ n ih => exact State.regroup_wf _ ih _ _

/-- Once each engine below `n` has been put in its group, all of them are in theirs: a later turn leaves the engines before it. -/
theorem State.rd_regroupAll {group : Nat → Nat} (hfit : ∀ e, group e < 2 ^ (PEN_ENG_STATUS_GROUP e).width) {n e : Nat} (he : e < n) :
    (s.forN (fun e t => t.regroup e (group e)) n).rd (PEN_ENG_STATUS_GROUP e) = group e := by
  induction n with
  | zero => omega
  | succ n ih =>
    have hwf := s.regroupAll_wf h group n
    rw [State.forN]
    rcases Nat.lt_succ_iff_lt_or_eq.mp he with hlt | rfl
    · rw [State.rd_regroup_ne _ hwf _ (by omega), ih hlt]
    · exact State.rd_regroup_same _ hwf (hfit e)

/-- The counts of the engines follow in registers of their own. -/
theorem State.rd_engView_group (e : Nat) : s.engView.rd (PEN_ENG_STATUS_GROUP e) = s.rd (PEN_ENG_STATUS_GROUP e) := by
  refine State.rd_wrs_ne _ _ _ h ?_
  simp [PEN_ENG_STATUS_GROUP, PEN_STATUS_ENG_ACTIVE, PEN_STATUS_ENG_FAULTED, PEN_ALLOC_MIRROR, PEN_ALLOC_LOG, PEN_ALLOC_GENERAL]
  omega

/-- After an allocation each engine is in the group of R638. -/
theorem State.rd_allocEngines_group {e : Nat} (m l : Nat) (he : e < 96) :
    (s.allocEngines m l).rd (PEN_ENG_STATUS_GROUP e) = groupOf m l e := by
  rw [State.allocEngines, State.rd_engView_group _ (s.regroupAll_wf h (groupOf m l) 96), s.rd_regroupAll h (groupOf_lt m l) he]

end

/-- Settles O43: the groups are runs of the engines in R638's order, an allocation puts each engine in its group, and the start of the
firmware makes the default allocation. -/
theorem engineGroups : Obligations.EngineGroups := by
  intro s hInv
  obtain ⟨hregs, -, -⟩ := hInv
  refine ⟨fun m l => map_groupOf_range, fun m l e he => s.rd_allocEngines_group hregs m l he, ?defaults, rfl⟩
  case defaults =>
    intro e
    exact ⟨fun hlo hhi => groupOf_mirror hlo (by omega), groupOf_hotPlug rfl, groupOf_patrol rfl,
      fun hlo hhi => groupOf_log hlo (by omega), fun hlo _ => groupOf_general hlo⟩

end Sys2Proof.Machine
end

section
/-! SUPPORT. What a unit that takes its identity tells on its tethers: all of it lies in the node routes and above, so the identity itself
reads as it was taken (R129, R300, R903). -/

namespace Sys2Proof.Machine

/-- The bit address at which the node routes begin; the registers of the identity and of SMBus lie below it, and the unit's own record of
its tethers and lanes above. -/
abbrev routesKey : Nat := 8 * 0x10600000

/-- From `s` to `t` the register store stays canonical, and every field below the node routes reads as before. -/
def State.keepsBelowRoutes (s t : State) : Prop :=
  s.regs.wf = true → t.regs.wf = true ∧ ∀ f : Fld, f.key < routesKey → t.rd f = s.rd f

theorem State.keepsBelowRoutes.refl (s : State) : s.keepsBelowRoutes s := fun h => ⟨h, fun _ _ => rfl⟩

theorem State.keepsBelowRoutes.trans {s t u : State} (hst : s.keepsBelowRoutes t) (htu : t.keepsBelowRoutes u) :
    s.keepsBelowRoutes u := by
  intro h
  obtain ⟨ht, hrt⟩ := hst h
  obtain ⟨hu, hru⟩ := htu ht
  exact ⟨hu, fun f hf => (hru f hf).trans (hrt f hf)⟩

section
variable (s : State)

/-- Writes in the node routes or above leave the fields below. -/
theorem State.keepsBelowRoutes_wrs {l : List (Fld × Nat)} (hl : ∀ p ∈ l, routesKey ≤ p.1.key) : s.keepsBelowRoutes (s.wrs l) := by
  refine fun h => ⟨s.wrs_wf l h, fun f hf => s.rd_wrs_ne l f h fun hmem => ?_⟩
  obtain ⟨p, hp, hkey⟩ := List.mem_map.mp hmem
  have := hl p hp
  omega

theorem State.keepsBelowRoutes_wr {f : Fld} (v : Nat) (hf : routesKey ≤ f.key) : s.keepsBelowRoutes (s.wr f v) :=
  s.keepsBelowRoutes_wrs (l := [(f, v)]) (by simpa using hf)

theorem State.keepsBelowRoutes_when {b : Bool} {g : State → State} (hg : ∀ t : State, t.keepsBelowRoutes (g t)) :
    s.keepsBelowRoutes (s.when b g) := by
  cases b
  case false => exact .refl s
  case true => exact hg s

theorem State.keepsBelowRoutes_forN {g : Nat → State → State} (hg : ∀ k (t : State), t.keepsBelowRoutes (g k t)) (n : Nat) :
    s.keepsBelowRoutes (s.forN g n) := by
  induction n with
  | zero => exact .refl s
  | succ n ih => exact ih.trans (hg n _)

/-! Rows on a tether. -/

theorem State.keepsBelowRoutes_sendLanes (p i : Nat) (pam4 ctl : Bool) (l : List Nat) :
    s.keepsBelowRoutes (s.sendLanes p i pam4 ctl l).1 := by
  induction l generalizing s i with
  | nil => exact .refl s
  | cons n l ih =>
    have hlane : s.keepsBelowRoutes (s.sendLane (s.tetherLane p i) pam4 ctl n).1 :=
      s.keepsBelowRoutes_wrs (by simp [routesKey, LANX_TX_LAST, LANX_TX_RUN]; omega)
    exact hlane.trans (ih _ _)

/-- A row changes the lanes that carry it; the output is no register. -/
theorem State.keepsBelowRoutes_emitRow (p kind : Nat) (blocks : List Nat) : s.keepsBelowRoutes (s.emitRow p kind blocks) :=
  s.keepsBelowRoutes_sendLanes p 0 _ _ blocks

theorem State.keepsBelowRoutes_countRow (p : Nat) : s.keepsBelowRoutes (s.countRow p) :=
  ((s.keepsBelowRoutes_wr _ (by simp [routesKey, CYTX_FILL_ROWS]; omega)).trans
    (State.keepsBelowRoutes_wr _ _ (by simp [routesKey, CYTX_MARK_ROWS]; omega))).trans
    (State.keepsBelowRoutes_wr _ _ (by simp [routesKey, CYTX_CRED_ROWS]; omega))

theorem State.keepsBelowRoutes_sendMarker (p : Nat) : s.keepsBelowRoutes (s.sendMarker p) :=
  (s.keepsBelowRoutes_emitRow p 0x2D _).trans (State.keepsBelowRoutes_wrs _ (by simp [routesKey, CYTX_MARK_ROWS, CYTX_MARK_TX]; omega))

theorem State.keepsBelowRoutes_sendFiller (p : Nat) : s.keepsBelowRoutes (s.sendFiller p) :=
  (s.keepsBelowRoutes_emitRow p _ _).trans (State.keepsBelowRoutes_wr _ _ (by simp [routesKey, CYTX_FILL_ROWS]; omega))

theorem State.keepsBelowRoutes_dueRows (p : Nat) : s.keepsBelowRoutes (s.dueRows p) :=
  ((s.keepsBelowRoutes_countRow p).trans
    (State.keepsBelowRoutes_when _ fun t => (t.keepsBelowRoutes_sendMarker p).trans (State.keepsBelowRoutes_countRow _ p))).trans
    (State.keepsBelowRoutes_when _ fun t => (t.keepsBelowRoutes_sendFiller p).trans (State.keepsBelowRoutes_countRow _ p))

/-- A LINK_MGMT row leaves at once with the rows due before it, or waits in its queue, or is not sent (R255, R277). -/
theorem State.keepsBelowRoutes_linkMgmt (p op arg : Nat) : s.keepsBelowRoutes (s.linkMgmt p op arg) := by
  simp only [State.linkMgmt]
  split_ifs
  · exact (s.keepsBelowRoutes_dueRows p).trans (State.keepsBelowRoutes_emitRow _ p _ _)
  · exact .refl s
  · exact .refl s

/-! The identity. -/

/-- Telling the node ID writes the node routes and the record of each tether, and sends rows (R300, R417). -/
theorem State.keepsBelowRoutes_tellNode : s.keepsBelowRoutes s.tellNode := by
  have hroutes : s.keepsBelowRoutes s.localView :=
    s.keepsBelowRoutes_forN (fun n t => t.keepsBelowRoutes_wr _ (by simp [routesKey, NRT_LOCAL]; omega)) 64
  refine hroutes.trans (State.keepsBelowRoutes_forN _ (fun q t => ?_) 128)
  split
  · exact (t.keepsBelowRoutes_wr _ (by simp [routesKey, CYTX_JOIN_AT]; omega)).trans
      (State.keepsBelowRoutes_when _ fun u => u.keepsBelowRoutes_linkMgmt q 1 0)
  · exact .refl t

end

/-- What a unit that takes identity `v` writes before it tells it (R129, R130, R903). -/
def identityTaken (v source : Nat) : List (Fld × Nat) :=
  [(MGT_NODE_ID_SMB_ADDR, 0x20 + v), (MGT_NODE_ID_NODE_ID, v), (MGT_NODE_ID_NODE_VALID, 1), (MGT_NODE_ID_SOURCE, source),
    (MGT_SMB_STATUS_AR, 1)]

theorem State.takeIdentity_eq (s : State) (v source : Nat) :
    s.takeIdentity v source = (s.wrs (identityTaken v source)).tellNode := rfl

theorem nodup_identityTaken (v source : Nat) : ((identityTaken v source).map fun p => p.1.key).Nodup := by
  simp [identityTaken, MGT_NODE_ID_SMB_ADDR, MGT_NODE_ID_NODE_ID, MGT_NODE_ID_NODE_VALID, MGT_NODE_ID_SOURCE, MGT_SMB_STATUS_AR]

/-- The registers of the identity lie below the node routes. -/
theorem identityTaken_lt_routesKey {v source : Nat} {p : Fld × Nat} (hp : p ∈ identityTaken v source) : p.1.key < routesKey := by
  revert p
  simp [identityTaken, routesKey, MGT_NODE_ID_SMB_ADDR, MGT_NODE_ID_NODE_ID, MGT_NODE_ID_NODE_VALID, MGT_NODE_ID_SOURCE,
    MGT_SMB_STATUS_AR]

/-- An identity reads as it was taken: its telling leaves the registers that hold it (R129, R903). -/
theorem State.rd_takeIdentity_of_mem {s : State} {v source n : Nat} {f : Fld} (h : s.regs.wf = true)
    (hmem : (f, n) ∈ identityTaken v source) : (s.takeIdentity v source).rd f = n % 2 ^ f.width := by
  obtain ⟨-, hkeep⟩ := State.keepsBelowRoutes_tellNode _ (s.wrs_wf (identityTaken v source) h)
  rw [State.takeIdentity_eq, hkeep f (identityTaken_lt_routesKey hmem)]
  exact State.rd_wrs_of_mem h (nodup_identityTaken v source) hmem

/-- An event whose condition holds occurs. -/
theorem State.event_of_guard {s : State} {guard : Bool} (f : State → State) (hguard : guard = true) : s.event guard f = .next (f s) :=
  if_pos hguard

theorem State.advTo_wf {s : State} (t : Nat) (h : s.regs.wf = true) : (s.advTo t).regs.wf = true := by
  rwa [State.advTo_regs]

/-- What the unit writes of a token of value `v` before it takes its identity from it (R130, R910, R912). -/
def tokenTaken (v : Nat) : List (Fld × Nat) :=
  [(CHNX_EDGE, 0), (MGT_CHAIN_STATUS_RX_VALUE, v), (MGT_CHAIN_STATUS_TX_VALUE, v + 1), (MGT_CHAIN_STATUS_RX_VALID, 1), (CHNX_TX_OK, 1)]

theorem nodup_tokenTaken (v : Nat) : ((tokenTaken v).map fun p => p.1.key).Nodup := by
  simp [tokenTaken, CHNX_EDGE, MGT_CHAIN_STATUS_RX_VALUE, MGT_CHAIN_STATUS_TX_VALUE, MGT_CHAIN_STATUS_RX_VALID, CHNX_TX_OK]

section
variable {s : State}

/-- A high stop sample after seven bits of a value up to 63 gives the unit its identity, and a high stop cell (R130, R910). -/
theorem exec_chainStopSample_taken (hregs : s.regs.wf = true) (hup : s.chainUp = true) (hedge : s.on CHNX_EDGE = true)
    (hbits : s.rd CHNX_NBIT = 7) (hstop : bitSet (s.rd GLB_INPUT_STATUS_CHAIN_IN) 0 = true) (hval : s.rd CHNX_VAL ≤ 63) :
    exec .chainStopSample s = .next
      ((((s.advTo (s.rd CHNX_EDGE_AT + 102 * ms)).wrs (tokenTaken (s.rd CHNX_VAL))).takeIdentity (s.rd CHNX_VAL) 2).cell 8 true) := by
  have hguard : (s.on CHNX_EDGE && s.chainUp && s.rd CHNX_NBIT == 7) = true := by simp [hedge, hup, hbits]
  have hrd : ∀ f : Fld, f.key ≠ CHNX_EDGE.key → ((s.advTo (s.rd CHNX_EDGE_AT + 102 * ms)).wr CHNX_EDGE 0).rd f = s.rd f := by
    intro f hne
    rw [State.rd_wr_ne _ _ _ _ (State.advTo_wf _ hregs) hne, State.rd_advTo]
  rw [show exec .chainStopSample s = execChainStopSample s from rfl, execChainStopSample, State.event_of_guard _ hguard]
  simp only [hrd CHNX_VAL (by decide), hrd GLB_INPUT_STATUS_CHAIN_IN (by decide), hstop, hval, decide_true, Bool.and_true, if_true,
    tokenTaken, State.wrs_cons, State.wrs_nil]

/-- Reset Device clears the Address Resolved flag (R903). -/
theorem does_arpResetDevice (hregs : s.regs.wf = true) (hup : s.sideUp = true) : s.does .arpResetDevice s [(MGT_SMB_STATUS_AR, 0)] := by
  refine ⟨s.wr MGT_SMB_STATUS_AR 0, ?_, s.writes_wr _ _ hregs⟩
  show execArpResetDevice s = _
  rw [execArpResetDevice, State.event_of_guard _ hup]

/-- Assign Address to this part writes the address and resolves it (R903). -/
theorem does_arpAssignAddress (hregs : s.regs.wf = true) (hup : s.sideUp = true) (a : BitVec 7) :
    s.does (.arpAssignAddress true a) s [(MGT_NODE_ID_SMB_ADDR, a.toNat), (MGT_SMB_STATUS_AR, 1)] := by
  refine ⟨s.wrs _, ?_, s.writes_wrs _ hregs (by simp [MGT_NODE_ID_SMB_ADDR, MGT_SMB_STATUS_AR])⟩
  show execArpAssignAddress true a s = _
  rw [execArpAssignAddress, State.event_of_guard _ (by rw [hup, Bool.and_true])]

end

/-- Settles O47: the identity of the chain survives its telling on the tethers, and each ARP command writes its own fields alone. -/
theorem resolvedAddress : Obligations.ResolvedAddress := by
  intro s hInv
  obtain ⟨hregs, -, -⟩ := hInv
  refine ⟨?identity, ?stop, ?reset, ?assign⟩
  case identity =>
    intro v
    have hrd {f : Fld} {n : Nat} (hmem : (f, n) ∈ identityTaken v 2) : (s.takeIdentity v 2).rd f = n % 2 ^ f.width :=
      State.rd_takeIdentity_of_mem hregs hmem
    have haddr : 0x20 + v.val < 2 ^ MGT_NODE_ID_SMB_ADDR.width := by
      show _ < 128
      omega
    exact ⟨(hrd (by simp [identityTaken])).trans (Nat.mod_eq_of_lt haddr),
      (hrd (by simp [identityTaken])).trans (Nat.mod_eq_of_lt v.isLt),
      hrd (n := 1) (by simp [identityTaken]), hrd (n := 2) (by simp [identityTaken]), hrd (n := 1) (by simp [identityTaken])⟩
  case stop =>
    intro hup hedge hbits hstop hval
    exact ⟨_, exec_chainStopSample_taken hregs hup hedge hbits hstop hval, _, rfl,
      State.writes_wrs _ _ (State.advTo_wf _ hregs) (nodup_tokenTaken _)⟩
  case reset => exact does_arpResetDevice hregs
  case assign =>
    intro a hup
    obtain ⟨t, hexec, hvals, hkeep, -, -⟩ := does_arpAssignAddress hregs hup a
    refine ⟨t, hexec, (hvals _ List.mem_cons_self).trans (Nat.mod_eq_of_lt a.isLt), hkeep _ ?_, hkeep _ ?_, hkeep _ ?_⟩ <;>
      simp [MGT_NODE_ID_SMB_ADDR, MGT_SMB_STATUS_AR, MGT_NODE_ID_NODE_ID, MGT_NODE_ID_NODE_VALID, MGT_NODE_ID_SOURCE]

end Sys2Proof.Machine
end
